-- ==== Sys2Proof/Word.lean ====
section
/-!
DEFINITION. The word types of the device: bytes, 32-bit register words and 64-bit instruction and register words, and the
serial-number comparison of R541.
-/
namespace Sys2Proof

abbrev Byte := BitVec 8
abbrev Word := BitVec 32
abbrev W64 := BitVec 64

/-- Serial-number comparison modulo 2^n (R541): `a` is earlier than `b`. -/
def serialEarlier {n : Nat} (a b : BitVec n) : Bool :=
  let d := (b - a).toNat
  0 < d && d < 2 ^ (n - 1)

/-- Serial-number comparison modulo 2^n (R541): `a` is later than `b`. -/
def serialLater {n : Nat} (a b : BitVec n) : Bool := serialEarlier b a

end Sys2Proof
end

