-- ==== Sys2Proof/Syntax.lean ====
section
/-!
DEFINITION. The commands of the block: one constructor of Instr per row of spec/opcode_table.json, in the table's order,
and the plain data types of their operands. Each docstring is the rule and step its row names.
-/
namespace Sys2Proof

/-- A bounded signed measurement or level, in the unit its row names. -/
abbrev Meas := Int

/-- A microring or receive filter: of a fabric endpoint, its plane and position (the lane ring of channel c stands at c; the
spare rings 0 and 1 at 0 and 16), or of a port (lane rings at 0 to 31, spare k at 32 + k) (R152, R173, R268). -/
inductive Ring
  | fab (ep : Fin 16) (plane : Fin 16) (pos : Fin 32) (rx : Bool)
  | port (p : Fin 24) (pos : Fin 36) (rx : Bool)
  deriving DecidableEq, Repr

/-- What the lock loop sets a ring's actuators to (R158): heater code, and junction trim in m°C of equivalent cooling. -/
structure RingMeas where
  ring : Ring
  heater : BitVec 12
  trim : BitVec 13
  deriving DecidableEq, Repr

/-- What a test or a measurement names (R173): a lane of a fabric pair (0 to 29; 30 and 31 are its reserve slots), a spare
ring and filter of an endpoint's plane on its loopback channel, a link, or lane 0 of a port. -/
inductive LaneId
  | pair (i j : Fin 16) (lane : Fin 32)
  | spare (ep : Fin 16) (plane : Fin 16) (k : Fin 2)
  | link (x : Fin 768)
  | loop (p : Fin 24)
  deriving DecidableEq, Repr

/-- The part that runs one substitution at a time (R165, R272): an endpoint's plane, or a port. -/
inductive SubPart
  | fab (ep : Fin 16) (plane : Fin 16)
  | port (p : Fin 24)
  deriving DecidableEq, Repr

/-- A flit channel: a fabric pair (sender to receiver) or a port link. -/
inductive Chan
  | pair (i j : Fin 16)
  | link (x : Fin 768)
  deriving DecidableEq, Repr

/-- Readings of a lane or loopback test (R157, R173): bit errors, eye width in 1/64 UI, residual detuning of the transmit ring and of
the receive filter in pm, detected power at the photodetector in 0.01 dBm. -/
structure TestRead where
  errors : Nat
  eye : Nat
  detuneTx : Nat
  detuneRx : Nat
  power : Int
  deriving DecidableEq, Repr

/-- Quality figures of a lane over one window (R174): eye width in 1/64 UI, residual detuning of the transmit ring and of the receive
filter in pm, pre-FEC bit error ratio in 10^−12, flits lost after FEC. -/
structure Quality where
  eye : Nat
  detuneTx : Nat
  detuneRx : Nat
  ber : Nat
  lost : Nat
  deriving DecidableEq, Repr

/-- What a CMIS poll reads of a laser module (R183): whether it has answered within 1 s, whether its state is ModuleReady, a
fault flag, and bias, temperature and output power of both sources. -/
structure CmisRead where
  answered : Bool
  moduleReady : Bool
  fault : Bool
  flags : List (BitVec 8)
  figures : List (BitVec 16)
  deriving DecidableEq, Repr

/-- What a request asks of a memory home (R210). -/
inductive HomeOp
  | read (len : Nat)
  | write (data : List (BitVec 8))
  deriving DecidableEq, Repr

/-- An error that a read of a memory home meets: of a unit of HBM, by stack offset bits [36:5], what each symbol of its codeword differs
by (R214); of a unit of SRAM, by offset bits, whether it is a double-bit error (R208, R216). -/
inductive UnitErr
  | hbm (unit : BitVec 32) (err : List (Fin 34 × BitVec 8))
  | sram (unit : BitVec 32) (double : Bool)
  deriving DecidableEq, Repr

/-- An error that a read of a core's scratchpad meets (R41): 64-byte granule, 128-bit word in it, and whether it is a double-bit
error. -/
structure ScratchErr where
  granule : Fin 98304
  word : Fin 4
  double : Bool
  deriving DecidableEq, Repr

/-- The fields of a received TRAIN_IDENT or TRAIN_ACK (R285). -/
structure TrainFields where
  device : BitVec 10
  port : BitVec 5
  spine : Bool
  multi : Bool
  version : BitVec 8
  bootId : BitVec 16
  feat : BitVec 32
  deriving DecidableEq, Repr



/-- A clock domain that has droop detectors (R369, R375). -/
inductive Domain
  | island (x : Fin 432)
  | endpoint (ep : Fin 16)
  | cacheDie (n : Fin 12)
  | ioDie (q : Fin 4)
  | watchRoom (q : Fin 4)
  deriving DecidableEq, Repr

/-- What start-up commissioning finds of a laser module that is ModuleReady when step 7 ends (R197, R428): whether each source passes,
and its P0 in 0.01 dBm. -/
structure StartLaser where
  m : Fin 12
  cmis : CmisRead
  okA : Bool
  okB : Bool
  tapsA : List Int
  tapsB : List Int
  deriving DecidableEq, Repr

/-- A result of steps 7 and 8 of start-up (R159, R163, R173): a ring that did not reach LOCKED and is retired, the retune of a spare,
or the readings of a lane test. A ring that is not named locked, and a lane that is not named passed. -/
inductive StartTest
  | ring (r : Ring)
  | retune (u : SubPart) (ok : Bool)
  | lane (t : LaneId) (r : TestRead)
  deriving DecidableEq, Repr

/-- The receiving side of a crossing: an island, or the fixed domains of a die (R369, R370). -/
inductive CrossSide
  | island (x : Fin 432)
  | die (d : Fin 32)
  deriving DecidableEq, Repr

/-- A calibrated crossing (R371): the latest and the earliest arrival of its 1,024 markers, in whole receiver cycles. -/
structure Crossing where
  side : CrossSide
  latest : Nat
  earliest : Nat
  deriving DecidableEq, Repr

/-- What start-up finds (R427 to R433): the results of its checks and of training, step by step. -/
structure StartIn where
  /-- Steps 1 and 2: a feed pair of VIN or VPH stays below its Min for 1 s: the step, counted from 0, and
  the pair, 0 VIN or 1 VPH; the 33 strap words (R26). -/
  feed : Option (Fin 2 × Fin 2)
  straps : List (BitVec 8)
  /-- Step 3: header of the image the slots hold from manufacture, slots that are valid under R475 (bit 2 × flash + slot), copies of
  BOOT_ID that read back valid (bit 2 × flash + copy), flashes on which the new one is written and read back (R292), and whether the
  identity key is usable (R497). -/
  factory : List (BitVec 8)
  valid : BitVec 4
  idValid : BitVec 4
  idFlash : BitVec 2
  keyOk : Bool
  /-- Step 4: dies that do not answer, or halt for temperature (R429, R430); good physical cores of each compute die. -/
  silent : List (Fin 33)
  goodCores : List (BitVec 18)
  /-- Step 5: bundles and the lanes that failed or are fused (R235). -/
  lanes : List (Fin 1536 × List (Fin 72))
  /-- Step 6: what the calibration of crossings recorded (R371). -/
  crossings : List Crossing
  /-- Steps 7 and 8; heater codes that the rings locked at, 0 for a ring not named. -/
  codes : List (Ring × BitVec 12)
  lasers : List StartLaser
  tests : List StartTest
  /-- Step 9: rows that hPPR repaired, by stack and page (R219); stacks that trained. -/
  ppr : List (Fin 12 × BitVec 25)
  trained : BitVec 12
  /-- Step 10: capability words (R245). -/
  caps : List (BitVec 64)
  /-- Step 11: readings of lane 0 loopback tests, a port not named having passed; receive filters that find no light, since no device is
  at the other end; and what TRAIN_IDENT brought on the links that reached IDENT. -/
  loops : List (Fin 24 × TestRead)
  unlit : List Ring
  idents : List (Fin 768 × TrainFields)
  /-- Step 12: digest of the host boot image (R335), none where the host die does not boot; bytes of DDR5 (R333). -/
  boot : Option (BitVec 256)
  ddr : Nat
  /-- What each of steps 0 to 12 took, in ms, and by how much the slowest module that became ready took more than 25 s (R427, R428,
  R433). -/
  times : List (BitVec 32)
  slow : BitVec 32
  deriving DecidableEq, Repr

/-- One run on a lane in a calibration window (R437): heater codes of its transmit ring and receive filter, eye width in 1/64 UI. -/
structure CalRun where
  tx : BitVec 12
  rx : BitVec 12
  eye : BitVec 8
  deriving DecidableEq, Repr

/-- A lane in a calibration window (R436, R437): its three runs, the third of which counts only where it ran, and whether its rings
were LOCKED at the end. -/
structure CalLane where
  lane : LaneId
  run1 : CalRun
  run2 : CalRun
  run3 : CalRun
  locked : Bool
  deriving DecidableEq, Repr

/-- What the security engine, the fuses and the flashes answer: whether a signature verifies (R475), the fuses of IO0 and IO1 burn
(R482), and FLASH0 and FLASH1 take what is written (R477). -/
structure FwEnv where
  sig : Bool
  burn0 : Bool
  burn1 : Bool
  flash0 : Bool
  flash1 : Bool
  deriving DecidableEq, Repr

/-- Why a monitor line is answered with an error (R526). -/
inductive MonErr
  | unknown | malformed | overrun
  deriving DecidableEq, Repr

/-- A line of the serial monitor, taken apart (R518, R520, R522, R524). -/
inductive MonCmd
  | help | info | inv | rd (off : BitVec 32) (count : Nat) | status | events (n : Nat) | thermal | power
  | links (p : Option (Fin 24)) | fabric (e : Fin 16) | laser | time | chal (nonce : BitVec 256) | lock
  | unlock (debug : Bool) (minutes : BitVec 8) | signature (bytes : List (BitVec 8)) (sig : Bool)
  | wr (off v mask : BitVec 32) (env : FwEnv) | save (env : FwEnv) | reset (cold : Bool) | diereset (n : Fin 16) (forced : Bool)
  | corereset (lc : Fin 192) | linkreset (p : Fin 24) (c : Option (Fin 32)) | memrd (a : BitVec 64) (len : Nat)
  | memwr (a : BitVec 64) (data : List (BitVec 8)) | unknown (why : MonErr)
  deriving DecidableEq, Repr

/-- The commands, one constructor per row of the opcode table. -/
inductive Instr
  /-- NOP (R50): Sequencer issues a NOP, which does nothing. -/
  | nop (lc : Fin 192) (w : BitVec 64)
  /-- ADD (R50): Scalar add RD = RS1 + RS2, wrapping modulo 2^64. -/
  | add (lc : Fin 192) (w : BitVec 64)
  /-- SUB (R50): Scalar subtract RD = RS1 - RS2. -/
  | sub (lc : Fin 192) (w : BitVec 64)
  /-- AND (R50): Scalar bitwise AND. -/
  | and (lc : Fin 192) (w : BitVec 64)
  /-- OR (R50): Scalar bitwise OR. -/
  | or (lc : Fin 192) (w : BitVec 64)
  /-- XOR (R50): Scalar bitwise XOR. -/
  | xor (lc : Fin 192) (w : BitVec 64)
  /-- SLL (R50): Logical left shift by RS2[5:0]. -/
  | sll (lc : Fin 192) (w : BitVec 64)
  /-- SRL (R50): Logical right shift by RS2[5:0]. -/
  | srl (lc : Fin 192) (w : BitVec 64)
  /-- SRA (R50): Arithmetic right shift by RS2[5:0]. -/
  | sra (lc : Fin 192) (w : BitVec 64)
  /-- MUL (R50): Low 64 bits of RS1 x RS2. -/
  | mul (lc : Fin 192) (w : BitVec 64)
  /-- MULHU (R50): High 64 bits of the unsigned product. -/
  | mulhu (lc : Fin 192) (w : BitVec 64)
  /-- SLT (R50): Set RD to 1 when RS1 < RS2 signed. -/
  | slt (lc : Fin 192) (w : BitVec 64)
  /-- SLTU (R50): Set RD to 1 when RS1 < RS2 unsigned. -/
  | sltu (lc : Fin 192) (w : BitVec 64)
  /-- MIN (R50): Signed minimum of two scalar registers. -/
  | min (lc : Fin 192) (w : BitVec 64)
  /-- MAX (R50): Signed maximum of two scalar registers. -/
  | max (lc : Fin 192) (w : BitVec 64)
  /-- ADDI (R50): Add sign-extended immediate. -/
  | addi (lc : Fin 192) (w : BitVec 64)
  /-- ANDI (R50): AND with sign-extended immediate. -/
  | andi (lc : Fin 192) (w : BitVec 64)
  /-- ORI (R50): OR with sign-extended immediate. -/
  | ori (lc : Fin 192) (w : BitVec 64)
  /-- XORI (R50): XOR with sign-extended immediate. -/
  | xori (lc : Fin 192) (w : BitVec 64)
  /-- SLLI (R50): Logical left shift by immediate. -/
  | slli (lc : Fin 192) (w : BitVec 64)
  /-- SRLI (R50): Logical right shift by immediate. -/
  | srli (lc : Fin 192) (w : BitVec 64)
  /-- SRAI (R50): Arithmetic right shift by immediate. -/
  | srai (lc : Fin 192) (w : BitVec 64)
  /-- LIH (R50): Load immediate into RD[63:32], keeping RD[31:0]. -/
  | lih (lc : Fin 192) (w : BitVec 64)
  /-- AMOV (R50): Copy S[47:0] into an address register. -/
  | amov (lc : Fin 192) (w : BitVec 64)
  /-- AADD (R50): Address register plus scalar modulo 2^48. -/
  | aadd (lc : Fin 192) (w : BitVec 64)
  /-- AADDI (R50): Address register plus immediate modulo 2^48. -/
  | aaddi (lc : Fin 192) (w : BitVec 64)
  /-- ARD (R50): Read an address register into a scalar register. -/
  | ard (lc : Fin 192) (w : BitVec 64)
  /-- LDS (R51): Load 8 bytes of scratchpad into a scalar register, with range and poison checks. -/
  | lds (lc : Fin 192) (w : BitVec 64) (err : Option Bool)
  /-- STS (R51): Store 8 bytes from a scalar register into scratchpad. -/
  | sts (lc : Fin 192) (w : BitVec 64)
  /-- BEQ (R52): Branch if equal. -/
  | beq (lc : Fin 192) (w : BitVec 64)
  /-- BNE (R52): Branch if not equal. -/
  | bne (lc : Fin 192) (w : BitVec 64)
  /-- BLT (R52): Branch if less, signed. -/
  | blt (lc : Fin 192) (w : BitVec 64)
  /-- BGE (R52): Branch if greater or equal, signed. -/
  | bge (lc : Fin 192) (w : BitVec 64)
  /-- BLTU (R52): Branch if less, unsigned. -/
  | bltu (lc : Fin 192) (w : BitVec 64)
  /-- BGEU (R52): Branch if greater or equal, unsigned. -/
  | bgeu (lc : Fin 192) (w : BitVec 64)
  /-- JMP (R52): Branch always. -/
  | jmp (lc : Fin 192) (w : BitVec 64)
  /-- CALL (R52): Save the next index in s31 and branch. -/
  | call (lc : Fin 192) (w : BitVec 64)
  /-- RET (R52): Continue at instruction index s31[31:0]. -/
  | ret (lc : Fin 192) (w : BitVec 64)
  /-- LOOP (R53): Start a hardware loop over BODY instructions N times. -/
  | loop (lc : Fin 192) (w : BitVec 64)
  /-- SIGNAL (R54): Add a value to a semaphore of this core or another core of the launch. -/
  | signal (lc : Fin 192) (w : BitVec 64)
  /-- WAIT (R45): Stall until a semaphore holds the count, then subtract it. -/
  | wait (lc : Fin 192) (w : BitVec 64)
  /-- WAITBT (R54): Stall until beacon time reaches a register value. -/
  | waitbt (lc : Fin 192) (w : BitVec 64)
  /-- FENCE (R50): Stall until every engine queue of the core is empty and every operation complete. -/
  | fence (lc : Fin 192) (w : BitVec 64)
  /-- FENCE_E (R54): As FENCE for the queues selected by MASK. -/
  | fenceE (lc : Fin 192) (w : BitVec 64)
  /-- SEMRD (R50): Read a semaphore count into a scalar register. -/
  | semrd (lc : Fin 192) (w : BitVec 64)
  /-- HALT (R55): Wait as FENCE, then end the program and enter DRAINING. -/
  | halt (lc : Fin 192) (w : BitVec 64)
  /-- RDBT (R381): Read beacon time into a scalar register. -/
  | rdbt (lc : Fin 192) (w : BitVec 64)
  /-- RDCYC (R50): Read the core-island cycle count since RUNNING. -/
  | rdcyc (lc : Fin 192) (w : BitVec 64)
  /-- RDSLIP (R377): Read the core's slip count. -/
  | rdslip (lc : Fin 192) (w : BitVec 64)
  /-- MAC (R61): Issue a matrix multiply-accumulate into a tile. -/
  | mac (lc : Fin 192) (w : BitVec 64)
  /-- MAC_ZERO (R61): Issue a matrix multiply into a zeroed tile. -/
  | macZero (lc : Fin 192) (w : BitVec 64)
  /-- MMA_DRAIN (R60): Issue a write of a tile to scratchpad as FP32. -/
  | mmaDrain (lc : Fin 192) (w : BitVec 64)
  /-- MMA_LOAD (R60): Issue a read of a tile from scratchpad. -/
  | mmaLoad (lc : Fin 192) (w : BitVec 64)
  /-- MMA_ZERO (R60): Issue a zeroing of a tile. -/
  | mmaZero (lc : Fin 192) (w : BitVec 64)
  /-- VOP_COPY (R66): Vector format conversion d = x. -/
  | vopCopy (lc : Fin 192) (w : BitVec 64)
  /-- VOP_ADD (R66): Vector add. -/
  | vopAdd (lc : Fin 192) (w : BitVec 64)
  /-- VOP_SUB (R66): Vector subtract. -/
  | vopSub (lc : Fin 192) (w : BitVec 64)
  /-- VOP_MUL (R66): Vector multiply. -/
  | vopMul (lc : Fin 192) (w : BitVec 64)
  /-- VOP_FMA (R66): Vector fused multiply-add. -/
  | vopFma (lc : Fin 192) (w : BitVec 64)
  /-- VOP_MAX (R66): Vector elementwise maximum. -/
  | vopMax (lc : Fin 192) (w : BitVec 64)
  /-- VOP_MIN (R66): Vector elementwise minimum. -/
  | vopMin (lc : Fin 192) (w : BitVec 64)
  /-- VOP_ABS (R66): Vector absolute value. -/
  | vopAbs (lc : Fin 192) (w : BitVec 64)
  /-- VOP_NEG (R66): Vector negation. -/
  | vopNeg (lc : Fin 192) (w : BitVec 64)
  /-- VOP_SCALE (R66): Vector multiply by an FP32 constant. -/
  | vopScale (lc : Fin 192) (w : BitVec 64)
  /-- VOP_ADDS (R66): Vector add of an FP32 constant. -/
  | vopAdds (lc : Fin 192) (w : BitVec 64)
  /-- VOP_EXP2 (R120): Vector 2^x. -/
  | vopExp2 (lc : Fin 192) (w : BitVec 64)
  /-- VOP_LOG2 (R120): Vector log2 x. -/
  | vopLog2 (lc : Fin 192) (w : BitVec 64)
  /-- VOP_RSQRT (R120): Vector reciprocal square root. -/
  | vopRsqrt (lc : Fin 192) (w : BitVec 64)
  /-- VOP_SIN (R120): Vector sine. -/
  | vopSin (lc : Fin 192) (w : BitVec 64)
  /-- VOP_COS (R120): Vector cosine. -/
  | vopCos (lc : Fin 192) (w : BitVec 64)
  /-- VOP_RCP (R66): Vector reciprocal. -/
  | vopRcp (lc : Fin 192) (w : BitVec 64)
  /-- VOP_RSUM (R67): Vector sum reduction in the fixed lane and tree order. -/
  | vopRsum (lc : Fin 192) (w : BitVec 64)
  /-- VOP_RMAX (R66): Vector maximum reduction. -/
  | vopRmax (lc : Fin 192) (w : BitVec 64)
  /-- VOP_SMXSTEP (R67): Update the running softmax state with a vector. -/
  | vopSmxstep (lc : Fin 192) (w : BitVec 64)
  /-- VOP_RESCALE (R66): Vector multiply by 2^(y[0] - z[0]). -/
  | vopRescale (lc : Fin 192) (w : BitVec 64)
  /-- VOP_RNG (R117): Write keyed generator words. -/
  | vopRng (lc : Fin 192) (w : BitVec 64)
  /-- VOP_UNIF (R66): Write uniform FP32 values from generator words. -/
  | vopUnif (lc : Fin 192) (w : BitVec 64)
  /-- VOP_PICK (R67): Draw an index from weights with a uniform threshold. -/
  | vopPick (lc : Fin 192) (w : BitVec 64)
  /-- XFER_COPY (R69): Issue a local copy with optional conversion. -/
  | xferCopy (lc : Fin 192) (w : BitVec 64)
  /-- XFER_COPY2D (R69): Issue a strided two-dimensional local copy. -/
  | xferCopy2d (lc : Fin 192) (w : BitVec 64)
  /-- XFER_GATHER (R69): Issue a gather of indexed elements. -/
  | xferGather (lc : Fin 192) (w : BitVec 64)
  /-- XFER_SCATTER (R69): Issue a scatter to indexed elements. -/
  | xferScatter (lc : Fin 192) (w : BitVec 64)
  /-- XFER_KVWALK (R74): Issue a read of berth KV records through the page walker. -/
  | xferKvwalk (lc : Fin 192) (w : BitVec 64)
  /-- XFER_KVPUT (R74): Issue a write of berth KV records through the page walker. -/
  | xferKvput (lc : Fin 192) (w : BitVec 64)
  /-- XFER_RLOAD (R70): Issue a remote load to local memory. -/
  | xferRload (lc : Fin 192) (w : BitVec 64)
  /-- XFER_RSTORE (R70): Issue remote stores, or a daymark store when DM = 1. -/
  | xferRstore (lc : Fin 192) (w : BitVec 64)
  /-- XFER_RATOMIC (R296): Issue a remote atomic operation. -/
  | xferRatomic (lc : Fin 192) (w : BitVec 64)
  /-- XFER_BULK_PUT (R70): Issue a bulk transfer to a remote device. -/
  | xferBulkPut (lc : Fin 192) (w : BitVec 64)
  /-- XFER_BULK_GET (R70): Issue a bulk transfer from a remote device. -/
  | xferBulkGet (lc : Fin 192) (w : BitVec 64)
  /-- MATRIX_OP_START (R44): A queued matrix engine operation starts when the tile order allows. -/
  | matrixOpStart (lc : Fin 192) (e : Fin 4) (errs : List ScratchErr)
  /-- VECTOR_OP_START (R42): A queued vector operation starts and makes its memory checks. -/
  | vectorOpStart (lc : Fin 192) (errs : List ScratchErr)
  /-- TRANSFER_OP_START (R72): A transfer stream's next operation starts, snapshots a berth and makes its execution checks. -/
  | transferOpStart (lc : Fin 192) (st : Fin 8) (errs : List ScratchErr)
  /-- MATRIX_OP_COMPLETE (R43): A matrix operation completes and signals its semaphore. -/
  | matrixOpComplete (lc : Fin 192) (e : Fin 4) (t : Fin 2)
  /-- VECTOR_OP_COMPLETE (R43): A vector operation completes and signals its semaphore. -/
  | vectorOpComplete (lc : Fin 192)
  /-- TRANSFER_OP_COMPLETE (R43): A transfer operation completes, or fails and faults the core. -/
  | transferOpComplete (lc : Fin 192) (st : Fin 8)
  /-- REMOTE_SIGNAL_ARRIVE (R47): A remote SIGNAL reaches its target, which applies it, discards it as stale, holds it or refuses it. -/
  | remoteSignalArrive (lc : Fin 192)
  /-- SIGNAL_FREE_ENTRY (R47): The target reports a free pending entry, and the sender re-sends its held signal. -/
  | signalFreeEntry (lc : Fin 192)
  /-- WAIT_TIMEOUT (R87): A stall passes WAIT_LIMIT_US and faults the core. -/
  | waitTimeout (lc : Fin 192)
  /-- WAITBT_TIME_REACHED (R381): Beacon time reaches the WAITBT target and the sequencer resumes. -/
  | waitbtTimeReached (lc : Fin 192)
  /-- TE_BANK_STARVE_WIN (R39): A TE request that lost a bank for 15 cycles wins it. -/
  | teBankStarveWin (lc : Fin 192) (bank : Fin 32) (delayed : Fin 6)
  /-- SCRATCH_PATROL_SCRUB (R41): Patrol scrub reads and rewrites scratchpad granules. -/
  | scratchPatrolScrub (lc : Fin 192) (granule : Fin 98304) (corrected : Fin 5) (double : Option (Fin 4))
  /-- CORE_LAUNCH_RECEIVE (R84): A launch reaches an IDLE core, which enters LOADING. -/
  | coreLaunchReceive (lc : Fin 192) (seq : BitVec 32)
  /-- CORE_LOADING_DONE (R84): Code load and initialisation end; the core enters RUNNING or FAULTING. -/
  | coreLoadingDone (lc : Fin 192)
  /-- CORE_ABORT_RECEIVE (R84): An abort reaches a core, which enters DRAINING. -/
  | coreAbortReceive (lc : Fin 192)
  /-- CORE_DRAIN_DONE (R85): A DRAINING or FAULTING core's engines and remote operations finish; it reports and returns to IDLE. -/
  | coreDrainDone (lc : Fin 192)
  /-- CORE_REPORT_RECEIVE (R86): IO0 receives a core report, sends aborts after a fault, and completes the launch when all cores reported. -/
  | coreReportReceive (lc : Fin 192)
  /-- PHYSICAL_CORE_FAIL (R90): A physical core fails an internal check or a retirement criterion and is retired. -/
  | physicalCoreFail (d : Fin 12) (pc : Fin 18)
  /-- CORE_REBIND (R91): An IDLE logical core is rebound to a spare or becomes ABSENT. -/
  | coreRebind (lc : Fin 192)
  /-- LAUNCH (R80): LAUNCH descriptor starts: image check and launch distribution to cores. -/
  | launch (seq : BitVec 32)
  /-- STEP_LAUNCH (R132): LAUNCH with STEP: reads the berth set, increments STEPS_IN_FLIGHT and distributes. -/
  | stepLaunch (seq : BitVec 32)
  /-- COPY_DEVICE_TO_DEVICE (R354): COPY descriptor with DIR 0. -/
  | copyDeviceToDevice (seq : BitVec 32)
  /-- COPY_HOST_TO_DEVICE (R354): COPY descriptor with DIR 1. -/
  | copyHostToDevice (seq : BitVec 32) (data : List (BitVec 8))
  /-- COPY_DEVICE_TO_HOST (R354): COPY descriptor with DIR 2. -/
  | copyDeviceToHost (seq : BitVec 32)
  /-- COPY_TO_REMOTE (R354): COPY descriptor with DIR 3, as bulk transfers. -/
  | copyToRemote (seq : BitVec 32)
  /-- COPY_FROM_REMOTE (R354): COPY descriptor with DIR 4, as bulk transfers. -/
  | copyFromRemote (seq : BitVec 32)
  /-- COLLECTIVE_REDUCE_SCATTER (R322): COLLECTIVE REDUCE_SCATTER starts its slice exchange. -/
  | collectiveReduceScatter (seq : BitVec 32)
  /-- COLLECTIVE_ALL_GATHER (R324): COLLECTIVE ALL_GATHER sends its slice to every member. -/
  | collectiveAllGather (seq : BitVec 32)
  /-- COLLECTIVE_ALL_REDUCE (R324): COLLECTIVE ALL_REDUCE: reduce-scatter then all-gather. -/
  | collectiveAllReduce (seq : BitVec 32)
  /-- BERTH_OPEN_LOCAL (R134): BERTH_OPEN LOCAL allocates pages and makes the berth ACTIVE. -/
  | berthOpenLocal (seq : BitVec 32)
  /-- BERTH_OPEN_RECEIVE (R134): BERTH_OPEN RECEIVE allocates pages and makes the berth OPENING. -/
  | berthOpenReceive (seq : BitVec 32)
  /-- BERTH_CLOSE (R134): BERTH_CLOSE frees the berth, or records a pending CLOSE. -/
  | berthClose (seq : BitVec 32)
  /-- BERTH_MOVE (R133): BERTH_MOVE records a pending MOVE of an ACTIVE berth. -/
  | berthMove (seq : BitVec 32)
  /-- MOOR_PUT (R141): MOOR_PUT records a pending PUT of a berth. -/
  | moorPut (seq : BitVec 32)
  /-- MOOR_GET (R142): MOOR_GET opens a berth and requests the session. -/
  | moorGet (seq : BitVec 32)
  /-- MOOR_DROP_KEY (R144): MOOR_DROP KEY drops one session at its home. -/
  | moorDropKey (seq : BitVec 32)
  /-- MOOR_DROP_AGE (R144): MOOR_DROP AGE scans the mooring table and evicts old sessions. -/
  | moorDropAge (seq : BitVec 32) (ended : List (Fin 1024 × BitVec 32))
  /-- MOOR_TOUCH (R143): MOOR_TOUCH sets a session's STAMP. -/
  | moorTouch (seq : BitVec 32)
  /-- FENCE_DESC (R356): FENCE descriptor holds its ring until earlier descriptors complete. -/
  | fenceDesc (seq : BitVec 32)
  /-- SIGNAL_DESC (R356): SIGNAL descriptor adds a value to RNG_CTR_k. -/
  | signalDesc (seq : BitVec 32)
  /-- WAIT_DESC (R356): WAIT descriptor completes when RNG_CTR_k reaches VALUE. -/
  | waitDesc (seq : BitVec 32)
  /-- ROLE_SET (R128): ROLE_SET enters CHANGING or is refused. -/
  | roleSet (seq : BitVec 32)
  /-- LIGHTVESSEL_PAIR (R450): LIGHTVESSEL PAIR checks conditions and enters PAIRING. -/
  | lightvesselPair (seq : BitVec 32)
  /-- LIGHTVESSEL_UNPAIR (R455): LIGHTVESSEL UNPAIR returns the device to SOLO. -/
  | lightvesselUnpair (seq : BitVec 32)
  /-- LIGHTVESSEL_TAKEOVER (R455): LIGHTVESSEL TAKEOVER makes a standby ask the witness for takeover. -/
  | lightvesselTakeover (seq : BitVec 32)
  /-- CONFIG (R356): CONFIG descriptor applies masked register writes in order. -/
  | config (seq : BitVec 32) (env : FwEnv)
  /-- ROLE_SETTLE (R128): Launches and mooring operations end; the role change settles and intake resumes. -/
  | roleSettle (ended : List (Fin 1024 × BitVec 32))
  /-- BERTH_HEADER_RECEIVE (R136): The berth header of a move reaches the target, which checks and commits or refuses. -/
  | berthHeaderReceive (src : Fin 1024) (b : Fin 6144) (op : BitVec 32) (hdr recs tail : List (BitVec 8))
  /-- BERTH_MOVE_COMMIT_ACK (R134): The target's commit or refusal reaches the source, which frees the berth or returns it to ACTIVE. -/
  | berthMoveCommitAck (seq : BitVec 32) (status : BitVec 8)
  /-- MOOR_ANNOUNCE (R141): A PUT announcement reaches the session home, which orders it and assigns GEN. -/
  | moorAnnounce (src : Fin 1024) (op : BitVec 32) (key : BitVec 64) (ended : List (Fin 1024 × BitVec 32))
  /-- MOOR_SEGMENT_RECEIVE (R141): A PUT segment reaches its home, which inserts a FILLING entry and writes the slot. -/
  | moorSegmentReceive (src : Fin 1024) (op : BitVec 32) (seg : BitVec 16) (fmt : BitVec 4) (data : List (BitVec 8))
  /-- MOOR_SEGMENT0_COMMIT (R141): Segment 0 reaches the session home, which inserts it and commits the PUT. -/
  | moorSegment0Commit (src : Fin 1024) (op : BitVec 32) (data : List (BitVec 8))
  /-- MOOR_COMMIT_ACK (R134): The commit or refusal reaches the posting device, which frees or restores the berth. -/
  | moorCommitAck (seq : BitVec 32) (status : BitVec 8)
  /-- MOOR_GET_REQUEST (R142): A GET reaches the session home, which looks up segment 0 and directs the segments out. -/
  | moorGetRequest (src : Fin 1024) (op : BitVec 32) (key : BitVec 64)
  /-- MOOR_GET_SEGMENT_ARRIVE (R142): A GET segment reaches the requester; the berth commits when all have arrived. -/
  | moorGetSegmentArrive (seq : BitVec 32) (status : BitVec 8) (seg : BitVec 16) (data : List (BitVec 8))
  /-- MOOR_DROP_ARRIVE (R143): A DROP reaches the session home and empties segment 0 at once. -/
  | moorDropArrive (src : Fin 1024) (op : BitVec 32) (key : BitVec 64) (ended : List (Fin 1024 × BitVec 32))
  /-- MOOR_TOUCH_ARRIVE (R143): A TOUCH reaches the session home and sets STAMP. -/
  | moorTouchArrive (src : Fin 1024) (op : BitVec 32) (key : BitVec 64)
  /-- MOOR_SEGMENT_RECLAIM (R143): The other segments of a dropped session are emptied and their slots returned. -/
  | moorSegmentReclaim (key : BitVec 64)
  /-- MOR_AGE_HIST_REFRESH (R145): The age histogram registers are refreshed. -/
  | morAgeHistRefresh
  /-- RING_LOCK_LOOP_UPDATE (R158): Hardware lock loop update of every ring and filter. -/
  | ringLockLoopUpdate (ep : Fin 16) (meas : List RingMeas)
  /-- RING_SEEK_BEGIN (R159): Light valid and in range: a PARKED ring begins a SEEK attempt. -/
  | ringSeekBegin (r : Ring)
  /-- RING_SEEK_LOCK (R159): Detuning held within 10 pm for 50 us: the ring becomes LOCKED. -/
  | ringSeekLock (r : Ring)
  /-- RING_SEEK_ATTEMPT_FAIL (R159): A SEEK attempt fails; a third failure retires the ring and starts repair. -/
  | ringSeekAttemptFail (r : Ring)
  /-- RING_LIGHT_LOST (R159): Light becomes invalid or out of range: SEEK parks, LOCKED enters HOLD. -/
  | ringLightLost (r : Ring)
  /-- RING_DETUNE_LOSS (R159): Detuning above 40 pm for 20 us: the lane is withdrawn and the ring re-seeks. -/
  | ringDetuneLoss (r : Ring)
  /-- RING_HOLD_REQUEST (R159): HOLD is requested on a LOCKED ring. -/
  | ringHoldRequest (r : Ring)
  /-- RING_HOLD_RELEASE (R159): HOLD ends with light valid, and the ring relocks within 200 us. -/
  | ringHoldRelease (r : Ring)
  /-- RING_HOLD_EXPIRE (R159): Detuning still above 10 pm 200 us after HOLD: the ring re-seeks. -/
  | ringHoldExpire (r : Ring)
  /-- RING_HOLD_PARK (R159): HOLD lasts 20 ms without light: the ring parks. -/
  | ringHoldPark (r : Ring)
  /-- FEED_FORWARD_UPDATE (R161): Every 10 us the heaters of EPn take the power feed-forward correction. -/
  | feedForwardUpdate (n : Fin 12) (power : BitVec 16)
  /-- SUBSTITUTION_START (R165): A waiting ring substitution starts when its plane is free. -/
  | substitutionStart (u : SubPart)
  /-- SPARE_RETUNE_DONE (R164): A spare ring reaches its channel and locks; the lane test begins. -/
  | spareRetuneDone (u : SubPart) (ok : Bool)
  /-- LANE_TEST_DONE (R173): A lane or loopback test ends pass or fail, and the lane is restored or repaired. -/
  | laneTestDone (t : LaneId) (r : TestRead)
  /-- FLIT_SLOT (R170): In each flit time the sender picks the next flit by virtual channel order and sends it. -/
  | flitSlot (ch : Chan)
  /-- FLIT_RECEIVE (R171): A codeword is received, decoded, checked and delivered or dropped. -/
  | flitReceive (ch : Chan) (levels : List (Fin 4))
  /-- FLIT_LOSS_TIMEOUT (R171): A missing sequence number is declared lost 1 us after a later one. -/
  | flitLossTimeout (ch : Chan) (vc : Fin 4) (stream : Fin 8)
  /-- CREDIT_IDLE_RETURN (R169): Credits are returned by a control flit after 100 ns without reverse traffic. -/
  | creditIdleReturn (src dst : Fin 16)
  /-- MCAST_WAIT_RESERVE (R168): A multicast flit that waited 64 flit times reserves the next slot of every member pair. -/
  | mcastWaitReserve (src : Fin 16) (g : Fin 7) (vc : Fin 4)
  /-- LANE_QUALITY_WINDOW (R174): A lane quality measurement window ends and suspect or clear is decided. -/
  | laneQualityWindow (l : LaneId) (fast slow : Quality)
  /-- LASER_TAP_SAMPLE (R189): Every 10 us a source tap is sampled; emergency and loss-of-light conditions act. -/
  | laserTapSample (m : Fin 12) (b : Bool) (sample : Int)
  /-- LASER_LEVEL_UPDATE (R189): Every 10 ms L is updated; advisory and hitless switch-over conditions act. -/
  | laserLevelUpdate (m : Fin 12)
  /-- LASER_ADVISORY_CLEAR_TIMER (R189): L stays above the clear level for 60 s and the advisory clears. -/
  | laserAdvisoryClearTimer (m : Fin 12) (b : Bool)
  /-- LINE_DARK_DETECT (R191): A channel reads light not valid for 100 us and is declared dark. -/
  | lineDarkDetect (m : Fin 12) (c : Fin 32)
  /-- CMIS_POLL (R183): The watch room polls a module's CMIS state, flags and levels. -/
  | cmisPoll (m : Fin 12) (r : CmisRead)
  /-- SWITCH_OVER_START (R194): A waiting hitless switch-over starts once the drain ahead of it ends. -/
  | switchOverStart (m : Fin 12)
  /-- SWITCH_GROUP_DRAINED (R192): A switch group's drain ends; HOLD is requested and the switch changes source. -/
  | switchGroupDrained (m : Fin 12)
  /-- SWITCH_GROUP_VERIFIED (R192): A switch group's verification ends; lanes are restored and the next group begins. -/
  | switchGroupVerified (m : Fin 12) (failed : List LaneId) (lanesPassed : Bool)
  /-- EMERGENCY_RESTORE_DONE (R195): Every group of an emergency switch-over is locked and restored on the new source. -/
  | emergencyRestoreDone (m : Fin 12) (failed : List LaneId) (ok : Bool)
  /-- LSR_SWITCH (R196): CMD SWITCH in LSR_MOD_m starts a hitless switch-over. -/
  | lsrSwitch (m : Fin 12)
  /-- LSR_PREPARE_REMOVE (R196): CMD PREPARE_REMOVE drains every group of a module. -/
  | lsrPrepareRemove (m : Fin 12)
  /-- LSR_CANCEL_REMOVE (R196): CMD CANCEL_REMOVE restores the module's groups. -/
  | lsrCancelRemove (m : Fin 12)
  /-- LASER_MODULE_REMOVED (R196): A module is removed or both sources lose light; the module goes DARK. -/
  | laserModuleRemoved (m : Fin 12) (removed : Bool)
  /-- LASER_MODULE_INSERTED (R197): A module is inserted and commissioning starts. -/
  | laserModuleInserted (m : Fin 12)
  /-- COMMISSIONING_DONE (R197): Commissioning ends and the module enters RUN, SINGLE or DARK. -/
  | commissioningDone (m : Fin 12) (first second : Option (List (LaneId × TestRead)))
  /-- HOME_ACCESS (R210): A request reaches a memory home, which applies or reads it under ECC and poison rules. -/
  | homeAccess (a : BitVec 42) (op : HomeOp) (errs : List UnitErr)
  /-- HBM_PATROL_SCRUB (R216): Patrol scrub reads and corrects HBM codewords. -/
  | hbmPatrolScrub (s : Fin 12) (unit : BitVec 32) (err : List (Fin 34 × BitVec 8))
  /-- SRAM_PATROL_SCRUB (R216): Patrol scrub reads and corrects cache die and I/O die SRAM. -/
  | sramPatrolScrub (die : Fin 16) (unit : BitVec 32) (double : Bool) (single : Bool)
  /-- HBM_TEMP_READ (R217): The controller reads stack temperature and chooses the refresh band. -/
  | hbmTempRead (s : Fin 12) (temp : BitVec 8)
  /-- PAGE_RETIRE_START (R218): The next retirement candidate of a stack begins retirement. -/
  | pageRetireStart (s : Fin 12)
  /-- PAGE_RETIRE_DONE (R218): A page's data reaches the spare, the remap is set and waiting accesses resume. -/
  | pageRetireDone (s : Fin 12) (errs : List UnitErr)
  /-- BUNDLE_BEAT_RECEIVE (R233): A bundle beat is received and CRC-checked; a failure sends NAK and counts lane errors. -/
  | bundleBeatReceive (x : Fin 1536) (data : List (BitVec 8)) (ctl crc : BitVec 16) (clk : Bool)
  /-- BUNDLE_NAK_RECEIVE (R233): A NAK reaches the sender, which replays from the named beat. -/
  | bundleNakReceive (x : Fin 1536) (seq : BitVec 6)
  /-- VB_PAUSE_SPARE (R236): PAUSE_SPARE control word: the bundle pauses to substitute a worn lane. -/
  | vbPauseSpare (x : Fin 1536)
  /-- VB_PAUSE_HALF (R237): PAUSE_HALF control word: the bundle pauses to narrow. -/
  | vbPauseHalf (x : Fin 1536)
  /-- VB_PAUSE_RETIRE (R238): PAUSE_RETIRE control word: the bundle pair pauses to retire. -/
  | vbPauseRetire (x : Fin 1536)
  /-- VB_RESUME (R232): RESUME control word: the bundle resumes sending. -/
  | vbResume (x : Fin 1536)
  /-- VB_SUBSTITUTION_DRAINED (R236): The receiver drains; lanes are rebound and spare training begins. -/
  | vbSubstitutionDrained (x : Fin 1536)
  /-- VB_SPARE_TRAIN_DONE (R236): Spare training ends; RESUME is sent or the next spare is tried. -/
  | vbSpareTrainDone (x : Fin 1536) (pass : Bool)
  /-- VB_REMAP_PAUSE_START (R242): A remap pause begins once running substitutions have ended. -/
  | vbRemapPauseStart (n : Fin 12) (up : Bool)
  /-- VB_REMAP_DRAINED (R242): Receivers drain; replay buffers are resent and the new slot list adopted. -/
  | vbRemapDrained (n : Fin 12) (up : Bool)
  /-- STK_DIE_ORDERLY (R251): STK_DIE_n CMD orderly reset: the lower die enters CLOSING. -/
  | stkDieOrderly (n : Fin 16)
  /-- STK_DIE_FORCED (R251): STK_DIE_n CMD forced reset: the lower die enters IN_RESET, dropping traffic. -/
  | stkDieForced (n : Fin 16)
  /-- DIE_SILENT_TIMEOUT (R251): A lower die silent for 1 ms is reset by force. -/
  | dieSilentTimeout (n : Fin 16)
  /-- DIE_CLOSING_DRAINED (R251): Accepted traffic drains and the die enters IN_RESET. -/
  | dieClosingDrained (n : Fin 16)
  /-- DIE_CLOSING_TIMEOUT (R251): 50 us in CLOSING: remaining traffic is dropped and the die enters IN_RESET. -/
  | dieClosingTimeout (n : Fin 16)
  /-- DIE_RESET_SEQUENCE_DONE (R251): The reset sequence completes and return checks begin. -/
  | dieResetSequenceDone (n : Fin 16)
  /-- DIE_RETURN_CHECKS_DONE (R252): Return checks end; the die opens and releases the dies above, or fails. -/
  | dieReturnChecksDone (n : Fin 16) (failed : Option (Fin 5)) (tests : List (Fin 1536 × List (Fin 72))) (found : List StartTest) (cal : List Crossing)
  /-- LINK_ALIGNED (R284): 64 codewords decode cleanly; the link enters IDENT. -/
  | linkAligned (x : Fin 768)
  /-- TRAIN_IDENT_RESEND (R284): In IDENT a TRAIN_IDENT is sent every 10 us. -/
  | trainIdentResend (x : Fin 768)
  /-- TRAIN_IDENT (R286): A received TRAIN_IDENT is checked; a failure enters FAULT. -/
  | trainIdent (x : Fin 768) (f : TrainFields)
  /-- TRAIN_ACK (R284): A received TRAIN_ACK with a passing ident moves the link to TEST. -/
  | trainAck (x : Fin 768) (f : TrainFields)
  /-- IDENT_TIMEOUT (R284): 10 ms in IDENT without passing returns the link to ALIGN. -/
  | identTimeout (x : Fin 768)
  /-- LINK_TEST_DONE (R287): A link TEST ends; pass moves to CREDIT, fail repairs or goes DARK. -/
  | linkTestDone (x : Fin 768) (here far : Bool)
  /-- CREDIT_INIT (R284): CREDIT_INIT received: the link becomes ACTIVE. -/
  | creditInit (x : Fin 768) (req rsp bulk ctl : BitVec 8)
  /-- LANE_PAUSE (R284): LANE_PAUSE received: the link enters PAUSED keeping credits. -/
  | lanePause (x : Fin 768) (reason : BitVec 8)
  /-- LANE_RESUME (R284): LANE_RESUME received: realignment and a test return the link to ACTIVE. -/
  | laneResume (x : Fin 768) (ok : Bool)
  /-- PAUSED_TIMEOUT (R284): 50 ms in PAUSED, or failed realignment: the link goes DARK. -/
  | pausedTimeout (x : Fin 768)
  /-- BT_PROBE_SEND (R288): Each end of an ACTIVE link sends BT_PROBE at least every 1 ms. -/
  | btProbeSend (x : Fin 768)
  /-- BT_PROBE (R288): A received BT_PROBE is answered with BT_ECHO. -/
  | btProbe (x : Fin 768) (t1 : Int)
  /-- BT_ECHO (R288): A received BT_ECHO yields offset and delay, and steers beacon time. -/
  | btEcho (x : Fin 768) (t1 t2 t3 t4 : Int)
  /-- PACKET_COMMIT (R281): The mover copies a landed packet into the commit FIFO, checks it and commits or rewinds. -/
  | packetCommit (p : Fin 24) (lane : Fin 32) (vc : Fin 3)
  /-- EGRESS_ENQUEUE (R283): A packet reaches an egress queue, which takes or discards it and updates the throttle band. -/
  | egressEnqueue (q : Fin 4)
  /-- THROTTLE_BAND_RISE (R283): Fill below a band's edge for STEP_HOLD us raises the throttle band one step. -/
  | throttleBandRise (q : Fin 4) (dst : Fin 1024)
  /-- LOAD (R310): A LOAD request packet is checked and forwarded to its home. -/
  | load (p : Fin 24) (vc : Fin 3)
  /-- STORE (R310): A STORE request packet is checked, de-duplicated and forwarded to its home. -/
  | store (p : Fin 24) (vc : Fin 3)
  /-- ATOMIC (R310): An ATOMIC request packet is checked and forwarded or answered from REPLY. -/
  | atomic (p : Fin 24) (vc : Fin 3)
  /-- BULK_WRITE (R310): A BULK_WRITE packet is checked and forwarded to its home. -/
  | bulkWrite (p : Fin 24) (vc : Fin 3)
  /-- BULK_READ (R310): A BULK_READ packet is checked and read. -/
  | bulkRead (p : Fin 24) (vc : Fin 3)
  /-- PARCEL (R318): A PARCEL packet's records are applied in order, stopping at a failure. -/
  | parcel (p : Fin 24) (vc : Fin 3)
  /-- RELAY_FORWARD (R319): A relay forwards a committed packet for another device of its rack. -/
  | relayForward (p : Fin 24) (vc : Fin 3)
  /-- COLL_EXP (R322): Exponent bytes reach the slice owner; complete blocks fix B. -/
  | collExp (p : Fin 24) (vc : Fin 3)
  /-- COLL_B (R322): A member receives B and sends its window integers. -/
  | collB (p : Fin 24) (vc : Fin 3)
  /-- COLL_DATA (R322): Collective data is added by the reduction unit and complete blocks written. -/
  | collData (p : Fin 24) (vc : Fin 3) (mismatch : Fin 3)
  /-- ACK (R308): An ACK completes its request at the source. -/
  | ack (p : Fin 24) (vc : Fin 3)
  /-- LOAD_DATA (R308): LOAD_DATA is written locally and completes the load. -/
  | loadData (p : Fin 24) (vc : Fin 3)
  /-- ATOMIC_DATA (R308): ATOMIC_DATA writes the old value and completes the atomic. -/
  | atomicData (p : Fin 24) (vc : Fin 3)
  /-- BULK_DATA (R308): BULK_DATA is written locally for a bulk read. -/
  | bulkData (p : Fin 24) (vc : Fin 3)
  /-- NAK (R308): A NAK completes its request with the failure status. -/
  | nak (p : Fin 24) (vc : Fin 3)
  /-- HOME_FORWARD_RECEIVE (R311): A landing-die forward reaches the home, which applies it once and confirms. -/
  | homeForwardReceive (q : Fin 4) (tag : Nat)
  /-- HOME_CONFIRM (R310): The home's confirmation reaches the landing die, which updates the entry and answers. -/
  | homeConfirm (q : Fin 4) (tag : Nat)
  /-- FORWARD_RESEND_TIMER (R311): No confirmation within 2 us: the forward is sent again with its tag. -/
  | forwardResendTimer (q : Fin 4) (tag : Nat)
  /-- HOME_LINE_APPLY (R312): The home applies the next queued operation or atomic batch on a line. -/
  | homeLineApply (line : BitVec 36)
  /-- E2E_RESEND_TIMER (R307): A request's re-send timer expires: it is re-sent or fails. -/
  | e2eResendTimer (e : Fin 64) (dst : Fin 1024) (n : BitVec 32)
  /-- PARCEL_FLUSH_TIMER (R317): FLUSH_US after its first record an open parcel is flushed. -/
  | parcelFlushTimer (q : Fin 4) (rack : Fin 32)
  /-- COLL_TIMER_EXPIRE (R325): COLL_MS passes with a block incomplete; the owner writes complete blocks and fails. -/
  | collTimerExpire (id : BitVec 32)
  /-- HOST_RESET (R336): The host die alone resets; the device enters HOST_ABSENT. -/
  | hostReset
  /-- COMMAND_PORT_LINK_DOWN (R341): A command port's link goes down. -/
  | commandPortLinkDown (p : Fin 2)
  /-- PORT_RETRAIN_TIMEOUT (R341): The active port has not retrained within 1 ms: switch-over or NO_COMMAND_PORT. -/
  | portRetrainTimeout
  /-- UCIE_LANE_REPAIR (R337): UCIe lane repair replaces a command-port lane. -/
  | ucieLaneRepair (p : Fin 2) (lane : Fin 128)
  /-- WATCH_LINE_WRITE (R347): A host write invalidates a watch line; the fetcher wakes and re-reads COUNT. -/
  | watchLineWrite (r : Fin 32) (count : BitVec 32)
  /-- HEAD_LINE_WRITE (R348): A host write of a head line frees completion or event slots. -/
  | headLineWrite (c : Fin 33) (count : BitVec 32)
  /-- DESCRIPTOR_FETCH (R349): The fetcher reads a descriptor from an eligible ring, checks it and accepts it. -/
  | descriptorFetch (r : Fin 32) (desc : List (BitVec 8))
  /-- DESCRIPTOR_COMPLETE (R357): A descriptor completes and its completion record is written. -/
  | descriptorComplete (seq : BitVec 32)
  /-- MSIX_COALESCE_TIMER (R367): COAL_US after the first unsignalled record an MSI-X vector is sent. -/
  | msixCoalesceTimer (c : Fin 32)
  /-- EVENT_DELIVER (R361): A buffered event record is written to a free event ring slot. -/
  | eventDeliver
  /-- CXL_MEM_READ (R340): A host CXL.mem read of device memory, with poison for bad units. -/
  | cxlMemRead (p : Fin 2) (a : BitVec 48)
  /-- CXL_MEM_WRITE (R340): A host CXL.mem write of device memory, dropped for a retired stack. -/
  | cxlMemWrite (p : Fin 2) (a : BitVec 48) (data : List (BitVec 8))
  /-- ISLAND_STEP_CHANGE (R373): An island's lowest step changes and a clock change begins. -/
  | islandStepChange (x : Fin 432)
  /-- ISLAND_STEP_CHANGE_DONE (R374): A step change and its crossing recalibration end; a pending change begins. -/
  | islandStepChangeDone (x : Fin 432) (cal : List Crossing)
  /-- DROOP_DETECT (R375): A droop detector trips and stretches the period. -/
  | droopDetect (dom : Domain)
  /-- REPLICA_MEASURE (R376): Every 10 us replica paths give MARGIN and the margin cap acts. -/
  | replicaMeasure (x : Fin 432) (margin : BitVec 8)
  /-- BT_FRAME (R379): A beacon time frame arrives and each die checks its count. -/
  | btFrame (die : Fin 33) (count : BitVec 64) (crc : BitVec 8)
  /-- BT_GENERATOR_FAILOVER (R380): IO1's shadow generator takes over beacon time. -/
  | btGeneratorFailover (trigger : Fin 3) (advance : Bool)
  /-- BT_PARENT_TIMEOUT (R382): No exchange with the parent for 10 ms: new parent or HOLDOVER. -/
  | btParentTimeout
  /-- BT_HOLDOVER_TIMEOUT (R384): More than 1 s in HOLDOVER raises BT_UNALIGNED. -/
  | btHoldoverTimeout
  /-- PPS_EDGE (R386): A 1PPS rising edge steers the root's beacon time. -/
  | ppsEdge
  /-- PPS_TIMEOUT (R386): 2 s without a 1PPS edge: the root holds its trim. -/
  | ppsTimeout
  /-- FEED_FAIL (R395): A feed falls below its failing level and its phases move to the other feed. -/
  | feedFail (f : Fin 6)
  /-- FEED_RETURN (R396): A feed holds its level for 100 ms and its phases move back. -/
  | feedReturn (f : Fin 6)
  /-- SUPPLY_WARNING (R401): V_S falls below the warning level and the supply-dip source steps down. -/
  | supplyWarning (vph : Bool) (mv : BitVec 16)
  /-- SUPPLY_DIP_RELEASE (R401): V_S back above recovery for 1 ms releases the supply-dip source. -/
  | supplyDipRelease
  /-- BROWNOUT_TIMER (R401): V_S below warning for 100 us enters BROWNOUT_HOLD. -/
  | brownoutTimer
  /-- BROWNOUT_RECOVERY_TIMER (R401): V_S above recovery for 1 ms ends BROWNOUT_HOLD. -/
  | brownoutRecoveryTimer
  /-- SUPPLY_BELOW_RESET (R401): V_S below reset for more than 1 us warm-resets the package or resets the host die. -/
  | supplyBelowReset (rail : Fin 3)
  /-- HBM_RAIL_FAULT (R397): An HBM rail leaves range for 10 us and the quadrant's stacks are retired. -/
  | hbmRailFault (quad : Fin 4) (rail : Fin 3)
  /-- PHASE_FAIL (R398): A regulator phase fails its check and is retired, with ceiling or retirement. -/
  | phaseFail (d : Fin 12) (cache : Bool) (phase : Fin 25)
  /-- PKG_POWER_LOOP (R402): Package power is measured and the package power loop steps its source. -/
  | pkgPowerLoop (watts : BitVec 14)
  /-- DIE_CURRENT_SAMPLE (R403): Every 1 us compute-rail current is checked against the limit and PCAP steps. -/
  | dieCurrentSample (d : Fin 12) (amps : BitVec 9) (watts : BitVec 9)
  /-- SENSOR_SAMPLE (R405): Temperature sensors are sampled; broken sensors, bands, halts and rate of rise act. -/
  | sensorSample (x : Fin 32) (temps : List Int) (broken : List (Fin 64 × Bool))
  /-- THERMAL_LOOP (R408): The thermal loop steps its source toward TJ_TARGET. -/
  | thermalLoop (d : Fin 12)
  /-- STACK_CAP_LOOP (R412): Cache, headroom and HBM caps step their sources every 1 ms. -/
  | stackCapLoop (d : Fin 12)
  /-- HEATER_GRID_UPDATE (R413): Every 10 us the base-die heater grid draw is limited to its budget. -/
  | heaterGridUpdate (bd : Fin 4) (others : BitVec 8) (want : BitVec 8)
  /-- LIMIT_SOURCE_RISE (R415): A released limit source rises one step. -/
  | limitSourceRise (d : Fin 13) (src : Fin 12)
  /-- RISE_HOLD_END (R411): Rate of rise below 5 C/ms for 1 ms releases the rate source. -/
  | riseHoldEnd (d : Fin 12)
  /-- DIE_HALT_RELEASE (R408): A halted die below 92 C for 100 ms is released. -/
  | dieHaltRelease (d : Fin 12)
  /-- IO_HALT_RECOVERY (R409): A halted I/O die below 92 C for 100 ms warm-resets the package. -/
  | ioHaltRecovery (q : Fin 4)
  /-- COLD_START (R427): Power-up or cold reset runs start-up steps 1 to 12 and releases the host die. -/
  | coldStart (inp : StartIn)
  /-- WARM_START (R433): A warm reset runs the warm start sequence and releases the host die. -/
  | warmStart (inp : StartIn)
  /-- COLD_RST_N (R533): COLD_RST_N held low for 10 ms triggers a cold reset. -/
  | coldRstN
  /-- WARM_RST_N (R533): WARM_RST_N held low for 10 ms triggers a warm reset. -/
  | warmRstN
  /-- REFCLK_LOSS (R531): Loss of the reference clock is detected and generators hold frequency. -/
  | refclkLoss
  /-- REFCLK_LOSS_TIMEOUT (R531): Reference absent for more than 1 ms holds every die in reset. -/
  | refclkLossTimeout
  /-- CAL_WINDOW_START (R436): A calibration window slot arrives; the group drains and runs its calibration runs. -/
  | calWindowStart (g : Fin 280)
  /-- CAL_WINDOW_ABORT (R438): A temperature change, light loss or die reset ends a window and discards its runs. -/
  | calWindowAbort (g : Fin 280)
  /-- LV_BEAT_SEND (R452): Each partner sends LV_BEAT every 10 us. -/
  | lvBeatSend
  /-- LV_BEAT (R455): An LV_BEAT arrives and drives pairing, hold release, unpair or self-fence. -/
  | lvBeat (p : Fin 24) (vc : Fin 3) (same : Bool) (berths : List (Fin 6144 × BitVec 24))
  /-- LV_ASK (R453): The witness decides a TAKEOVER, CONTINUE or renewal and answers. -/
  | lvAsk (p : Fin 24) (vc : Fin 3)
  /-- LV_ANSWER (R455): A witness answer grants or refuses takeover or continuation. -/
  | lvAnswer (p : Fin 24) (vc : Fin 3)
  /-- LV_NOTICE (R457): An LV_NOTICE raises fence entries and is relayed within the rack. -/
  | lvNotice (p : Fin 24) (vc : Fin 3)
  /-- LV_NOTICE_RESEND (R457): An unacknowledged notice is repeated every 2 us. -/
  | lvNoticeResend
  /-- LV_ASK_REPEAT (R455): An unanswered CONTINUE or TAKEOVER is repeated every 2 us. -/
  | lvAskRepeat
  /-- LV_ACTIVE_SILENCE (R455): Partner silent for 40 us: the active enters HOLD. -/
  | lvActiveSilence
  /-- LV_STANDBY_SILENCE (R455): Partner silent for 50 us: the standby enters TAKING_OVER. -/
  | lvStandbySilence
  /-- LV_TAKEOVER_TIMEOUT (R455): No witness answer in 20 us: the standby returns to STANDBY. -/
  | lvTakeoverTimeout
  /-- LV_HOLD_TIMEOUT (R455): No answer to CONTINUE for 1 s: the device fences itself. -/
  | lvHoldTimeout
  /-- LV_PAIRING_TIMEOUT (R455): 10 ms without a beat in PAIRING: the PAIR fails. -/
  | lvPairingTimeout
  /-- LV_LEASE_RENEW (R454): A lease holder sends a renewal every 1 ms. -/
  | lvLeaseRenew
  /-- LV_LEASE_EXPIRE (R454): 5 ms without a granting renewal: the holder enters FENCED. -/
  | lvLeaseExpire
  /-- LV_QUARANTINE_END (R454): A witness's 10 ms quarantine after start ends. -/
  | lvQuarantineEnd
  /-- LV_CHECKPOINT_ACK (R460): The standby acknowledges a checkpoint header; LV_CURSOR is set and held records released. -/
  | lvCheckpointAck (b : Fin 6144)
  /-- LV_CHECKPOINT_TIMEOUT (R460): A checkpoint not acknowledged in 2 ms releases its step record and exposes the berth. -/
  | lvCheckpointTimeout (b : Fin 6144)
  /-- WATCHDOG_EXPIRE (R470): The active watch room's watchdog expires: failover, rollback or warm reset. -/
  | watchdogExpire (q : Fin 4)
  /-- SHADOW_RECORD (R470): The active watch room sends a shadow record to the standby every 1 ms. -/
  | shadowRecord (bytes : List (BitVec 8))
  /-- HANDOVER_RECORD (R472): The standby receives a handover record, checks it and becomes ACTIVE or refuses it. -/
  | handoverRecord (bytes : List (BitVec 8)) (env : FwEnv)
  /-- WR_LOAD_DONE (R469): A LOADING watch room verifies its image and becomes STANDBY. -/
  | wrLoadDone (q : Fin 4) (shadow : Bool)
  /-- WR_LOAD_TIMEOUT (R469): Verification fails or 3 s pass: the watch room becomes FAILED. -/
  | wrLoadTimeout (q : Fin 4)
  /-- WR_FAILED_RECOVER (R469): A FAILED watch room after 10 s and a passing self-test becomes COLD. -/
  | wrFailedRecover (q : Fin 4) (selfTest : Bool)
  /-- THERMAL_POWER_TASK (R471): Periodic thermal and power task run. -/
  | thermalPowerTask (missed : Bool)
  /-- LASER_SUPERVISION_TASK (R471): Periodic laser supervision task run. -/
  | laserSupervisionTask (missed : Bool)
  /-- LANE_SUPERVISION_TASK (R471): Periodic lane supervision task run. -/
  | laneSupervisionTask (missed : Bool)
  /-- RING_SUPERVISION_TASK (R471): Periodic coarse ring supervision task run. -/
  | ringSupervisionTask (missed : Bool)
  /-- EVENT_LOGGING_TASK (R471): Periodic event logging task run. -/
  | eventLoggingTask (missed : Bool)
  /-- FW_STAGE_TIMER (R480): Beacon time reaches T - STAGE_S and staging begins. -/
  | fwStageTimer
  /-- FW_ACTIVATION_EPOCH (R481): At T the handover to the new image starts when preconditions hold. -/
  | fwActivationEpoch
  /-- FW_ACT_WINDOW_EXPIRE (R481): Preconditions still fail ACT_WINDOW ms after T: activation is missed. -/
  | fwActWindowExpire
  /-- FW_CONFIRM_TIMER (R480): CONFIRM_S passes without watchdog expiry: slots swap and settings are rewritten. -/
  | fwConfirmTimer (env : FwEnv)
  /-- FW_GET_RESPONSE (R478): An image piece arrives, is checked against its digest and written to both flashes. -/
  | fwGetResponse (bytes : List (BitVec 8)) (env : FwEnv)
  /-- FWU_OFFER (R478): FWU_CMD OFFER takes an image offer from FWU_SRC. -/
  | fwuOffer (env : FwEnv)
  /-- FWU_CANCEL (R478): FWU_CMD CANCEL returns the tender to IDLE. -/
  | fwuCancel
  /-- FWU_ARM (R478): FWU_CMD ARM arms activation at T. -/
  | fwuArm
  /-- FWU_DISARM (R478): FWU_CMD DISARM returns ARMED to READY. -/
  | fwuDisarm
  /-- FWU_COMMIT_SVN (R482): FWU_CMD COMMIT_SVN burns the security version fuses. -/
  | fwuCommitSvn (env : FwEnv)
  /-- FWU_SAVE_SETTINGS (R483): FWU_CMD SAVE_SETTINGS stores the settings groups in flash. -/
  | fwuSaveSettings (env : FwEnv)
  /-- GET_INFO (R489): MCTP GET_INFO returns identity and state. -/
  | getInfo (inst : BitVec 5)
  /-- GET_EVENTS (R489): MCTP GET_EVENTS returns records from the BMC log. -/
  | getEvents (inst : BitVec 5) (first : BitVec 32) (count : BitVec 8)
  /-- GET_CERT (R489): MCTP GET_CERT returns certificate bytes. -/
  | getCert (inst : BitVec 5) (off : BitVec 32) (len : BitVec 16)
  /-- ATTEST (R487): MCTP ATTEST signs and returns an attestation report, subject to the token bucket. -/
  | attest (inst : BitVec 5) (challenge : List (BitVec 8))
  /-- GET_REPAIR (R489): MCTP GET_REPAIR returns bytes of the last repair record. -/
  | getRepair (inst : BitVec 5) (off : BitVec 32) (len : BitVec 16)
  /-- FW_OFFER (R478): MCTP FW_OFFER offers an image header and manifest to the tender. -/
  | fwOffer (inst : BitVec 5) (hdr manifest : List (BitVec 8)) (env : FwEnv)
  /-- FW_STATUS (R489): MCTP FW_STATUS returns tender status. -/
  | fwStatus (inst : BitVec 5)
  /-- FW_CMD (R489): MCTP FW_CMD carries a tender command from the BMC. -/
  | fwCmd (inst : BitVec 5) (cmd : BitVec 8) (t : BitVec 64) (env : FwEnv)
  /-- EVENT_NOTIFY (R489): The device sends EVENT_NOTIFY while unread log records exist. -/
  | eventNotify
  /-- REGISTER_WRITE (R506): A BAR0 write to a register without behaviour of its own, under access codes, lock and bounds. -/
  | registerWrite (p : Fin 2) (off : BitVec 26) (v : BitVec 32) (hi : Option (BitVec 32)) (env : FwEnv)
  /-- GLB_EXPERT_WRITE (R510): A write of GLB_EXPERT KEY or DENY locks or unlocks expert fields. -/
  | glbExpertWrite (v : BitVec 32)
  /-- GLB_SETUP_DONE_WRITE (R442): Setting DONE locks RWL fields and applies cache SRAM modes. -/
  | glbSetupDoneWrite (v : BitVec 32)
  /-- GLB_RESET_WARM (R441): GLB_RESET CMD WARM triggers a warm reset. -/
  | glbResetWarm
  /-- GLB_RESET_COLD (R441): GLB_RESET CMD COLD triggers a cold reset. -/
  | glbResetCold
  /-- HST_SWITCH (R341): HST_CTRL CMD SWITCH moves the command path to the other port. -/
  | hstSwitch
  /-- NEG_COMMIT (R363): NEG_CTRL COMMIT checks the driver version and fixes the accepted mask. -/
  | negCommit (v : BitVec 32)
  /-- RNG_CMD_CFG_WRITE (R366): A command ring config write; ENABLE resets F and ERROR clears by RW1C. -/
  | rngCmdCfgWrite (r : Fin 32) (v : BitVec 32)
  /-- RNG_CQ_CFG_WRITE (R367): A completion ring config write; ENABLE resets records written. -/
  | rngCqCfgWrite (r : Fin 32) (v : BitVec 32)
  /-- EVT_CFG_WRITE (R367): An event ring config write; ENABLE resets records written and resumes delivery. -/
  | evtCfgWrite (v : BitVec 32)
  /-- EVT_STATUS_CLEAR (R367): A write of 1 to DROPPED clears the dropped count. -/
  | evtStatusClear (v : BitVec 32)
  /-- RNG_CTR_WRITE (R367): Writing HI then LO sets a counter, which may release a WAIT descriptor. -/
  | rngCtrWrite (k : Fin 256) (hi lo : BitVec 32)
  /-- MEM_ERRLOG_CLEAR (R227): Writing 1 to VALID clears the error log. -/
  | memErrlogClear (s : Fin 12)
  /-- PRT_IDENT_WRITE (R291): A write to RACK, SLOT or VALID takes every link through OFF. -/
  | prtIdentWrite (v : BitVec 32)
  /-- PRT_PORT_ENABLE_WRITE (R293): A write of ENABLE turns a port's links off or lets them train. -/
  | prtPortEnableWrite (p : Fin 24) (v : BitVec 32)
  /-- CLK_FTAB_WRITE (R372): An F-step table write, held to keep the table strictly ascending. -/
  | clkFtabWrite (x : Fin 192) (v : BitVec 32)
  /-- CLK_ISL_TARGET_WRITE (R373): A TARGET write may change an island's lowest step. -/
  | clkIslTargetWrite (x : Fin 432) (v : BitVec 32)
  /-- PRT_E2E_CTRL_WRITE (R329): A write of the re-send timers holds RETRIES to the 900 us limit, or loads a preset. -/
  | prtE2eCtrlWrite (v : BitVec 32)
  /-- GLB_CAL_CTRL_WRITE (R514): A write of GLB_CAL_CTRL, loading PERIOD from the preset. -/
  | glbCalCtrlWrite (v : BitVec 32)
  /-- CLK_CTRL_WRITE (R389): A write of CLK_CTRL, loading TARGET of every island from the preset. -/
  | clkCtrlWrite (v : BitVec 32)
  /-- PWR_CTRL_WRITE (R421): A write of PWR_CTRL, loading PKG_STEP from the preset. -/
  | pwrCtrlWrite (v : BitVec 32)
  /-- THM_CTRL_WRITE (R425): A write of THM_CTRL, loading the thresholds from the preset. -/
  | thmCtrlWrite (v : BitVec 32)
  /-- FAB_CTRL_WRITE (R176): A write of FAB_CTRL, loading FAB_QTHR from LOCK_PRESET. -/
  | fabCtrlWrite (v : BitVec 32)
  /-- LSR_CTRL_WRITE (R199): A write of LSR_CTRL, loading ADV and SW from the preset. -/
  | lsrCtrlWrite (v : BitVec 32)
  /-- PRT_CTRL_WRITE (R290): A write of PRT_CTRL, loading START and STOP from the preset. -/
  | prtCtrlWrite (v : BitVec 32)
  /-- MEM_CTRL_WRITE (R222): A write of MEM_CTRL, loading SCRUB_H and RETIRE_CE from the preset. -/
  | memCtrlWrite (v : BitVec 32)
  /-- STK_VB_CTRL_WRITE (R257): A write of STK_VB_CTRL, loading LANE_ERR from the preset. -/
  | stkVbCtrlWrite (v : BitVec 32)
  /-- FWU_CTRL_WRITE (R493): A write of FWU_CTRL, loading CAP from the preset. -/
  | fwuCtrlWrite (v : BitVec 32)
  /-- CLK_BT_LO_READ (R393): A read of CLK_BT_LO latches the matching CLK_BT_HI. -/
  | clkBtLoRead (p : Fin 2)
  /-- BRT_ENTRY_READ (R504): A read of word 0 of a berth entry latches the whole entry for the port. -/
  | brtEntryRead (p : Fin 2) (b : Fin 6144)
  /-- HELP (R520): Monitor HELP lists commands. -/
  | help
  /-- INFO (R520): Monitor INFO prints identity, image, start and level. -/
  | info
  /-- INV (R520): Monitor INV prints the die inventory. -/
  | inv
  /-- RD (R520): Monitor RD reads register words without side effect. -/
  | rd (off : BitVec 32) (count : Nat)
  /-- STATUS (R520): Monitor STATUS prints level, feeds, role, lightvessel, tender and port. -/
  | status
  /-- EVENTS (R520): Monitor EVENTS prints the newest log records. -/
  | events (n : Nat)
  /-- THERMAL (R520): Monitor THERMAL prints die temperatures and bands. -/
  | thermal
  /-- POWER (R520): Monitor POWER prints package and die power. -/
  | power
  /-- LINKS (R520): Monitor LINKS prints port or link states. -/
  | links (p : Option (Fin 24))
  /-- FABRIC (R520): Monitor FABRIC prints the pairs of an endpoint. -/
  | fabric (e : Fin 16)
  /-- LASER (R520): Monitor LASER prints module states and levels. -/
  | laser
  /-- TIME (R520): Monitor TIME prints beacon time state. -/
  | time
  /-- CHAL (R521): Monitor CHAL draws a new challenge block. -/
  | chal (nonce : BitVec 256)
  /-- LOCK (R523): Monitor LOCK ends a session. -/
  | lock
  /-- UNLOCK (R522): Monitor UNLOCK requests the signature data. -/
  | unlock (debug : Bool) (minutes : BitVec 8)
  /-- MON_SIGNATURE_LINE (R522): A signature data line arrives; the empty line triggers verification and opens or refuses the session. -/
  | monSignatureLine (bytes : List (BitVec 8)) (sig : Bool)
  /-- MON_SESSION_EXPIRE (R523): A session's minutes or 10 idle minutes expire and it locks. -/
  | monSessionExpire (idle : Bool)
  /-- WR (R524): Monitor WR applies one masked register write and reads it back. -/
  | wr (off : BitVec 32) (v mask : BitVec 32) (env : FwEnv)
  /-- SAVE (R524): Monitor SAVE stores the settings. -/
  | save (env : FwEnv)
  /-- RESET (R524): Monitor RESET triggers a warm or cold reset. -/
  | reset (cold : Bool)
  /-- DIERESET (R524): Monitor DIERESET requests a lower-die reset. -/
  | diereset (n : Fin 16) (forced : Bool)
  /-- CORERESET (R524): Monitor CORERESET resets an IDLE physical core. -/
  | corereset (lc : Fin 192)
  /-- LINKRESET (R524): Monitor LINKRESET resets a link or every link of a port. -/
  | linkreset (p : Fin 24) (c : Option (Fin 32))
  /-- MEMRD (R524): Monitor MEMRD reads device memory, hiding poisoned units. -/
  | memrd (a : BitVec 64) (len : Nat)
  /-- MEMWR (R524): Monitor MEMWR writes device memory within one granule. -/
  | memwr (a : BitVec 64) (data : List (BitVec 8))
  /-- ILLEGAL_INSTRUCTION (R50): The sequencer issues an instruction whose major opcode, OP or FN is reserved and faults the core with ILLEGAL_INSTRUCTION. -/
  | illegalInstruction (lc : Fin 192) (w : BitVec 64)
  /-- COMMAND_PORT_LINK_UP (R341): A command port's UCIe/CXL link comes up or retrains, so the port can become ready and NO_COMMAND_PORT can be left. -/
  | commandPortLinkUp (p : Fin 2)
  /-- REFCLK_RETURN (R531): The 100 MHz reference returns; within 1 ms it resumes without reset, after more than 1 ms a cold start runs. -/
  | refclkReturn (inp : StartIn)
  /-- HBM_RAIL_RETURN (R422): An HBM rail of a quadrant comes back within its range and HBM_OK of PWR_FEED sets again. -/
  | hbmRailReturn (quad : Fin 4)
  /-- TENDER_PIECE_FETCH (R478): The tender, in the background and at up to CAP kB/s, reads the next image piece from FWU_SRC in device memory or requests it from the BMC with FW_GET. -/
  | tenderPieceFetch (env : FwEnv)
  /-- COLL_HOLD_EXPIRE (R325): Contributions held because the owner had not yet accepted its COLLECTIVE descriptor reach their COLL_MS limit. -/
  | collHoldExpire (id : BitVec 32)
  /-- CAL_WINDOW_DONE (R436): The runs of a calibration window end; codes are adopted or lanes condemned, HOLD is released and LOCKED lanes are restored at up to 120 us. -/
  | calWindowDone (g : Fin 280) (runs : List CalLane)
  /-- MON_UNKNOWN_COMMAND (R526): A monitor line that names no command, is malformed or was overrun is answered with ERR SYNTAX, UNKNOWN or OVERFLOW. -/
  | monUnknownCommand (why : MonErr)
  deriving DecidableEq, Repr

end Sys2Proof
end

