-- ==== Sys2Proof/Config.lean ====
section
/-!
DEFINITION. What the spec leaves open or takes from an external standard: free values and functions without a body, so
that nothing can be proved of their values. A statement about one of them holds for every value it may have.
-/
namespace Sys2Proof.Config

/-- The n-th free value: what the spec leaves undefined or unstated where the machine goes on (log entry 4). The counter
`State.free` says how many have been drawn. -/
opaque freeValue : Nat → BitVec 64

/-- Which of the values within the bound of R120 EXP2, LOG2, RSQRT, SIN and COS give, as functions of the FP32 operand alone (R120,
R121; log entry 5). The first argument is the FN code. -/
opaque transc : Nat → Word → Word

/-- Byte `i` of the HSS signature the device makes over a message with an identity leaf (R485; log entry 6). -/
opaque hssSign : (leaf : Nat) → (message : List Byte) → (i : Nat) → Byte

/-- CRC-8 of a beacon time frame (R379), whose parameters the spec does not give (log entry 7). -/
opaque crc8 : List Byte → BitVec 8

/-- Bytes of the device's certificate chain (R485), fixed at manufacture (log entry 6). -/
opaque certByte : Nat → Byte

/-- The 16 bytes of the serial number (R497), fixed at manufacture (log entry 6). -/
opaque serialByte : Nat → Byte

/-- Whether the watch room retires a physical core, 18 × die + core, for its broken sensor pair (R90, R407; log entry 99). -/
opaque retiresBroken : Nat → Bool

end Sys2Proof.Config
end

