-- ==== Sys2Proof/Machine/RegMap.lean ====
section
/-!
DEFINITION. The set-up register map: which register stands at which BAR0 offset, its fields, access codes, reset
values and stated ranges (17_setup_registers.md R502, R503, R513; each register's own field table). The field constants
at the end give each field of a register by its name in the manual.
-/
namespace Sys2Proof.Machine

/-- The access codes of R14. -/
inductive Acc
  | ro | rw | rw1c | wo | rwl | rwx
  deriving DecidableEq, Repr

/-- One field of a field table: its bits, access code and stated range (R513). -/
structure FieldDef where
  hi : Nat
  lo : Nat
  acc : Acc
  lim : Option (Nat × Nat)
  deriving DecidableEq, Repr

/-- One row of the table of R503: BAR0 offset of index 0, distance between indexes, number of indexes, reset word. -/
structure RegRow where
  base : Nat
  stride : Nat
  count : Nat
  reset : Nat
  fields : List FieldDef
  deriving DecidableEq, Repr

/-- A named field of a register family: offset of index 0, distance between indexes, and bits. -/
structure Fld where
  base : Nat
  stride : Nat
  hi : Nat
  lo : Nat
  deriving DecidableEq, Repr

/-- BAR0 offset of the register of index `i` that holds the field. -/
def Fld.off (f : Fld) (i : Nat) : Nat := f.base + f.stride * i

/-- Width of a field in bits. -/
def Fld.width (f : Fld) : Nat := f.hi - f.lo + 1

/-- Registers of the GLB_ block (R503), in the order of their offsets. -/
def rowsGlb : List RegRow := [
  ⟨0x00000000, 0x4, 1, 0x00000000, [⟨31, 31, .ro, none⟩, ⟨30, 30, .ro, none⟩, ⟨29, 26, .ro, none⟩, ⟨23, 12, .ro, none⟩, ⟨11, 11, .ro, none⟩]⟩,
  ⟨0x00000004, 0x4, 1, 0x00000000, [⟨31, 28, .ro, none⟩, ⟨1, 0, .rwx, none⟩]⟩,
  ⟨0x00000008, 0x4, 1, 0x00000000, [⟨0, 0, .rwl, none⟩]⟩,
  ⟨0x0000000c, 0x4, 1, 0x00000000, [⟨31, 31, .ro, none⟩, ⟨30, 30, .rwl, none⟩, ⟨23, 16, .ro, none⟩, ⟨15, 0, .wo, none⟩]⟩,
  ⟨0x00000010, 0x4, 1, 0x00000000, [⟨15, 12, .ro, none⟩, ⟨11, 0, .ro, none⟩]⟩,
  ⟨0x00000014, 0x4, 1, 0x000a0000, [⟨23, 16, .rwx, some (2, 60)⟩, ⟨1, 0, .rw, none⟩]⟩,
  ⟨0x00000018, 0x4, 1, 0x00000000, [⟨31, 16, .ro, none⟩, ⟨15, 0, .ro, none⟩]⟩,
  ⟨0x00000100, 0x4, 33, 0x00000000, [⟨31, 30, .ro, none⟩, ⟨29, 29, .ro, none⟩, ⟨27, 24, .ro, none⟩, ⟨7, 0, .ro, none⟩]⟩]

/-- Registers of the NEG_ block (R503), in the order of their offsets. -/
def rowsNeg : List RegRow := [
  ⟨0x00100000, 0x4, 1, 0x00000100, [⟨15, 8, .ro, none⟩, ⟨7, 0, .ro, none⟩]⟩,
  ⟨0x00100004, 0x4, 1, 0x00000000, [⟨31, 31, .ro, none⟩, ⟨30, 30, .ro, none⟩, ⟨15, 8, .rw, none⟩, ⟨0, 0, .wo, none⟩]⟩,
  ⟨0x00100020, 0x4, 8, 0x00000000, [⟨31, 0, .ro, none⟩]⟩,
  ⟨0x00100040, 0x4, 8, 0x00000000, [⟨31, 0, .rw, none⟩]⟩]

/-- Registers of the HST_ block (R503), in the order of their offsets. -/
def rowsHst : List RegRow := [
  ⟨0x00200000, 0x4, 1, 0x80000000, [⟨31, 31, .ro, none⟩, ⟨30, 30, .ro, none⟩, ⟨29, 29, .ro, none⟩, ⟨28, 28, .ro, none⟩, ⟨1, 0, .wo, none⟩]⟩,
  ⟨0x00200010, 0x4, 2, 0x00000000, [⟨31, 31, .ro, none⟩, ⟨23, 16, .ro, none⟩, ⟨15, 0, .ro, none⟩]⟩,
  ⟨0x00200020, 0x4, 8, 0x00000000, [⟨31, 0, .ro, none⟩]⟩]

/-- Registers of the RNG_ block (R503), in the order of their offsets. -/
def rowsRng : List RegRow := [
  ⟨0x00300000, 0x20, 32, 0x00000000, [⟨31, 12, .rw, none⟩]⟩,
  ⟨0x00300004, 0x20, 32, 0x00000000, [⟨15, 0, .rw, none⟩]⟩,
  ⟨0x00300008, 0x20, 32, 0x00000000, [⟨31, 6, .rw, none⟩]⟩,
  ⟨0x0030000c, 0x20, 32, 0x00000000, [⟨15, 0, .rw, none⟩]⟩,
  ⟨0x00300010, 0x20, 32, 0x20000006, [⟨31, 31, .rw, none⟩, ⟨30, 30, .rw1c, none⟩, ⟨29, 29, .ro, none⟩, ⟨12, 8, .rw, none⟩, ⟨7, 6, .rw, none⟩, ⟨4, 0, .rw, some (6, 16)⟩]⟩,
  ⟨0x00300014, 0x20, 32, 0x00000000, [⟨31, 0, .ro, none⟩]⟩,
  ⟨0x00301000, 0x20, 32, 0x00000000, [⟨31, 12, .rw, none⟩]⟩,
  ⟨0x00301004, 0x20, 32, 0x00000000, [⟨15, 0, .rw, none⟩]⟩,
  ⟨0x00301008, 0x20, 32, 0x00000000, [⟨31, 6, .rw, none⟩]⟩,
  ⟨0x0030100c, 0x20, 32, 0x00000000, [⟨15, 0, .rw, none⟩]⟩,
  ⟨0x00301010, 0x20, 32, 0x00000006, [⟨31, 31, .rw, none⟩, ⟨30, 30, .rw, none⟩, ⟨29, 24, .rw, none⟩, ⟨23, 16, .rw, none⟩, ⟨15, 8, .rw, none⟩, ⟨4, 0, .rw, some (6, 16)⟩]⟩,
  ⟨0x00302000, 0x8, 256, 0x00000000, [⟨31, 0, .rw, none⟩]⟩,
  ⟨0x00302004, 0x8, 256, 0x00000000, [⟨31, 0, .rw, none⟩]⟩]

/-- Registers of the EVT_ block (R503), in the order of their offsets. -/
def rowsEvt : List RegRow := [
  ⟨0x00400000, 0x4, 1, 0x00000000, [⟨31, 12, .rw, none⟩]⟩,
  ⟨0x00400004, 0x4, 1, 0x00000000, [⟨15, 0, .rw, none⟩]⟩,
  ⟨0x00400008, 0x4, 1, 0x00000000, [⟨31, 6, .rw, none⟩]⟩,
  ⟨0x0040000c, 0x4, 1, 0x00000000, [⟨15, 0, .rw, none⟩]⟩,
  ⟨0x00400010, 0x4, 1, 0x00000006, [⟨31, 31, .rw, none⟩, ⟨30, 30, .rw, none⟩, ⟨29, 24, .rw, none⟩, ⟨4, 0, .rw, some (6, 16)⟩]⟩,
  ⟨0x00400014, 0x4, 1, 0x00000000, [⟨28, 16, .ro, none⟩, ⟨15, 0, .rw1c, none⟩]⟩]

/-- Registers of the CLK_ block (R503), in the order of their offsets. -/
def rowsClk : List RegRow := [
  ⟨0x00500000, 0x4, 1, 0x03050a00, [⟨27, 24, .rwx, some (0, 12)⟩, ⟨23, 16, .rwx, some (2, 20)⟩, ⟨15, 8, .rwx, some (3, 30)⟩, ⟨1, 0, .rw, none⟩]⟩,
  ⟨0x00500010, 0x4, 1, 0x00000000, [⟨29, 20, .rwl, none⟩, ⟨10, 10, .rwl, none⟩, ⟨9, 0, .rwl, none⟩]⟩,
  ⟨0x00500014, 0x4, 1, 0x00000000, [⟨31, 29, .ro, none⟩, ⟨28, 28, .ro, none⟩, ⟨27, 10, .ro, none⟩, ⟨9, 0, .ro, none⟩]⟩,
  ⟨0x00500018, 0x4, 1, 0x00000000, [⟨31, 0, .ro, none⟩]⟩,
  ⟨0x0050001c, 0x4, 1, 0x00000000, [⟨31, 0, .ro, none⟩]⟩,
  ⟨0x00501000, 0x4, 192, 0x00000000, [⟨7, 0, .rwx, some (30, 230)⟩]⟩,
  ⟨0x00502000, 0x4, 432, 0x0000fcf0, [⟨31, 24, .ro, none⟩, ⟨15, 12, .ro, none⟩, ⟨11, 8, .rwx, none⟩, ⟨7, 4, .ro, none⟩, ⟨3, 0, .ro, none⟩]⟩,
  ⟨0x00503000, 0x4, 432, 0x00000000, [⟨31, 0, .ro, none⟩]⟩]

/-- Registers of the PWR_ block (R503), in the order of their offsets. -/
def rowsPwr : List RegRow := [
  ⟨0x00600000, 0x4, 1, 0x0000a000, [⟨23, 19, .rwx, some (0, 31)⟩, ⟨15, 11, .rwx, some (0, 20)⟩, ⟨1, 0, .rw, none⟩]⟩,
  ⟨0x00600004, 0x4, 1, 0x00000000, [⟨31, 31, .ro, none⟩, ⟨30, 30, .ro, none⟩, ⟨9, 6, .ro, none⟩, ⟨5, 5, .ro, none⟩, ⟨4, 4, .ro, none⟩, ⟨3, 3, .ro, none⟩, ⟨2, 2, .ro, none⟩, ⟨1, 1, .ro, none⟩, ⟨0, 0, .ro, none⟩]⟩,
  ⟨0x00600008, 0x4, 1, 0x00000000, [⟨31, 27, .ro, none⟩, ⟨13, 0, .ro, none⟩]⟩,
  ⟨0x00600100, 0x4, 12, 0x00000000, [⟨31, 27, .ro, none⟩, ⟨26, 22, .ro, none⟩, ⟨21, 18, .ro, none⟩, ⟨17, 9, .ro, none⟩, ⟨8, 0, .ro, none⟩]⟩]

/-- Registers of the THM_ block (R503), in the order of their offsets. -/
def rowsThm : List RegRow := [
  ⟨0x00700000, 0x4, 1, 0x585f6200, [⟨31, 24, .rwx, some (75, 94)⟩, ⟨23, 16, .rwx, some (85, 99)⟩, ⟨15, 8, .rwx, some (90, 102)⟩, ⟨1, 0, .rw, none⟩]⟩,
  ⟨0x00700100, 0x4, 32, 0x00000000, [⟨31, 31, .ro, none⟩, ⟨30, 28, .ro, none⟩, ⟨23, 16, .ro, none⟩, ⟨7, 0, .ro, none⟩]⟩,
  ⟨0x00700200, 0x4, 32, 0x00000000, [⟨31, 0, .ro, none⟩]⟩]

/-- Registers of the FAB_ block (R503), in the order of their offsets. -/
def rowsFab : List RegRow := [
  ⟨0x00800000, 0x4, 1, 0x0000000f, [⟨9, 8, .rw, none⟩, ⟨3, 3, .rwx, none⟩, ⟨2, 2, .rwx, none⟩, ⟨1, 1, .rwx, none⟩, ⟨0, 0, .rw, none⟩]⟩,
  ⟨0x00800004, 0x4, 1, 0x14140600, [⟨31, 24, .rwx, some (12, 40)⟩, ⟨23, 16, .rwx, some (8, 40)⟩, ⟨15, 8, .rwx, some (4, 9)⟩]⟩,
  ⟨0x00800100, 0x4, 12, 0x03e8000f, [⟨31, 16, .rwx, some (100, 10000)⟩, ⟨15, 0, .rwx, some (0, 100)⟩]⟩,
  ⟨0x00800200, 0x4, 16, 0x00000000, [⟨31, 0, .ro, none⟩]⟩,
  ⟨0x00800240, 0x4, 16, 0x00000000, [⟨31, 0, .ro, none⟩]⟩,
  ⟨0x00800280, 0x4, 16, 0x00000000, [⟨16, 16, .ro, none⟩, ⟨7, 0, .ro, none⟩]⟩,
  ⟨0x00800400, 0x4, 256, 0x00000000, [⟨31, 31, .ro, none⟩, ⟨17, 16, .ro, none⟩, ⟨12, 8, .ro, none⟩, ⟨4, 0, .ro, none⟩]⟩]

/-- Registers of the LSR_ block (R503), in the order of their offsets. -/
def rowsLsr : List RegRow := [
  ⟨0x00900000, 0x4, 1, 0x05281400, [⟨31, 24, .rwx, some (2, 20)⟩, ⟨23, 16, .rwx, some (20, 60)⟩, ⟨15, 8, .rwx, some (10, 40)⟩, ⟨1, 0, .rw, none⟩]⟩,
  ⟨0x00900100, 0x10, 12, 0x40000000, [⟨31, 31, .ro, none⟩, ⟨30, 28, .ro, none⟩, ⟨27, 27, .ro, none⟩, ⟨26, 26, .ro, none⟩, ⟨25, 25, .ro, none⟩, ⟨24, 24, .ro, none⟩, ⟨3, 3, .rw, none⟩, ⟨2, 0, .wo, none⟩]⟩,
  ⟨0x00900104, 0x10, 12, 0x00000000, [⟨31, 16, .ro, none⟩, ⟨15, 0, .ro, none⟩]⟩,
  ⟨0x00900108, 0x10, 12, 0x00000000, [⟨31, 16, .ro, none⟩, ⟨15, 0, .ro, none⟩]⟩,
  ⟨0x0090010c, 0x10, 12, 0x00000000, [⟨31, 0, .ro, none⟩]⟩]

/-- Registers of the PRT_ block (R503), in the order of their offsets. -/
def rowsPrt : List RegRow := [
  ⟨0x00a00000, 0x4, 1, 0x02e80000, [⟨31, 24, .rwx, some (1, 100)⟩, ⟨23, 20, .rwx, some (9, 15)⟩, ⟨19, 16, .rwx, some (4, 14)⟩, ⟨2, 2, .rwl, none⟩, ⟨1, 0, .rw, none⟩]⟩,
  ⟨0x00a00004, 0x4, 1, 0x00000000, [⟨31, 31, .rwl, none⟩, ⟨25, 10, .ro, none⟩, ⟨9, 5, .rwl, none⟩, ⟨4, 0, .rwl, none⟩]⟩,
  ⟨0x00a00008, 0x4, 1, 0x50144000, [⟨31, 24, .rwx, some (40, 200)⟩, ⟨23, 16, .rwx, some (10, 100)⟩, ⟨15, 12, .rwx, some (1, 8)⟩, ⟨1, 0, .rw, none⟩]⟩,
  ⟨0x00a0000c, 0x4, 1, 0x000a0a10, [⟨23, 16, .rwx, some (1, 100)⟩, ⟨15, 8, .rw, some (1, 255)⟩, ⟨4, 0, .rwx, some (1, 16)⟩]⟩,
  ⟨0x00a00100, 0x4, 24, 0x80000000, [⟨31, 31, .rw, none⟩, ⟨30, 30, .ro, none⟩, ⟨23, 19, .ro, none⟩, ⟨15, 12, .ro, none⟩, ⟨11, 8, .ro, none⟩, ⟨0, 0, .ro, none⟩]⟩,
  ⟨0x00a00200, 0x4, 4, 0x00000000, [⟨31, 16, .ro, none⟩, ⟨15, 0, .ro, none⟩]⟩,
  ⟨0x00a00300, 0x10, 4, 0x00000000, [⟨31, 16, .ro, none⟩, ⟨15, 0, .ro, none⟩]⟩,
  ⟨0x00a00304, 0x10, 4, 0x00000000, [⟨31, 16, .ro, none⟩, ⟨15, 0, .ro, none⟩]⟩,
  ⟨0x00a00308, 0x10, 4, 0x00000000, [⟨31, 16, .ro, none⟩, ⟨15, 0, .ro, none⟩]⟩,
  ⟨0x00a01000, 0x4, 768, 0x00000000, [⟨31, 28, .ro, none⟩, ⟨27, 18, .ro, none⟩, ⟨15, 0, .ro, none⟩]⟩]

/-- Registers of the MEM_ block (R503), in the order of their offsets. -/
def rowsMem : List RegRow := [
  ⟨0x00b00000, 0x4, 1, 0x18030000, [⟨31, 24, .rwx, some (1, 24)⟩, ⟨23, 16, .rwx, some (1, 16)⟩, ⟨1, 0, .rw, none⟩]⟩,
  ⟨0x00b00004, 0x4, 1, 0x00000000, [⟨19, 16, .ro, none⟩, ⟨11, 0, .ro, none⟩]⟩,
  ⟨0x00b00100, 0x4, 12, 0x00000000, [⟨12, 8, .rwl, none⟩, ⟨1, 0, .rwl, none⟩]⟩,
  ⟨0x00b00200, 0x10, 12, 0x00000000, [⟨31, 31, .ro, none⟩, ⟨30, 30, .ro, none⟩, ⟨29, 28, .ro, none⟩, ⟨20, 8, .ro, none⟩, ⟨7, 0, .ro, none⟩]⟩,
  ⟨0x00b00204, 0x10, 12, 0x00000000, [⟨31, 16, .rw, none⟩, ⟨15, 0, .rw, none⟩]⟩,
  ⟨0x00b00208, 0x10, 12, 0x00000000, [⟨31, 0, .ro, none⟩]⟩,
  ⟨0x00b0020c, 0x10, 12, 0x00000000, [⟨31, 31, .rw1c, none⟩, ⟨30, 28, .ro, none⟩, ⟨27, 22, .ro, none⟩, ⟨15, 0, .ro, none⟩]⟩,
  ⟨0x00b01000, 0x10, 256, 0x00000000, [⟨31, 12, .rw, none⟩]⟩,
  ⟨0x00b01004, 0x10, 256, 0x00000000, [⟨9, 0, .rw, none⟩]⟩,
  ⟨0x00b01008, 0x10, 256, 0x00000000, [⟨29, 0, .rw, none⟩]⟩,
  ⟨0x00b0100c, 0x10, 256, 0x00000000, [⟨31, 31, .rw, none⟩, ⟨30, 30, .rw, none⟩, ⟨29, 29, .rw, none⟩, ⟨28, 28, .rw, none⟩, ⟨23, 0, .rw, none⟩]⟩]

/-- Registers of the STK_ block (R503), in the order of their offsets. -/
def rowsStk : List RegRow := [
  ⟨0x00c00000, 0x4, 1, 0x00100100, [⟨23, 16, .rwx, some (1, 255)⟩, ⟨13, 8, .rwx, some (1, 63)⟩, ⟨1, 0, .rw, none⟩]⟩,
  ⟨0x00c00004, 0x4, 1, 0x00000000, [⟨15, 8, .ro, none⟩, ⟨2, 2, .ro, none⟩, ⟨1, 1, .ro, none⟩, ⟨0, 0, .ro, none⟩]⟩,
  ⟨0x00c00100, 0x4, 12, 0x00000000, [⟨15, 15, .rw, none⟩, ⟨9, 5, .rw, some (0, 17)⟩, ⟨4, 0, .rw, some (0, 17)⟩]⟩,
  ⟨0x00c00140, 0x4, 12, 0x00000000, [⟨17, 0, .ro, none⟩]⟩,
  ⟨0x00c00180, 0x4, 12, 0x00000000, [⟨31, 31, .ro, none⟩, ⟨30, 24, .ro, none⟩, ⟨22, 16, .ro, none⟩, ⟨14, 8, .ro, none⟩]⟩,
  ⟨0x00c001c0, 0x4, 16, 0x00000000, [⟨31, 29, .ro, none⟩, ⟨1, 0, .rwx, none⟩]⟩,
  ⟨0x00c00400, 0x8, 33, 0x00000000, [⟨31, 0, .ro, none⟩]⟩,
  ⟨0x00c00404, 0x8, 33, 0x00000000, [⟨31, 29, .ro, none⟩, ⟨23, 16, .ro, none⟩, ⟨15, 8, .ro, none⟩, ⟨7, 0, .ro, none⟩]⟩,
  ⟨0x00c01000, 0x4, 192, 0x00000000, [⟨31, 31, .ro, none⟩, ⟨4, 0, .ro, none⟩]⟩,
  ⟨0x00c02000, 0x4, 1536, 0x00000000, [⟨31, 30, .ro, none⟩, ⟨29, 29, .ro, none⟩, ⟨28, 28, .ro, none⟩, ⟨27, 25, .ro, none⟩, ⟨15, 0, .ro, none⟩]⟩]

/-- Registers of the BRT_ block (R503), in the order of their offsets. -/
def rowsBrt : List RegRow := [
  ⟨0x00d00000, 0x4, 1, 0x00000000, [⟨8, 8, .ro, none⟩, ⟨1, 0, .ro, none⟩]⟩,
  ⟨0x00d00100, 0x4, 12, 0x00000000, [⟨21, 0, .ro, none⟩]⟩]

/-- Registers of the MOR_ block (R503), in the order of their offsets. -/
def rowsMor : List RegRow := [
  ⟨0x00e00000, 0x4, 1, 0x00000000, [⟨22, 0, .ro, none⟩]⟩,
  ⟨0x00e00004, 0x4, 1, 0x00000000, [⟨22, 0, .ro, none⟩]⟩,
  ⟨0x00e00008, 0x4, 1, 0x00000000, [⟨31, 0, .ro, none⟩]⟩,
  ⟨0x00e00100, 0x4, 16, 0x00000000, [⟨22, 0, .ro, none⟩]⟩]

/-- Registers of the LVS_ block (R503), in the order of their offsets. -/
def rowsLvs : List RegRow := [
  ⟨0x00f00000, 0x4, 1, 0x00000000, [⟨9, 0, .rw, none⟩]⟩,
  ⟨0x00f00004, 0x4, 1, 0x00000000, [⟨31, 29, .ro, none⟩, ⟨25, 16, .ro, none⟩, ⟨15, 0, .ro, none⟩]⟩,
  ⟨0x00f00008, 0x4, 1, 0x00000000, [⟨31, 12, .rw, none⟩]⟩,
  ⟨0x00f0000c, 0x4, 1, 0x00000000, [⟨9, 0, .rw, none⟩]⟩]

/-- Registers of the SEC_ block (R503), in the order of their offsets. -/
def rowsSec : List RegRow := [
  ⟨0x01000000, 0x4, 1, 0x00000000, [⟨31, 31, .ro, none⟩, ⟨30, 24, .ro, none⟩, ⟨20, 0, .ro, none⟩]⟩,
  ⟨0x01000010, 0x4, 4, 0x00000000, [⟨31, 0, .ro, none⟩]⟩]

/-- Registers of the FWU_ block (R503), in the order of their offsets. -/
def rowsFwu : List RegRow := [
  ⟨0x01100000, 0x4, 1, 0x03e83c00, [⟨31, 16, .rwx, some (1, 16000)⟩, ⟨15, 8, .rwx, some (10, 255)⟩, ⟨1, 0, .rw, none⟩]⟩,
  ⟨0x01100004, 0x4, 1, 0x0064001e, [⟨31, 16, .rwx, some (1, 10000)⟩, ⟨7, 0, .rwx, some (10, 255)⟩]⟩,
  ⟨0x01100008, 0x4, 1, 0x00000000, [⟨31, 0, .rw, none⟩]⟩,
  ⟨0x0110000c, 0x4, 1, 0x00000000, [⟨31, 0, .rw, none⟩]⟩,
  ⟨0x01100010, 0x4, 1, 0x00000000, [⟨2, 0, .wo, none⟩]⟩,
  ⟨0x01100014, 0x4, 1, 0x00000000, [⟨31, 12, .rw, none⟩]⟩,
  ⟨0x01100018, 0x4, 1, 0x00000000, [⟨9, 0, .rw, none⟩]⟩,
  ⟨0x0110001c, 0x4, 1, 0x0000001f, [⟨4, 0, .rw, none⟩]⟩,
  ⟨0x01100020, 0x4, 1, 0x00000000, [⟨31, 29, .ro, none⟩, ⟨28, 25, .ro, none⟩, ⟨24, 23, .ro, none⟩, ⟨22, 21, .ro, none⟩, ⟨20, 20, .ro, none⟩, ⟨19, 19, .ro, none⟩, ⟨18, 9, .ro, none⟩, ⟨8, 0, .ro, none⟩]⟩,
  ⟨0x01100024, 0x4, 1, 0x00000000, [⟨31, 0, .ro, none⟩]⟩,
  ⟨0x01100028, 0x4, 1, 0x00000000, [⟨31, 0, .ro, none⟩]⟩]

/-- Registers of the MON_ block (R503), in the order of their offsets. -/
def rowsMon : List RegRow := [
  ⟨0x01200000, 0x4, 1, 0x00000000, [⟨0, 0, .rwl, none⟩]⟩,
  ⟨0x01200004, 0x4, 1, 0x00000000, [⟨31, 31, .ro, none⟩, ⟨30, 30, .ro, none⟩, ⟨15, 0, .ro, none⟩]⟩]

/-- The rows of the 1 MiB block k (R502). -/
def blockRows : Nat → List RegRow
  | 0 => rowsGlb
  | 1 => rowsNeg
  | 2 => rowsHst
  | 3 => rowsRng
  | 4 => rowsEvt
  | 5 => rowsClk
  | 6 => rowsPwr
  | 7 => rowsThm
  | 8 => rowsFab
  | 9 => rowsLsr
  | 10 => rowsPrt
  | 11 => rowsMem
  | 12 => rowsStk
  | 13 => rowsBrt
  | 14 => rowsMor
  | 15 => rowsLvs
  | 16 => rowsSec
  | 17 => rowsFwu
  | 18 => rowsMon
  | _ => []

/-- Whether the row holds the register at this BAR0 offset. -/
def RegRow.covers (r : RegRow) (off : Nat) : Bool :=
  r.base ≤ off && (off - r.base) % r.stride == 0 && (off - r.base) / r.stride < r.count

/-- The row of the register at a BAR0 offset; none where no register stands (R499). -/
def regRow (off : Nat) : Option RegRow := (blockRows (off / 0x100000)).find? (·.covers off)

/-- Default frequency table of R372 in units of 10 MHz. -/
def defaultFreq : List Nat :=
  [0x3C, 0x50, 0x64, 0x6E, 0x78, 0x82, 0x8C, 0x96, 0xA0, 0xAA, 0xB4, 0xBE, 0xC8, 0xD2, 0xDC, 0xE6]

/-- The word a register holds after a cold or warm reset (R507): its table's reset values; CLK_FTAB_x the default
frequency table of R372; 0 where no register stands. -/
def regReset (off : Nat) : Word :=
  if 0x501000 ≤ off ∧ off < 0x501300 ∧ off % 4 = 0 then BitVec.ofNat 32 (defaultFreq.getD ((off - 0x501000) / 4 % 16) 0)
  else BitVec.ofNat 32 (((regRow off).map (·.reset)).getD 0)

end Sys2Proof.Machine

/-! Named fields, one per row of the manual's field tables. -/
namespace Sys2Proof.Machine.F

/-- DONE of GLB_START, bits [31:31], RO. -/
abbrev GLB_START_DONE : Fld := ⟨0x00000000, 0x4, 31, 31⟩
/-- FAILED of GLB_START, bits [30:30], RO. -/
abbrev GLB_START_FAILED : Fld := ⟨0x00000000, 0x4, 30, 30⟩
/-- STEP of GLB_START, bits [29:26], RO. -/
abbrev GLB_START_STEP : Fld := ⟨0x00000000, 0x4, 29, 26⟩
/-- DEGRADED of GLB_START, bits [23:12], RO. -/
abbrev GLB_START_DEGRADED : Fld := ⟨0x00000000, 0x4, 23, 12⟩
/-- WARM of GLB_START, bits [11:11], RO. -/
abbrev GLB_START_WARM : Fld := ⟨0x00000000, 0x4, 11, 11⟩
/-- CAUSE of GLB_RESET, bits [31:28], RO. -/
abbrev GLB_RESET_CAUSE : Fld := ⟨0x00000004, 0x4, 31, 28⟩
/-- CMD of GLB_RESET, bits [1:0], RWX. -/
abbrev GLB_RESET_CMD : Fld := ⟨0x00000004, 0x4, 1, 0⟩
/-- DONE of GLB_SETUP_DONE, bits [0:0], RWL. -/
abbrev GLB_SETUP_DONE_DONE : Fld := ⟨0x00000008, 0x4, 0, 0⟩
/-- UNLOCKED of GLB_EXPERT, bits [31:31], RO. -/
abbrev GLB_EXPERT_UNLOCKED : Fld := ⟨0x0000000c, 0x4, 31, 31⟩
/-- DENY of GLB_EXPERT, bits [30:30], RWL. -/
abbrev GLB_EXPERT_DENY : Fld := ⟨0x0000000c, 0x4, 30, 30⟩
/-- DENIED of GLB_EXPERT, bits [23:16], RO. -/
abbrev GLB_EXPERT_DENIED : Fld := ⟨0x0000000c, 0x4, 23, 16⟩
/-- KEY of GLB_EXPERT, bits [15:0], WO. -/
abbrev GLB_EXPERT_KEY : Fld := ⟨0x0000000c, 0x4, 15, 0⟩
/-- LEVEL of GLB_DEGRADED, bits [15:12], RO. -/
abbrev GLB_DEGRADED_LEVEL : Fld := ⟨0x00000010, 0x4, 15, 12⟩
/-- CONDITIONS of GLB_DEGRADED, bits [11:0], RO. -/
abbrev GLB_DEGRADED_CONDITIONS : Fld := ⟨0x00000010, 0x4, 11, 0⟩
/-- PERIOD of GLB_CAL_CTRL, bits [23:16], RWX. -/
abbrev GLB_CAL_CTRL_PERIOD : Fld := ⟨0x00000014, 0x4, 23, 16⟩
/-- PRESET of GLB_CAL_CTRL, bits [1:0], RW. -/
abbrev GLB_CAL_CTRL_PRESET : Fld := ⟨0x00000014, 0x4, 1, 0⟩
/-- THIRD_RUNS of GLB_CAL_STATUS, bits [31:16], RO. -/
abbrev GLB_CAL_STATUS_THIRD_RUNS : Fld := ⟨0x00000018, 0x4, 31, 16⟩
/-- CONDEMNED of GLB_CAL_STATUS, bits [15:0], RO. -/
abbrev GLB_CAL_STATUS_CONDEMNED : Fld := ⟨0x00000018, 0x4, 15, 0⟩
/-- STATE of GLB_INV_i, bits [31:30], RO. -/
abbrev GLB_INV_STATE : Fld := ⟨0x00000100, 0x4, 31, 30⟩
/-- STRAP_OK of GLB_INV_i, bits [29:29], RO. -/
abbrev GLB_INV_STRAP_OK : Fld := ⟨0x00000100, 0x4, 29, 29⟩
/-- CAUSE of GLB_INV_i, bits [27:24], RO. -/
abbrev GLB_INV_CAUSE : Fld := ⟨0x00000100, 0x4, 27, 24⟩
/-- STRAP of GLB_INV_i, bits [7:0], RO. -/
abbrev GLB_INV_STRAP : Fld := ⟨0x00000100, 0x4, 7, 0⟩
/-- MAJOR of NEG_VERSION, bits [15:8], RO. -/
abbrev NEG_VERSION_MAJOR : Fld := ⟨0x00100000, 0x4, 15, 8⟩
/-- MINOR of NEG_VERSION, bits [7:0], RO. -/
abbrev NEG_VERSION_MINOR : Fld := ⟨0x00100000, 0x4, 7, 0⟩
/-- COMMITTED of NEG_CTRL, bits [31:31], RO. -/
abbrev NEG_CTRL_COMMITTED : Fld := ⟨0x00100004, 0x4, 31, 31⟩
/-- MISMATCH of NEG_CTRL, bits [30:30], RO. -/
abbrev NEG_CTRL_MISMATCH : Fld := ⟨0x00100004, 0x4, 30, 30⟩
/-- DRIVER_MAJOR of NEG_CTRL, bits [15:8], RW. -/
abbrev NEG_CTRL_DRIVER_MAJOR : Fld := ⟨0x00100004, 0x4, 15, 8⟩
/-- COMMIT of NEG_CTRL, bits [0:0], WO. -/
abbrev NEG_CTRL_COMMIT : Fld := ⟨0x00100004, 0x4, 0, 0⟩
/-- OFFER of NEG_OFFER_i, bits [31:0], RO. -/
abbrev NEG_OFFER_OFFER : Fld := ⟨0x00100020, 0x4, 31, 0⟩
/-- ACCEPT of NEG_ACCEPT_i, bits [31:0], RW. -/
abbrev NEG_ACCEPT_ACCEPT : Fld := ⟨0x00100040, 0x4, 31, 0⟩
/-- HOST_ABSENT of HST_CTRL, bits [31:31], RO. -/
abbrev HST_CTRL_HOST_ABSENT : Fld := ⟨0x00200000, 0x4, 31, 31⟩
/-- B_READY of HST_CTRL, bits [30:30], RO. -/
abbrev HST_CTRL_B_READY : Fld := ⟨0x00200000, 0x4, 30, 30⟩
/-- A_READY of HST_CTRL, bits [29:29], RO. -/
abbrev HST_CTRL_A_READY : Fld := ⟨0x00200000, 0x4, 29, 29⟩
/-- ACTIVE of HST_CTRL, bits [28:28], RO. -/
abbrev HST_CTRL_ACTIVE : Fld := ⟨0x00200000, 0x4, 28, 28⟩
/-- CMD of HST_CTRL, bits [1:0], WO. -/
abbrev HST_CTRL_CMD : Fld := ⟨0x00200000, 0x4, 1, 0⟩
/-- LINK_UP of HST_PORT_i, bits [31:31], RO. -/
abbrev HST_PORT_LINK_UP : Fld := ⟨0x00200010, 0x4, 31, 31⟩
/-- REPAIRED of HST_PORT_i, bits [23:16], RO. -/
abbrev HST_PORT_REPAIRED : Fld := ⟨0x00200010, 0x4, 23, 16⟩
/-- DROPPED of HST_PORT_i, bits [15:0], RO. -/
abbrev HST_PORT_DROPPED : Fld := ⟨0x00200010, 0x4, 15, 0⟩
/-- DIGEST of HST_BOOT_MEAS_i, bits [31:0], RO. -/
abbrev HST_BOOT_MEAS_DIGEST : Fld := ⟨0x00200020, 0x4, 31, 0⟩
/-- BASE_LO of RNG_CMD_BASE_LO_i, bits [31:12], RW. -/
abbrev RNG_CMD_BASE_LO_BASE_LO : Fld := ⟨0x00300000, 0x20, 31, 12⟩
/-- BASE_HI of RNG_CMD_BASE_HI_i, bits [15:0], RW. -/
abbrev RNG_CMD_BASE_HI_BASE_HI : Fld := ⟨0x00300004, 0x20, 15, 0⟩
/-- WATCH_LO of RNG_CMD_WATCH_LO_i, bits [31:6], RW. -/
abbrev RNG_CMD_WATCH_LO_WATCH_LO : Fld := ⟨0x00300008, 0x20, 31, 6⟩
/-- WATCH_HI of RNG_CMD_WATCH_HI_i, bits [15:0], RW. -/
abbrev RNG_CMD_WATCH_HI_WATCH_HI : Fld := ⟨0x0030000c, 0x20, 15, 0⟩
/-- ENABLE of RNG_CMD_CFG_i, bits [31:31], RW. -/
abbrev RNG_CMD_CFG_ENABLE : Fld := ⟨0x00300010, 0x20, 31, 31⟩
/-- ERROR of RNG_CMD_CFG_i, bits [30:30], RW1C. -/
abbrev RNG_CMD_CFG_ERROR : Fld := ⟨0x00300010, 0x20, 30, 30⟩
/-- IDLE of RNG_CMD_CFG_i, bits [29:29], RO. -/
abbrev RNG_CMD_CFG_IDLE : Fld := ⟨0x00300010, 0x20, 29, 29⟩
/-- CQ of RNG_CMD_CFG_i, bits [12:8], RW. -/
abbrev RNG_CMD_CFG_CQ : Fld := ⟨0x00300010, 0x20, 12, 8⟩
/-- CLASS of RNG_CMD_CFG_i, bits [7:6], RW. -/
abbrev RNG_CMD_CFG_CLASS : Fld := ⟨0x00300010, 0x20, 7, 6⟩
/-- SIZE of RNG_CMD_CFG_i, bits [4:0], RW. -/
abbrev RNG_CMD_CFG_SIZE : Fld := ⟨0x00300010, 0x20, 4, 0⟩
/-- F of RNG_CMD_FETCH_i, bits [31:0], RO. -/
abbrev RNG_CMD_FETCH_F : Fld := ⟨0x00300014, 0x20, 31, 0⟩
/-- BASE_LO of RNG_CQ_BASE_LO_i, bits [31:12], RW. -/
abbrev RNG_CQ_BASE_LO_BASE_LO : Fld := ⟨0x00301000, 0x20, 31, 12⟩
/-- BASE_HI of RNG_CQ_BASE_HI_i, bits [15:0], RW. -/
abbrev RNG_CQ_BASE_HI_BASE_HI : Fld := ⟨0x00301004, 0x20, 15, 0⟩
/-- HEAD_LO of RNG_CQ_HEAD_LO_i, bits [31:6], RW. -/
abbrev RNG_CQ_HEAD_LO_HEAD_LO : Fld := ⟨0x00301008, 0x20, 31, 6⟩
/-- HEAD_HI of RNG_CQ_HEAD_HI_i, bits [15:0], RW. -/
abbrev RNG_CQ_HEAD_HI_HEAD_HI : Fld := ⟨0x0030100c, 0x20, 15, 0⟩
/-- ENABLE of RNG_CQ_CFG_i, bits [31:31], RW. -/
abbrev RNG_CQ_CFG_ENABLE : Fld := ⟨0x00301010, 0x20, 31, 31⟩
/-- MSIX_EN of RNG_CQ_CFG_i, bits [30:30], RW. -/
abbrev RNG_CQ_CFG_MSIX_EN : Fld := ⟨0x00301010, 0x20, 30, 30⟩
/-- VECTOR of RNG_CQ_CFG_i, bits [29:24], RW. -/
abbrev RNG_CQ_CFG_VECTOR : Fld := ⟨0x00301010, 0x20, 29, 24⟩
/-- COAL_COUNT of RNG_CQ_CFG_i, bits [23:16], RW. -/
abbrev RNG_CQ_CFG_COAL_COUNT : Fld := ⟨0x00301010, 0x20, 23, 16⟩
/-- COAL_US of RNG_CQ_CFG_i, bits [15:8], RW. -/
abbrev RNG_CQ_CFG_COAL_US : Fld := ⟨0x00301010, 0x20, 15, 8⟩
/-- SIZE of RNG_CQ_CFG_i, bits [4:0], RW. -/
abbrev RNG_CQ_CFG_SIZE : Fld := ⟨0x00301010, 0x20, 4, 0⟩
/-- VALUE of RNG_CTR_LO_i, bits [31:0], RW. -/
abbrev RNG_CTR_LO_VALUE : Fld := ⟨0x00302000, 0x8, 31, 0⟩
/-- VALUE of RNG_CTR_HI_i, bits [31:0], RW. -/
abbrev RNG_CTR_HI_VALUE : Fld := ⟨0x00302004, 0x8, 31, 0⟩
/-- BASE_LO of EVT_BASE_LO, bits [31:12], RW. -/
abbrev EVT_BASE_LO_BASE_LO : Fld := ⟨0x00400000, 0x4, 31, 12⟩
/-- BASE_HI of EVT_BASE_HI, bits [15:0], RW. -/
abbrev EVT_BASE_HI_BASE_HI : Fld := ⟨0x00400004, 0x4, 15, 0⟩
/-- HEAD_LO of EVT_HEAD_LO, bits [31:6], RW. -/
abbrev EVT_HEAD_LO_HEAD_LO : Fld := ⟨0x00400008, 0x4, 31, 6⟩
/-- HEAD_HI of EVT_HEAD_HI, bits [15:0], RW. -/
abbrev EVT_HEAD_HI_HEAD_HI : Fld := ⟨0x0040000c, 0x4, 15, 0⟩
/-- ENABLE of EVT_CFG, bits [31:31], RW. -/
abbrev EVT_CFG_ENABLE : Fld := ⟨0x00400010, 0x4, 31, 31⟩
/-- MSIX_EN of EVT_CFG, bits [30:30], RW. -/
abbrev EVT_CFG_MSIX_EN : Fld := ⟨0x00400010, 0x4, 30, 30⟩
/-- VECTOR of EVT_CFG, bits [29:24], RW. -/
abbrev EVT_CFG_VECTOR : Fld := ⟨0x00400010, 0x4, 29, 24⟩
/-- SIZE of EVT_CFG, bits [4:0], RW. -/
abbrev EVT_CFG_SIZE : Fld := ⟨0x00400010, 0x4, 4, 0⟩
/-- BUFFERED of EVT_STATUS, bits [28:16], RO. -/
abbrev EVT_STATUS_BUFFERED : Fld := ⟨0x00400014, 0x4, 28, 16⟩
/-- DROPPED of EVT_STATUS, bits [15:0], RW1C. -/
abbrev EVT_STATUS_DROPPED : Fld := ⟨0x00400014, 0x4, 15, 0⟩
/-- FLOOR of CLK_CTRL, bits [27:24], RWX. -/
abbrev CLK_CTRL_FLOOR : Fld := ⟨0x00500000, 0x4, 27, 24⟩
/-- CRIT of CLK_CTRL, bits [23:16], RWX. -/
abbrev CLK_CTRL_CRIT : Fld := ⟨0x00500000, 0x4, 23, 16⟩
/-- WARN of CLK_CTRL, bits [15:8], RWX. -/
abbrev CLK_CTRL_WARN : Fld := ⟨0x00500000, 0x4, 15, 8⟩
/-- PRESET of CLK_CTRL, bits [1:0], RW. -/
abbrev CLK_CTRL_PRESET : Fld := ⟨0x00500000, 0x4, 1, 0⟩
/-- ROOT2 of CLK_BT_CTRL, bits [29:20], RWL. -/
abbrev CLK_BT_CTRL_ROOT2 : Fld := ⟨0x00500010, 0x4, 29, 20⟩
/-- PPS_EN of CLK_BT_CTRL, bits [10:10], RWL. -/
abbrev CLK_BT_CTRL_PPS_EN : Fld := ⟨0x00500010, 0x4, 10, 10⟩
/-- ROOT of CLK_BT_CTRL, bits [9:0], RWL. -/
abbrev CLK_BT_CTRL_ROOT : Fld := ⟨0x00500010, 0x4, 9, 0⟩
/-- STATE of CLK_BT_STATUS, bits [31:29], RO. -/
abbrev CLK_BT_STATUS_STATE : Fld := ⟨0x00500014, 0x4, 31, 29⟩
/-- GEN of CLK_BT_STATUS, bits [28:28], RO. -/
abbrev CLK_BT_STATUS_GEN : Fld := ⟨0x00500014, 0x4, 28, 28⟩
/-- OFFSET of CLK_BT_STATUS, bits [27:10], RO. -/
abbrev CLK_BT_STATUS_OFFSET : Fld := ⟨0x00500014, 0x4, 27, 10⟩
/-- PARENT of CLK_BT_STATUS, bits [9:0], RO. -/
abbrev CLK_BT_STATUS_PARENT : Fld := ⟨0x00500014, 0x4, 9, 0⟩
/-- BT_LO of CLK_BT_LO, bits [31:0], RO. -/
abbrev CLK_BT_LO_BT_LO : Fld := ⟨0x00500018, 0x4, 31, 0⟩
/-- BT_HI of CLK_BT_HI, bits [31:0], RO. -/
abbrev CLK_BT_HI_BT_HI : Fld := ⟨0x0050001c, 0x4, 31, 0⟩
/-- FREQ of CLK_FTAB_i, bits [7:0], RWX. -/
abbrev CLK_FTAB_FREQ : Fld := ⟨0x00501000, 0x4, 7, 0⟩
/-- MARGIN of CLK_ISL_i, bits [31:24], RO. -/
abbrev CLK_ISL_MARGIN : Fld := ⟨0x00502000, 0x4, 31, 24⟩
/-- MCAP of CLK_ISL_i, bits [15:12], RO. -/
abbrev CLK_ISL_MCAP : Fld := ⟨0x00502000, 0x4, 15, 12⟩
/-- TARGET of CLK_ISL_i, bits [11:8], RWX. -/
abbrev CLK_ISL_TARGET : Fld := ⟨0x00502000, 0x4, 11, 8⟩
/-- PCAP of CLK_ISL_i, bits [7:4], RO. -/
abbrev CLK_ISL_PCAP : Fld := ⟨0x00502000, 0x4, 7, 4⟩
/-- STEP of CLK_ISL_i, bits [3:0], RO. -/
abbrev CLK_ISL_STEP : Fld := ⟨0x00502000, 0x4, 3, 0⟩
/-- COUNT of CLK_STRETCH_i, bits [31:0], RO. -/
abbrev CLK_STRETCH_COUNT : Fld := ⟨0x00503000, 0x4, 31, 0⟩
/-- PKG_STEP of PWR_CTRL, bits [23:19], RWX. -/
abbrev PWR_CTRL_PKG_STEP : Fld := ⟨0x00600000, 0x4, 23, 19⟩
/-- MIN_STEP of PWR_CTRL, bits [15:11], RWX. -/
abbrev PWR_CTRL_MIN_STEP : Fld := ⟨0x00600000, 0x4, 15, 11⟩
/-- PRESET of PWR_CTRL, bits [1:0], RW. -/
abbrev PWR_CTRL_PRESET : Fld := ⟨0x00600000, 0x4, 1, 0⟩
/-- BROWNOUT of PWR_FEED, bits [31:31], RO. -/
abbrev PWR_FEED_BROWNOUT : Fld := ⟨0x00600004, 0x4, 31, 31⟩
/-- DIP of PWR_FEED, bits [30:30], RO. -/
abbrev PWR_FEED_DIP : Fld := ⟨0x00600004, 0x4, 30, 30⟩
/-- HBM_OK of PWR_FEED, bits [9:6], RO. -/
abbrev PWR_FEED_HBM_OK : Fld := ⟨0x00600004, 0x4, 9, 6⟩
/-- VHOST_B_OK of PWR_FEED, bits [5:5], RO. -/
abbrev PWR_FEED_VHOST_B_OK : Fld := ⟨0x00600004, 0x4, 5, 5⟩
/-- VHOST_A_OK of PWR_FEED, bits [4:4], RO. -/
abbrev PWR_FEED_VHOST_A_OK : Fld := ⟨0x00600004, 0x4, 4, 4⟩
/-- VPH_B_OK of PWR_FEED, bits [3:3], RO. -/
abbrev PWR_FEED_VPH_B_OK : Fld := ⟨0x00600004, 0x4, 3, 3⟩
/-- VPH_A_OK of PWR_FEED, bits [2:2], RO. -/
abbrev PWR_FEED_VPH_A_OK : Fld := ⟨0x00600004, 0x4, 2, 2⟩
/-- VIN_B_OK of PWR_FEED, bits [1:1], RO. -/
abbrev PWR_FEED_VIN_B_OK : Fld := ⟨0x00600004, 0x4, 1, 1⟩
/-- VIN_A_OK of PWR_FEED, bits [0:0], RO. -/
abbrev PWR_FEED_VIN_A_OK : Fld := ⟨0x00600004, 0x4, 0, 0⟩
/-- STEP of PWR_PKG, bits [31:27], RO. -/
abbrev PWR_PKG_STEP : Fld := ⟨0x00600008, 0x4, 31, 27⟩
/-- POWER of PWR_PKG, bits [13:0], RO. -/
abbrev PWR_PKG_POWER : Fld := ⟨0x00600008, 0x4, 13, 0⟩
/-- ILIM_STEP of PWR_DIE_i, bits [31:27], RO. -/
abbrev PWR_DIE_ILIM_STEP : Fld := ⟨0x00600100, 0x4, 31, 27⟩
/-- PHASES of PWR_DIE_i, bits [26:22], RO. -/
abbrev PWR_DIE_PHASES : Fld := ⟨0x00600100, 0x4, 26, 22⟩
/-- SOURCE of PWR_DIE_i, bits [21:18], RO. -/
abbrev PWR_DIE_SOURCE : Fld := ⟨0x00600100, 0x4, 21, 18⟩
/-- CURRENT of PWR_DIE_i, bits [17:9], RO. -/
abbrev PWR_DIE_CURRENT : Fld := ⟨0x00600100, 0x4, 17, 9⟩
/-- POWER of PWR_DIE_i, bits [8:0], RO. -/
abbrev PWR_DIE_POWER : Fld := ⟨0x00600100, 0x4, 8, 0⟩
/-- TJ_TARGET of THM_CTRL, bits [31:24], RWX. -/
abbrev THM_CTRL_TJ_TARGET : Fld := ⟨0x00700000, 0x4, 31, 24⟩
/-- CACHE_CAP of THM_CTRL, bits [23:16], RWX. -/
abbrev THM_CTRL_CACHE_CAP : Fld := ⟨0x00700000, 0x4, 23, 16⟩
/-- HBM_CAP of THM_CTRL, bits [15:8], RWX. -/
abbrev THM_CTRL_HBM_CAP : Fld := ⟨0x00700000, 0x4, 15, 8⟩
/-- PRESET of THM_CTRL, bits [1:0], RW. -/
abbrev THM_CTRL_PRESET : Fld := ⟨0x00700000, 0x4, 1, 0⟩
/-- BROKEN of THM_DIE_i, bits [31:31], RO. -/
abbrev THM_DIE_BROKEN : Fld := ⟨0x00700100, 0x4, 31, 31⟩
/-- BAND of THM_DIE_i, bits [30:28], RO. -/
abbrev THM_DIE_BAND : Fld := ⟨0x00700100, 0x4, 30, 28⟩
/-- RATE of THM_DIE_i, bits [23:16], RO. -/
abbrev THM_DIE_RATE : Fld := ⟨0x00700100, 0x4, 23, 16⟩
/-- TEMP of THM_DIE_i, bits [7:0], RO. -/
abbrev THM_DIE_TEMP : Fld := ⟨0x00700100, 0x4, 7, 0⟩
/-- PAIRS of THM_BROKEN_i, bits [31:0], RO. -/
abbrev THM_BROKEN_PAIRS : Fld := ⟨0x00700200, 0x4, 31, 0⟩
/-- LOCK_PRESET of FAB_CTRL, bits [9:8], RW. -/
abbrev FAB_CTRL_LOCK_PRESET : Fld := ⟨0x00800000, 0x4, 9, 8⟩
/-- FF_ENABLE of FAB_CTRL, bits [3:3], RWX. -/
abbrev FAB_CTRL_FF_ENABLE : Fld := ⟨0x00800000, 0x4, 3, 3⟩
/-- SPARE_ENABLE of FAB_CTRL, bits [2:2], RWX. -/
abbrev FAB_CTRL_SPARE_ENABLE : Fld := ⟨0x00800000, 0x4, 2, 2⟩
/-- RESERVE_ENABLE of FAB_CTRL, bits [1:1], RWX. -/
abbrev FAB_CTRL_RESERVE_ENABLE : Fld := ⟨0x00800000, 0x4, 1, 1⟩
/-- MCAST_ENABLE of FAB_CTRL, bits [0:0], RW. -/
abbrev FAB_CTRL_MCAST_ENABLE : Fld := ⟨0x00800000, 0x4, 0, 0⟩
/-- DETUNE of FAB_QTHR, bits [31:24], RWX. -/
abbrev FAB_QTHR_DETUNE : Fld := ⟨0x00800004, 0x4, 31, 24⟩
/-- EYE of FAB_QTHR, bits [23:16], RWX. -/
abbrev FAB_QTHR_EYE : Fld := ⟨0x00800004, 0x4, 23, 16⟩
/-- BER of FAB_QTHR, bits [15:8], RWX. -/
abbrev FAB_QTHR_BER : Fld := ⟨0x00800004, 0x4, 15, 8⟩
/-- TAU of FAB_FF_i, bits [31:16], RWX. -/
abbrev FAB_FF_TAU : Fld := ⟨0x00800100, 0x4, 31, 16⟩
/-- GAIN of FAB_FF_i, bits [15:0], RWX. -/
abbrev FAB_FF_GAIN : Fld := ⟨0x00800100, 0x4, 15, 0⟩
/-- USED of FAB_SPARE_TX_i, bits [31:0], RO. -/
abbrev FAB_SPARE_TX_USED : Fld := ⟨0x00800200, 0x4, 31, 0⟩
/-- USED of FAB_SPARE_RX_i, bits [31:0], RO. -/
abbrev FAB_SPARE_RX_USED : Fld := ⟨0x00800240, 0x4, 31, 0⟩
/-- LOW of FAB_HEADROOM_i, bits [16:16], RO. -/
abbrev FAB_HEADROOM_LOW : Fld := ⟨0x00800280, 0x4, 16, 16⟩
/-- HEADROOM of FAB_HEADROOM_i, bits [7:0], RO. -/
abbrev FAB_HEADROOM_HEADROOM : Fld := ⟨0x00800280, 0x4, 7, 0⟩
/-- UP of FAB_PAIR_i, bits [31:31], RO. -/
abbrev FAB_PAIR_UP : Fld := ⟨0x00800400, 0x4, 31, 31⟩
/-- RESERVE_USED of FAB_PAIR_i, bits [17:16], RO. -/
abbrev FAB_PAIR_RESERVE_USED : Fld := ⟨0x00800400, 0x4, 17, 16⟩
/-- SHORT of FAB_PAIR_i, bits [12:8], RO. -/
abbrev FAB_PAIR_SHORT : Fld := ⟨0x00800400, 0x4, 12, 8⟩
/-- LANES of FAB_PAIR_i, bits [4:0], RO. -/
abbrev FAB_PAIR_LANES : Fld := ⟨0x00800400, 0x4, 4, 0⟩
/-- FADE of LSR_CTRL, bits [31:24], RWX. -/
abbrev LSR_CTRL_FADE : Fld := ⟨0x00900000, 0x4, 31, 24⟩
/-- SW of LSR_CTRL, bits [23:16], RWX. -/
abbrev LSR_CTRL_SW : Fld := ⟨0x00900000, 0x4, 23, 16⟩
/-- ADV of LSR_CTRL, bits [15:8], RWX. -/
abbrev LSR_CTRL_ADV : Fld := ⟨0x00900000, 0x4, 15, 8⟩
/-- PRESET of LSR_CTRL, bits [1:0], RW. -/
abbrev LSR_CTRL_PRESET : Fld := ⟨0x00900000, 0x4, 1, 0⟩
/-- PRESENT of LSR_MOD_i, bits [31:31], RO. -/
abbrev LSR_MOD_PRESENT : Fld := ⟨0x00900100, 0x10, 31, 31⟩
/-- STATE of LSR_MOD_i, bits [30:28], RO. -/
abbrev LSR_MOD_STATE : Fld := ⟨0x00900100, 0x10, 30, 28⟩
/-- ACTIVE of LSR_MOD_i, bits [27:27], RO. -/
abbrev LSR_MOD_ACTIVE : Fld := ⟨0x00900100, 0x10, 27, 27⟩
/-- A_READY of LSR_MOD_i, bits [26:26], RO. -/
abbrev LSR_MOD_A_READY : Fld := ⟨0x00900100, 0x10, 26, 26⟩
/-- B_READY of LSR_MOD_i, bits [25:25], RO. -/
abbrev LSR_MOD_B_READY : Fld := ⟨0x00900100, 0x10, 25, 25⟩
/-- REMOVE_OK of LSR_MOD_i, bits [24:24], RO. -/
abbrev LSR_MOD_REMOVE_OK : Fld := ⟨0x00900100, 0x10, 24, 24⟩
/-- PREFER of LSR_MOD_i, bits [3:3], RW. -/
abbrev LSR_MOD_PREFER : Fld := ⟨0x00900100, 0x10, 3, 3⟩
/-- CMD of LSR_MOD_i, bits [2:0], WO. -/
abbrev LSR_MOD_CMD : Fld := ⟨0x00900100, 0x10, 2, 0⟩
/-- B_DELTA of LSR_LEVEL_i, bits [31:16], RO. -/
abbrev LSR_LEVEL_B_DELTA : Fld := ⟨0x00900104, 0x10, 31, 16⟩
/-- A_DELTA of LSR_LEVEL_i, bits [15:0], RO. -/
abbrev LSR_LEVEL_A_DELTA : Fld := ⟨0x00900104, 0x10, 15, 0⟩
/-- B_P0 of LSR_P0_i, bits [31:16], RO. -/
abbrev LSR_P0_B_P0 : Fld := ⟨0x00900108, 0x10, 31, 16⟩
/-- A_P0 of LSR_P0_i, bits [15:0], RO. -/
abbrev LSR_P0_A_P0 : Fld := ⟨0x00900108, 0x10, 15, 0⟩
/-- LINES of LSR_DARK_i, bits [31:0], RO. -/
abbrev LSR_DARK_LINES : Fld := ⟨0x0090010c, 0x10, 31, 0⟩
/-- STEP_HOLD of PRT_CTRL, bits [31:24], RWX. -/
abbrev PRT_CTRL_STEP_HOLD : Fld := ⟨0x00a00000, 0x4, 31, 24⟩
/-- STOP of PRT_CTRL, bits [23:20], RWX. -/
abbrev PRT_CTRL_STOP : Fld := ⟨0x00a00000, 0x4, 23, 20⟩
/-- START of PRT_CTRL, bits [19:16], RWX. -/
abbrev PRT_CTRL_START : Fld := ⟨0x00a00000, 0x4, 19, 16⟩
/-- TOPOLOGY of PRT_CTRL, bits [2:2], RWL. -/
abbrev PRT_CTRL_TOPOLOGY : Fld := ⟨0x00a00000, 0x4, 2, 2⟩
/-- PRESET of PRT_CTRL, bits [1:0], RW. -/
abbrev PRT_CTRL_PRESET : Fld := ⟨0x00a00000, 0x4, 1, 0⟩
/-- VALID of PRT_IDENT, bits [31:31], RWL. -/
abbrev PRT_IDENT_VALID : Fld := ⟨0x00a00004, 0x4, 31, 31⟩
/-- BOOT_ID of PRT_IDENT, bits [25:10], RO. -/
abbrev PRT_IDENT_BOOT_ID : Fld := ⟨0x00a00004, 0x4, 25, 10⟩
/-- RACK of PRT_IDENT, bits [9:5], RWL. -/
abbrev PRT_IDENT_RACK : Fld := ⟨0x00a00004, 0x4, 9, 5⟩
/-- SLOT of PRT_IDENT, bits [4:0], RWL. -/
abbrev PRT_IDENT_SLOT : Fld := ⟨0x00a00004, 0x4, 4, 0⟩
/-- TIMER_SPINE of PRT_E2E_CTRL, bits [31:24], RWX. -/
abbrev PRT_E2E_CTRL_TIMER_SPINE : Fld := ⟨0x00a00008, 0x4, 31, 24⟩
/-- TIMER_RACK of PRT_E2E_CTRL, bits [23:16], RWX. -/
abbrev PRT_E2E_CTRL_TIMER_RACK : Fld := ⟨0x00a00008, 0x4, 23, 16⟩
/-- RETRIES of PRT_E2E_CTRL, bits [15:12], RWX. -/
abbrev PRT_E2E_CTRL_RETRIES : Fld := ⟨0x00a00008, 0x4, 15, 12⟩
/-- PRESET of PRT_E2E_CTRL, bits [1:0], RW. -/
abbrev PRT_E2E_CTRL_PRESET : Fld := ⟨0x00a00008, 0x4, 1, 0⟩
/-- FLUSH_US of PRT_RM_CTRL, bits [23:16], RWX. -/
abbrev PRT_RM_CTRL_FLUSH_US : Fld := ⟨0x00a0000c, 0x4, 23, 16⟩
/-- COLL_MS of PRT_RM_CTRL, bits [15:8], RW. -/
abbrev PRT_RM_CTRL_COLL_MS : Fld := ⟨0x00a0000c, 0x4, 15, 8⟩
/-- PARCEL of PRT_RM_CTRL, bits [4:0], RWX. -/
abbrev PRT_RM_CTRL_PARCEL : Fld := ⟨0x00a0000c, 0x4, 4, 0⟩
/-- ENABLE of PRT_PORT_i, bits [31:31], RW. -/
abbrev PRT_PORT_ENABLE : Fld := ⟨0x00a00100, 0x4, 31, 31⟩
/-- ROLE of PRT_PORT_i, bits [30:30], RO. -/
abbrev PRT_PORT_ROLE : Fld := ⟨0x00a00100, 0x4, 30, 30⟩
/-- LINKS of PRT_PORT_i, bits [23:19], RO. -/
abbrev PRT_PORT_LINKS : Fld := ⟨0x00a00100, 0x4, 23, 19⟩
/-- SPARE_TX of PRT_PORT_i, bits [15:12], RO. -/
abbrev PRT_PORT_SPARE_TX : Fld := ⟨0x00a00100, 0x4, 15, 12⟩
/-- SPARE_RX of PRT_PORT_i, bits [11:8], RO. -/
abbrev PRT_PORT_SPARE_RX : Fld := ⟨0x00a00100, 0x4, 11, 8⟩
/-- LOOP_OK of PRT_PORT_i, bits [0:0], RO. -/
abbrev PRT_PORT_LOOP_OK : Fld := ⟨0x00a00100, 0x4, 0, 0⟩
/-- REWIND of PRT_DISCARD_i, bits [31:16], RO. -/
abbrev PRT_DISCARD_REWIND : Fld := ⟨0x00a00200, 0x4, 31, 16⟩
/-- EGRESS of PRT_DISCARD_i, bits [15:0], RO. -/
abbrev PRT_DISCARD_EGRESS : Fld := ⟨0x00a00200, 0x4, 15, 0⟩
/-- RESENT of PRT_RM_CNT_A_i, bits [31:16], RO. -/
abbrev PRT_RM_CNT_A_RESENT : Fld := ⟨0x00a00300, 0x10, 31, 16⟩
/-- DUPLICATE of PRT_RM_CNT_A_i, bits [15:0], RO. -/
abbrev PRT_RM_CNT_A_DUPLICATE : Fld := ⟨0x00a00300, 0x10, 15, 0⟩
/-- ORDER_HOLD of PRT_RM_CNT_B_i, bits [31:16], RO. -/
abbrev PRT_RM_CNT_B_ORDER_HOLD : Fld := ⟨0x00a00304, 0x10, 31, 16⟩
/-- FENCED of PRT_RM_CNT_B_i, bits [15:0], RO. -/
abbrev PRT_RM_CNT_B_FENCED : Fld := ⟨0x00a00304, 0x10, 15, 0⟩
/-- RELAY_DROP of PRT_RM_CNT_C_i, bits [31:16], RO. -/
abbrev PRT_RM_CNT_C_RELAY_DROP : Fld := ⟨0x00a00308, 0x10, 31, 16⟩
/-- HOT_PAUSE of PRT_RM_CNT_C_i, bits [15:0], RO. -/
abbrev PRT_RM_CNT_C_HOT_PAUSE : Fld := ⟨0x00a00308, 0x10, 15, 0⟩
/-- STATE of PRT_LINK_i, bits [31:28], RO. -/
abbrev PRT_LINK_STATE : Fld := ⟨0x00a01000, 0x4, 31, 28⟩
/-- PEER of PRT_LINK_i, bits [27:18], RO. -/
abbrev PRT_LINK_PEER : Fld := ⟨0x00a01000, 0x4, 27, 18⟩
/-- LOST of PRT_LINK_i, bits [15:0], RO. -/
abbrev PRT_LINK_LOST : Fld := ⟨0x00a01000, 0x4, 15, 0⟩
/-- SCRUB_H of MEM_CTRL, bits [31:24], RWX. -/
abbrev MEM_CTRL_SCRUB_H : Fld := ⟨0x00b00000, 0x4, 31, 24⟩
/-- RETIRE_CE of MEM_CTRL, bits [23:16], RWX. -/
abbrev MEM_CTRL_RETIRE_CE : Fld := ⟨0x00b00000, 0x4, 23, 16⟩
/-- PRESET of MEM_CTRL, bits [1:0], RW. -/
abbrev MEM_CTRL_PRESET : Fld := ⟨0x00b00000, 0x4, 1, 0⟩
/-- N of MEM_MAP, bits [19:16], RO. -/
abbrev MEM_MAP_N : Fld := ⟨0x00b00004, 0x4, 19, 16⟩
/-- STACKS of MEM_MAP, bits [11:0], RO. -/
abbrev MEM_MAP_STACKS : Fld := ⟨0x00b00004, 0x4, 11, 0⟩
/-- CACHE_UNITS of MEM_SRAM_MODE_i, bits [12:8], RWL. -/
abbrev MEM_SRAM_MODE_CACHE_UNITS : Fld := ⟨0x00b00100, 0x4, 12, 8⟩
/-- MODE of MEM_SRAM_MODE_i, bits [1:0], RWL. -/
abbrev MEM_SRAM_MODE_MODE : Fld := ⟨0x00b00100, 0x4, 1, 0⟩
/-- PRESENT of MEM_HBM_i, bits [31:31], RO. -/
abbrev MEM_HBM_PRESENT : Fld := ⟨0x00b00200, 0x10, 31, 31⟩
/-- RETIRED of MEM_HBM_i, bits [30:30], RO. -/
abbrev MEM_HBM_RETIRED : Fld := ⟨0x00b00200, 0x10, 30, 30⟩
/-- BAND of MEM_HBM_i, bits [29:28], RO. -/
abbrev MEM_HBM_BAND : Fld := ⟨0x00b00200, 0x10, 29, 28⟩
/-- RETIRED_PAGES of MEM_HBM_i, bits [20:8], RO. -/
abbrev MEM_HBM_RETIRED_PAGES : Fld := ⟨0x00b00200, 0x10, 20, 8⟩
/-- TEMP of MEM_HBM_i, bits [7:0], RO. -/
abbrev MEM_HBM_TEMP : Fld := ⟨0x00b00200, 0x10, 7, 0⟩
/-- UNCORR of MEM_ECC_CNT_i, bits [31:16], RW. -/
abbrev MEM_ECC_CNT_UNCORR : Fld := ⟨0x00b00204, 0x10, 31, 16⟩
/-- CORR of MEM_ECC_CNT_i, bits [15:0], RW. -/
abbrev MEM_ECC_CNT_CORR : Fld := ⟨0x00b00204, 0x10, 15, 0⟩
/-- UNIT of MEM_ERRLOG_LO_i, bits [31:0], RO. -/
abbrev MEM_ERRLOG_LO_UNIT : Fld := ⟨0x00b00208, 0x10, 31, 0⟩
/-- VALID of MEM_ERRLOG_HI_i, bits [31:31], RW1C. -/
abbrev MEM_ERRLOG_HI_VALID : Fld := ⟨0x00b0020c, 0x10, 31, 31⟩
/-- TYPE of MEM_ERRLOG_HI_i, bits [30:28], RO. -/
abbrev MEM_ERRLOG_HI_TYPE : Fld := ⟨0x00b0020c, 0x10, 30, 28⟩
/-- SYMBOL of MEM_ERRLOG_HI_i, bits [27:22], RO. -/
abbrev MEM_ERRLOG_HI_SYMBOL : Fld := ⟨0x00b0020c, 0x10, 27, 22⟩
/-- SYNDROME of MEM_ERRLOG_HI_i, bits [15:0], RO. -/
abbrev MEM_ERRLOG_HI_SYNDROME : Fld := ⟨0x00b0020c, 0x10, 15, 0⟩
/-- BASE_LO of MEM_WIN_BASE_LO_i, bits [31:12], RW. -/
abbrev MEM_WIN_BASE_LO_BASE_LO : Fld := ⟨0x00b01000, 0x10, 31, 12⟩
/-- BASE_HI of MEM_WIN_BASE_HI_i, bits [9:0], RW. -/
abbrev MEM_WIN_BASE_HI_BASE_HI : Fld := ⟨0x00b01004, 0x10, 9, 0⟩
/-- SIZE of MEM_WIN_SIZE_i, bits [29:0], RW. -/
abbrev MEM_WIN_SIZE_SIZE : Fld := ⟨0x00b01008, 0x10, 29, 0⟩
/-- ENABLE of MEM_WIN_CTRL_i, bits [31:31], RW. -/
abbrev MEM_WIN_CTRL_ENABLE : Fld := ⟨0x00b0100c, 0x10, 31, 31⟩
/-- READ of MEM_WIN_CTRL_i, bits [30:30], RW. -/
abbrev MEM_WIN_CTRL_READ : Fld := ⟨0x00b0100c, 0x10, 30, 30⟩
/-- WRITE of MEM_WIN_CTRL_i, bits [29:29], RW. -/
abbrev MEM_WIN_CTRL_WRITE : Fld := ⟨0x00b0100c, 0x10, 29, 29⟩
/-- ATOMIC of MEM_WIN_CTRL_i, bits [28:28], RW. -/
abbrev MEM_WIN_CTRL_ATOMIC : Fld := ⟨0x00b0100c, 0x10, 28, 28⟩
/-- KEY of MEM_WIN_CTRL_i, bits [23:0], RW. -/
abbrev MEM_WIN_CTRL_KEY : Fld := ⟨0x00b0100c, 0x10, 23, 0⟩
/-- LANE_ERR of STK_VB_CTRL, bits [23:16], RWX. -/
abbrev STK_VB_CTRL_LANE_ERR : Fld := ⟨0x00c00000, 0x4, 23, 16⟩
/-- MIN_PAIRS of STK_VB_CTRL, bits [13:8], RWX. -/
abbrev STK_VB_CTRL_MIN_PAIRS : Fld := ⟨0x00c00000, 0x4, 13, 8⟩
/-- PRESET of STK_VB_CTRL, bits [1:0], RW. -/
abbrev STK_VB_CTRL_PRESET : Fld := ⟨0x00c00000, 0x4, 1, 0⟩
/-- PROTO of STK_PKG, bits [15:8], RO. -/
abbrev STK_PKG_PROTO : Fld := ⟨0x00c00004, 0x4, 15, 8⟩
/-- SPINE_ROLE of STK_PKG, bits [2:2], RO. -/
abbrev STK_PKG_SPINE_ROLE : Fld := ⟨0x00c00004, 0x4, 2, 2⟩
/-- FF_TELEMETRY of STK_PKG, bits [1:1], RO. -/
abbrev STK_PKG_FF_TELEMETRY : Fld := ⟨0x00c00004, 0x4, 1, 1⟩
/-- VB_HALF_WIDTH of STK_PKG, bits [0:0], RO. -/
abbrev STK_PKG_VB_HALF_WIDTH : Fld := ⟨0x00c00004, 0x4, 0, 0⟩
/-- USE_ORDER of STK_SPARE_ORDER_i, bits [15:15], RW. -/
abbrev STK_SPARE_ORDER_USE_ORDER : Fld := ⟨0x00c00100, 0x4, 15, 15⟩
/-- SECOND of STK_SPARE_ORDER_i, bits [9:5], RW. -/
abbrev STK_SPARE_ORDER_SECOND : Fld := ⟨0x00c00100, 0x4, 9, 5⟩
/-- FIRST of STK_SPARE_ORDER_i, bits [4:0], RW. -/
abbrev STK_SPARE_ORDER_FIRST : Fld := ⟨0x00c00100, 0x4, 4, 0⟩
/-- GOOD of STK_PCORE_i, bits [17:0], RO. -/
abbrev STK_PCORE_GOOD : Fld := ⟨0x00c00140, 0x4, 17, 0⟩
/-- CUT of STK_VB_STACK_i, bits [31:31], RO. -/
abbrev STK_VB_STACK_CUT : Fld := ⟨0x00c00180, 0x4, 31, 31⟩
/-- PAIRS of STK_VB_STACK_i, bits [30:24], RO. -/
abbrev STK_VB_STACK_PAIRS : Fld := ⟨0x00c00180, 0x4, 30, 24⟩
/-- HALF_DOWN of STK_VB_STACK_i, bits [22:16], RO. -/
abbrev STK_VB_STACK_HALF_DOWN : Fld := ⟨0x00c00180, 0x4, 22, 16⟩
/-- HALF_UP of STK_VB_STACK_i, bits [14:8], RO. -/
abbrev STK_VB_STACK_HALF_UP : Fld := ⟨0x00c00180, 0x4, 14, 8⟩
/-- STATE of STK_DIE_i, bits [31:29], RO. -/
abbrev STK_DIE_STATE : Fld := ⟨0x00c001c0, 0x4, 31, 29⟩
/-- CMD of STK_DIE_i, bits [1:0], RWX. -/
abbrev STK_DIE_CMD : Fld := ⟨0x00c001c0, 0x4, 1, 0⟩
/-- FEAT of STK_CAP_LO_i, bits [31:0], RO. -/
abbrev STK_CAP_LO_FEAT : Fld := ⟨0x00c00400, 0x8, 31, 0⟩
/-- TYPE of STK_CAP_HI_i, bits [31:29], RO. -/
abbrev STK_CAP_HI_TYPE : Fld := ⟨0x00c00404, 0x8, 31, 29⟩
/-- REV of STK_CAP_HI_i, bits [23:16], RO. -/
abbrev STK_CAP_HI_REV : Fld := ⟨0x00c00404, 0x8, 23, 16⟩
/-- PROTO_MAX of STK_CAP_HI_i, bits [15:8], RO. -/
abbrev STK_CAP_HI_PROTO_MAX : Fld := ⟨0x00c00404, 0x8, 15, 8⟩
/-- PROTO_MIN of STK_CAP_HI_i, bits [7:0], RO. -/
abbrev STK_CAP_HI_PROTO_MIN : Fld := ⟨0x00c00404, 0x8, 7, 0⟩
/-- PRESENT of STK_LCMAP_i, bits [31:31], RO. -/
abbrev STK_LCMAP_PRESENT : Fld := ⟨0x00c01000, 0x4, 31, 31⟩
/-- PC of STK_LCMAP_i, bits [4:0], RO. -/
abbrev STK_LCMAP_PC : Fld := ⟨0x00c01000, 0x4, 4, 0⟩
/-- STATE of STK_VB_BUNDLE_i, bits [31:30], RO. -/
abbrev STK_VB_BUNDLE_STATE : Fld := ⟨0x00c02000, 0x4, 31, 30⟩
/-- HALF_SEL of STK_VB_BUNDLE_i, bits [29:29], RO. -/
abbrev STK_VB_BUNDLE_HALF_SEL : Fld := ⟨0x00c02000, 0x4, 29, 29⟩
/-- SBS_USED of STK_VB_BUNDLE_i, bits [28:28], RO. -/
abbrev STK_VB_BUNDLE_SBS_USED : Fld := ⟨0x00c02000, 0x4, 28, 28⟩
/-- SPARES of STK_VB_BUNDLE_i, bits [27:25], RO. -/
abbrev STK_VB_BUNDLE_SPARES : Fld := ⟨0x00c02000, 0x4, 27, 25⟩
/-- REPLAYS of STK_VB_BUNDLE_i, bits [15:0], RO. -/
abbrev STK_VB_BUNDLE_REPLAYS : Fld := ⟨0x00c02000, 0x4, 15, 0⟩
/-- CHANGING of BRT_ROLE, bits [8:8], RO. -/
abbrev BRT_ROLE_CHANGING : Fld := ⟨0x00d00000, 0x4, 8, 8⟩
/-- ROLE of BRT_ROLE, bits [1:0], RO. -/
abbrev BRT_ROLE_ROLE : Fld := ⟨0x00d00000, 0x4, 1, 0⟩
/-- PAGES of BRT_POOL_FREE_i, bits [21:0], RO. -/
abbrev BRT_POOL_FREE_PAGES : Fld := ⟨0x00d00100, 0x4, 21, 0⟩
/-- VALID of MOR_FILL, bits [22:0], RO. -/
abbrev MOR_FILL_VALID : Fld := ⟨0x00e00000, 0x4, 22, 0⟩
/-- FREE of MOR_SLOTS_FREE, bits [22:0], RO. -/
abbrev MOR_SLOTS_FREE_FREE : Fld := ⟨0x00e00004, 0x4, 22, 0⟩
/-- COUNT of MOR_REFUSED, bits [31:0], RO. -/
abbrev MOR_REFUSED_COUNT : Fld := ⟨0x00e00008, 0x4, 31, 0⟩
/-- SESSIONS of MOR_AGE_HIST_i, bits [22:0], RO. -/
abbrev MOR_AGE_HIST_SESSIONS : Fld := ⟨0x00e00100, 0x4, 22, 0⟩
/-- WITNESS of LVS_CTRL, bits [9:0], RW. -/
abbrev LVS_CTRL_WITNESS : Fld := ⟨0x00f00000, 0x4, 9, 0⟩
/-- STATE of LVS_STATUS, bits [31:29], RO. -/
abbrev LVS_STATUS_STATE : Fld := ⟨0x00f00004, 0x4, 31, 29⟩
/-- PARTNER of LVS_STATUS, bits [25:16], RO. -/
abbrev LVS_STATUS_PARTNER : Fld := ⟨0x00f00004, 0x4, 25, 16⟩
/-- EPOCH of LVS_STATUS, bits [15:0], RO. -/
abbrev LVS_STATUS_EPOCH : Fld := ⟨0x00f00004, 0x4, 15, 0⟩
/-- BASE_LO of LVS_TAIL_LO, bits [31:12], RW. -/
abbrev LVS_TAIL_LO_BASE_LO : Fld := ⟨0x00f00008, 0x4, 31, 12⟩
/-- BASE_HI of LVS_TAIL_HI, bits [9:0], RW. -/
abbrev LVS_TAIL_HI_BASE_HI : Fld := ⟨0x00f0000c, 0x4, 9, 0⟩
/-- KEY_OK of SEC_STATUS, bits [31:31], RO. -/
abbrev SEC_STATUS_KEY_OK : Fld := ⟨0x01000000, 0x4, 31, 31⟩
/-- SVN of SEC_STATUS, bits [30:24], RO. -/
abbrev SEC_STATUS_SVN : Fld := ⟨0x01000000, 0x4, 30, 24⟩
/-- LEAVES of SEC_STATUS, bits [20:0], RO. -/
abbrev SEC_STATUS_LEAVES : Fld := ⟨0x01000000, 0x4, 20, 0⟩
/-- SERIAL of SEC_SERIAL_i, bits [31:0], RO. -/
abbrev SEC_SERIAL_SERIAL : Fld := ⟨0x01000010, 0x4, 31, 0⟩
/-- CAP of FWU_CTRL, bits [31:16], RWX. -/
abbrev FWU_CTRL_CAP : Fld := ⟨0x01100000, 0x4, 31, 16⟩
/-- CONFIRM_S of FWU_CTRL, bits [15:8], RWX. -/
abbrev FWU_CTRL_CONFIRM_S : Fld := ⟨0x01100000, 0x4, 15, 8⟩
/-- PRESET of FWU_CTRL, bits [1:0], RW. -/
abbrev FWU_CTRL_PRESET : Fld := ⟨0x01100000, 0x4, 1, 0⟩
/-- ACT_WINDOW of FWU_ACT_CFG, bits [31:16], RWX. -/
abbrev FWU_ACT_CFG_ACT_WINDOW : Fld := ⟨0x01100004, 0x4, 31, 16⟩
/-- STAGE_S of FWU_ACT_CFG, bits [7:0], RWX. -/
abbrev FWU_ACT_CFG_STAGE_S : Fld := ⟨0x01100004, 0x4, 7, 0⟩
/-- T_LO of FWU_ACT_LO, bits [31:0], RW. -/
abbrev FWU_ACT_LO_T_LO : Fld := ⟨0x01100008, 0x4, 31, 0⟩
/-- T_HI of FWU_ACT_HI, bits [31:0], RW. -/
abbrev FWU_ACT_HI_T_HI : Fld := ⟨0x0110000c, 0x4, 31, 0⟩
/-- CMD of FWU_CMD, bits [2:0], WO. -/
abbrev FWU_CMD_CMD : Fld := ⟨0x01100010, 0x4, 2, 0⟩
/-- SRC_LO of FWU_SRC_LO, bits [31:12], RW. -/
abbrev FWU_SRC_LO_SRC_LO : Fld := ⟨0x01100014, 0x4, 31, 12⟩
/-- SRC_HI of FWU_SRC_HI, bits [9:0], RW. -/
abbrev FWU_SRC_HI_SRC_HI : Fld := ⟨0x01100018, 0x4, 9, 0⟩
/-- POLICY of FWU_SETTINGS, bits [4:0], RW. -/
abbrev FWU_SETTINGS_POLICY : Fld := ⟨0x0110001c, 0x4, 4, 0⟩
/-- TENDER of FWU_STATUS, bits [31:29], RO. -/
abbrev FWU_STATUS_TENDER : Fld := ⟨0x01100020, 0x4, 31, 29⟩
/-- REASON of FWU_STATUS, bits [28:25], RO. -/
abbrev FWU_STATUS_REASON : Fld := ⟨0x01100020, 0x4, 28, 25⟩
/-- ACTIVE_WR of FWU_STATUS, bits [24:23], RO. -/
abbrev FWU_STATUS_ACTIVE_WR : Fld := ⟨0x01100020, 0x4, 24, 23⟩
/-- STANDBY_WR of FWU_STATUS, bits [22:21], RO. -/
abbrev FWU_STATUS_STANDBY_WR : Fld := ⟨0x01100020, 0x4, 22, 21⟩
/-- STANDBY_OK of FWU_STATUS, bits [20:20], RO. -/
abbrev FWU_STATUS_STANDBY_OK : Fld := ⟨0x01100020, 0x4, 20, 20⟩
/-- HANDOVER of FWU_STATUS, bits [19:19], RO. -/
abbrev FWU_STATUS_HANDOVER : Fld := ⟨0x01100020, 0x4, 19, 19⟩
/-- DONE of FWU_STATUS, bits [18:9], RO. -/
abbrev FWU_STATUS_DONE : Fld := ⟨0x01100020, 0x4, 18, 9⟩
/-- PIECES of FWU_STATUS, bits [8:0], RO. -/
abbrev FWU_STATUS_PIECES : Fld := ⟨0x01100020, 0x4, 8, 0⟩
/-- VERSION_LO of FWU_IMAGE_LO, bits [31:0], RO. -/
abbrev FWU_IMAGE_LO_VERSION_LO : Fld := ⟨0x01100024, 0x4, 31, 0⟩
/-- VERSION_HI of FWU_IMAGE_HI, bits [31:0], RO. -/
abbrev FWU_IMAGE_HI_VERSION_HI : Fld := ⟨0x01100028, 0x4, 31, 0⟩
/-- LOCKOUT of MON_CTRL, bits [0:0], RWL. -/
abbrev MON_CTRL_LOCKOUT : Fld := ⟨0x01200000, 0x4, 0, 0⟩
/-- SESSION of MON_STATUS, bits [31:31], RO. -/
abbrev MON_STATUS_SESSION : Fld := ⟨0x01200004, 0x4, 31, 31⟩
/-- UART of MON_STATUS, bits [30:30], RO. -/
abbrev MON_STATUS_UART : Fld := ⟨0x01200004, 0x4, 30, 30⟩
/-- UNLOCK_FAIL of MON_STATUS, bits [15:0], RO. -/
abbrev MON_STATUS_UNLOCK_FAIL : Fld := ⟨0x01200004, 0x4, 15, 0⟩

end Sys2Proof.Machine.F
end

