-- ==== Sys2Proof/Machine/Table.lean ====
section
/-!
DEFINITION. Sparse tables as plain data: a list of (key, value) pairs in one canonical form, keys strictly rising and no
entry equal to what an unlisted key reads as. Registers, memories and every indexed array of the device are held so.
-/
namespace Sys2Proof.Machine

/-- A sparse table. Its default (what an unlisted key reads as) is given with each access. -/
abbrev Tbl (α : Type) := List (Nat × α)

/-- The value at key `n`; `d n` where it is not listed. -/
def tget {α : Type} (d : Nat → α) : Tbl α → Nat → α
  | [], n => d n
  | (k, v) :: r, n => if n = k then v else tget d r n

/-- Insert or replace the entry of key `n`, keeping the keys rising. -/
def tins {α : Type} : Tbl α → Nat → α → Tbl α
  | [], n, x => [(n, x)]
  | (k, v) :: r, n, x => if n < k then (n, x) :: (k, v) :: r else if n = k then (n, x) :: r else (k, v) :: tins r n x

/-- Remove the entry of key `n`. -/
def tdel {α : Type} : Tbl α → Nat → Tbl α
  | [], _ => []
  | (k, v) :: r, n => if n = k then r else (k, v) :: tdel r n

/-- Write `x` at key `n`; writing the default removes the entry, so that equal tables are equal data. -/
def tput {α : Type} [DecidableEq α] (d : Nat → α) (t : Tbl α) (n : Nat) (x : α) : Tbl α :=
  if x = d n then tdel t n else tins t n x

/-- The canonical form: keys rise strictly and no entry equals the default of its key. -/
def Tbl.wf {α : Type} [DecidableEq α] (d : Nat → α) : Tbl α → Bool
  | [] => true
  | (k, v) :: r => decide (v ≠ d k) && r.all (fun e => decide (k < e.1)) && Tbl.wf d r

/-- A set of numbers: a list with rising members. -/
abbrev NSet := List Nat

/-- Add a member. -/
def NSet.add : NSet → Nat → NSet
  | [], n => [n]
  | k :: r, n => if n < k then n :: k :: r else if n = k then k :: r else k :: NSet.add r n

/-- Remove a member. -/
def NSet.del : NSet → Nat → NSet
  | [], _ => []
  | k :: r, n => if n = k then r else k :: NSet.del r n

/-- Keep in a table what `f` keeps: every entry is rewritten by `f` and dropped where that gives the default. -/
def tmap {α : Type} [DecidableEq α] (d : Nat → α) (f : Nat → α → α) (t : Tbl α) : Tbl α :=
  (t.map (fun e => (e.1, f e.1 e.2))).filter (fun e => decide (e.2 ≠ d e.1))

/-- The value of one field's bits in a register word. -/
def bitsGet (w : Word) (hi lo : Nat) : Nat := (w >>> lo).toNat % 2 ^ (hi - lo + 1)

/-- A register word with one field's bits replaced. -/
def bitsSet (w : Word) (hi lo v : Nat) : Word :=
  (w &&& ~~~(BitVec.ofNat 32 (2 ^ (hi - lo + 1) - 1) <<< lo)) ||| (BitVec.ofNat 32 (v % 2 ^ (hi - lo + 1)) <<< lo)

/-- The greatest `r` below 2^bits with r^k at most n, found bit by bit. -/
def rootBelow (k n : Nat) : Nat → Nat → Nat
  | 0, r => r
  | b + 1, r => rootBelow k n b (if (r + 2 ^ b) ^ k ≤ n then r + 2 ^ b else r)

/-- Little-endian value of a list of bytes. -/
def leNat : List Byte → Nat
  | [] => 0
  | b :: r => b.toNat + 256 * leNat r

/-- The `n` bytes of a number, little-endian. -/
def leBytes : Nat → Nat → List Byte
  | 0, _ => []
  | n + 1, v => BitVec.ofNat 8 (v % 256) :: leBytes n (v / 256)

end Sys2Proof.Machine
end

