-- ==== Sys2Proof/Machine/State.lean ====
section
/-!
DEFINITION. The state of the device as plain data: every register, buffer, counter and mode the spec gives the block, the
queue of commands that wait, and the model's own counter of free values. Each structure names the chapter it holds.
-/
namespace Sys2Proof.Machine

/-- Why a step stops. No meaning raises the first one: it stands for an access outside the map where no rule says what
happens; it is safe, since the machine stops where the spec states no effect. -/
inductive Fault
  /-- An access to an address the spec says does not exist, in a command whose rules give that access no outcome. Safe. -/
  | noSuchAddress (addr : Nat)
  deriving DecidableEq, Repr

/-- Why a command has no meaning. -/
inductive Refusal
  /-- The command has no meaning yet in this model; raised only by an arm of exec. Safe. -/
  | notModelled (mnemonic : String)
  deriving DecidableEq, Repr

/-- A count within a window of time: the number of the window (time divided by its length) and the count in it. -/
structure Rate where
  win : Nat := 0
  n : Nat := 0
  deriving DecidableEq, Repr

/-! ## Cores (02_cores_and_engines.md) -/

/-- States of a logical core (R84). -/
inductive CState
  | idle | loading | running | draining | faulting | parked | absent
  deriving DecidableEq, Repr

/-- An engine operation with the register values it was issued with: instruction index and word, the values of its
address registers in the order of the format's fields, and of its scalar registers (R42, R60, R65, R68). -/
structure EngOp where
  idx : Nat
  word : W64
  a : BitVec 48
  b : BitVec 48
  c : BitVec 48
  d : BitVec 48
  x : W64
  y : W64
  deriving DecidableEq, Repr

/-- A started engine operation: its number, the operation, the remote answers it still waits for, the failure status a
remote answer carried, the berth snapshot of a KV operation (R74), and of a remote operation the pieces not yet sent, as (offset,
bytes), and the number of the next (R72). -/
structure RunOp where
  id : Nat
  op : EngOp
  waiting : Nat
  failed : Option Nat
  berth : List Nat
  remote : Bool
  todo : List (Nat × Nat) := []
  sent : Nat := 0
  tag : Nat := 0
  deriving DecidableEq, Repr

/-- What the sequencer waits for (R42, R45, R47, R54, R55). -/
inductive Stall
  | none
  | wait (sem count : Nat)
  | waitbt (t : Nat)
  | fence (mask : Nat)
  | halt
  | queue (q : Nat) (op : EngOp)
  | outq (target sem v : Nat)
  deriving DecidableEq, Repr

/-- One level of the loop stack (R53): first index, index after the last, iterations left. -/
structure LoopLvl where
  start : Nat
  stop : Nat
  left : Nat
  deriving DecidableEq, Repr

/-- A SIGNAL on its way or held: target or source core, semaphore, value, launch tag (R47). -/
structure Sig where
  core : Nat
  sem : Nat
  v : Nat
  tag : Nat
  deriving DecidableEq, Repr

/-- What a fault records (R84, R89). -/
structure FaultRec where
  cause : Nat
  idx : Nat
  word : W64
  status : Nat
  bt : Nat
  deriving DecidableEq, Repr

/-- One logical core with the physical core bound to it (R37, R83, R84). `lostIn` is the launch it ran when its physical core failed
(R91), `wantId` the BUILD_ID of the code being loaded (R82). `cyc` is the cycle in which the next instruction issues, `ready` the
cycle from which a scalar register may be read (R56); `lapse` says that stalls or conflicts the tables do not count have passed
since, `slips` that slip may have (R377). `outq` holds signals to be sent, the first `refused` of which a target has refused,
`transit` those on their way (R47). `bankCe`, `bankHit`, `badGran` and `scrubbed` are the error record of the physical core's
scratchpad (R90): corrected errors of a bank, when SCRATCH_CORRECTED was last raised (ns plus 1), granules that had a double error,
and those of them scrubbed since. -/
structure Core where
  cstate : CState := .absent
  broken : Bool := false
  launch : Nat := 0
  tag : Nat := 0
  prevTag : Option Nat := none
  arg : W64 := 0
  resident : Bool := false
  loadCode : Bool := false
  image : Nat := 0
  sregs : Tbl W64 := []
  aregs : Tbl (BitVec 48) := []
  pc : Nat := 0
  loops : List LoopLvl := []
  sems : Tbl (BitVec 32) := []
  code : List W64 := []
  buildId : W64 := 0
  wantId : W64 := 0
  features : BitVec 256 := 0
  waitLimit : Nat := 0
  stall : Stall := .none
  queues : Tbl (List EngOp) := []
  run : Tbl (List RunOp) := []
  nextId : Nat := 0
  remote : Nat := 0
  transit : List Sig := []
  outq : List Sig := []
  refused : Nat := 0
  blocked : Bool := false
  pend : List Sig := []
  stale : Nat := 0
  aborted : Bool := false
  halted : Bool := false
  fault : Option FaultRec := none
  slip : Nat := 0
  slips : Bool := false
  cyc : Nat := 0
  ready : Tbl Nat := []
  lapse : Bool := false
  lostIn : Option Nat := none
  bankCe : Tbl Rate := []
  bankHit : Tbl Nat := []
  badGran : NSet := []
  scrubbed : NSet := []
  deriving DecidableEq, Repr

/-- A core's report to IO0 (R84, R86): launch sequence, core, kind (0 done, 1 aborted, 2 fault), status, beacon time, cause; `direct`
where the watch room makes it for a core that cannot. -/
structure Report where
  seq : Nat
  lc : Nat
  kind : Nat
  status : Nat
  bt : Nat
  cause : Nat
  direct : Bool := false
  deriving DecidableEq, Repr

/-- A launch in flight at IO0 (R84, R86, R353): cores still to report, first fault, step-launch data. -/
structure Launch where
  seq : Nat
  tag : Nat
  cores : NSet
  /-- Cores that have not received the launch yet, and cores whose report IO0 has not received. -/
  todo : NSet
  left : NSet
  image : Nat
  arg : W64
  features : BitVec 256
  buildId : W64
  waitLimit : Nat
  /-- The fault detected first: beacon time, core, cause (0 without a core fault), status. -/
  fault : Option (Nat × Nat × Nat × Nat)
  aborts : NSet
  step : Bool
  result : Nat × Nat × Nat
  /-- The status its cores are aborted with from outside (FENCED, R458), and a core lost without a fault. -/
  forced : Option Nat
  lost : Option Nat
  deriving DecidableEq, Repr

/-! ## Memory hierarchy (07_memory.md) -/

/-- A memory access that waits at its home: in refresh band H3, for a page in retirement (R217, R218), or, a write, behind the
operations queued on its lines, by landing die and tag (R210, R312). -/
structure Waiting where
  addr : Nat
  op : HomeOp
  errs : List UnitErr := []
  behind : List (Nat × Nat) := []
  deriving DecidableEq, Repr

/-- Memory homes: what the registers of the MEM_ block do not show. -/
structure MemSt where
  /-- Cache SRAM mode in force per cache die (R212): 0 CACHE, 1 DIRECT, 2 SPLIT, in the low 8 bits; units above. -/
  sramMode : Tbl Nat := []
  /-- Remap entries stack × 2^25 + page, the page in retirement plus 1 per stack, and the pages that wait for it in order of
  detection (R218). -/
  remap : NSet := []
  retiring : Tbl Nat := []
  queue : List Nat := []
  full : NSet := []
  /-- Times of the corrected events of a page in the last 24 h, keyed stack × 2^25 + page, and the symbols a scrub has corrected
  and written back, keyed (stack × 2^32 + unit) × 64 + symbol (R218). -/
  pageCe : Tbl (List Nat) := []
  symCe : NSet := []
  /-- Corrected counts per stack and per SRAM die in one hour (R221). -/
  stackRate : Tbl Rate := []
  sramRate : Tbl Rate := []
  waiting : List Waiting := []
  /-- What reads brought: bytes, and the poisoned 32-byte units among them by number (R215). -/
  answers : List (List Byte × List Nat) := []
  /-- Rows of retired pages in flash (R219). -/
  flashRows : NSet := []
  deriving DecidableEq, Repr

/-! ## Roles, berths and the mooring table (04_phase_roles.md) -/

/-- A berth table entry (R129), with the pages it holds, how it was opened (0 LOCAL, 1 RECEIVE, 2 MOOR_GET) and the
descriptor that waits on it. STATE: 0 FREE, 1 OPENING, 2 ACTIVE, 3 DRAINING, 4 MOVING. -/
structure Berth where
  state : Nat := 0
  kvFmt : Nat := 0
  pending : Nat := 0
  tokens : Nat := 0
  maxTokens : Nat := 0
  steps : Nat := 0
  pagelist : Nat := 0
  samplingKey : W64 := 0
  sessionKey : W64 := 0
  lvCursor : Nat := 0
  opSeq : Nat := 0
  mode : Nat := 0
  pages : List (Nat × Nat) := []
  openSeq : Nat := 0
  committed : Bool := false
  deriving DecidableEq, Repr

/-- The set-up of a role (R127). -/
structure RoleSetup where
  page : Nat := 0
  rec_ : Nat := 0
  layers : Nat := 0
  kvFmt : Nat := 0
  segLayers : Nat := 0
  poolOff : Nat := 0
  poolPages : Nat := 0
  slot : Nat := 0
  cpoolBase : Nat := 0
  cpoolSlots : Nat := 0
  deriving DecidableEq, Repr

/-- A mooring table entry (R139). STATE: 0 EMPTY, 1 FILLING, 2 MOORED. -/
structure MoorEnt where
  key : W64 := 0
  seg : Nat := 0
  state : Nat := 0
  format : Nat := 0
  length : Nat := 0
  location : Nat := 0
  stamp : Nat := 0
  gen : Nat := 0
  deriving DecidableEq, Repr

/-- An operation in flight at a session home, in home order (R141 to R143): kind 0 PUT, 1 GET; requester and its operation
number; the GEN it fills or reads. -/
structure SessOp where
  kind : Nat
  key : W64
  src : Nat
  op : Nat
  gen : Nat
  deriving DecidableEq, Repr

/-- A berth operation this device has started toward another (R133, R136, R141, R142): kind 1 MOVE, 2 PUT, 3 GET; segments
that have arrived; header once received, and segments that came before it. -/
structure BerthOp where
  seq : Nat
  kind : Nat
  berth : Nat
  device : Nat
  key : W64
  arrived : NSet
  header : List Byte
  held : List (Nat × List Byte)
  deriving DecidableEq, Repr

/-- Roles, berths and the mooring table. -/
structure RoleSt where
  setup : RoleSetup := {}
  /-- ROLE_SET in progress: its descriptor, role, set-up and DISCARD. -/
  change : Option (Nat × Nat × RoleSetup × Bool) := none
  /-- Step launches accepted and not completed: ACCEPT_SEQ, berths, advance (R132). -/
  steps : List (Nat × List Nat × Nat) := []
  berths : Tbl Berth := []
  /-- Pages in use per stack. -/
  used : Tbl NSet := []
  moor : Tbl MoorEnt := []
  slots : NSet := []
  sess : List SessOp := []
  bops : List BerthOp := []
  /-- Entries of dropped sessions that are still to be made EMPTY, by number (R143). -/
  reclaim : NSet := []
  pressure : Bool := false
  deriving DecidableEq, Repr
/-! ## Trerath fabric (05_trerath_fabric.md) -/

/-- A ring or filter (R158, R159): 0 PARKED, 1 SEEK, 2 LOCKED, 3 HOLD, 4 RETIRED. Before start-up enables the locks every
ring is PARKED whatever this says. `chan` is the channel a spare has been retuned to; its heater correction by the
feed-forward is `FabSt.ffOut` of its endpoint plus `heat`, in µ°C; `lift` is the heater code, `trim` the junction trim in m°C of
cooling, `seen` says that the lock loop has measured it since it last locked; `detune` is its last residual detuning in pm (R174). -/
structure RingSt where
  st : Nat := 2
  fails : Nat := 0
  chan : Option Nat := none
  heat : Int := 0
  lift : Nat := 0
  trim : Nat := 0
  seen : Bool := false
  detune : Nat := 0
  dark : Bool := false
  hold : Bool := false
  deriving DecidableEq, Repr

/-- A repair of a lane in progress or waiting on its unit (R163 to R165): the channel and direction that failed, the pair and
lane it takes out, the spare it retunes or the reserve slot it steers to, and its step: 0 waiting, 1 retune, 2 lane test, 3 and 4 a
test passed or failed while a HOLD pauses the unit. -/
structure Repair where
  rx : Bool
  chan : Nat
  pair : Nat
  lane : Nat
  spare : Nat := 0
  reserve : Bool := false
  step : Nat := 0
  deriving DecidableEq, Repr

/-- The substitution unit of an endpoint's plane or of a port (R165): its repairs, the rings in HOLD that pause it, and whether a
calibration window is open. -/
structure SubUnit where
  jobs : List Repair := []
  held : NSet := []
  window : Bool := false
  deriving DecidableEq, Repr

/-- A flit that waits to be sent (R264): type, stream, data in use, flits of its packet, data. -/
structure OutFlit where
  type : Nat
  stream : Nat
  valid : Nat
  flits : Nat
  data : List Byte
  deriving DecidableEq, Repr

/-- The sending end of a pair or link (R169, R170, R278): queues and sequence numbers by virtual channel, outstanding
credits, credits it owes the far end for the reverse direction, whose turn it is, and the next lane; `wait` holds, by virtual channel,
what units that a full egress queue stalls still have to send (R172); `reserved` the multicast flits with the next slot, `taken` the
lanes whose next slot a multicast flit has used, `alt` the virtual channels whose last flit was unicast (R168, R170). -/
structure FlitTx where
  q : Tbl (List OutFlit) := []
  seq : Tbl Nat := []
  used : Tbl Nat := []
  owe : Tbl Nat := []
  turn : Nat := 0
  null : Nat := 0
  lane : Nat := 0
  wait : Tbl (List OutFlit) := []
  reserved : NSet := []
  taken : NSet := []
  alt : NSet := []
  deriving DecidableEq, Repr

/-- A flit received out of order (R171): virtual channel and stream in `vc`, sequence number, the flit. -/
structure HeldFlit where
  vc : Nat
  seq : Nat
  flit : List Byte
  deriving DecidableEq, Repr

/-- The receiving end of a pair or link (R171, R267, R278): the next sequence numbers, flits held, credits in use, consecutive
uncorrectable codewords, flits lost, and on a pair the message that is arriving and the messages handed to the consumers. -/
structure FlitRx where
  next : Tbl Nat := []
  held : List HeldFlit := []
  used : Tbl Nat := []
  bad : Nat := 0
  lost : Nat := 0
  part : Tbl (List Byte) := []
  got : List (List Byte) := []
  deriving DecidableEq, Repr

/-- The fabric and the flit layer it shares with the ports. -/
structure FabSt where
  /-- Start-up has enabled the ring locks (R159). -/
  up : Bool := false
  rings : Tbl RingSt := []
  /-- Lanes whose latest test has not passed: pair × 32 + lane (R160). -/
  untested : NSet := []
  /-- Steering maps: reserve slot 30 or 31 a lane is bound to (R154, R163), and reserve slots marked unusable. -/
  steer : Tbl Nat := []
  noSlot : NSet := []
  /-- Lanes left out under step 3 of R163. -/
  out : NSet := []
  units : Tbl SubUnit := []
  suspect : NSet := []
  /-- Pairs with fewer than 30 lanes in service (R448). -/
  short : NSet := []
  narrowed : NSet := []
  /-- Endpoints that ask the compute die above for a cap (R162). -/
  capAsk : NSet := []
  /-- Rows out of service for a switch-over or a calibration window: endpoint × 16 + plane (R160, R192, R436); and the commissioned
  codes that windows adopted, by ring (R437). -/
  drained : NSet := []
  codes : Tbl Nat := []
  /-- Feed-forward per endpoint (R161): last power in W, target and output in µ°C. -/
  ffPower : Tbl Nat := []
  ffTarget : Tbl Int := []
  ffOut : Tbl Int := []
  tx : Tbl FlitTx := []
  rx : Tbl FlitRx := []
  /-- Multicast egress queues: (sender × 7 + group) × 4 + virtual channel; and what waits for room in them. -/
  mcast : Tbl (List OutFlit) := []
  mcastWait : Tbl (List OutFlit) := []
  mcastSeq : Tbl Nat := []
  deriving DecidableEq, Repr

/-! ## Laser supply and calibration (06_laser_supply.md, 14_startup_and_calibration.md) -/

/-- A comb source as the device sees it (R188 to R191): tap samples, newest first, in 0.01 dBm, at most 100,000 of them (1 s); L at its
last update, as sum and number of the samples it averages; its commissioning value; under ADVISORY; dark lines; a switch-over away from it
has been tried at its present level, and dark lines for which one has been tried. -/
structure Lamp where
  samples : List Int := []
  level : Int × Nat := (0, 0)
  p0 : Option Int := none
  advisory : Bool := false
  dark : NSet := []
  tried : Bool := false
  triedLines : NSet := []
  deriving DecidableEq, Repr

/-- A laser module (R182 to R197): its sources; ModuleReady and no fault; switch groups that pass source B; groups still to be
switched, drained or restored, lowest first; the source they go to; what the first is doing (0 nothing, 1 waiting for R194,
2 draining, 3 held and under test), and whether the groups are on their way back from a removal, held already; when it last answered its
bus (ns plus 1), and the log of what polls read (R183). -/
structure Laser where
  a : Lamp := {}
  b : Lamp := {}
  ready : Bool := false
  sel : NSet := []
  todo : List Nat := []
  dest : Nat := 0
  phase : Nat := 0
  back : Bool := false
  commissioning : Bool := false
  heard : Nat := 0
  log : List (Nat × CmisRead) := []
  deriving DecidableEq, Repr

/-- Laser modules and calibration windows (R435 to R438): windows open by group, when a group whose window was cut runs again
(ns plus 1), and since when a group has been deferred (ns plus 1) and whether CAL_DEFERRED has been raised. -/
structure LightSt where
  mods : Tbl Laser := []
  open_ : NSet := []
  again : Tbl Nat := []
  /-- Local time at which step 12 passed, and by group when its next slot begins (ns plus 1), 0 before its first (R435). -/
  calFrom : Nat := 0
  slot : Tbl Nat := []
  deferred : Tbl Nat := []
  told : NSet := []
  deriving DecidableEq, Repr

/-! ## Die stack (08_die_stack.md) -/

/-- A beat: its data and whether it ends a message (R232). -/
structure Beat where
  data : List Byte
  last : Bool
  deriving DecidableEq, Repr

/-- A vertical bundle (R230 to R239): physical lanes that are not good, the physical lane of each logical lane (empty: lanes 0 to 63),
sideband lanes lost (0 CLK, 1 CHK, 2 CTL, 3 SBS), and the times of the errors of a lane in the last second (68 CHK, 69 CTL, 70 SBS). -/
structure Bundle where
  bad : NSet := []
  bind : List Nat := []
  side : NSet := []
  errs : Tbl (List Nat) := []
  /-- Receiving end: next sequence number, the beat NAKed until its replay, its failed copy (data, control word), the message that is
  arriving and the messages delivered. -/
  next : Nat := 0
  nak : Option Nat := none
  failed : Option (List Byte × Nat) := none
  part : List Byte := []
  got : List (List Byte) := []
  /-- Sending end: beats waiting for credits, the last 64 sent with their sequence numbers, the next sequence number, credits
  outstanding, credits it returns for its partner, and replays in this second and the whole second before. -/
  q : List Beat := []
  sent : List (Nat × Beat) := []
  seq : Nat := 0
  used : Nat := 0
  owe : Nat := 0
  replay : Rate := {}
  replayPrev : Nat := 0
  /-- 0 none, 1 substitution, 2 narrowing, 3 retirement, 4 RESUME on its way; and whether the receiver has drained. -/
  pause : Nat := 0
  drained : Bool := false
  /-- Lane being replaced, the spare that trains (71 for SBS), lanes that wore meanwhile. -/
  worn : Option Nat := none
  spare : Option Nat := none
  wait : List Nat := []
  /-- What the next remap pause of its direction makes of it: 1 half H0, 2 half H1, 3 retired. -/
  plan : Nat := 0
  deriving DecidableEq, Repr

/-- The stacks. -/
structure StackSt where
  bundles : Tbl Bundle := []
  /-- Directions (2 × stack + direction) in a remap pause, and with 24 more those whose receivers have drained (R242). -/
  remap : NSet := []
  /-- Pairs (64 × stack + pair) retired in service, until a cold start builds or retires them again (R239). -/
  gone : NSet := []
  /-- Lanes recorded as worn in flash: bundle × 128 + lane (R234). -/
  wornFlash : NSet := []
  /-- Bundles at half width or retired (R448). -/
  narrow : NSet := []
  /-- Base-die resets that wait for a cache die (R255): quadrant, plus 4 when forced. -/
  baseWait : NSet := []
  /-- Compute dies halted for temperature (R408). -/
  halted : NSet := []
  deriving DecidableEq, Repr

/-! ## Edge ports (09_edge_ports.md) -/

/-- A packet in a landing bank, as its length record describes it (R279, R280). -/
structure Landed where
  stream : Nat
  status : Nat
  seq : Nat
  src : Nat
  bt : Nat
  data : List Byte
  deriving DecidableEq, Repr

/-- The two landing banks of one virtual channel of a receive lane (R279): the packets of the filling bank, the one that is open, and the
words of 32 bytes of the draining bank that the consumer has not read. -/
structure Landing where
  fill : List Landed := []
  part : Option Landed := none
  drain : List (List Byte) := []
  deriving DecidableEq, Repr

/-- What the registers of a link do not show (R284 to R288). -/
structure LinkSt where
  /-- TRAIN_IDENT has passed, TRAIN_ACK has come. -/
  ident : Bool := false
  acked : Bool := false
  peerBoot : Option Nat := none
  newBoot : Nat := 0
  initIn : Option (List Nat) := none
  /-- Failed tests in a row, and repair steps taken (R287). -/
  fails : Nat := 0
  steps : Nat := 0
  pausedHere : Bool := false
  /-- Beacon time exchange: offset and delay in 1/512 ns (R288). -/
  offset : Int := 0
  delay : Int := 0
  /-- Generator of the PRBS31 pattern of TEST (R173, R284). -/
  prbs : Nat := 2147483647
  land : Tbl Landing := []
  deriving DecidableEq, Repr

/-- A packet on its way out (R283): destination device, virtual channel, relay stream, link it names, endpoint that issued
it, bytes. -/
structure OutPkt where
  dst : Nat
  vc : Nat
  stream : Nat
  link : Option Nat
  ep : Nat
  bytes : List Byte
  deriving DecidableEq, Repr

/-- A token bucket of an endpoint for a destination (R283): tokens in 1/512 flit and the time of its last change. -/
structure Bucket where
  tokens : Int := 4096
  at_ : Nat := 0
  deriving DecidableEq, Repr

/-- The ports. -/
structure PortSt where
  /-- Links in FAULT (R287, R448). -/
  outs : NSet := []
  links : Tbl LinkSt := []
  /-- Commit FIFOs: port × 4 + virtual channel (R281): stream and bytes of each packet. -/
  commit : Tbl (List (Nat × List Byte)) := []
  /-- Packets on the way to the egress queues of each I/O die, and the queues: die × 1024 + destination (R283). -/
  issued : Tbl (List OutPkt) := []
  egress : Tbl (List OutPkt) := []
  band : Tbl Nat := []
  buckets : Tbl Bucket := []
  /-- Link that carried the last packet of an egress queue (R283), and lane the mover of a commit FIFO served last (R281). -/
  turn : Tbl Nat := []
  mover : Tbl Nat := []
  deriving DecidableEq, Repr

/-! ## Rack memory (10_rack_memory.md) -/

/-- A request packet (R303). -/
structure Pkt where
  op : Nat
  flags : Nat := 0
  source : Nat := 0
  e : Nat := 0
  seq : Nat := 0
  addr : Nat := 0
  window : Nat := 0
  target : Nat := 0
  key : Nat := 0
  pred : Nat := 0
  epoch : Nat := 0
  bootId : Nat := 0
  len : Nat := 0
  atom : Nat := 0
  tag : Nat := 0
  data : List Byte := []
  deriving DecidableEq, Repr

/-- A response packet (R305). -/
structure Rsp where
  op : Nat
  status : Nat := 0
  source : Nat := 0
  e : Nat := 0
  seq : Nat := 0
  value : Nat := 0
  responder : Nat := 0
  bootId : Nat := 0
  len : Nat := 0
  failRec : Nat := 0xFFFF
  offset : Nat := 0
  tag : Nat := 0
  data : List Byte := []
  deriving DecidableEq, Repr

/-- What a request or a record belongs to: a transfer operation (kind 1, or 5 for an RATOMIC: core `a`, queue, operation number), a
descriptor's remote write or read (2, 4: descriptor `a`), a collective (3), nothing (0). `off` and `n` place the data an answer brings
within the operation; `skip` bytes of the answer come before it (R317). -/
structure Own where
  kind : Nat
  a : Nat := 0
  q : Nat := 0
  id : Nat := 0
  off : Nat := 0
  n : Nat := 0
  skip : Nat := 0
  deriving DecidableEq, Repr

/-- A parcel record (R316) with what it belongs to and its target device. -/
structure Rec where
  dst : Nat
  kind : Nat
  atom : Nat := 0
  addr : Nat
  window : Nat
  key : Nat
  len : Nat
  data : List Byte := []
  own : Own
  deriving DecidableEq, Repr

/-- A request of a pair (E, target) (R306, R307): its I/O die, its packet, the lines it touches, what it belongs to, the
records of a parcel packet, the link it names, re-sends, and for a read that has been acknowledged or has its data. -/
structure Req where
  q : Nat
  pkt : Pkt
  lines : List Nat := []
  owns : List Own := []
  recs : List Rec := []
  link : Option Nat := none
  ep : Nat := 0
  tries : Nat := 0
  acked : Bool := false
  data : Bool := false
  deriving DecidableEq, Repr

/-- A pair (E, target): the next sequence number, unacknowledged requests in order, requests not sent yet. -/
structure Pair where
  next : Nat := 1
  sent : List Req := []
  wait : List Req := []
  deriving DecidableEq, Repr

/-- A reply slot of a source table entry (R309). -/
structure Reply where
  seq : Nat
  status : Nat
  value : Nat
  deriving DecidableEq, Repr

/-- A source table entry (R309). -/
structure SrcEnt where
  lca : Nat := 0
  bootId : Nat := 0
  epoch : Nat := 0
  done : BitVec 64 := 0
  inflight : BitVec 64 := 0
  valid : Bool := false
  fenced : Bool := false
  reply : List Reply := []
  deriving DecidableEq, Repr

/-- What a home answers for a forward: status, old value, data of a read, records that failed, with the answers of read
records (offset, data). -/
structure Applied where
  status : Nat := 0
  value : Nat := 0
  failRec : Nat := 0xFFFF
  reads : List (Nat × List Byte) := []
  deriving DecidableEq, Repr

/-- A forward from a landing die to a home (R310, R311): 0 on its way, 1 queued at the home, 2 applied. -/
structure Fwd where
  tag : Nat
  pkt : Pkt
  phase : Nat := 0
  sends : Nat := 1
  result : Applied := {}
  deriving DecidableEq, Repr

/-- A line's queue at its home (R312, R313): landing die and tag of each operation in arrival order. -/
structure LineQ where
  ops : List (Nat × Nat) := []
  hot : Bool := false
  deriving DecidableEq, Repr

/-- A contribution to a block at its owner: position, block, phase (1 exponent byte, 2 data), bytes. -/
structure Contrib where
  pos : Nat
  block : Nat
  phase : Nat
  data : List Byte
  deriving DecidableEq, Repr

/-- A collective the device runs (R321 to R325): identifier, descriptor, operation (0 REDUCE_SCATTER, 1 ALL_GATHER, 2 ALL_REDUCE),
mode and output format, the 14 bytes of its prefix, members and the own position, element count, addresses, contributions
received, blocks whose B is fixed, blocks reduced and gathered, whether its own slice has gone out, packets unanswered, status
so far, and blocks that overflowed. -/
structure Coll where
  id : Nat
  seq : Nat
  op : Nat
  mode : Nat
  outFmt : Nat
  plan : List Byte
  members : List Nat
  me : Nat
  count : Nat
  src : Nat
  dst : Nat
  contribs : List Contrib := []
  fixed : List (Nat × Nat) := []
  written : NSet := []
  gathered : NSet := []
  gathering : Bool := false
  unacked : Nat := 0
  status : Nat := 0
  overs : Nat := 0
  deriving DecidableEq, Repr

/-- A remote descriptor operation in flight (R354): packets unanswered, first failure, bytes moved. -/
structure DescOp where
  left : Nat
  status : Nat := 0
  moved : Nat := 0
  base : Nat := 0
  deriving DecidableEq, Repr

/-- Records, segments or messages of chapter 4 on their way to another device (R136, R137, R141, R142): target; what they belong to, 1 a
MOVE or PUT of berth `a` with its descriptor, 2 a GET of berth `a`, 3 a DROP or TOUCH, 4 a GET served to the target with its number, 0
nothing that waits; packets of the stage on its way that have no answer; the first failure; the stages that follow, each a list of
messages. -/
structure Mail where
  dst : Nat := 0
  job : Nat := 0
  a : Nat := 0
  seq : Nat := 0
  left : Nat := 0
  status : Nat := 0
  rest : List (List (List Byte)) := []
  deriving DecidableEq, Repr

/-- Rack memory. -/
structure RackSt where
  /-- Messages of chapter 4 on their way, by number, and the number of the next. -/
  mails : Tbl Mail := []
  mailTag : Nat := 0
  /-- Pairs, keyed E × 1,024 + target. -/
  pairs : Tbl Pair := []
  /-- Source table, keyed source × 64 + E. -/
  src : Tbl SrcEnt := []
  fwds : Tbl (List Fwd) := []
  nextTag : Tbl Nat := []
  /-- Results of the last 256 forwards a home applied for an I/O die, keyed home × 4 + die (R311). -/
  homeLog : Tbl (List (Nat × Applied)) := []
  lines : Tbl LineQ := []
  /-- Sources paused toward hot lines: landing die × 1,024 + device (R313). -/
  paused : NSet := []
  /-- Open parcels: die × 32 + rack, and the TAG of the next (R315). -/
  parcels : Tbl (List Rec) := []
  parcelTag : Nat := 0
  colls : List Coll := []
  collWait : List Coll := []
  /-- Contributions held until the owner accepts its descriptor: collective, the packet (R325). -/
  held : List (Nat × Nat × Pkt) := []
  descOps : Tbl DescOp := []
  resend : Tbl Rate := []
  /-- Time of the last WINDOW_FAULT per source (R327), plus 1. -/
  winFault : Tbl Nat := []
  /-- Fence table: FENCE and CONT per device (R451). -/
  fence : Tbl Nat := []
  cont : Tbl Nat := []
  /-- Reduction units taken out of service (R445). -/
  deadUnits : NSet := []
  deriving DecidableEq, Repr


/-! ## Command path (11_host_and_command.md) -/

/-- An accepted descriptor that has not completed (R349, R350): its ring, ACCEPT_SEQ and 128 bytes; phase 0 accepted, 1 started,
2 finished and due for its record; whether a degraded state held while it ran; what its record will carry (R357, R358). -/
structure Desc where
  ring : Nat
  seq : Nat
  bytes : List Byte
  phase : Nat := 0
  degraded : Bool := false
  status : Nat := 0
  detail : Nat := 0
  value : Nat := 0
  /-- A result copy is due before the record (R353). -/
  copy : Bool := false
  deriving DecidableEq, Repr

/-- The command path. -/
structure CmdSt where
  /-- COUNT of the watch lines by command ring, and of the head lines: completion rings 0 to 31, the event ring 32 (R346). -/
  watch : Tbl Nat := []
  head : Tbl Nat := []
  /-- Records written, and records without an MSI-X since the last one, by completion ring and 32 (R357, R367). -/
  written : Tbl Nat := []
  unsig : Tbl Nat := []
  /-- Ring served last in each class, and descriptors of higher classes accepted while a ring waited (R348). -/
  turn : Tbl Nat := []
  starve : Tbl Nat := []
  descs : List Desc := []
  nextSeq : Nat := 1
  /-- Value written to RNG_CTR_HI_k, until LO is written (R367). -/
  ctrHi : Tbl Nat := []
  /-- NO_COMMAND_PORT, acceptances recorded on one die only, and what was discarded while the host was absent (R336, R341, R343). -/
  noPort : Bool := false
  mirrorLost : Bool := false
  discard : Nat := 0
  /-- Completion records that have their slot and are not marked written yet, as completion ring, host address and bytes (R343). -/
  due : List (Nat × Nat × List Byte) := []
  /-- MSI-X tables of the two ports, keyed (port × 64 + vector) × 4 + word, and pending bits (R338, R505). -/
  msixTab : Tbl Word := []
  msixPend : NSet := []
  /-- Whether and where the HDM range answers: what the last reads brought, with the poison indication (R340). -/
  cxl : List (List Byte × Bool) := []
  /-- Size of the host's DDR5 in bytes from address 0 (log entry 17). -/
  ddr : Nat := 2 ^ 40
  /-- Latches of the ports: CLK_BT_HI at the last read of CLK_BT_LO, and the berth read last through word 0 with its entry
  (R393, R504). -/
  btLatch : Tbl Nat := []
  brtLatch : Tbl (Nat × List Byte) := []
  deriving DecidableEq, Repr
/-! ## Clock islands and beacon time (12_clocking_and_time.md) -/

/-- An island (R373 to R376): the step a change in progress goes to; a margin warning stands; since when MARGIN has been at least WARN +
2, and at least WARN; when the margin cap last moved; CRIT holds; at FLOOR since; POLICY_LIMITED raised for it. Times are local, plus 1.
-/
structure Island where
  goal : Option Nat := none
  warned : Bool := false
  above2 : Nat := 0
  above : Nat := 0
  moved : Nat := 0
  crit : Bool := false
  floor : Nat := 0
  limited : Bool := false
  deriving DecidableEq, Repr

/-- Clocks and beacon time: stretch counts of the domains no register shows and rates of all (R375, R388); trim of the generator in
1/512 ns per ms with its remainder (R383); offsets of the present group of 16 exchanges in 1/512 ns, exchanges in a row within
1.5 ns and beyond 10 ns, the last offset (R384); offset of each die's count (R379). -/
structure ClkSt where
  isl : Tbl Island := []
  stretch : Tbl Nat := []
  rate : Tbl Rate := []
  trim : Int := 0
  acc : Int := 0
  offs : List Int := []
  good : Nat := 0
  far : Nat := 0
  last : Int := 0
  die : Tbl Int := []
  /-- Calibrated latencies L of the crossings into a domain, in receiver cycles: islands 0 to 431, the fixed domains of die d at 432 + d
  (R370, R371). -/
  lat : Tbl (List Nat) := []
  deriving DecidableEq, Repr

/-! ## Power and thermal control (13_power_and_thermal.md) -/

/-- What the power and thermal registers do not show. Limit sources are keyed 16 × compute die + code of R414; key 193 is the
supply-dip source of the package (R401). -/
structure PwrSt where
  /-- Step of each source, sources that rise again (R415), and sources whose cap or bound has been reported (R412, R417). -/
  src : Tbl Nat := []
  rising : NSet := []
  capped : NSet := []
  bound : NSet := []
  /-- Package power over the last 100 µs, newest first (R402); local times, plus 1, of the loop's last move, last step down, last step
  up, and since when P100 has been more than 290 W below the limit. -/
  power : List Nat := []
  pkgMove : Nat := 0
  pkgDown : Nat := 0
  pkgUp : Nat := 0
  pkgUnder : Nat := 0
  /-- Rails with V_S below warning: 0 VIN, 1 VPH (R401); HBM rails out of range, 4 × quadrant + rail (R397). -/
  low : NSet := []
  hbmBad : NSet := []
  /-- Phases retired: 64 × die + 32 for the cache rail + phase (R398). -/
  phases : NSet := []
  /-- Cap of the current limit on each island (R403), since when the current has been 16 A below, and dies at half matrix rate. -/
  cap : Tbl Nat := []
  under : Tbl Nat := []
  half : NSet := []
  /-- Broken sensors, 64 × die + sensor (R406), the last readings of each region in 0.25 °C (broken regions not listed), die
  temperatures in 0.25 °C, and those of compute dies over the last 200 µs, newest first (R407, R411). -/
  sensors : NSet := []
  regions : Tbl Int := []
  temp : Tbl Int := []
  hist : Tbl (List Int) := []
  /-- Compute dies whose rate source is held, at 10 °C/ms and at 25 °C/ms (R411). -/
  fast : NSet := []
  severe : NSet := []
  /-- Base-die pairs last seen out of range: local time plus 1, by 16 × die + pair (R175). -/
  outAt : Tbl Nat := []
  /-- Halted I/O dies (R409). -/
  ioHalt : NSet := []
  /-- Last step up of the thermal loop, and headroom at the last pass of the headroom cap (R408, R412). -/
  thmUp : Tbl Nat := []
  head : Tbl Nat := []
  /-- Parameters chosen by a band: 32 × die + region of a base die, 32 × die of a compute or cache die (R410). -/
  param : Tbl Nat := []
  /-- Regions a heater grid heats, 8 × base die + region, and its draw in W (R413). -/
  heat : NSet := []
  grid : Tbl Nat := []
  deriving DecidableEq, Repr


/-! ## Lightvessel (15_reliability.md) -/

/-- What the lightvessel registers do not show (R450 to R462). -/
structure LvSt where
  side : Nat := 0
  pairId : Nat := 0
  witness : Nat := 0
  /-- Descriptors of a PAIR and of a TAKEOVER that have not completed, and whether PAIRING was entered from EXPOSED. -/
  pairSeq : Option Nat := none
  takeSeq : Option Nat := none
  fromExposed : Bool := false
  /-- Partner, PAIR_ID, SIDE and witness of the EXPOSED state that PAIRING came from (R454, R455). -/
  was : Nat × Nat × Nat × Nat := (0, 0, 0, 0)
  /-- How EXPOSED was reached: 0 not through a grant, 1 CONTINUE, 2 TAKEOVER. -/
  lease : Nat := 0
  /-- Notices sent and not acknowledged: device, packet (R457). -/
  notices : List (Nat × Pkt) := []
  /-- Witness in quarantine (R454). -/
  quarantine : Bool := false
  /-- Checkpoints in flight: TOKEN_COUNT plus 1; berths due for another; records held: descriptor, berth, TOKEN_COUNT of the checkpoint;
  berths overdue. -/
  flight : Tbl Nat := []
  due : NSet := []
  holds : List (Nat × Nat × Nat) := []
  overdue : NSet := []
  /-- Berths whose checkpoint at pairing is still to be acknowledged. -/
  first : NSet := []
  /-- On a standby: mirrors, and header and tail of the last complete checkpoint of each. -/
  mirrors : NSet := []
  heads : Tbl (List Byte × List Byte) := []
  deriving DecidableEq, Repr

/-! ## Watch rooms, firmware and monitor (16_firmware_and_security.md, 18_monitor_and_package.md) -/

/-- An image slot of a flash (R476): STATE (0 EMPTY, 1 ARRIVING, 2 READY, 3 ACTIVE, 4 FALLBACK, 5 BAD), header, manifest, arrival
bitmap. -/
structure Slot where
  state : Nat := 0
  hdr : List Byte := []
  manifest : List Byte := []
  have_ : NSet := []
  deriving DecidableEq, Repr

/-- A watch room (R469): role (0 COLD, 1 LOADING, 2 STANDBY, 3 ACTIVE, 4 FAILED), header of its image, image verified, and local
times, plus 1, of its last two failures. -/
structure Watch where
  role : Nat := 0
  hdr : List Byte := []
  verified : Bool := false
  failAt : Nat := 0
  failPrev : Nat := 0
  deriving DecidableEq, Repr

/-- A BAR0 write that a handover holds (R473): port, offset, low word, high word of an 8-byte access, and what the security engine
and the flashes will answer. -/
structure HeldWrite where
  p : Nat
  off : Nat
  v : Word
  hi : Option Word
  env : FwEnv
  deriving DecidableEq, Repr

/-- Watch rooms, flashes and the tender. -/
structure FwSt where
  /-- A start that is due: 0 none, 1 cold, 2 warm (R431); dies held in reset for want of a reference clock, and the clock lost
  (R531). -/
  due : Nat := 1
  refHeld : Bool := false
  refLost : Bool := false
  rooms : Tbl Watch := []
  /-- Image slots, keyed 2 × flash + slot; flashes that have shown an error (R477). -/
  slots : Tbl Slot := []
  flashBad : NSet := []
  /-- The copies of BOOT_ID on the flashes, keyed 2 × flash + copy (R292). -/
  bootIds : Tbl Nat := []
  /-- Settings in flash (R483): schema of each stored group, its registers with the bits stored, and POLICY. -/
  schemas : Tbl Nat := []
  stored : List (Nat × Nat × Word × Word) := []
  policy : Nat := 31
  /-- The tender (R478): source (0 device memory, 1 BMC, 2 lost), its address, bytes of the piece so far, FW_GET outstanding,
  failures of a piece, reads of the last 10 s (local time, bytes). -/
  src : Nat := 2
  addr : Nat := 0
  part : List Byte := []
  asked : Bool := false
  bad : Tbl Nat := []
  reads : List (Nat × Nat) := []
  /-- BAR0 writes held by a handover (R473), and the last shadow record (R470). -/
  held : List HeldWrite := []
  shadow : List Byte := []
  /-- Deadlines missed in a row by task (R471). -/
  missed : Tbl Nat := []
  /-- Security version fuses of IO0 and IO1 (R482). -/
  fuse0 : Nat := 0
  fuse1 : Nat := 0
  /-- Identity leaves (R485): next leaf, end of its batch, persisted index; LEAVES_LOW raised. -/
  leaf : Nat := 0
  batch : Nat := 0
  persisted : Nat := 0
  leavesLow : Bool := false
  /-- Attestation (R486): fill of the token bucket in ns of refill, its time, time of the last ATTEST_BUSY plus 1; repair record of
  the last report (R489). -/
  bucket : Nat := 3600000000000
  bucketAt : Nat := 0
  busyAt : Nat := 0
  repair : List Byte := []
  /-- Next record the BMC has not read, and local time from which EVENT_NOTIFY may be sent again (R489). -/
  bmcRead : Nat := 0
  notifyAt : Nat := 0
  deriving DecidableEq, Repr

/-- The monitor (R517 to R525): challenge block and its local time; failed unlocks in a row and the time of the last; an UNLOCK that
reads its signature (scope, minutes, bytes so far); the open session (0 none, 1 SERVICE, 2 DEBUG); commands that wait for the end of
a handover (R525). -/
structure MonSt where
  block : Option (List Byte) := none
  blockAt : Nat := 0
  fails : Nat := 0
  failAt : Nat := 0
  unlock : Option (Nat × Nat × List Byte) := none
  scope : Nat := 0
  waiting : List MonCmd := []
  deriving DecidableEq, Repr

/-! ## The whole state -/

/-- What the device sends out, oldest first: to other devices, to the host die and to the board. -/
inductive Msg
  /-- A beat on a vertical bundle (R230, R232): bundle, 128 data bytes, control word, check. -/
  | beat (x : Nat) (data : List Byte) (ctl crc : Nat)
  /-- A codeword on a lane (R266): the levels of its 1,088 PAM4 symbols. -/
  | flit (ch : Chan) (lane : Nat) (levels : List (Fin 4))
  /-- MSI-X of a command port (R338): port and vector. -/
  | msix (port vector : Nat)
  /-- A berth image (R136) or a checkpoint of it (R460): target device and berth, number of the operation, header, records, tail. -/
  | berth (dst berth seq : Nat) (header recs tail : List Byte)
  /-- The target's answer to a berth image (R136). -/
  | berthAck (dst seq status : Nat)
  /-- The acknowledgement of a checkpoint (R460): device and berth. -/
  | checkpointAck (dst berth : Nat)
  /-- A mooring message (R141 to R143): device; 0 announcement, 1 segment, 2 segment 0, 3 GET, 4 DROP, 5 TOUCH, 6 result, 7 end of a
  GET; number of the operation, key, segment, status, data. -/
  | moor (dst kind op : Nat) (key : W64) (seg status : Nat) (data : List Byte)
  /-- A segment of a GET on its way to the requester (R142). -/
  | moorSeg (dst op seg : Nat) (data : List Byte)
  /-- A message to the board management controller (R488). -/
  | mctp (bytes : List Byte)
  /-- A line of the monitor's output (R518). -/
  | line (text : String)
  deriving DecidableEq, Repr

/-- One record of the event buffer (R360, R361). -/
structure EvRec where
  code : Nat
  lost : Bool
  seq : Nat
  bt : Nat
  source : Nat
  data : List Byte
  deriving DecidableEq, Repr

/-- The state of the device. -/
structure State where
  /-- Commands that wait, first in, first out (the model's own). -/
  pending : List Instr := []
  /-- Free values drawn so far (the model's own; log entry 4). -/
  free : Nat := 0
  /-- Local time in ns since reset (the model's own; log entry 3). -/
  now : Nat := 0
  /-- Beacon time of the package in ns (R379). -/
  bt : Nat := 0
  /-- Set-up registers by BAR0 offset (R502, R503); an unlisted one holds its reset value. -/
  regs : Tbl Word := []
  /-- Device memory by canonical address (R202): per-stack views, direct windows, scratchpads. -/
  dmem : List Host.Cell := []
  /-- Poisoned 32-byte units, canonical address / 32 (R215). -/
  poison : NSet := []
  /-- Host memory as the device wrote it (R339). -/
  hmem : List Host.Cell := []
  cores : Tbl Core := []
  /-- Accumulator tiles (R37): key ((physical core × 4 + engine) × 2 + tile) × 8192 + row × 64 + column, physical core p of die d being
  18 d + p. -/
  tiles : Tbl Word := []
  launches : List Launch := []
  reports : List Report := []
  evts : List EvRec := []
  evSeq : Nat := 0
  evDropped : Nat := 0
  /-- The log of event records for the board management controller (R489), oldest first, at most 8,192. -/
  bmcLog : List EvRec := []
  mem : MemSt := {}
  role : RoleSt := {}
  fab : FabSt := {}
  light : LightSt := {}
  clk : ClkSt := {}
  pwr : PwrSt := {}
  port : PortSt := {}
  rack : RackSt := {}
  stack : StackSt := {}
  cmd : CmdSt := {}
  lv : LvSt := {}
  fw : FwSt := {}
  mon : MonSt := {}
  out : List Msg := []
  deriving DecidableEq, Repr

/-- The machine right after reset: every register at the reset value of its field table (R507), nothing listed in memory,
every queue and table empty. -/
def State.reset : State := {}

end Sys2Proof.Machine
end

