-- ==== Sys2Proof/Machine/Flags.lean ====
section
/-!
DEFINITION. Registers, flags and events: reading and writing a named field, counts that saturate, rates within a window of
time, and raising an event record (R15, R360, R361, R542 to R544).
-/
namespace Sys2Proof.Machine

abbrev Out := Host.Outcome State Fault Refusal

/-- The word a set-up register holds. -/
def State.reg (s : State) (off : Nat) : Word := tget regReset s.regs off

/-- Replace the word of a set-up register. -/
def State.setReg (s : State) (off : Nat) (w : Word) : State := { s with regs := tput regReset s.regs off w }

/-- The value of a named field of the register of index `i`. -/
def State.rd (s : State) (f : Fld) (i : Nat := 0) : Nat := bitsGet (s.reg (f.off i)) f.hi f.lo

/-- Write a named field of the register of index `i`. -/
def State.wr (s : State) (f : Fld) (i v : Nat) : State := s.setReg (f.off i) (bitsSet (s.reg (f.off i)) f.hi f.lo v)

/-- Whether a one-bit field is set. -/
def State.bit (s : State) (f : Fld) (i : Nat := 0) : Bool := s.rd f i == 1

/-- A Bool as a field value. -/
def b2n (b : Bool) : Nat := if b then 1 else 0

/-- Add to a counting field, which saturates at all ones. -/
def State.bump (s : State) (f : Fld) (i k : Nat) : State := s.wr f i (min (s.rd f i + k) (2 ^ f.width - 1))

/-- Draw a free value: what the spec leaves open where the machine goes on (log entry 4). -/
def State.freeVal (s : State) : W64 := Config.freeValue s.free

/-- Count the free value as drawn. -/
def State.drawn (s : State) : State := { s with free := s.free + 1 }

/-- The lowest `n` bits of a number, tested one by one. -/
def bitAt (v i : Nat) : Bool := v / 2 ^ i % 2 = 1

/-- A count in the window of length `len` ns that holds `now`: the new rate after `k` more. -/
def Rate.add (r : Rate) (len now k : Nat) : Rate :=
  if r.win = now / len then ⟨r.win, r.n + k⟩ else ⟨now / len, k⟩

def nsSec : Nat := 1000000000
def nsHour : Nat := 3600 * nsSec
def nsDay : Nat := 24 * nsHour

/-- Numbers of the dies as R260 lists them. -/
def dieSD (n : Nat) : Nat := 4 + n
def dieCD (n : Nat) : Nat := 16 + n
def dieIO (q : Nat) : Nat := 28 + q
def dieHD : Nat := 32
/-- SOURCE of an event of the package as a whole (R544). -/
def srcPkg : Nat := 0xFF

/-- DATA of an event: values with their widths in bytes, little-endian, padded to 12 bytes (R543). -/
def evData (d : List (Nat × Nat)) : List Byte :=
  (d.flatMap (fun (v : Nat × Nat) => leBytes v.1 v.2) ++ List.replicate 12 0).take 12

/-- Put a record into the event buffer, and with it into the log for the board management controller, which keeps the last 8,192
records of the event ring (R361, R489). -/
def State.record (s : State) (r : EvRec) : State :=
  { s with evts := s.evts ++ [r], bmcLog := (s.bmcLog ++ [r]).drop (s.bmcLog.length + 1 - 8192) }

/-- Raise an event: into the buffer of 4,096 records, or dropped and counted while it is full (R361); its number is spent
either way. -/
def State.raise (s : State) (code source : Nat) (data : List (Nat × Nat)) : State :=
  let r : EvRec := ⟨code, false, s.evSeq, s.bt, source, evData data⟩
  let s := { s with evSeq := (s.evSeq + 1) % 2 ^ 32 }
  if s.evts.length < 4096 then s.record r
  else { s with evDropped := s.evDropped + 1 }.bump F.EVT_STATUS_DROPPED 0 1

/-- Severity of an event code (R542): 0 information, 1 advisory, 2 degraded, 3 error. -/
def evSeverity (code : Nat) : Nat :=
  let lists : List Nat × List Nat × List Nat :=
    if code < 0x0140 then ([3, 6, 9, 0x10], [1, 4, 7], [8])
    else if code < 0x0200 then ([0x40, 0x41, 0x43, 0x45, 0x48, 0x49, 0x4A], [0x46], [])
    else if code < 0x0300 then ([5, 8], [2, 6, 7], [3])
    else if code < 0x0400 then ([1, 2, 8, 9], [5, 0xB, 0xC], [6])
    else if code < 0x0500 then ([1, 0xC], [5, 6, 7, 8, 0xA], [9])
    else if code < 0x0520 then ([2, 7, 8, 0xB], [5, 6], [3, 9])
    else if code < 0x0540 then ([0x21, 0x23, 0x25, 0x27], [], [0x20, 0x22, 0x28])
    else if code < 0x0600 then ([0x42, 0x47], [0x40, 0x41, 0x48], [0x43, 0x44, 0x46, 0x49, 0x4A])
    else if code < 0x0700 then ([1, 9], [4], [2, 6, 0xA])
    else if code < 0x0800 then ([5, 0xA], [2, 3, 6, 7], [4, 9])
    else if code < 0x0900 then ([4, 6], [2], [1, 5])
    else if code < 0x0A00 then ([2, 3, 5, 6, 7], [], [4])
    else if code < 0x0B00 then ([6], [2, 4, 5, 7, 9, 0x10], [3])
    else if code < 0x0B80 then ([4, 6, 7, 0xB, 0x10], [2, 3, 5, 0xC, 0xE], [])
    else if code < 0x0C00 then ([0x85, 0x86], [0x81], [0x82])
    else if code < 0x0C20 then ([4, 5], [], [1, 3, 6])
    else ([0x20, 0x21], [], [])
  let lo := code % 256
  if lists.1.contains lo then 1 else if lists.2.1.contains lo then 2 else if lists.2.2.contains lo then 3 else 0

/-- One nanosecond passes: local time, and beacon time with it, which the generator's trim slews by at most one nanosecond
(R383; log entry 3). -/
def State.idle (s : State) : State :=
  let acc := s.clk.acc + s.clk.trim
  let unit : Int := 512 * 1000000
  let step : Nat := if unit ≤ acc then 2 else if acc ≤ -unit then 0 else 1
  { s with now := s.now + 1, bt := (s.bt + step) % 2 ^ 64, clk := { s.clk with acc := acc - (step - 1 : Int) * unit } }

/-- Beacon time as die `d` of R260 counts it (R379). -/
def State.btOf (s : State) (d : Nat) : Nat := (((s.bt : Int) + tget (fun _ => 0) s.clk.die d) % 2 ^ 64).toNat

/-- Level D5 of R448: a base die FAILED, start-up failed, or the device FENCED. -/
def State.noService (s : State) : Bool :=
  (List.range 4).any (fun q => s.rd F.STK_DIE_STATE (12 + q) == 4) || s.bit F.GLB_START_FAILED || s.rd F.LVS_STATUS_STATE == 7

/-- Deepest level of a set of conditions (R448). -/
def levelOf (c : Nat) : Nat :=
  if bitAt c 10 then 4 else if c / 2 ^ 7 % 8 ≠ 0 then 3 else if c / 2 ^ 5 % 4 ≠ 0 then 2 else if c = 0 then 0 else 1

/-- Bring LEVEL of GLB_DEGRADED up to date, with DEGRADED_ENTER or DEGRADED_LEAVE; descriptors that run while a level of D1 to D4
holds are marked (R448, R449). -/
def State.setLevel (s : State) : State :=
  let old := s.rd F.GLB_DEGRADED_LEVEL
  let new := if s.noService then 5 else levelOf (s.rd F.GLB_DEGRADED_CONDITIONS)
  let s1 := if 0 < new ∧ new < 5 then
      { s with cmd := { s.cmd with descs := s.cmd.descs.map (fun d => if d.phase = 1 then { d with degraded := true } else d) } }
    else s
  if new = old then s1
  else (s1.wr F.GLB_DEGRADED_LEVEL 0 new).raise (if old < new then 0x0A10 else 0x0A11) srcPkg [(1, old), (1, new)]

/-- Condition `i` of R448 holds or not. -/
def State.setCond (s : State) (i : Nat) (b : Bool) : State :=
  let c := s.rd F.GLB_DEGRADED_CONDITIONS
  if bitAt c i = b then s.setLevel
  else (s.wr F.GLB_DEGRADED_CONDITIONS 0 (if b then c + 2 ^ i else c - 2 ^ i)).setLevel

/-- Send a message out of the device. -/
def State.send (s : State) (m : Msg) : State := { s with out := s.out ++ [m] }

end Sys2Proof.Machine
end

