-- ==== Sys2Proof/Machine/Views.lean ====
section
/-!
DEFINITION. What a read shows: berth and mooring table entries as bytes (R129, R139), and set-up registers whose value is computed
when they are read (R145, R149, R249, R259, R364, R367, R393, R504).
-/
namespace Sys2Proof.Machine

/-- The stacks in the list S of R204, ascending. -/
def State.stackList (s : State) : List Nat :=
  (List.range 12).filter (fun i => bitAt (s.rd F.MEM_MAP_STACKS) i)

/-- Stacks present at start-up and not retired since (R206). -/
def State.liveStacks (s : State) : List Nat := s.stackList.filter (fun st => !s.bit F.MEM_HBM_RETIRED st)

/-- Whether feature bit `n` is in the accepted mask (R363). -/
def State.feature (s : State) (n : Nat) : Bool :=
  s.bit F.NEG_CTRL_COMMITTED && bitAt (s.rd F.NEG_ACCEPT_ACCEPT (n / 32)) (n % 32)

/-- What the CXL DVSEC of each command port announces: vendor and device identifier; and the class code of its function 0 (R13, R338). -/
def vendorId : Nat := 0x1FD7
def deviceId : Nat := 0x4D31
def classCode : Nat := 0x120000

/-- What each command port presents as function 0: vendor, device and class (R13, R338). -/
def functionId (_port : Fin 2) : Nat × Nat × Nat := (vendorId, deviceId, classCode)

/-! ## Berths and pages -/

def State.berth (s : State) (b : Nat) : Berth := tget (fun _ => {}) s.role.berths b

/-- The 64 bytes of a berth table entry (R129). -/
def State.berthBytes (s : State) (b : Nat) : List Byte :=
  let e := s.berth b
  leBytes 1 e.state ++ leBytes 1 e.kvFmt ++ leBytes 1 e.pending ++ [0] ++ leBytes 4 e.tokens ++ leBytes 4 e.maxTokens ++
  leBytes 4 e.steps ++ leBytes 8 e.pagelist ++ leBytes 8 e.samplingKey.toNat ++ leBytes 8 e.sessionKey.toNat ++
  leBytes 4 e.lvCursor ++ leBytes 4 e.opSeq ++ List.replicate 16 0

/-- Pages of a sub-pool that may be allocated: all but the last ones, which hold the free list (R130). -/
def State.poolPages (s : State) : Nat :=
  let p := s.role.setup.poolPages
  let per := s.role.setup.page / 8
  if per = 0 then 0 else p - (p + per - 1) / per

def State.usedPages (s : State) (st : Nat) : NSet := tget (fun _ => []) s.role.used st

def State.freePages (s : State) (st : Nat) : Nat := s.poolPages - (s.usedPages st).length

/-! ## Mooring table -/

def State.moorAt (s : State) (i : Nat) : MoorEnt := tget (fun _ => {}) s.role.moor i

/-- The 32 bytes of an entry (R139). -/
def MoorEnt.bytes (e : MoorEnt) : List Byte :=
  leBytes 8 e.key.toNat ++ leBytes 2 e.seg ++ leBytes 1 e.state ++ leBytes 1 e.format ++ leBytes 4 e.length ++ leBytes 8 e.location ++
  leBytes 4 e.stamp ++ leBytes 2 e.gen ++ [0, 0]

/-- Valid entries (R145). -/
def State.moorValid (s : State) : Nat := (s.role.moor.filter (fun (e : Nat × MoorEnt) => e.2.state != 0)).length

/-! ## Registers -/

/-- Replays of a bundle in the last whole second (R259). -/
def State.replays (s : State) (x : Nat) : Nat :=
  let b : Bundle := tget (fun _ => {}) s.stack.bundles x
  let win := s.now / 1000000000
  min 65535 (if b.replay.win = win then b.replayPrev else if b.replay.win + 1 = win then b.replay.n else 0)

/-- Replace bits of a word that a read computes. -/
def withField (w : Word) (f : Fld) (v : Nat) : Word := bitsSet w f.hi f.lo v

/-- The word at an aligned offset as a read through the mirror shows it, with no side effect (R500). -/
def State.regView (s : State) (off : Nat) : Word :=
  let w := s.reg off
  let word := fun (v : Nat) => BitVec.ofNat 32 v
  if 0xD10000 ≤ off ∧ off < 0xD10000 + 64 * 6144 then
    word (leNat (((s.berthBytes ((off - 0xD10000) / 64)).drop ((off - 0xD10000) % 64)).take 4))
  else if off = 0x500018 then word (s.bt % 2 ^ 32)
  else if off = 0x50001C then word (s.bt / 2 ^ 32)
  else if off = F.EVT_STATUS_BUFFERED.off 0 then withField w F.EVT_STATUS_BUFFERED s.evts.length
  else if off = F.EVT_CFG_MSIX_EN.off 0 then if s.feature 1 then w else withField w F.EVT_CFG_MSIX_EN 0
  else if 0x301010 ≤ off ∧ off < 0x301410 ∧ off % 0x20 = 0x10 then if s.feature 1 then w else withField w F.RNG_CQ_CFG_MSIX_EN 0
  else if off = F.FAB_CTRL_FF_ENABLE.off 0 then if s.bit F.STK_PKG_FF_TELEMETRY then w else withField w F.FAB_CTRL_FF_ENABLE 0
  else if 0xD00100 ≤ off ∧ off < 0xD00130 then
    let st := (off - 0xD00100) / 4
    let on := s.rd F.BRT_ROLE_ROLE == 1 || s.rd F.BRT_ROLE_ROLE == 2
    word (if on ∧ s.liveStacks.contains st then s.freePages st else 0)
  else if off = 0xE00000 then word (if s.rd F.BRT_ROLE_ROLE = 3 then s.moorValid else 0)
  else if off = 0xE00004 then word (if s.rd F.BRT_ROLE_ROLE = 3 then s.role.setup.cpoolSlots - s.role.slots.length else 0)
  else if off = 0xE00008 then if s.rd F.BRT_ROLE_ROLE = 3 then w else 0
  else if 0xE00100 ≤ off ∧ off < 0xE00140 then if s.rd F.BRT_ROLE_ROLE = 3 then w else 0
  else if 0xC02000 ≤ off ∧ off < 0xC02000 + 4 * 1536 then withField w F.STK_VB_BUNDLE_REPLAYS (s.replays ((off - 0xC02000) / 4))
  else w

end Sys2Proof.Machine
end

