-- ==== Sys2Proof/Machine/Ops.lean ====
section
/-!
DEFINITION. The named operations over device memory and cores: the address map (R202 to R208), reads and writes of bytes
with their poison marks (R210, R211, R215), copies that carry marks, and access to a core's registers.
-/
namespace Sys2Proof.Machine

/-- Where an address of the DPA space lies (R202, R207). -/
inductive Loc
  | hbm (st off : Nat)
  | sram (n off : Nat)
  | scratch (lc off : Nat)
  | ioSram (q off : Nat)
  | berth (q off : Nat)
  | moor (q off : Nat)
  | mirror (off : Nat)
  | none
  deriving DecidableEq, Repr

/-- The address map of R202, R204 and R207. -/
def State.locate (s : State) (a : Nat) : Loc :=
  if a < 0x20000000000 then
    let n := s.rd F.MEM_MAP_N
    if a < n * 0x2000000000 then
      let g := a / 4096
      let q := g / n
      let r := g % n
      .hbm (s.stackList.getD ((r + q) % n) 0) (q * 4096 + a % 4096)
    else .none
  else if a < 0x38000000000 then .hbm ((a - 0x20000000000) / 0x2000000000) ((a - 0x20000000000) % 0x2000000000)
  else if a < 0x38180000000 then
    let o := a - 0x38000000000
    if o % 0x20000000 < 0x18000000 then .sram (o / 0x20000000) (o % 0x20000000) else .none
  else if 0x39000000000 ≤ a ∧ a < 0x39060000000 then
    let o := a - 0x39000000000
    if o % 0x800000 < 0x600000 then .scratch (o / 0x800000) (o % 0x800000) else .none
  else if 0x3A000000000 ≤ a ∧ a < 0x3A040000000 then
    let o := a - 0x3A000000000
    let q := o / 0x10000000
    let w := o % 0x10000000
    if w < 0x1000000 then .ioSram q w
    else if 0x2000000 ≤ w ∧ w < 0x2018000 then .berth q (w - 0x2000000)
    else if 0x4000000 ≤ w ∧ w < 0x6000000 then .moor q (w - 0x4000000)
    else .none
  else if 0x3F000000000 ≤ a ∧ a < 0x3F004000000 then .mirror (a - 0x3F000000000)
  else .none

/-- The range of R202 or window slot of R207 an address belongs to; an access may not reach past its end (R203). -/
def State.region (s : State) (a : Nat) : Option Nat :=
  match s.locate a with
  | .none => Option.none
  | .hbm st _ => if a < 0x20000000000 then some 0 else some (1 + st)
  | .sram n _ => some (100 + n)
  | .scratch lc _ => some (200 + lc)
  | .ioSram q _ => some (500 + q)
  | .berth q _ => some (510 + q)
  | .moor q _ => some (520 + q)
  | .mirror _ => some 530

/-- The canonical address of a byte: one per byte, whichever view names it (R205). -/
def Loc.key : Loc → Nat
  | .hbm st off => 0x20000000000 + st * 0x2000000000 + off
  | .sram n off => 0x38000000000 + n * 0x20000000 + off
  | .scratch lc off => 0x39000000000 + lc * 0x800000 + off
  | .ioSram q off => 0x3A000000000 + q * 0x10000000 + off
  | .berth q off => 0x3A002000000 + q * 0x10000000 + off
  | .moor q off => 0x3A004000000 + q * 0x10000000 + off
  | .mirror off => 0x3F000000000 + off
  | .none => 0x40000000000

/-- Whether a location may be written (R207). -/
def Loc.writable : Loc → Bool
  | .hbm _ _ | .sram _ _ | .scratch _ _ | .ioSram _ _ => true
  | _ => false

/-- Bytes of the direct part of SDn in the mode in force (R212). -/
def State.directBytes (s : State) (n : Nat) : Nat :=
  let m := tget (fun _ => 0) s.mem.sramMode n
  if m % 256 = 1 then 0x18000000 else if m % 256 = 2 then 0x18000000 - m / 256 * 0x2000000 else 0

/-- Whether die `d` of R260 is in service (R515). -/
def State.inService (s : State) (d : Nat) : Bool := s.rd F.GLB_INV_STATE d == 0

def State.core (s : State) (lc : Nat) : Core := tget (fun _ => {}) s.cores lc

def State.setCore (s : State) (lc : Nat) (c : Core) : State := { s with cores := tput (fun _ => {}) s.cores lc c }

/-- The conditions of R203 that the issuing core cannot see. -/
def State.live (s : State) (l : Loc) : Bool :=
  match l with
  | .hbm st _ => bitAt (s.rd F.MEM_MAP_STACKS) st && !s.bit F.MEM_HBM_RETIRED st
  | .sram n off => s.inService (dieSD n) && off < s.directBytes n
  | .scratch lc _ => (s.core lc).cstate != .absent
  | .none => false
  | _ => true

/-- Whether an access of `len` bytes stays inside one range of the map and may be made there (checked at issue, R203). -/
def State.mapOk (s : State) (a len : Nat) (write : Bool) : Bool :=
  (s.region a).isSome && s.region a == s.region (a + len - 1) && (!write || (s.locate a).writable)

/-- The 4 KiB granules an access touches, as its first byte in each. -/
def granules (a len : Nat) : List Nat :=
  (List.range ((a % 4096 + len + 4095) / 4096)).map (fun k => if k = 0 then a else (a / 4096 + k) * 4096)

/-- Whether every byte of an access is live when it executes (R203). -/
def State.liveOk (s : State) (a len : Nat) : Bool :=
  (granules a len).all (fun g => s.live (s.locate g)) && s.live (s.locate (a + len - 1))

/-- The lower die a location stands on or over (R250): its cache die and its base die. -/
def Loc.lowerDies : Loc → List Nat
  | .hbm st _ => [st, 12 + st / 3]
  | .sram n _ => [n, 12 + n / 3]
  | .scratch lc _ => [lc / 16, 12 + lc / 48]
  | .ioSram q _ | .berth q _ | .moor q _ => [12 + q]
  | _ => []

/-- Whether an address lies behind a lower die in CLOSING, IN_RESET or RETURNING (R254). -/
def State.pathReset (s : State) (a : Nat) : Bool :=
  (s.locate a).lowerDies.any (fun n => let v := s.rd F.STK_DIE_STATE n; decide (1 ≤ v) && decide (v ≤ 3))

/-- Whether an access meets such a die. -/
def State.areaReset (s : State) (a n : Nat) : Bool := (granules a n).any s.pathReset

/-- Whether an access to an address waits at its home: its stack is in band H3, or its page is in retirement (R217, R218). -/
def State.homeBusy (s : State) (a : Nat) : Bool :=
  match s.locate a with
  | .hbm st off => s.rd F.MEM_HBM_BAND st == 3 || tget (fun _ => 0) s.mem.retiring st == off / 4096 + 1
  | _ => false

/-- Whether any granule of an access waits at its home. -/
def State.areaBusy (s : State) (a n : Nat) : Bool := (granules a n).any s.homeBusy

/-- Whether earlier accesses wait at the homes of an area, in a line's queue or for their page, by 4 KiB (R210, R302, R312). -/
def State.areaQueued (s : State) (a n : Nat) : Bool :=
  let pages := (granules a n).map (fun g => (s.locate g).key / 4096)
  s.rack.lines.any (fun e => !e.2.ops.isEmpty && pages.contains (e.1 / 64)) ||
  s.mem.waiting.any (fun w => pages.contains ((s.locate w.addr).key / 4096))

/-- One byte of the berth table, mooring table or register mirror as a read sees it (R207, R208). -/
def State.viewByte (s : State) (l : Loc) : Byte :=
  match l with
  | .mirror off => ((s.regView (off / 4 * 4)) >>> (8 * (off % 4))).setWidth 8
  | .berth q off => (s.berthBytes (1536 * q + off / 64)).getD (off % 64) 0
  | .moor q off => (s.moorAt (1048576 * q + off / 32)).bytes.getD (off % 32) 0
  | _ => 0

/-- One byte of device memory. -/
def State.byteAt (s : State) (a : Nat) : Byte :=
  let l := s.locate a
  if l.writable then tget (fun _ => 0) s.dmem l.key else s.viewByte l

def State.bytes (s : State) (a n : Nat) : List Byte := (List.range n).map (fun k => s.byteAt (a + k))

/-- A little-endian number of `n` bytes in device memory. -/
def State.num (s : State) (a n : Nat) : Nat := leNat (s.bytes a n)

/-- Whether the 32-byte unit that holds an address is poisoned (R215). -/
def State.bad (s : State) (a : Nat) : Bool := s.poison.contains ((s.locate a).key / 32)

/-- Whether a read of `n` bytes touches a poisoned unit. -/
def State.anyBad (s : State) (a n : Nat) : Bool :=
  (List.range ((a % 32 + n + 31) / 32)).any (fun k => s.bad (if k = 0 then a else (a / 32 + k) * 32))

/-- The canonical form of a byte memory: addresses rise strictly and no entry equals what an unlisted address reads as, 0 (log entry
1). -/
abbrev Memory.wf (m : List Host.Cell) : Bool := Tbl.wf (fun _ => (0 : Byte)) m

def State.poke (s : State) (a : Nat) (b : Byte) : State :=
  { s with dmem := tput (fun _ => 0) s.dmem (s.locate a).key b }

def State.mark (s : State) (a : Nat) : State := { s with poison := s.poison.add ((s.locate a).key / 32) }

def State.unmark (s : State) (a : Nat) : State := { s with poison := s.poison.del ((s.locate a).key / 32) }

def pokeAll : List Byte → Nat → State → State
  | [], _, s => s
  | b :: r, a, s => pokeAll r (a + 1) (s.poke a b)

/-- First bytes of the 32-byte units that a write of `n` bytes at `a` covers wholly. -/
def wholeUnits (a n : Nat) : List Nat :=
  (List.range ((a + n) / 32 - (a + 31) / 32)).map (fun k => ((a + 31) / 32 + k) * 32)

/-- A write at its home: the bytes are stored and the mark of every unit written whole is cleared; the others keep theirs
(R210, R211, R215). -/
def State.store (s : State) (a : Nat) (bs : List Byte) : State :=
  (wholeUnits a bs.length).foldl State.unmark (pokeAll bs a s)

/-- First bytes inside an access of the units it touches. -/
def touchedUnits (a n : Nat) : List Nat :=
  (List.range ((a % 32 + n + 31) / 32)).map (fun k => if k = 0 then a else (a / 32 + k) * 32)

/-- A copy without conversion: bytes and marks, unit for unit (R215). A destination unit is marked when a byte it receives
comes from a marked unit. -/
def State.copyRaw (s : State) (src dst n : Nat) : State :=
  let marks := (touchedUnits dst n).filter (fun u =>
    s.anyBad (src + (u - dst)) (min ((u / 32 + 1) * 32) (dst + n) - u))
  marks.foldl State.mark (s.store dst (s.bytes src n))

/-- DPA of a core's own scratchpad offset (R207). -/
def scratchAddr (lc off : Nat) : Nat := 0x39000000000 + lc * 0x800000 + off

/-- Bytes of a scratchpad. -/
def scratchBytes : Nat := 0x600000

def Core.s (c : Core) (i : Nat) : W64 := if i = 0 then 0 else tget (fun _ => 0) c.sregs i

/-- Scalar registers: s0 reads zero and writes to it are ignored (R37). -/
def Core.setS (c : Core) (i : Nat) (v : W64) : Core :=
  if i = 0 then c else { c with sregs := tput (fun _ => 0) c.sregs i v }

def Core.a (c : Core) (i : Nat) : BitVec 48 := tget (fun _ => 0) c.aregs i

def Core.setA (c : Core) (i : Nat) (v : BitVec 48) : Core := { c with aregs := tput (fun _ => 0) c.aregs i v }

def Core.sem (c : Core) (i : Nat) : BitVec 32 := tget (fun _ => 0) c.sems i

def Core.setSem (c : Core) (i : Nat) (v : BitVec 32) : Core := { c with sems := tput (fun _ => 0) c.sems i v }

def Core.queue (c : Core) (q : Nat) : List EngOp := tget (fun _ => []) c.queues q

def Core.setQueue (c : Core) (q : Nat) (l : List EngOp) : Core := { c with queues := tput (fun _ => []) c.queues q l }

def Core.running (c : Core) (q : Nat) : List RunOp := tget (fun _ => []) c.run q

def Core.setRunning (c : Core) (q : Nat) (l : List RunOp) : Core := { c with run := tput (fun _ => []) c.run q l }

/-- Whether the engines selected by a mask of queues (R54) have an empty queue and no operation running. -/
def Core.quiet (c : Core) (mask : Nat) : Bool :=
  (List.range 13).all (fun q => !bitAt mask q || ((c.queue q).isEmpty && (c.running q).isEmpty))

/-- Every engine queue (R50, FENCE). -/
def allQueues : Nat := 0x1FFF

/-- The physical core bound to a logical core, numbered 18 × die + physical core (R37, R93). -/
def State.physical (s : State) (lc : Nat) : Nat := 18 * (lc / 16) + s.rd F.STK_LCMAP_PC lc

/-- Words of the accumulator tiles of a physical core (R37). -/
def tileKey (p e t i : Nat) : Nat := ((p * 4 + e) * 2 + t) * 8192 + i

/-- A word of a tile of the physical core bound to a logical core (R37; log entry 85). -/
def State.tile (s : State) (lc e t i : Nat) : Word := tget (fun _ => 0) s.tiles (tileKey (s.physical lc) e t i)

def State.setTile (s : State) (lc e t i : Nat) (v : Word) : State :=
  { s with tiles := tput (fun _ => 0) s.tiles (tileKey (s.physical lc) e t i) v }

/-! ## Watch rooms (R469) -/

def State.setFw (s : State) (f : FwSt) : State := { s with fw := f }

def State.room (s : State) (q : Nat) : Watch := tget (fun _ => {}) s.fw.rooms q

def State.setRoom (s : State) (q : Nat) (w : Watch) : State := s.setFw { s.fw with rooms := tput (fun _ => {}) s.fw.rooms q w }

/-- The watch room in a role, if any: 1 LOADING, 2 STANDBY, 3 ACTIVE. -/
def State.roomIn (s : State) (role : Nat) : Option Nat := (List.range 4).find? (fun q => (s.room q).role == role)

def State.activeRoom (s : State) : Option Nat := s.roomIn 3
def State.standbyRoom (s : State) : Option Nat := s.roomIn 2

end Sys2Proof.Machine
end

