-- ==== Sys2Proof/Machine/Links.lean ====
section
/-!
DEFINITION. Shared operations over rings, fabric lanes and port links: which ring serves a channel, which lanes are in
service (R152 to R154, R160, R268 to R270), the state of a link (R284), and what follows when one changes.
-/
namespace Sys2Proof.Machine

/-- Number of a ring (R152, R268): 512 rows of 32 positions of the fabric, then 48 rows of 36 of the ports. -/
def fabRing (ep plane : Nat) (rx : Bool) (pos : Nat) : Nat := ((ep * 16 + plane) * 2 + b2n rx) * 32 + pos
def portRing (p : Nat) (rx : Bool) (pos : Nat) : Nat := 16384 + (p * 2 + b2n rx) * 36 + pos

def ringKey : Ring → Nat
  | .fab ep plane pos rx => fabRing ep plane rx pos
  | .port p pos rx => portRing p rx pos

/-- A ring; before start-up enables the locks every ring is PARKED (R159). -/
def State.ring (s : State) (k : Nat) : RingSt :=
  let r : RingSt := tget (fun _ => {}) s.fab.rings k
  if s.fab.up then r else { r with st := 0 }

def State.setRing (s : State) (k : Nat) (r : RingSt) : State :=
  { s with fab := { s.fab with rings := tput (fun _ => {}) s.fab.rings k r } }

/-- STATE of a lower die: 0 OPEN, 1 CLOSING, 2 IN_RESET, 3 RETURNING, 4 FAILED (R262). -/
def State.dieState (s : State) (n : Nat) : Nat := s.rd F.STK_DIE_STATE n

/-- A lower die is dark while it is in reset, returning or failed (R250, R251). -/
def State.dieDark (s : State) (n : Nat) : Bool := decide (2 ≤ s.rd F.STK_DIE_STATE n)

/-- Whether compute die `d` is held: a lower die under it is not OPEN, or it is halted (R84, R408). -/
def State.dieHeld (s : State) (d : Nat) : Bool :=
  s.dieState d != 0 || s.dieState (12 + d / 3) != 0 || s.stack.halted.contains d

/-- Base die under an endpoint's ring rows (R21). -/
def epBase (ep : Nat) : Nat := if ep < 12 then ep / 3 else ep - 12

/-- Die that holds an endpoint's electronics, as R260 numbers it (R21, R544). -/
def epDie (ep : Nat) : Nat := if ep < 12 then dieSD ep else dieIO (ep - 12)

/-- Whether an endpoint is dark on a plane: its base die, its cache die or the plane's comb (R250). -/
def State.epDark (s : State) (ep plane : Nat) : Bool :=
  s.dieDark (12 + epBase ep) || s.dieDark (12 + plane / 4) || (decide (ep < 12) && (s.dieDark ep || !s.inService (dieSD ep)))

/-- The ring that serves a channel: a spare retuned to it, or its own lane ring (R154, R163). -/
def State.servesFab (s : State) (ep plane : Nat) (rx : Bool) (c : Nat) : Nat :=
  let k := fabRing ep plane rx 0
  if (s.ring k).chan = some c then k else if (s.ring (k + 16)).chan = some c then k + 16 else k + c

def State.servesPort (s : State) (p : Nat) (rx : Bool) (c : Nat) : Nat :=
  let k := portRing p rx (32 + c / 8)
  if (s.ring k).chan = some c then k else portRing p rx c

def State.lockedFab (s : State) (ep plane : Nat) (rx : Bool) (c : Nat) : Bool :=
  (s.ring (s.servesFab ep plane rx c)).st == 2 && !s.epDark ep plane

def State.lockedPort (s : State) (p : Nat) (rx : Bool) (c : Nat) : Bool :=
  (s.ring (s.servesPort p rx c)).st == 2 && !s.dieDark (12 + p / 6)

/-! ## Lanes of a pair -/

/-- The 32 slots of a pair of offset d as (plane, channel): lanes 0 to 29, then the two reserve slots (R153, R154). -/
def pairSlots (d : Nat) : List (Nat × Nat) :=
  let lo := min (d % 16) ((d + 8) % 16)
  let all := (List.range 16).flatMap (fun p => if p = lo ∨ p = lo + 8 then [(p, d)] else [(p, d), (p, d + 16)])
  all ++ [(lo, d + 16), (lo + 8, d + 16)]

def pairOffset (i j : Nat) : Nat := (j + 16 - i) % 16

/-- The slot a lane of pair 16 × i + j is bound to (R154, R163). -/
def State.laneSlot (s : State) (pr n : Nat) : Nat × Nat :=
  (pairSlots (pairOffset (pr / 16) (pr % 16))).getD (tget id s.fab.steer (pr * 32 + n) % 32) (0, 0)

/-- Whether the ring and the filter of slot `sl` of a pair are both locked. -/
def State.slotLocked (s : State) (pr : Nat) (sl : Nat × Nat) : Bool :=
  s.lockedFab (pr / 16) sl.1 false sl.2 && s.lockedFab (pr % 16) sl.1 true sl.2

/-- Whether a slot of a pair stands in a row that is drained. -/
def State.slotDrained (s : State) (pr : Nat) (sl : Nat × Nat) : Bool :=
  s.fab.drained.contains (pr / 16 * 16 + sl.1) || s.fab.drained.contains (pr % 16 * 16 + sl.1)

/-- Whether lane `n` of a pair is in service (R160). -/
def State.laneUp (s : State) (pr n : Nat) : Bool :=
  s.fab.up && !s.fab.untested.contains (pr * 32 + n) && s.slotLocked pr (s.laneSlot pr n) && !s.slotDrained pr (s.laneSlot pr n)

def State.lanesUp (s : State) (pr : Nat) : List Nat := (List.range 30).filter (s.laneUp pr)

/-- Members of a multicast group other than the sender (R166). -/
def groupMembers (g sender : Nat) : List Nat :=
  (if g < 3 then [g, g + 3, g + 6, g + 9] else [3 * (g - 3), 3 * (g - 3) + 1, 3 * (g - 3) + 2]).filter (· != sender)

/-- Usable lanes of a group for a sender (R167). -/
def State.groupLanes (s : State) (g sender : Nat) : Nat :=
  ((List.range 30).filter (fun n => (groupMembers g sender).all (fun m => s.laneUp (sender * 16 + m) n))).length

/-- MCAST_NARROWED when a group's usable lanes fall below 30 (R167). -/
def State.groupCheck (s : State) (g sender : Nat) : State :=
  let n := s.groupLanes g sender
  let k := sender * 7 + g
  if s.fab.up ∧ n < 30 then
    if s.fab.narrowed.contains k then s
    else { s with fab := { s.fab with narrowed := s.fab.narrowed.add k } }.raise 0x030C (epDie sender)
      [(1, g), (1, sender), (1, n)]
  else { s with fab := { s.fab with narrowed := s.fab.narrowed.del k } }

/-- Condition 5 of R448: a fabric pair short of lanes or a port link out. -/
def State.showShort (s : State) : State := s.setCond 5 (!s.fab.short.isEmpty || !s.port.outs.isEmpty)

/-- Bring FAB_PAIR_x up to date after a change, with PAIR_DOWN or PAIR_UP (R172, R179), and the groups that hold the
receiver. -/
def State.refreshPair (s : State) (pr : Nat) : State :=
  let i := pr / 16
  let j := pr % 16
  if i = j then s
  else
    let n := (s.lanesUp pr).length
    let was := s.bit F.FAB_PAIR_UP pr
    let s1 := (s.wr F.FAB_PAIR_LANES pr n).wr F.FAB_PAIR_UP pr (b2n (decide (0 < n)))
    let s2 := if was ∧ n = 0 then s1.raise 0x0306 (epDie i) [] else if !was ∧ 0 < n then s1.raise 0x0307 (epDie i) [] else s1
    let short := if s.fab.up ∧ n < 30 then s2.fab.short.add pr else s2.fab.short.del pr
    let s3 := ({ s2 with fab := { s2.fab with short := short } } : State).showShort
    if j < 12 then (s3.groupCheck (j % 3) i).groupCheck (3 + j / 3) i else s3

/-! ## Links -/

/-- Receive lane of the link whose transmit lane is `c`, and the reverse (R269). -/
def otherLane (c : Nat) : Nat := (32 - c) % 32

def State.linkState (s : State) (x : Nat) : Nat := s.rd F.PRT_LINK_STATE x

def State.link (s : State) (x : Nat) : LinkSt := tget (fun _ => {}) s.port.links x

def State.setLink (s : State) (x : Nat) (l : LinkSt) : State :=
  { s with port := { s.port with links := tput (fun _ => {}) s.port.links x l } }

/-- Own device number (R11, R291). -/
def State.device (s : State) : Nat := 32 * s.rd F.PRT_IDENT_RACK + s.rd F.PRT_IDENT_SLOT

/-- Role of a port (R270): SPINE for ports 3 to 5 of an I/O die in MULTI. -/
def State.spinePort (s : State) (p : Nat) : Bool := s.bit F.PRT_CTRL_TOPOLOGY && decide (3 ≤ p % 6)

/-- The device a link reaches (R269). -/
def State.linkPeer (s : State) (x : Nat) : Nat :=
  let c := x % 32
  if s.spinePort (x / 32) then 32 * ((s.rd F.PRT_IDENT_RACK + c) % 32) + s.rd F.PRT_IDENT_SLOT
  else 32 * s.rd F.PRT_IDENT_RACK + (s.rd F.PRT_IDENT_SLOT + c) % 32

/-- Keys of the flit layer's channels: pairs, then links. -/
def chanKey : Chan → Nat
  | .pair i j => 16 * i.val + j.val
  | .link x => 256 + x.val

def linkKey (x : Nat) : Nat := 256 + x

def State.tx (s : State) (k : Nat) : FlitTx := tget (fun _ => {}) s.fab.tx k

def State.setTx (s : State) (k : Nat) (t : FlitTx) : State :=
  { s with fab := { s.fab with tx := tput (fun _ => {}) s.fab.tx k t } }

def State.rx (s : State) (k : Nat) : FlitRx := tget (fun _ => {}) s.fab.rx k

def State.setRx (s : State) (k : Nat) (t : FlitRx) : State :=
  { s with fab := { s.fab with rx := tput (fun _ => {}) s.fab.rx k t } }

/-- The event data of a link: port and link (R289). -/
def linkData (x : Nat) : List (Nat × Nat) := [(1, x / 32), (2, x)]

/-- Recount the ACTIVE links of a port (R293). -/
def State.countLinks (s : State) (p : Nat) : State :=
  s.wr F.PRT_PORT_LINKS p ((List.range 31).filter (fun c => s.linkState (32 * p + c + 1) == 6)).length

def State.setLinkState (s : State) (x v : Nat) : State :=
  let s1 := (s.wr F.PRT_LINK_STATE x v).countLinks (x / 32)
  if v = 8 then ({ s1 with port := { s1.port with outs := s1.port.outs.add x } } : State).showShort
  else if s1.port.outs.contains x then ({ s1 with port := { s1.port with outs := s1.port.outs.del x } } : State).showShort
  else s1

/-- Credits of a lane per virtual channel (R277). -/
def laneCredits (spine : Bool) (vc : Nat) : Nat :=
  match vc with
  | 0 => if spine then 4 else 24
  | 1 => if spine then 4 else 40
  | 2 => if spine then 96 else 40
  | _ => 8

/-- A timestamp as a CONTROL flit carries it: beacon time in ns and 1/256 ns, the fraction being below the model's clock (log
entry 4, a free value). -/
def State.stamp (s : State) : List Byte := leBytes 8 s.bt ++ [BitVec.ofNat 8 s.freeVal.toNat]

/-- A time in 1/256 ns as its 9 bytes. -/
def stampBytes (t : Int) : List Byte := leBytes 8 ((t / 256) % 2 ^ 64).toNat ++ leBytes 1 (t % 256).toNat

/-- Send a CONTROL flit on a link: the code in data byte 0 and its fields (R285). It waits in the link's control queue. -/
def State.sendCtl (s : State) (x : Nat) (data : List Byte) : State :=
  let t := s.tx (linkKey x)
  let f : OutFlit := ⟨8, 0, 240, 0, (data ++ List.replicate 240 0).take 240⟩
  s.setTx (linkKey x) { t with q := tput (fun _ => []) t.q 3 (tget (fun _ => []) t.q 3 ++ [f]) }

/-- Package FEAT of STK_PKG (R245, R261). -/
def State.pkgFeat (s : State) : Nat :=
  b2n (s.bit F.STK_PKG_VB_HALF_WIDTH) + 2 * b2n (s.bit F.STK_PKG_FF_TELEMETRY) + 4 * b2n (s.bit F.STK_PKG_SPINE_ROLE)

/-- Data of TRAIN_IDENT or TRAIN_ACK with the device's own fields (R285). -/
def State.identData (s : State) (code x : Nat) : List Byte :=
  leBytes 4 code ++ leBytes 2 s.device ++ leBytes 1 (x / 32) ++
  leBytes 1 (b2n (s.spinePort (x / 32)) + 2 * b2n (s.bit F.PRT_CTRL_TOPOLOGY)) ++ leBytes 1 (s.rd F.STK_PKG_PROTO) ++ [0] ++
  leBytes 2 (s.rd F.PRT_IDENT_BOOT_ID) ++ leBytes 4 s.pkgFeat

/-- Whether both rings of a link are locked. -/
def State.linkLocked (s : State) (x : Nat) : Bool :=
  s.lockedPort (x / 32) false (x % 32) && s.lockedPort (x / 32) true (otherLane (x % 32))

/-- Whether a link may leave OFF (R270, R284). -/
def State.linkAllowed (s : State) (x : Nat) : Bool :=
  s.bit F.PRT_PORT_ENABLE (x / 32) && decide (11 ≤ s.rd F.GLB_START_STEP) && s.bit F.PRT_IDENT_VALID &&
  !s.bit F.GLB_START_FAILED && (!s.spinePort (x / 32) || s.bit F.STK_PKG_SPINE_ROLE)

/-- Close the open packets of a link's landing banks as cut short (R279, R284). -/
def cutOpen (l : LinkSt) : LinkSt :=
  { l with land := tmap (fun _ => {}) (fun _ (b : Landing) =>
      match b.part with
      | some p => { b with fill := b.fill ++ [{ p with status := 1 }], part := none }
      | none => b) l.land }

/-- The transitions of R284 that need no further event: OFF to DARK, and DARK to ALIGN once both rings are locked. -/
def State.linkSettle (s : State) (x : Nat) : State :=
  if x % 32 = 0 then s
  else
    let s1 := if s.linkState x = 0 ∧ s.linkAllowed x then s.setLinkState x 1 else s
    if s1.linkState x = 1 ∧ s1.linkLocked x then s1.setLinkState x 2 else s1

/-- A link returns to DARK: from ACTIVE or PAUSED with LINK_DOWN, its open packets cut short and its credits and sequence
numbers begun afresh (R284). -/
def State.linkDark (s : State) (x : Nat) : State :=
  let st := s.linkState x
  if st = 6 ∨ st = 7 then
    let l := cutOpen (s.link x)
    let s1 := (s.setLinkState x 1).setLink x { l with ident := false, acked := false, initIn := none, pausedHere := false }
    let s2 := (s1.setTx (linkKey x) {}).setRx (linkKey x) {}
    s2.raise 0x0502 (dieIO (x / 192)) (linkData x)
  else if 2 ≤ st ∧ st ≤ 5 then
    let l := s.link x
    (((s.setLinkState x 1).setLink x { l with ident := false, acked := false, initIn := none }).setTx (linkKey x) {}).setRx (linkKey x) {}
  else s

/-- A link goes OFF; a link reset also empties its landing buffers (R282, R284). -/
def State.linkOff (s : State) (x : Nat) (reset : Bool) : State :=
  if x % 32 = 0 ∨ s.linkState x = 0 then s
  else
    let s1 := (s.linkDark x).setLinkState x 0
    let l := s1.link x
    s1.setLink x { l with land := if reset then [] else l.land, fails := 0, steps := 0 }

/-- A port ring left LOCKED or became LOCKED: the link it serves follows; a PAUSED link waits for its resumption (R284). -/
def State.linkRing (s : State) (x : Nat) : State :=
  if x % 32 = 0 then s else if s.linkLocked x then s.linkSettle x else if s.linkState x = 7 then s else s.linkDark x

/-- ACTIVE links of an I/O die to a device, in ascending port number (R283, R298). -/
def State.activeLinks (s : State) (q dst : Nat) : List Nat :=
  ((List.range 6).map (fun k => 6 * q + k)).filterMap (fun p =>
    let sp := s.spinePort p
    let c := if sp then (dst / 32 + 32 - s.rd F.PRT_IDENT_RACK) % 32 else (dst % 32 + 32 - s.rd F.PRT_IDENT_SLOT) % 32
    let x := 32 * p + c
    if c ≠ 0 ∧ s.linkPeer x = dst ∧ s.linkState x = 6 then some x else none)

/-- Key of a port in the set of rows out of service for a switch-over. -/
def portOut (p : Nat) : Nat := 4096 + p

/-- Whether a port's links may not carry flits: a switch-over has drained its group, or a calibration window is open on it (R192, R436).
-/
def State.portShut (s : State) (p : Nat) : Bool := s.fab.drained.contains (portOut p) || s.light.open_.contains (256 + p)

/-- Pause a link at this end: LANE_PAUSE with a reason, credits kept (R284, R285). -/
def State.linkPause (s : State) (x reason : Nat) : State :=
  if s.linkState x = 6 then
    ((s.sendCtl x (leBytes 4 4 ++ leBytes 1 reason)).setLinkState x 7).setLink x { s.link x with pausedHere := true }
  else s

/-- End a pause made at this end: LANE_RESUME (R284, R285). -/
def State.linkResume (s : State) (x : Nat) : State :=
  if s.linkState x = 7 ∧ (s.link x).pausedHere ∧ !s.portShut (x / 32) then s.sendCtl x (leBytes 4 5) else s

/-- A link that became ACTIVE on a port out of service pauses at once (R192, R193, R436). -/
def State.linkShut (s : State) (x : Nat) : State :=
  if s.portShut (x / 32) then s.linkPause x (if s.light.open_.contains (256 + x / 32) then 1 else 0) else s

/-- Links of port `p`. -/
def portLinks (p : Nat) : List Nat := (List.range 31).map (fun c => 32 * p + c + 1)

end Sys2Proof.Machine
end

