-- ==== Sys2Proof/Machine/Beacon.lean ====
section
/-!
DEFINITION. Beacon time across devices (12_clocking_and_time.md R379 to R387): the choice of a parent, the states of R384, exchanges
(R288), slewing and the generator. States: 0 FREE, 1 ROOT, 2 ACQUIRE, 3 TRACK, 4 HOLDOVER.
-/
namespace Sys2Proof.Machine

def State.btState (s : State) : Nat := s.rd F.CLK_BT_STATUS_STATE

/-- Whether a device is the peer of an ACTIVE link (R382). -/
def State.present (s : State) (d : Nat) : Bool := (List.range 768).any (fun x => s.linkState x == 6 && s.linkPeer x == d)

/-- The parent R382 gives this device toward a root, if it is there. -/
def State.parentTo (s : State) (root : Nat) : Option Nat :=
  let me := s.device
  let r := me / 32
  if me = root then none
  else if r = root / 32 then (if s.present root then some root else none)
  else
    let known := ((List.range 32).map (32 * r + ·)).filter (fun d =>
      if d = me then (List.range 768).any (fun x => s.linkState x == 6) else s.present d)
    let rackRoot := if known.contains (32 * r + root % 32) then some (32 * r + root % 32) else known.head?
    match rackRoot with
    | none => none
    | some d =>
      if d ≠ me then some d
      else
        let up := 32 * (root / 32) + me % 32
        if s.present up then some up else none

/-- The root in use: ROOT, or ROOT2 where no path to ROOT is known (R382). -/
def State.rootInUse (s : State) : Nat :=
  let r := s.rd F.CLK_BT_CTRL_ROOT
  if s.device = r ∨ (s.parentTo r).isSome then r else s.rd F.CLK_BT_CTRL_ROOT2

/-- Whether this device is the root in use. -/
def State.isRoot (s : State) : Bool := s.bit F.PRT_IDENT_VALID && s.device == s.rootInUse

/-- The device has a parent: PARENT shown, with BT_PARENT_CHANGED where it changed. -/
def State.takeParent (s : State) (p : Nat) : State :=
  let old := s.rd F.CLK_BT_STATUS_PARENT
  let s1 := s.wr F.CLK_BT_STATUS_PARENT 0 p
  if s.btState = 0 ∨ old = p then s1 else s1.raise 0x0147 srcPkg [(2, old), (2, p)]

/-- Begin ACQUIRE toward a parent. -/
def State.acquire (s : State) (p : Nat) : State :=
  let s1 := (s.takeParent p).wr F.CLK_BT_STATUS_STATE 0 2
  { s1 with clk := { s1.clk with good := 0, far := 0, offs := [] } }

/-- The transitions of R384 that follow from links and identity. -/
def State.btSettle (s : State) : State :=
  if !s.bit F.PRT_IDENT_VALID then s
  else
    let st := s.btState
    if s.isRoot then (if st = 0 then s.wr F.CLK_BT_STATUS_STATE 0 1 else s)
    else match s.parentTo s.rootInUse with
      | none => s
      | some p => if st = 0 ∨ st = 1 ∨ st = 4 then s.acquire p else s

/-- Nanoseconds in 1/512 ns, rounded down. -/
def wholeNs (o : Int) : Int := o / 512

/-- A trim within ±100 ppm. The spec says what it brings about and not its value (R383; log entry 4). -/
def State.newTrim (s : State) : State :=
  let v : Int := s.freeVal.toNat % 102401
  { s.drawn with clk := { s.clk with trim := v - 51200 } }

/-- OFFSET as the register holds it: 1/64 ns, 18 bits signed, saturating (R392). -/
def offsetField (o : Int) : Nat := ((max (-131072) (min 131071 (o / 8))) % 262144).toNat

/-- An offset as an event carries it: 1/64 ns, signed, 3 bytes (R543). -/
def offsetBytes (o : Int) : Nat := ((max (-131072) (min 131071 (o / 8))) % 16777216).toNat

/-- One exchange with the parent yields an offset in 1/512 ns (R383, R384). -/
def State.exchange (s : State) (o : Int) : State :=
  let st := s.btState
  let mag := o.natAbs
  let offs := s.clk.offs ++ [o]
  let sum := offs.foldl (· + ·) 0
  let c : ClkSt := { s.clk with
    last := o
    offs := if offs.length = 16 then [] else offs
    good := if mag ≤ 768 then s.clk.good + 1 else 0
    far := if 5120 < mag then s.clk.far + 1 else 0 }
  let s0 : State := { s with clk := c }
  let s1 := if offs.length = 16 then (s0.wr F.CLK_BT_STATUS_OFFSET 0 (offsetField (sum / 16))).newTrim else s0
  let s2 : State := if st = 2 ∧ !s.bit F.GLB_START_DONE ∧ 0 < o then { s1 with bt := (s1.bt + (wholeNs o).toNat) % 2 ^ 64 } else s1
  if st = 2 ∧ 16 ≤ s2.clk.good then
    (({ s2 with clk := { s2.clk with far := 0 } } : State).wr F.CLK_BT_STATUS_STATE 0 3).raise 0x0144 srcPkg []
  else if st = 3 ∧ 4 ≤ s2.clk.far then
    (({ s2 with clk := { s2.clk with good := 0 } } : State).wr F.CLK_BT_STATUS_STATE 0 2).raise 0x0146 srcPkg [(3, offsetBytes o)]
  else s2

/-- BT_PROBE_SEND: an end of an ACTIVE link sends BT_PROBE, which takes T1 as it leaves (R285, R288). -/
def execBtProbeSend (x : Fin 768) (s : State) : Out :=
  if s.linkState x = 6 then .next (s.sendCtl x (leBytes 4 6)) else .next s

/-- BT_PROBE: a received BT_PROBE is answered with BT_ECHO: T1 back, T2 its receive time, and T3 as the answer leaves
(R285, R288). T1 is in 1/256 ns. -/
def execBtProbe (x : Fin 768) (t1 : Int) (s : State) : Out :=
  if s.linkState x = 6 then
    let zeros := List.replicate 7 (0 : Byte)
    .next (s.drawn.sendCtl x (leBytes 4 7 ++ [0, 0, 0, 0] ++ stampBytes t1 ++ zeros ++ s.stamp))
  else .next s

/-- BT_ECHO: a received BT_ECHO yields offset and delay of the link, in 1/512 ns; one from the parent steers beacon time (R288, R383,
R384). -/
def execBtEcho (x : Fin 768) (t1 t2 t3 t4 : Int) (s : State) : Out :=
  if s.linkState x = 6 then
    let o := (t2 - t1) - (t4 - t3)
    let s1 := s.setLink x { s.link x with offset := o, delay := (t4 - t1) - (t3 - t2) }
    let st := s1.btState
    if (st = 2 ∨ st = 3) ∧ s.linkPeer x = s.rd F.CLK_BT_STATUS_PARENT then .next (s1.exchange o) else .next s1
  else .next s

/-- HOLDOVER: the last trim is held (R384). -/
def State.holdover (s : State) : State := (s.wr F.CLK_BT_STATUS_STATE 0 4).raise 0x0145 srcPkg []

/-- BT_PARENT_TIMEOUT: no exchange with the parent for 10 ms: another parent under R382, or HOLDOVER with the last trim (R382,
R384). -/
def execBtParentTimeout (s : State) : Out :=
  let st := s.btState
  if st = 2 ∨ st = 3 then
    if s.isRoot then .next s.holdover
    else match s.parentTo s.rootInUse with
      | some p =>
        if p = s.rd F.CLK_BT_STATUS_PARENT then .next s.holdover
        else .next (s.takeParent p)
      | none => .next s.holdover
  else .next s.btSettle

/-- BT_HOLDOVER_TIMEOUT: more than 1 s in HOLDOVER (R384). -/
def execBtHoldoverTimeout (s : State) : Out :=
  if s.btState = 4 then .next (s.raise 0x0146 srcPkg [(3, offsetBytes s.clk.last)]) else .next s

/-- BT_FRAME: a frame of the timing waveguide reaches a die: a count that disagrees is loaded, with BT_FRAME_ERROR; a frame that
fails its CRC-8 is passed over (R379; log entry 7). -/
def execBtFrame (die : Fin 33) (count : BitVec 64) (crc : BitVec 8) (s : State) : Out :=
  if Config.crc8 (leBytes 8 count.toNat) ≠ crc ∨ s.btOf die = count.toNat then .next s
  else
    let off : Int := (count.toNat : Int) - s.bt
    .next (({ s with clk := { s.clk with die := tput (fun _ => 0) s.clk.die die off } } : State).raise 0x0149 die [(1, die)])

/-- Whether a trigger of R380 holds: IO0 or BD0 in reset or failed; two frames the generator's count disagrees with, which the command
reports; LM2 DARK. -/
def State.genLost (s : State) (trigger : Nat) : Bool :=
  if trigger = 0 then !s.inService (dieIO 0) || !s.inService 0 || s.rd F.STK_DIE_STATE 12 != 0
  else trigger == 1 || s.rd F.LSR_MOD_STATE 2 == 4

/-- BT_GENERATOR_FAILOVER: IO1's shadow takes over count and trim; beacon time moves forward by 0 or 1 ns (R380). -/
def execBtGeneratorFailover (trigger : Fin 3) (advance : Bool) (s : State) : Out :=
  if s.bit F.CLK_BT_STATUS_GEN ∨ !s.genLost trigger ∨ !s.inService (dieIO 1) then .next s
  else
    let s1 := { s with bt := (s.bt + b2n advance) % 2 ^ 64 }
    .next ((s1.wr F.CLK_BT_STATUS_GEN 0 1).raise 0x0148 srcPkg [(1, trigger)])

/-- PPS_EDGE: a 1PPS edge steers the root's beacon time (R386): with PPS_EN the trim is set afresh. -/
def execPpsEdge (s : State) : Out :=
  if s.btState = 1 ∧ s.bit F.CLK_BT_CTRL_PPS_EN then .next s.newTrim else .next s

/-- PPS_TIMEOUT: 2 s without an edge: the root holds its trim, PPS_LOST (R386). -/
def execPpsTimeout (s : State) : Out :=
  if s.btState = 1 ∧ s.bit F.CLK_BT_CTRL_PPS_EN then .next (s.raise 0x014A srcPkg []) else .next s

end Sys2Proof.Machine
end

