-- ==== Sys2Proof/Machine/Crc.lean ====
section
/-!
DEFINITION. The check codes the device computes: CRC-32C of packets, images and records, CRC-16 of bundle beats (R231),
CRC-64 of flits (R265), the Reed–Solomon code RS(272, 256) of port codewords (R266), and the byte code of the HBM controller
(R214).
-/
namespace Sys2Proof.Machine

/-- One step of a reflected CRC of the given polynomial. -/
def crcBit (poly c : Nat) : Nat := if c % 2 = 1 then (c / 2) ^^^ poly else c / 2

/-- One byte of a reflected CRC. -/
def crcByte (poly c : Nat) (b : Byte) : Nat := (List.range 8).foldl (fun a _ => crcBit poly a) (c ^^^ b.toNat)

/-- CRC-32C (Castagnoli): reflected polynomial 0x82F6_3B78, initial value and final inversion all ones (log entry 9). -/
def crc32c (bs : List Byte) : Nat := (bs.foldl (crcByte 0x82F63B78) 0xFFFFFFFF) ^^^ 0xFFFFFFFF

/-- CRC-64 of flits (R265): reflected polynomial, initial value and final inversion all ones. -/
def crc64 (bs : List Byte) : Nat := (bs.foldl (crcByte 0xC96C5795D7870F42) 0xFFFFFFFFFFFFFFFF) ^^^ 0xFFFFFFFFFFFFFFFF

/-- One byte of CRC-16 with polynomial 0x1021, most significant bit first (R231). -/
def crc16Byte (c : Nat) (b : Byte) : Nat :=
  (List.range 8).foldl (fun a _ => if 0x8000 ≤ a then ((2 * a) % 65536) ^^^ 0x1021 else 2 * a) (c ^^^ (b.toNat * 256))

/-- CRC-16 of a bundle beat (R231): initial value 0xFFFF, no final inversion. -/
def crc16 (bs : List Byte) : Nat := bs.foldl crc16Byte 0xFFFF

/-! ## RS(272, 256) over GF(2^8) (R266) -/

/-- Multiplication by α = x in GF(2^8) with x^8 + x^4 + x^3 + x^2 + 1. -/
def gfTwo (a : Nat) : Nat := if a < 128 then 2 * a else (2 * a) ^^^ 0x11D

/-- Product in GF(2^8). -/
def gfMul (a b : Nat) : Nat :=
  ((List.range 8).foldl (fun (p : Nat × Nat) i => (if b / 2 ^ i % 2 = 1 then p.1 ^^^ p.2 else p.1, gfTwo p.2)) (0, a)).1

/-- Power of α. -/
def gfExp (n : Nat) : Nat := (List.range (n % 255)).foldl (fun a _ => gfTwo a) 1

/-- Inverse of a non-zero element, its 254th power. -/
def gfInv (a : Nat) : Nat := (List.range 253).foldl (fun p _ => gfMul p a) a

/-- Value of a polynomial, highest coefficient first. -/
def gfEval (cs : List Nat) (x : Nat) : Nat := cs.foldl (fun a c => gfMul a x ^^^ c) 0

/-- Sum of two polynomials, lowest coefficient first. -/
def gfAdd : List Nat → List Nat → List Nat
  | [], b => b
  | a, [] => a
  | x :: a, y :: b => (x ^^^ y) :: gfAdd a b

/-- Product of a polynomial, lowest coefficient first, with c·x^m. -/
def gfShift (c m : Nat) (a : List Nat) : List Nat := List.replicate m 0 ++ a.map (gfMul c)

/-- Generator polynomial ∏ (x − α^i), i = 0 to 15, highest coefficient first, without the leading 1. -/
def rsGen : List Nat :=
  (((List.range 16).foldl (fun (g : List Nat) i => gfAdd (0 :: g) (g.map (gfMul (gfExp i)))) [1]).reverse).drop 1

/-- The 16 check bytes of 256 bytes. -/
def rsCheck (g : List Nat) (msg : List Nat) : List Nat :=
  msg.foldl (fun (r : List Nat) c =>
    let f := c ^^^ r.headD 0
    gfAdd (r.drop 1 ++ [0]) (g.map (gfMul f))) (List.replicate 16 0)

/-- Syndromes of a received word. -/
def rsSyndromes (r : List Nat) : List Nat := (List.range 16).map (fun i => gfEval r (gfExp i))

/-- State of the search for the error locator: locator, previous locator, length, gap, previous discrepancy. -/
structure Locator where
  c : List Nat
  b : List Nat
  l : Nat
  m : Nat
  d : Nat
  deriving DecidableEq, Repr

/-- The error locator polynomial, lowest coefficient first, from the syndromes. -/
def rsLocator (s : List Nat) : Locator :=
  (List.range 16).foldl (fun (q : Locator) n =>
    let d := (List.range (q.l + 1)).foldl (fun a i => a ^^^ gfMul (q.c.getD i 0) (if i ≤ n then s.getD (n - i) 0 else 0)) 0
    if d = 0 then { q with m := q.m + 1 }
    else
      let c1 := gfAdd q.c (gfShift (gfMul d (gfInv q.d)) q.m q.b)
      if 2 * q.l ≤ n then ⟨c1, q.c, n + 1 - q.l, 1, d⟩ else { q with c := c1, m := q.m + 1 })
    ⟨[1], [1], 0, 1, 1⟩

/-- Error places as powers of α: roots of the locator at their inverses. -/
def rsPlaces (c : List Nat) : List Nat :=
  (List.range 255).filter (fun d => gfEval c.reverse (gfExp (255 - d)) == 0)

/-- The error value at degree `d`. -/
def rsError (s c : List Nat) (d : Nat) : Nat :=
  let x := gfExp (255 - d % 255)
  let om := (List.range 16).map (fun k => (List.range (k + 1)).foldl (fun a i => a ^^^ gfMul (c.getD i 0) (s.getD (k - i) 0)) 0)
  let dc := (List.range c.length).map (fun i => if i % 2 = 0 then c.getD (i + 1) 0 else 0)
  gfMul (gfExp d) (gfMul (gfEval om.reverse x) (gfInv (gfEval dc.reverse x)))

/-- Every choice of one degree per error place. A word of 272 bytes is longer than the 255 powers of α: degrees d and
d + 255 share one, and either may hold the error (log entry 10). -/
def rsChoices (n : Nat) : List Nat → List (List Nat)
  | [] => [[]]
  | d :: r => (rsChoices n r).flatMap (fun l => if d + 255 < n then [d :: l, (d + 255) :: l] else [d :: l])

/-- The messages of codewords that at most eight byte corrections reach, with the number of corrections. -/
def rsDecode (r : List Nat) : List (List Nat × Nat) :=
  let s := rsSyndromes r
  if s.all (· == 0) then [(r.take 256, 0)]
  else
    let q := rsLocator s
    let ps := rsPlaces q.c
    if q.l ≤ 8 ∧ ps.length = q.l then
      let es := ps.map (rsError s q.c)
      (rsChoices r.length ps).map (fun ds =>
        ((((ds.zip es).foldl (fun (w : List Nat) (e : Nat × Nat) =>
          let i := r.length - 1 - e.1
          w.set i (w.getD i 0 ^^^ e.2)) r).take 256), q.l))
    else []

/-! ## Scrambling of a lane (R266) -/

/-- One bit of the PRBS31 generator x^31 + x^28 + 1: the next state and the bit put out. -/
def prbsBit (st : Nat) : Nat × Nat :=
  let b := (st / 2 ^ 30 ^^^ st / 2 ^ 27) % 2
  (st * 2 % 2 ^ 31 + b, b)

/-- `n` bytes of the PRBS31 pattern from a state of the generator, bit 7 first, and the state after them (R173). -/
def prbsBytes : Nat → Nat → Nat × List Byte
  | 0, st => (st, [])
  | n + 1, st =>
    let r := (List.range 8).foldl (fun (q : Nat × Nat) _ => let k := prbsBit q.1; (k.1, q.2 * 2 + k.2)) (st, 0)
    let t := prbsBytes n r.1
    (t.1, BitVec.ofNat 8 r.2 :: t.2)

/-- Scramble bytes with PRBS31 from all ones, bit 7 of each byte first (log entry 10). -/
def scramble (bs : List Nat) : List Nat :=
  (bs.foldl (fun (p : Nat × List Nat) b =>
    let r := (List.range 8).foldl (fun (q : Nat × Nat) _ => let k := prbsBit q.1; (k.1, q.2 * 2 + k.2)) (p.1, 0)
    (r.1, (b ^^^ r.2) :: p.2)) (2 ^ 31 - 1, [])).2.reverse

/-- The PAM4 level of a pair of bits, and the pair of a level (R266). -/
def pamLevel (b : Nat) : Fin 4 := if b = 3 then 2 else if b = 2 then 3 else Fin.ofNat 4 b
def pamBits (l : Fin 4) : Nat := if l = 3 then 2 else if l = 2 then 3 else l.val

/-- A byte as four symbols, bits [7:6] first (R266). -/
def byteLevels (b : Byte) : List (Fin 4) := [6, 4, 2, 0].map (fun k => pamLevel (b.toNat / 2 ^ k % 4))

/-- The levels of some bytes on a lane. -/
def laneLevels (bs : List Byte) : List (Fin 4) := bs.flatMap byteLevels

/-- The bytes of the levels of a lane. -/
def laneBytes : List (Fin 4) → List Byte
  | a :: b :: c :: d :: r => BitVec.ofNat 8 (pamBits a * 64 + pamBits b * 16 + pamBits c * 4 + pamBits d) :: laneBytes r
  | _ => []

/-- The codeword a lane sends for a flit of 256 bytes. -/
def codeword (flit : List Byte) : List Byte :=
  let m := flit.map (·.toNat)
  (scramble (m ++ rsCheck rsGen m)).map (BitVec.ofNat 8)

/-- The flit a lane receives with its number of corrected bytes, or none where the codeword is uncorrectable or its CRC
fails after correction (R267). -/
def decodeFlit (cw : List Byte) : Option (List Byte × Nat) :=
  if cw.length ≠ 272 then none
  else ((rsDecode (scramble (cw.map (·.toNat)))).map (fun (e : List Nat × Nat) => (e.1.map (BitVec.ofNat 8), e.2))).find?
    (fun (e : List Byte × Nat) => crc64 (e.1.take 248) == leNat (e.1.drop 248))

end Sys2Proof.Machine
end

