-- ==== Sys2Proof/Machine/Carry.lean ====
section
/-!
DEFINITION. How the package carries its own messages (R20, R34, R36, R47): from a compute die down the vertical bundles as beats (R230
to R233, R241), over the fabric as flits of an ordered pair or of a multicast group (R166, R169, R172), and up the bundles of another
die. Places are numbered 0 to 15 for the endpoints and 16 + n for compute die n. The layout of a message is log entry 83.
-/
namespace Sys2Proof.Machine

/-! ## Bundles -/

def State.bundle (s : State) (x : Nat) : Bundle := tget (fun _ => {}) s.stack.bundles x

def State.setBundle (s : State) (x : Nat) (b : Bundle) : State :=
  { s with stack := { s.stack with bundles := tput (fun _ => {}) s.stack.bundles x b } }

def bundleStack (x : Nat) : Nat := x / 128
def bundlePair (x : Nat) : Nat := x % 128 / 2
def bundleDir (x : Nat) : Nat := x % 2

/-- The other bundle of its pair (R232). -/
def bundlePartner (x : Nat) : Nat := if x % 2 = 0 then x + 1 else x - 1

/-- STATE of a bundle: 0 FULL, 1 HALF, 2 RETIRED (R259). -/
def State.bundleState (s : State) (x : Nat) : Nat := s.rd F.STK_VB_BUNDLE_STATE x

/-- Whether the direction of a bundle is in a remap pause (R242). -/
def State.inRemap (s : State) (x : Nat) : Bool := s.stack.remap.contains (2 * bundleStack x + bundleDir x)

/-- Bundles of one direction of a stack. -/
def dirBundles (n d : Nat) : List Nat := (List.range 64).map (fun p => 128 * n + 2 * p + d)

/-- The slot list of a direction (R241): a full-width bundle twice, a half-width one once. -/
def State.slotList (s : State) (n d : Nat) : List Nat :=
  (dirBundles n d).flatMap (fun x => if s.bundleState x = 0 then [x, x] else if s.bundleState x = 1 then [x] else [])

/-- The bundle that carries a message in a direction: by its 256-byte line, or by a logical core number in its place (R241). -/
def State.bundleFor (s : State) (n d line : Nat) : Option Nat :=
  let h := (line ^^^ line / 2 ^ 7 ^^^ line / 2 ^ 14) % 65536
  let l := s.slotList n d
  if l = [] then none else l[h % l.length]?

/-- A beat's control word of a KIND and SEQ or code, returning `ret` credits (R232). -/
def beatCtl (kind seq ret : Nat) : Nat := kind * 16384 + seq * 128 + ret

/-- Data of a beat: 128 bytes (R230). -/
def beatData (d : List Byte) : List Byte := (d ++ List.replicate 128 0).take 128

/-- Put one beat on a bundle, with the credits it returns for its partner (R231, R232). -/
def State.putBeat (s : State) (x kind seq : Nat) (data : List Byte) : State :=
  let b := s.bundle x
  let c := beatCtl kind seq (min 63 b.owe)
  let d := beatData data
  (s.setBundle x { b with owe := b.owe - min 63 b.owe }).send (.beat x d c (crc16 (d ++ leBytes 2 c)))

/-- Whether a bundle may send data: in service, not paused, with a credit (R233, R236, R242). -/
def State.mayBeat (s : State) (x : Nat) : Bool :=
  s.bundleState x != 2 && (s.bundle x).pause == 0 && !s.inRemap x && decide ((s.bundle x).used < 128)

/-- Send waiting beats, at most `n`; the last 64 sent are kept for replay (R233). -/
def State.pumpBundle (x : Nat) : Nat → State → State
  | 0, s => s
  | n + 1, s =>
    let b := s.bundle x
    match b.q with
    | [] => s
    | d :: r =>
      if s.mayBeat x then
        let sent := (b.sent ++ [(b.seq, d)]).drop (b.sent.length + 1 - 64)
        let s1 := s.setBundle x { b with q := r, sent := sent, seq := (b.seq + 1) % 128, used := b.used + 1 }
        State.pumpBundle x n (s1.putBeat x (if d.last then 2 else 1) b.seq d.data)
      else s

/-- The beats of a message; the last is DATA_END (R232). -/
def messageBeats (m : List Byte) : List Beat :=
  let k := (m.length + 127) / 128
  (List.range k).map (fun i => ⟨beatData ((m.drop (128 * i)).take 128), i + 1 == k⟩)

/-- Queue beats on a bundle and send what it may send. -/
def State.queueBeats (s : State) (x : Nat) (bs : List Beat) : State :=
  let b := s.bundle x
  State.pumpBundle x (b.q.length + bs.length) (s.setBundle x { b with q := b.q ++ bs })

/-- Place a message on the bundle its line maps to (R241). -/
def State.onBundle (s : State) (n d line : Nat) (m : List Byte) : State :=
  match s.bundleFor n d line with
  | none => s
  | some x => s.queueBeats x (messageBeats m)

/-! ## Egress queues of the fabric -/

/-- The flits of a packet (R264): SOLO, or HEAD, BODY and TAIL, of 240 data bytes each. -/
def packetFlits (stream : Nat) (bytes : List Byte) : List OutFlit :=
  let k := (bytes.length + 239) / 240
  (List.range k).map (fun i =>
    let d := (bytes.drop (240 * i)).take 240
    let t := if k = 1 then 1 else if i = 0 then 2 else if i + 1 = k then 4 else 3
    ⟨t, stream, if t = 1 ∨ t = 4 then d.length else 240, if t = 1 ∨ t = 2 then k else 0, d⟩)

def FlitTx.queue (t : FlitTx) (vc : Nat) : List OutFlit := tget (fun _ => []) t.q vc

def FlitTx.setQueue (t : FlitTx) (vc : Nat) (l : List OutFlit) : FlitTx := { t with q := tput (fun _ => []) t.q vc l }

def FlitTx.waiting (t : FlitTx) (vc : Nat) : List OutFlit := tget (fun _ => []) t.wait vc

def FlitTx.setWait (t : FlitTx) (vc : Nat) (l : List OutFlit) : FlitTx := { t with wait := tput (fun _ => []) t.wait vc l }

/-- Flits an egress queue of the fabric holds (R169). -/
def egressFlits : Nat := 64

/-- What waits for an egress queue enters it as far as there is room (R169, R172). -/
def FlitTx.fill (t : FlitTx) (vc : Nat) : FlitTx :=
  let n := egressFlits - (t.queue vc).length
  (t.setQueue vc (t.queue vc ++ (t.waiting vc).take n)).setWait vc ((t.waiting vc).drop n)

/-- Put flits into the egress queue of pair (i, j); what finds no room stalls its unit (R169, R172). -/
def State.onPair (s : State) (i j vc : Nat) (fs : List OutFlit) : State :=
  let t := s.tx (16 * i + j)
  s.setTx (16 * i + j) ((t.setWait vc (t.waiting vc ++ fs)).fill vc)

def State.mcastQueue (s : State) (i g vc : Nat) : List OutFlit := tget (fun _ => []) s.fab.mcast ((i * 7 + g) * 4 + vc)

def State.setMcast (s : State) (i g vc : Nat) (l : List OutFlit) : State :=
  { s with fab := { s.fab with mcast := tput (fun _ => []) s.fab.mcast ((i * 7 + g) * 4 + vc) l } }

def State.mcastWaiting (s : State) (i g vc : Nat) : List OutFlit := tget (fun _ => []) s.fab.mcastWait ((i * 7 + g) * 4 + vc)

def State.setMcastWait (s : State) (i g vc : Nat) (l : List OutFlit) : State :=
  { s with fab := { s.fab with mcastWait := tput (fun _ => []) s.fab.mcastWait ((i * 7 + g) * 4 + vc) l } }

/-- What waits for a multicast egress queue enters it as far as there is room. -/
def State.mcastFill (s : State) (i g vc : Nat) : State :=
  let n := egressFlits - (s.mcastQueue i g vc).length
  (s.setMcast i g vc (s.mcastQueue i g vc ++ (s.mcastWaiting i g vc).take n)).setMcastWait i g vc ((s.mcastWaiting i g vc).drop n)

/-- Put flits into a multicast egress queue, or with MCAST_ENABLE clear one unicast copy into that of each member (R169, R176). -/
def State.onGroup (s : State) (i g vc : Nat) (fs : List OutFlit) : State :=
  if s.bit F.FAB_CTRL_MCAST_ENABLE then (s.setMcastWait i g vc (s.mcastWaiting i g vc ++ fs)).mcastFill i g vc
  else (groupMembers g i).foldl (fun (t : State) m => t.onPair i m vc fs) s

/-! ## Messages -/

/-- A message between units of the package: kind (1 launch to an endpoint, 2 launch to a core, 3 report, 4 abort, 5 signal, 6 memory
request, 7 memory response, 8 packet for an egress queue, 9 forward to a home, 10 confirmation), places it comes from and goes to,
virtual channel, the line or logical core number that places it on a bundle (R241), and its body. -/
structure Note where
  kind : Nat
  src : Nat
  dst : Nat
  vc : Nat
  line : Nat
  body : List Byte
  deriving DecidableEq, Repr

/-- The bytes of a message (log entry 83). -/
def Note.bytes (m : Note) : List Byte :=
  leBytes 1 m.kind ++ leBytes 1 m.src ++ leBytes 1 m.dst ++ leBytes 1 m.vc ++ leBytes 4 m.body.length ++ leBytes 8 m.line ++ m.body

/-- The message some bytes hold. -/
def noteOf (b : List Byte) : Note :=
  let f := fun (i n : Nat) => leNat ((b.drop i).take n)
  ⟨f 0 1, f 1 1, f 2 1, f 3 1 % 4, f 8 8, (b.drop 16).take (f 4 4)⟩

/-- The endpoint of a place: its own, or the one under a compute die (R21). -/
def placeEp (p : Nat) : Nat := if p < 16 then p else p - 16

/-- Place of the home of a location (R20, R37, R208). -/
def Loc.place : Loc → Nat
  | .hbm st _ => st
  | .sram n _ => n
  | .scratch lc _ => 16 + lc / 16
  | .ioSram q _ | .berth q _ | .moor q _ => 12 + q
  | .mirror _ | .none => 12

/-- A message goes on from an endpoint: over the fabric, up the bundles of the die above, or it has arrived (R34, R36). -/
def State.fromEp (s : State) (e : Nat) (m : Note) : State :=
  if 28 ≤ m.dst then s
  else if placeEp m.dst ≠ e then s.onPair e (placeEp m.dst) m.vc (packetFlits 0 m.bytes)
  else if 16 ≤ m.dst then s.onBundle e 1 m.line m.bytes
  else s

/-- A unit sends a message; one within a compute die or an endpoint needs no path. -/
def State.post (s : State) (m : Note) : State :=
  if m.src = m.dst then s else if 16 ≤ m.src then s.onBundle (m.src - 16) 0 m.line m.bytes else s.fromEp m.src m

/-- The answer to a memory request, from the place of its home (R20, R210). -/
def Note.answer (m : Note) : Note := { m with kind := 7, src := m.dst, dst := m.src, vc := 1, body := [] }

/-- An endpoint passes a launch up to the cores of its die that it names (R34). -/
def State.launchUp (s : State) (n : Nat) (m : Note) : State :=
  ((s.launches.filter (fun l => l.seq == leNat m.body)).flatMap (fun l => l.cores.filter (fun c => c / 16 == n))).foldl
    (fun (t : State) c => t.fromEp n { m with kind := 2, src := n, dst := 16 + n, line := c }) s

/-- A message reaches an endpoint. -/
def State.atEp (s : State) (e : Nat) (m : Note) : State :=
  if m.kind = 1 then s.launchUp e m
  else if m.kind = 6 ∧ m.dst = e then s.fromEp e m.answer
  else s.fromEp e m

/-- A message reaches the far end of a bundle: the endpoint under it, or compute die `n` (R241). -/
def State.offBundle (s : State) (n d : Nat) (m : Note) : State :=
  if d = 0 then s.atEp n m
  else if m.kind = 6 ∧ m.dst = 16 + n then s.post m.answer
  else s

/-! ## Open paths -/

/-- Whether a stack carries messages in a direction: a bundle in service, and neither its cache die nor its base die dark (R228,
R241, R250). -/
def State.stackOpen (s : State) (n d : Nat) : Bool :=
  (dirBundles n d).any (fun x => s.bundleState x != 2) && !s.dieDark n && !s.dieDark (12 + n / 3)

/-- Whether endpoint `i` reaches endpoint `j`: the pair is UP (R172). -/
def State.pairOpen (s : State) (i j : Nat) : Bool := i == j || s.bit F.FAB_PAIR_UP (16 * i + j)

/-- Whether a message can pass from one place to another (R20, R34, R172). -/
def State.pathOpen (s : State) (a b : Nat) : Bool :=
  a == b || ((decide (a < 16) || s.stackOpen (a - 16) 0) && s.pairOpen (placeEp a) (placeEp b) &&
    (decide (b < 16) || s.stackOpen (b - 16) 1))

/-- Whether requests of a place reach a home and its answers come back. -/
def State.bothOpen (s : State) (a b : Nat) : Bool := s.pathOpen a b && s.pathOpen b a

/-- Whether a place reaches the home of every byte of an area (R20, R172). -/
def State.areaOpen (s : State) (p a n : Nat) : Bool := (granules a n).all (fun g => s.bothOpen p (s.locate g).place)

/-- The first granule of some areas at each home. -/
def State.homesOf (s : State) (areas : List (Nat × Nat)) : List (Nat × Nat) :=
  ((areas.flatMap (fun a => granules a.1 a.2)).map (fun g => ((s.locate g).place, g))).foldl
    (fun l e => if l.any (fun o => o.1 == e.1) then l else l ++ [e]) []

/-- A unit asks the homes of some areas: one request to each (R20, R210). -/
def State.askHomes (s : State) (p : Nat) (areas : List (Nat × Nat)) : State :=
  (s.homesOf areas).foldl (fun (t : State) e => t.post
    { kind := 6, src := p, dst := e.1, vc := 0, line := e.2 / 256, body := leBytes 6 e.2 }) s

end Sys2Proof.Machine
end

