-- ==== Sys2Proof/Machine/Operands.lean ====
section
/-!
DEFINITION. Operand forms: the bit fields of the instruction formats (R49, R60, R65, R68), sign extension, and the address
forms of the transfer engine (R68, R70).
-/
namespace Sys2Proof.Machine

/-- Bits [hi:lo] of an instruction word. -/
def fld (w : W64) (hi lo : Nat) : Nat := w.toNat / 2 ^ lo % 2 ^ (hi - lo + 1)

/-- The major opcode (R49). -/
def opcodeOf (w : W64) : Nat := fld w 63 56

/-- The 32-bit immediate, sign-extended. -/
def simm (w : W64) : W64 := (w.setWidth 32).signExtend 64

/-- The signed branch offset (R52). -/
def soff (w : W64) : Int := (w.setWidth 32).toInt

/-- SR format: bits [40:0] are reserved. -/
def srReserved (w : W64) : Bool := fld w 40 0 != 0

/-- SI format: bits [45:32] are reserved. -/
def siReserved (w : W64) : Bool := fld w 45 32 != 0

/-- BR format: bits [45:32] are reserved. -/
def brReserved (w : W64) : Bool := fld w 45 32 != 0

/-- AD format: bits [42:32] are reserved. -/
def adReserved (w : W64) : Bool := fld w 42 32 != 0

/-- An XFER address register value (R68): an offset in the own scratchpad, a DPA, or neither. -/
inductive XAddr
  | own (off : Nat)
  | dpa (a : Nat)
  | bad
  deriving DecidableEq, Repr

def xaddr (v : BitVec 48) : XAddr :=
  let n := v.toNat
  if n / 2 ^ 47 = 1 then (if n / 2 ^ 23 % 2 ^ 24 = 0 then .own (n % 2 ^ 23) else .bad)
  else if n / 2 ^ 42 = 0 then .dpa n else .bad

/-- The DPA an address form names for the core that issues it. -/
def XAddr.dpaOf (x : XAddr) (lc : Nat) : Nat :=
  match x with
  | .own off => scratchAddr lc off
  | .dpa a => a
  | .bad => 0x40000000000

/-- The range fault of an address form's space (R69): SCRATCH_RANGE or DPA_RANGE. -/
def XAddr.cause : XAddr → Nat
  | .own _ => 5
  | _ => 6

/-- Whether an area of `n` bytes lies in its space, as far as registers show. -/
def State.areaOk (s : State) (x : XAddr) (n : Nat) (write : Bool) : Bool :=
  match x with
  | .own off => off + n ≤ scratchBytes && off < scratchBytes
  | .dpa a => s.mapOk a (max n 1) write
  | .bad => false

/-- The offset in its space, for alignment. -/
def XAddr.low : XAddr → Nat
  | .own off => off
  | .dpa a => a
  | .bad => 1

/-- Fields of the SX register of a remote operation (R70): device, window, key. -/
def sxDevice (x : W64) : Nat := fld x 9 0
def sxWindow (x : W64) : Nat := fld x 17 10
def sxKey (x : W64) : Nat := fld x 41 18

end Sys2Proof.Machine
end

