-- ==== Sys2Proof/Machine/CoreOps.lean ====
section
/-!
DEFINITION. The shared operations of a core: taking a fault, moving to the next instruction with its loop stack, stalls and
what ends them, semaphores, and issuing an engine operation (R42, R45 to R47, R52 to R55, R84 to R89).
-/
namespace Sys2Proof.Machine

/-- Completion status of a fault cause (R88); REMOTE_FAILED carries the remote operation's own. -/
def faultStatus (cause : Nat) : Nat :=
  match cause with
  | 1 | 2 | 4 | 7 | 8 | 0x0A | 0x11 => 0x40
  | 3 | 5 | 6 | 9 | 0x0B | 0x0C | 0x0D => 0x20
  | 0x0E => 0x42
  | 0x0F => 0x60
  | 0x12 => 0x51
  | _ => 0x41

/-- A fault of a core: it enters FAULTING, records cause, index and word, discards what has not started, and raises
CORE_FAULT (R84, R85, R89). A core that runs no program is left as it is. -/
def State.faultWith (s : State) (lc cause idx : Nat) (word : W64) (status : Nat) : State :=
  let c := s.core lc
  if c.cstate = .running ∨ c.cstate = .loading ∨ c.cstate = .draining then
    (s.setCore lc { c with cstate := .faulting, fault := some ⟨cause, idx, word, status, s.bt⟩, stall := .none,
                           queues := [] }).raise 0x0801 (dieCD (lc / 16)) [(1, lc), (1, cause), (4, idx)]
  else s

/-- A fault whose status is the one R88 gives its cause. -/
def State.coreFault (s : State) (lc cause idx : Nat) (word : W64) : State :=
  s.faultWith lc cause idx word (faultStatus cause)

/-- The instruction the sequencer is about to issue. -/
def Core.fetch (c : Core) : Option W64 := c.code[c.pc]?

/-- The word at the program counter, or zero. -/
def Core.word (c : Core) : W64 := c.fetch.getD 0

/-- Whether core `lc` issues `w` now: it runs, does not stall, and `w` stands at its index. -/
def State.canIssue (s : State) (lc : Nat) (w : W64) : Bool :=
  let c := s.core lc
  c.cstate == .running && c.stall == .none && c.fetch == some w

/-- Scalar registers an instruction reads (R49, R60, R65, R68). -/
def readsOf (w : W64) : List Nat :=
  let o := opcodeOf w
  if 0x01 ≤ o ∧ o ≤ 0x0E then [fld w 50 46, fld w 45 41]
  else if 0x10 ≤ o ∧ o ≤ 0x16 then [fld w 50 46]
  else if 0x20 ≤ o ∧ o ≤ 0x25 then [fld w 47 43]
  else if 0x30 ≤ o ∧ o ≤ 0x35 then [fld w 55 51, fld w 50 46]
  else if o = 0x17 ∨ o = 0x39 ∨ o = 0x62 then [fld w 55 51]
  else if o = 0x38 then [31]
  else if o = 0x40 then [fld w 41 37]
  else if o = 0x48 then [fld w 33 29, fld w 11 7]
  else if o = 0x50 then [fld w 40 36, fld w 35 31]
  else if o = 0x60 then [fld w 49 45, fld w 44 40]
  else if o = 0x61 then [fld w 49 45]
  else []

/-- The scalar register an instruction writes, with its result latency in cycles (R56). -/
def resultOf (w : W64) : Nat × Nat :=
  let o := opcodeOf w
  if o = 0x09 ∨ o = 0x0A then (fld w 55 51, 3)
  else if o ≤ 0x17 then (fld w 55 51, 1)
  else if o = 0x24 then (fld w 47 43, 4)
  else if o = 0x23 then (fld w 47 43, 1)
  else if o = 0x65 ∨ (0x71 ≤ o ∧ o ≤ 0x73) then (fld w 55 51, 2)
  else (0, 1)

/-- An access to scratchpad by the sequencer while an engine works, which may lose its bank (R39). -/
def Core.mayLose (c : Core) (w : W64) : Bool := (opcodeOf w == 0x24 || opcodeOf w == 0x25) && !c.quiet allQueues

/-- The core at the issue of an instruction: it issues once the registers it reads are ready, and its result is ready after its
latency; delays that R56 does not count may follow an access that loses its bank, and slip whatever uses an engine, a bank or a
crossing (R39, R56, R377). -/
def Core.atIssue (c : Core) (w : W64) : Core :=
  let t := (readsOf w).foldl (fun a i => max a (tget (fun _ => 0) c.ready i)) c.cyc
  let d := resultOf w
  let o := opcodeOf w
  { c with cyc := t, ready := if d.1 = 0 then c.ready else tput (fun _ => 0) c.ready d.1 (t + d.2),
           lapse := c.lapse || c.mayLose w,
           slips := c.slips || c.mayLose w || o == 0x40 || o == 0x48 || o == 0x50 || o == 0x60 }

/-- One instruction of the sequencer; a condition that does not hold leaves the state as it is (R10). -/
def issue (s : State) (lc : Nat) (w : W64) (mine : Bool) (body : Core → State) : Out :=
  if mine && s.canIssue lc w then .next (body ((s.core lc).atIssue w)) else .next s

/-- Reaching an index in order: the loop levels that end there start again or end (R53). -/
def loopArrive : List LoopLvl → Nat → Nat × List LoopLvl
  | [], p => (p, [])
  | l :: r, p =>
    if p = l.stop then (if l.left > 1 then (l.start, { l with left := l.left - 1 } :: r) else loopArrive r p)
    else (p, l :: r)

/-- Continue in order at index `p`; the cycles of a stall that ends are not counted (R56). Past the end of the code raises PC_RANGE with
the index and word of the instruction that led there (R52; log entry 25). -/
def State.fallTo (s : State) (lc : Nat) (c : Core) (p : Nat) : State :=
  let t := loopArrive c.loops p
  if t.1 < c.code.length then
    s.setCore lc { c with pc := t.1, loops := t.2, stall := .none, cyc := c.cyc + 1, lapse := c.lapse || c.stall != .none }
  else (s.setCore lc c).coreFault lc 3 c.pc c.word

/-- The next instruction in order. -/
def State.nextPc (s : State) (lc : Nat) (c : Core) : State := s.fallTo lc c (c.pc + 1)

/-- Loop levels a taken branch keeps: those whose body holds the target; it ends every other level and all inside it. -/
def loopKeep (loops : List LoopLvl) (p : Nat) : List LoopLvl :=
  match loops with
  | [] => []
  | l :: r => if r.all (fun o => o.start ≤ p && p < o.stop) && l.start ≤ p && p < l.stop then l :: r else loopKeep r p

/-- A taken branch to a target, or PC_RANGE (R52, R53). -/
def State.branchTo (s : State) (lc : Nat) (c : Core) (target : Int) : State :=
  if 0 ≤ target ∧ target < c.code.length then
    s.setCore lc { c with pc := target.toNat, loops := loopKeep c.loops target.toNat, cyc := c.cyc + 3 }
  else s.coreFault lc 3 c.pc c.word

/-- Entries of the outgoing signal queue in use: a signal keeps its entry until its target has taken it (R47; log entry 84). -/
def Core.outEntries (c : Core) : Nat := c.outq.length + c.transit.length

/-- A SIGNAL on its way to another core (R47). -/
def signalNote (lc : Nat) (g : Sig) : Note :=
  { kind := 5, src := 16 + lc / 16, dst := 16 + g.core / 16, vc := 0, line := g.core,
    body := leBytes 1 lc ++ leBytes 1 g.core ++ leBytes 1 g.sem ++ leBytes 4 g.v ++ leBytes 2 g.tag }

/-- The outgoing queue drains, at most `n` signals, unless a refused one blocks it (R47). -/
def State.drainSigs (lc : Nat) : Nat → State → State
  | 0, s => s
  | n + 1, s =>
    let c := s.core lc
    match c.outq with
    | [] => s
    | g :: r =>
      if c.blocked then s
      else State.drainSigs lc n ((s.setCore lc { c with outq := r, transit := c.transit ++ [g] }).post (signalNote lc g))

/-- A SIGNAL enters the outgoing queue, which has room for it, and the sequencer goes on (R47, R56). -/
def State.putSig (s : State) (lc : Nat) (c : Core) (g : Sig) : State :=
  State.drainSigs lc 16 (s.nextPc lc { c with outq := c.outq ++ [g] })

/-- What ends a stall, evaluated after the event that may end it (R42, R45, R47, R50, R55). -/
def State.wake (s : State) (lc : Nat) : State :=
  let c := s.core lc
  if c.cstate ≠ .running then s
  else match c.stall with
    | .wait i n => if n ≤ (c.sem i).toNat then s.nextPc lc (c.setSem i (c.sem i - BitVec.ofNat 32 n)) else s
    | .fence m => if c.quiet m then s.nextPc lc c else s
    | .halt => if c.quiet allQueues then s.setCore lc { c with cstate := .draining, stall := .none, halted := true } else s
    | .queue q op => if (c.queue q).length < 16 then s.nextPc lc (c.setQueue q (c.queue q ++ [op])) else s
    | .outq t i v => if c.outEntries < 16 then s.putSig lc c ⟨t, i, v, c.tag⟩ else s
    | _ => s

/-- An increment of a semaphore, or SEM_OVERFLOW on its owner with the count left as it was (R46); then its waits. -/
def State.addSem (s : State) (lc i v idx : Nat) (word : W64) : State :=
  let c := s.core lc
  if (c.sem i).toNat + v < 2 ^ 32 then (s.setCore lc (c.setSem i (c.sem i + BitVec.ofNat 32 v))).wake lc
  else s.coreFault lc 8 idx word

/-- An engine instruction that passed its checks enters its queue, or stalls while that is full (R42). -/
def State.enqueue (s : State) (lc : Nat) (c : Core) (q : Nat) (op : EngOp) : State :=
  if (c.queue q).length < 16 then s.nextPc lc (c.setQueue q (c.queue q ++ [op]))
  else s.setCore lc { c with stall := .queue q op }

/-- The first failing check of an ordered list of (fails, cause) pairs (R42). -/
def firstFault : List (Bool × Nat) → Option Nat
  | [] => none
  | (b, n) :: r => if b then some n else firstFault r

/-- The format codes whose feature bit an image has not set (R81). -/
def fmtUndeclared (features : BitVec 256) (fmt : Nat) : Bool :=
  ((fmt == 2 || fmt == 7) && !features.getLsbD 13) ||
  ((fmt == 1 || fmt == 5 || fmt == 6 || fmt == 10 || fmt == 11) && !features.getLsbD 14)

/-- Stop what has not started and drain (R84, R85). -/
def State.drainCore (s : State) (lc : Nat) : State :=
  let c := s.core lc
  s.setCore lc { c with cstate := .draining, stall := .none, queues := [] }

/-- Cause a report carries: that of the recorded fault where its status is the one reported. -/
def Core.causeOf (c : Core) (status : Nat) : Nat :=
  match c.fault with
  | some f => if f.status = status then f.cause else 0
  | none => 0

/-- A report that the watch room makes for a core that cannot report itself (R84). -/
def State.reportFor (s : State) (lc status cause : Nat) : State :=
  { s with reports := s.reports ++ [(⟨(s.core lc).launch, lc, 2, status, s.bt, cause, true⟩ : Report)] }

/-- Report of a core's launch to IO0, which it sends over the fabric (R34, R84, R86). -/
def State.report (s : State) (lc kind status bt : Nat) : State :=
  let c := s.core lc
  let r : Report := ⟨c.launch, lc, kind, status, bt, c.causeOf status, false⟩
  { s with reports := s.reports ++ [r] }.post
    { kind := 3, src := 16 + lc / 16, dst := 12, vc := 1, line := lc, body := leBytes 4 c.launch ++ leBytes 1 kind ++ leBytes 1 status }

/-- Clearing of one scratchpad: every byte zero and no unit poisoned (R89, R91). -/
def State.clearScratch (s : State) (lc : Nat) : State :=
  let lo := scratchAddr lc 0
  { s with dmem := s.dmem.filter (fun e => e.1 < lo || lo + scratchBytes ≤ e.1),
           poison := s.poison.filter (fun u => u < lo / 32 || (lo + scratchBytes) / 32 ≤ u) }

/-- A core whose die is parked or halted (R84): engine operations are dropped and the launch reported with `status`. -/
def State.parkCore (s : State) (lc status : Nat) : State :=
  let c := s.core lc
  if c.cstate = .absent ∨ c.cstate = .parked then s
  else
    let s1 := if c.cstate = .idle then s else s.reportFor lc status (c.causeOf status)
    s1.setCore lc { c with cstate := .parked, stall := .none, queues := [], run := [], remote := 0, fault := none, aborted := false,
                           halted := false, prevTag := if c.cstate = .idle then c.prevTag else some c.tag }

/-- A running core may have waited for something that is no wait of its program: a crossing, a bank, a replay or a clock hold (R377). -/
def Core.disturb (c : Core) : Core := if c.cstate = .running then { c with lapse := true, slips := true } else c

/-- What may slip on every core of compute die `d` (R243, R371, R377). -/
def State.disturbDie (s : State) (d : Nat) : State :=
  { s with cores := tmap (fun _ => {}) (fun lc c => if lc / 16 = d then c.disturb else c) s.cores }

/-- Release of a parked core (R84): IDLE, semaphores and pending signals zeroed, scratchpad and image kept. -/
def State.releaseCore (s : State) (lc : Nat) : State :=
  let c := s.core lc
  if c.cstate = .parked then s.setCore lc { c with cstate := .idle, sems := [], pend := [] } else s

end Sys2Proof.Machine
end

