-- ==== Sys2Proof/Machine/Scratch.lean ====
section
/-!
DEFINITION. What a core loses: retirement of a physical core and what becomes of the logical core bound to it (02_cores_and_engines.md
R84, R88, R90, R95), and the errors of a scratchpad's codewords (R41, R89, R90, R215).
-/
namespace Sys2Proof.Machine

/-- The logical core bound to a physical core of die `d`, if any (R93). -/
def State.boundTo (s : State) (d pc : Nat) : Option Nat :=
  ((List.range 16).map (fun i => 16 * d + i)).find? (fun l => s.bit F.STK_LCMAP_PRESENT l && s.rd F.STK_LCMAP_PC l == pc)

/-- Whether a core runs a launch. -/
def Core.busy (c : Core) : Bool :=
  c.cstate == .loading || c.cstate == .running || c.cstate == .draining || c.cstate == .faulting

/-- A core whose physical core has gone: everything in flight is dropped, a running launch is reported as CORE_RETIRED, and it is IDLE
until it is rebound (R84, R90, R91). `cause` is CORE_FAILED where a check of the core failed (R88). -/
def State.loseCore (s : State) (lc cause : Nat) : State :=
  let c := s.core lc
  if c.cstate = .absent then s
  else
    let s1 := if c.busy then s.reportFor lc 0x51 cause else s
    let c1 : Core := { c with cstate := .idle, broken := true, stall := .none, lostIn := if c.busy then some c.launch else none }
    let c2 : Core := { c1 with prevTag := if c.busy then some c.tag else c.prevTag, aborted := false, halted := false }
    s1.setCore lc { c2 with queues := [], run := [], remote := 0, sems := [], fault := none }

/-- A physical core is retired until the next cold reset, with CORE_RETIRED; a failed check is CORE_FAILED on the logical core that
runs on it (R84, R88 to R90, R95; log entry 86). -/
def State.failPhysical (s : State) (d pc : Nat) (check : Bool) : State :=
  let g := s.rd F.STK_PCORE_GOOD d
  if bitAt g pc then
    let s1 := s.wr F.STK_PCORE_GOOD d (g - 2 ^ pc)
    match s1.boundTo d pc with
    | none => s1.raise 0x0802 (dieCD d) [(1, d), (1, pc)]
    | some lc =>
      let c := s1.core lc
      let s2 := if check && c.busy && c.cstate != .faulting then s1.raise 0x0801 (dieCD d) [(1, lc), (1, 0x12), (4, 0xFFFFFFFF)] else s1
      (s2.raise 0x0802 (dieCD d) [(1, d), (1, pc)]).loseCore lc (if check then 0x12 else 0)
  else s

/-! ## Crossings (R370, R371) -/

/-- L of a crossing: the latest arrival plus one guard cycle (R371). -/
def crossingL (c : Crossing) : Nat := c.latest + 1

/-- Whether a crossing's calibration holds: L is at most 8 and the arrivals spread over at most 2 cycles (R371). -/
def crossingOk (c : Crossing) : Bool := decide (crossingL c ≤ 8) && decide (c.latest ≤ c.earliest + 2)

/-- Key of a receiving side: an island, or the fixed domains of a die. -/
def crossKey : CrossSide → Nat
  | .island x => x
  | .die d => 432 + d

/-- Whether a crossing leads into a fixed domain, and the die of its receiving side. -/
def crossFixed (c : Crossing) : Bool := decide (432 ≤ crossKey c.side)
def crossDie (c : Crossing) : Nat := if crossFixed c then crossKey c.side - 432 else dieCD (crossKey c.side / 36)

/-- The calibrated latencies of the domains that a calibration covered (R371). -/
def State.calibrate (s : State) (cal : List Crossing) : State :=
  let keys := (cal.map (fun c => crossKey c.side)).eraseDups
  { s with clk := { s.clk with lat := keys.foldl (fun (t : Tbl (List Nat)) k =>
      tput (fun _ => []) t k ((cal.filter (fun c => crossKey c.side == k)).map crossingL)) s.clk.lat } }

/-- Failed crossings of islands fail their physical cores (R371). -/
def State.failCrossed (s : State) (cal : List Crossing) : State :=
  (cal.filter (fun c => !crossingOk c && !crossFixed c)).foldl
    (fun (t : State) c => t.failPhysical (crossKey c.side / 36) (crossKey c.side % 36 / 2) true) s

/-- The physical core under a logical core is retired. -/
def State.failUnder (s : State) (lc : Nat) : State := s.failPhysical (lc / 16) (s.rd F.STK_LCMAP_PC lc) false

/-- Corrected words of a scratchpad bank are counted; SCRATCH_CORRECTED past 1,000 in one hour, and the second within 24 h for the same
bank retires the core (R41, R89, R90). -/
def State.scratchCorrected (s : State) (lc bank n : Nat) : State :=
  let c := s.core lc
  let old : Rate := tget (fun _ => {}) c.bankCe bank
  let new := old.add nsHour s.now n
  let before := if old.win = s.now / nsHour then old.n else 0
  let last := tget (fun _ => 0) c.bankHit bank
  let c1 := { c with bankCe := tput (fun _ => {}) c.bankCe bank new }
  if before ≤ 1000 ∧ 1000 < new.n then
    let s1 := (s.setCore lc { c1 with bankHit := tput (fun _ => 0) c.bankHit bank (s.now + 1) }).raise 0x0804 (dieCD (lc / 16)) []
    if last ≠ 0 ∧ s.now + 1 ≤ last + nsDay then s1.failUnder lc else s1
  else s.setCore lc c1

/-- A double error of a scratchpad word poisons its 32-byte unit; one that recurs at a granule scrubbed since retires the core (R41, R90,
R215). -/
def State.scratchDouble (s : State) (lc granule w : Nat) : State :=
  let c := s.core lc
  let s1 := (s.mark (scratchAddr lc (granule * 64 + w / 2 * 32))).setCore lc { c with badGran := c.badGran.add granule }
  if c.scrubbed.contains granule then s1.failUnder lc else s1

/-- An error met by a read of a scratchpad (R41). -/
def State.scratchErr (s : State) (lc : Nat) (e : ScratchErr) : State :=
  if e.double then s.scratchDouble lc e.granule e.word else s.scratchCorrected lc (e.granule % 32) 1

/-- Errors in the areas of the own scratchpad that an engine reads, as (offset, bytes). -/
def State.scratchErrs (s : State) (lc : Nat) (areas : List (Nat × Nat)) (errs : List ScratchErr) : State :=
  (errs.filter (fun e => let o := e.granule.val * 64 + e.word.val * 16
    areas.any (fun a => decide (o < a.1 + a.2) && decide (a.1 < o + 16)))).foldl (fun (t : State) e => t.scratchErr lc e) s

end Sys2Proof.Machine
end

