-- ==== Sys2Proof/Machine/Numerics.lean ====
section
/-!
DEFINITION. Number formats and reproducible arithmetic (03_numerics.md): values of the element formats, rounding,
conversions, block scales and trims, the keyed generator, and the exact window arithmetic of collectives.
-/
namespace Sys2Proof.Machine

/-- An exact value: NaN, an infinity, or ± m × 2^e. A zero keeps its sign. -/
inductive Num
  | nan
  | inf (neg : Bool)
  | fin (neg : Bool) (m : Nat) (e : Int)
  deriving DecidableEq, Repr

def bitLen (n : Nat) : Nat := if n = 0 then 0 else Nat.log2 n + 1

/-- 2^i for i ≥ 0, and 1 below. -/
def pow2 (i : Int) : Nat := 2 ^ i.toNat

/-- Numerator and denominator of (n / d × 2^e) / 2^ex. -/
def scaled (n d : Nat) (e ex : Int) : Nat × Nat := (n * pow2 (e - ex), d * pow2 (ex - e))

/-- Nearest integer to n / d, ties to even. -/
def rne (n d : Nat) : Nat :=
  let q := n / d
  let r := n % d
  if 2 * r > d ∨ (2 * r = d ∧ q % 2 = 1) then q + 1 else q

/-- The exponent of the grid on which n / d × 2^e is rounded to p bits, not below emin. -/
def gridExp (p : Nat) (emin : Int) (n d : Nat) (e : Int) : Int :=
  let ex0 : Int := e + bitLen n - bitLen d - p
  let s := scaled n d e ex0
  max emin (if s.1 / s.2 ≥ 2 ^ p then ex0 + 1 else ex0)

/-- A floating-point element format (R96): exponent and mantissa bits, bias, largest finite value as maxQ × 2^maxE, and
whether a finite value out of range becomes an infinity (R104). -/
structure FpFmt where
  ebits : Nat
  mbits : Nat
  bias : Nat
  maxQ : Nat
  maxE : Int
  ovInf : Bool
  deriving DecidableEq, Repr

/-- Exponent of a format's smallest subnormal. -/
def FpFmt.emin (f : FpFmt) : Int := 1 - (f.bias : Int) - f.mbits

def FpFmt.width (f : FpFmt) : Nat := f.ebits + f.mbits + 1

/-- The base element formats of R96, without scale or trim. -/
inductive Elem
  | e2m1 | e2m3 | e3m2 | e4m3 | e5m2 | int8 | bf16 | fp16 | fp32
  deriving DecidableEq, Repr

/-- Parameters of a floating-point element format; INT8 has the entry of FP32 and is never read here. -/
def Elem.fp : Elem → FpFmt
  | .e2m1 => ⟨2, 1, 1, 3, 1, false⟩
  | .e2m3 => ⟨2, 3, 1, 15, -1, false⟩
  | .e3m2 => ⟨3, 2, 3, 7, 2, false⟩
  | .e4m3 => ⟨4, 3, 7, 14, 5, false⟩
  | .e5m2 => ⟨5, 2, 15, 7, 13, false⟩
  | .bf16 => ⟨8, 7, 127, 255, 120, true⟩
  | .fp16 => ⟨5, 10, 15, 2047, 5, true⟩
  | .fp32 => ⟨8, 23, 127, 16777215, 104, true⟩
  | .int8 => ⟨8, 23, 127, 16777215, 104, true⟩

/-- Element width in bits. -/
def Elem.width : Elem → Nat
  | .int8 => 8
  | b => b.fp.width

/-- The element format of a format code (R57). -/
def elemOf (fmt : Nat) : Elem :=
  match fmt with
  | 0 | 1 | 2 => .e2m1
  | 3 | 5 | 7 => .e2m3
  | 4 | 6 => .e3m2
  | 8 | 10 => .e4m3
  | 9 | 11 => .e5m2
  | 12 => .int8
  | 13 => .bf16
  | 14 => .fp16
  | _ => .fp32

/-- Whether the format has scale bytes (MX and TB, R57). -/
def hasScale (fmt : Nat) : Bool := fmt == 1 || fmt == 2 || fmt == 5 || fmt == 6 || fmt == 7 || fmt == 10 || fmt == 11

/-- Whether the format has trim bytes (TB4 and TB6). -/
def hasTrim (fmt : Nat) : Bool := fmt == 2 || fmt == 7

/-- Element width of a format code in bits. -/
def fmtWidth (fmt : Nat) : Nat := (elemOf fmt).width

/-- Bytes of a vector of n elements in a format (R58, R59). -/
def vecBytes (fmt n : Nat) : Nat :=
  (n * fmtWidth fmt + 7) / 8 + (if hasScale fmt then n / 32 else 0) + (if hasTrim fmt then n / 32 else 0)

/-- The exact value an element code stands for (R96, R97); special codes per format. -/
def Elem.value (b : Elem) (code : Nat) : Num :=
  match b with
  | .int8 => if code ≥ 128 then .fin true (256 - code) 0 else .fin false code 0
  | b =>
    let f := b.fp
    let man := code % 2 ^ f.mbits
    let ex := code / 2 ^ f.mbits % 2 ^ f.ebits
    let neg := code / 2 ^ (f.mbits + f.ebits) % 2 = 1
    let top := ex = 2 ^ f.ebits - 1
    if b = .e4m3 ∧ top ∧ man = 7 then .nan
    else if (b = .e5m2 ∨ b = .bf16 ∨ b = .fp16 ∨ b = .fp32) ∧ top then (if man = 0 then .inf neg else .nan)
    else if ex = 0 then .fin neg man f.emin
    else .fin neg (man + 2 ^ f.mbits) ((ex : Int) - 1 + f.emin)

/-- Canonical NaN of a format (R97); formats without NaN give +0 (R104). -/
def Elem.nanCode : Elem → Nat
  | .fp32 => 0x7FC00000
  | .bf16 => 0x7FC0
  | .fp16 => 0x7E00
  | .e4m3 => 0x7F
  | .e5m2 => 0x7E
  | _ => 0

/-- Code of the magnitude q × 2^e on the format's grid, with its sign. -/
def FpFmt.encode (f : FpFmt) (neg : Bool) (q : Nat) (e : Int) : Nat :=
  let (q, e) := if q ≥ 2 ^ (f.mbits + 1) then (q / 2, e + 1) else (q, e)
  let sgn := if neg then 2 ^ (f.mbits + f.ebits) else 0
  if q < 2 ^ f.mbits then sgn + q else sgn + (e - f.emin + 1).toNat * 2 ^ f.mbits + (q - 2 ^ f.mbits)

/-- Code of ± largest finite value. -/
def FpFmt.maxCode (f : FpFmt) (neg : Bool) : Nat := f.encode neg f.maxQ f.maxE

/-- Code of ± infinity (only where the format has one). -/
def FpFmt.infCode (f : FpFmt) (neg : Bool) : Nat :=
  (if neg then 2 ^ (f.mbits + f.ebits) else 0) + (2 ^ f.ebits - 1) * 2 ^ f.mbits

/-- Whether q × 2^e is above the largest finite value. -/
def FpFmt.above (f : FpFmt) (q : Nat) (e : Int) : Bool := q * pow2 (e - f.maxE) > f.maxQ * pow2 (f.maxE - e)

/-- How a value between two codes is settled: to nearest even, or by comparing a generator word (R108). -/
inductive Rnd
  | nearest
  | stoch (w : Nat)
  deriving DecidableEq, Repr

/-- The integer on the grid 2^ex for the magnitude n / d × 2^e under a rounding (R104, R108). -/
def roundGrid (r : Rnd) (n d : Nat) (e ex : Int) : Nat :=
  let s := scaled n d e ex
  match r with
  | .nearest => rne s.1 s.2
  | .stoch w => let f := (s.1 % s.2) * 2 ^ 32 / s.2; if w < f then s.1 / s.2 + 1 else s.1 / s.2

/-- Conversion of the exact quotient ± n / d × 2^e to an element code (R104, R108): saturation, infinities, signed zero. -/
def Elem.ofRat (b : Elem) (r : Rnd) (neg : Bool) (n d : Nat) (e : Int) : Nat :=
  match b with
  | .int8 =>
    let lim := if neg then 128 else 127
    let s := scaled n d e 0
    let r := if s.1 > 127 * s.2 then Rnd.nearest else r
    let q := min (roundGrid r n d e 0) lim
    if neg then (256 - q) % 256 else q
  | b =>
    let f := b.fp
    let sm := scaled n d e f.maxE
    let r := if sm.1 > f.maxQ * sm.2 then Rnd.nearest else r
    let ex := gridExp (f.mbits + 1) f.emin n d e
    let q := roundGrid r n d e ex
    if n = 0 then f.encode neg 0 f.emin
    else if f.above q ex then (if f.ovInf then f.infCode neg else f.maxCode neg)
    else f.encode neg q ex

/-- Conversion of a value to an element code (R104). -/
def Elem.ofNum (b : Elem) (r : Rnd) (x : Num) : Nat :=
  match x with
  | .nan => b.nanCode
  | .inf neg =>
    match b with
    | .int8 => if neg then 128 else 127
    | .e5m2 => b.fp.infCode neg
    | b => if b.fp.ovInf then b.fp.infCode neg else b.fp.maxCode neg
  | .fin neg m e => b.ofRat r neg m 1 e

/-- The value of an FP32 word. -/
def f32 (w : Word) : Num := Elem.fp32.value w.toNat

/-- Rounding to FP32, to nearest even (R97, R104). -/
def toF32 (x : Num) : Word := BitVec.ofNat 32 (Elem.fp32.ofNum .nearest x)

/-- Exact sum, IEEE 754 rules for signs, infinities and NaN. -/
def Num.add : Num → Num → Num
  | .nan, _ => .nan
  | _, .nan => .nan
  | .inf a, .inf b => if a = b then .inf a else .nan
  | .inf a, _ => .inf a
  | _, .inf b => .inf b
  | .fin na ma ea, .fin nb mb eb =>
    let e := min ea eb
    let a : Int := (ma * pow2 (ea - e) : Nat)
    let b : Int := (mb * pow2 (eb - e) : Nat)
    let t := (if na then -a else a) + (if nb then -b else b)
    if t = 0 then .fin (na && nb) 0 e else .fin (t < 0) t.natAbs e

/-- Exact product. -/
def Num.mul : Num → Num → Num
  | .nan, _ => .nan
  | _, .nan => .nan
  | .inf a, .inf b => .inf (a != b)
  | .inf a, .fin nb mb _ => if mb = 0 then .nan else .inf (a != nb)
  | .fin na ma _, .inf b => if ma = 0 then .nan else .inf (na != b)
  | .fin na ma ea, .fin nb mb eb => .fin (na != nb) (ma * mb) (ea + eb)

def Num.neg : Num → Num
  | .nan => .nan
  | .inf n => .inf (!n)
  | .fin n m e => .fin (!n) m e

def Num.abs : Num → Num
  | .nan => .nan
  | .inf _ => .inf false
  | .fin _ m e => .fin false m e

/-- Order of the vector engine's MAX and MIN: −0 below +0; operands are not NaN (R66). -/
def Num.lt : Num → Num → Bool
  | .inf a, .inf b => a && !b
  | .inf a, _ => a
  | _, .inf b => !b
  | .fin na ma ea, .fin nb mb eb =>
    let e := min ea eb
    let a : Int := (ma * pow2 (ea - e) : Nat)
    let b : Int := (mb * pow2 (eb - e) : Nat)
    let x := if na then -a else a
    let y := if nb then -b else b
    x < y || (x == 0 && y == 0 && na && !nb)
  | _, _ => false

/-- MAX of R66: canonical NaN when either operand is NaN. -/
def Num.max (a b : Num) : Num := if a = .nan ∨ b = .nan then .nan else if a.lt b then b else a

/-- MIN of R66. -/
def Num.min (a b : Num) : Num := if a = .nan ∨ b = .nan then .nan else if b.lt a then b else a

/-- FP32 sum, rounded to nearest even. -/
def addF (a b : Word) : Word := toF32 ((f32 a).add (f32 b))

/-- FP32 product, rounded to nearest even. -/
def mulF (a b : Word) : Word := toF32 ((f32 a).mul (f32 b))

/-- FP32 difference, rounded to nearest even. -/
def subF (a b : Word) : Word := toF32 ((f32 a).add (f32 b).neg)

/-- FP32 reciprocal, correctly rounded (R66): ±0 gives ±∞ and ±∞ gives ±0 by the rules of IEEE 754. -/
def rcpF (a : Word) : Word :=
  match f32 a with
  | .nan => toF32 .nan
  | .inf n => toF32 (.fin n 0 0)
  | .fin n m e => if m = 0 then toF32 (.inf n) else BitVec.ofNat 32 (Elem.fp32.ofRat .nearest n 1 m (-e))

/-- MAX of two FP32 words. -/
def maxF (a b : Word) : Word := toF32 ((f32 a).max (f32 b))

/-- Canonical tree of R110: one level adds the pairs (2j, 2j + 1); an unpaired last entry passes up. -/
def treeLevel : List Word → List Word
  | a :: b :: r => addF a b :: treeLevel r
  | r => r

/-- The canonical tree by levels; `fuel` bounds the number of levels. -/
def treeSum : Nat → List Word → Word
  | 0, l => l.headD 0
  | fuel + 1, l =>
    match l with
    | [] => 0
    | [x] => x
    | l => treeSum fuel (treeLevel l)

/-- Canonical tree over n inputs (R110). -/
def canonTree (l : List Word) : Word := treeSum (l.length + 1) l

/-- Lane l of RSUM (R67): x[l], then x[l + 256], x[l + 512], … added in ascending index; −0 where it receives none. -/
def rsumLane (xs : List Word) (l : Nat) : Word :=
  match (List.range ((xs.length + 255 - l) / 256)).map (fun k => xs.getD (l + 256 * k) 0) with
  | [] => 0x80000000
  | a :: r => r.foldl addF a

/-- RSUM of R67. -/
def rsum (xs : List Word) : Word := canonTree ((List.range 256).map (rsumLane xs))

/-- RMAX of R66. -/
def rmax (xs : List Word) : Word :=
  match xs with
  | [] => 0
  | a :: r => r.foldl maxF (toF32 (f32 a))

def rotl32 (x : Word) (k : Nat) : Word := x.rotateLeft k

/-- One round of the keyed generator (R117). -/
def genRound (r : Nat) (x : Word × Word × Word × Word) : Word × Word × Word × Word :=
  let (x0, x1, x2, x3) := x
  let ra := if r % 2 = 0 then 16 else 8
  let rb := if r % 2 = 0 then 12 else 7
  let x0 := x0 + x1
  let x3 := rotl32 (x3 ^^^ x0) ra
  let x2 := x2 + x3
  let x1 := rotl32 (x1 ^^^ x2) rb
  (x0, x1, x2, x3)

/-- The keyed generator gen(k, c) of R117: four words. -/
def gen (k c : W64) : Word × Word × Word × Word :=
  (List.range 10).foldl (fun x r => genRound r x)
    (c.setWidth 32, (c >>> 32).setWidth 32, k.setWidth 32 ^^^ 0x9E3779B9#32, (k >>> 32).setWidth 32 ^^^ 0xBB67AE85#32)

/-- Word `i` of a generator call. -/
def genWord (k c : W64) (i : Nat) : Word :=
  let (a, b, d, e) := gen k c
  if i = 0 then a else if i = 1 then b else if i = 2 then d else e

/-- The generator word that settles a stochastic rounding at an element index (R108). -/
def stochWord (plan : Word) (index : Nat) : Nat :=
  (genWord (0x5352000000000000#64 ||| plan.setWidth 64) (BitVec.ofNat 64 (index / 4)) (index % 4)).toNat

/-- Packed element `i` of width `w` bits of a byte string that starts at `base` (R58). -/
def packedAt (rd : Nat → Byte) (base w i : Nat) : Nat :=
  let bit := i * w
  leNat ((List.range ((w + bit % 8 + 7) / 8)).map (fun k => rd (base + bit / 8 + k))) / 2 ^ (bit % 8) % 2 ^ w

/-- Packing of element codes, least significant bit first, into whole bytes (R58). -/
def pack (w : Nat) (codes : List Nat) : List Byte :=
  leBytes ((codes.length * w + 7) / 8) (codes.foldr (fun c acc => c % 2 ^ w + 2 ^ w * acc) 0)

/-- The value of an element under its block's scale byte and trim code (R98, R99). -/
def scaledValue (fmt code scale trim : Nat) : Num :=
  if scale = 0xFF then .nan
  else match (elemOf fmt).value code with
    | .fin n m e => if hasTrim fmt then .fin n (m * (4 + trim)) (e - 2 + ((scale : Int) - 127)) else .fin n m (e + ((scale : Int) - 127))
    | v => v

/-- Element `i` of a vector of `n` elements at `base` (R58, R59). -/
def vecElem (rd : Nat → Byte) (fmt n base i : Nat) : Num :=
  let eb := (n * fmtWidth fmt + 7) / 8
  let scale := if hasScale fmt then (rd (base + eb + i / 32)).toNat else 127
  let trim := if hasTrim fmt then (rd (base + eb + n / 32 + i / 32)).toNat / 4 ^ (i % 32 / 8) % 4 else 0
  scaledValue fmt (packedAt rd base (fmtWidth fmt) i) scale trim

/-- Values of a whole vector. -/
def vecRead (rd : Nat → Byte) (fmt n base : Nat) : List Num := (List.range n).map (vecElem rd fmt n base)

/-- The larger of two magnitudes (m, e). -/
def magMax (a b : Nat × Int) : Nat × Int :=
  let e := min a.2 b.2
  if a.1 * pow2 (a.2 - e) < b.1 * pow2 (b.2 - e) then b else a

/-- Magnitude of a finite value. -/
def Num.mag : Num → Nat × Int
  | .fin _ m e => (m, e)
  | _ => (0, 0)

/-- emax of R105. -/
def Elem.emax : Elem → Int
  | .e2m1 | .e2m3 => 2
  | .e3m2 => 4
  | .e4m3 => 8
  | _ => 15

/-- One converted block: scale byte, trim byte, element codes. -/
structure Block where
  scale : Nat
  trims : Nat
  codes : List Nat
  deriving DecidableEq, Repr

/-- Trim of a sub-block (R106): the smallest t with amax_j ≤ vmax × (4 + t) / 4 × 2^p. -/
def trimOf (b : Elem) (p : Int) (xs : List Num) : Nat :=
  let a := xs.foldl (fun acc x => magMax acc x.mag) (0, 0)
  let ok := fun (t : Nat) =>
    let lim : Nat × Int := (b.fp.maxQ * (4 + t), b.fp.maxE - 2 + p)
    magMax lim a = lim
  if ok 0 then 0 else if ok 1 then 1 else if ok 2 then 2 else 3

/-- Conversion of one block of 32 values into an MX or TB format (R105, R106); `rnd i` settles element i. -/
def convBlock (fmt : Nat) (rnd : Nat → Rnd) (xs : List Num) : Block :=
  let b := elemOf fmt
  if xs.any (fun x => match x with | .fin _ _ _ => false | _ => true) then ⟨0xFF, 0, xs.map (fun _ => 0)⟩
  else
    let a := xs.foldl (fun acc x => magMax acc x.mag) (0, 0)
    if a.1 = 0 then ⟨0x7F, 0, xs.map (fun _ => 0)⟩
    else
      let p0 : Int := a.2 + (Nat.log2 a.1 : Int) - b.emax
      let p := max (-127) (min 127 p0)
      let trims := if hasTrim fmt then (List.range 4).map (fun j => trimOf b p ((xs.drop (8 * j)).take 8)) else [0, 0, 0, 0]
      let code := fun (i : Nat) (x : Num) =>
        match x with
        | .fin n m e =>
          if hasTrim fmt then b.ofRat (rnd i) n (m * 4) (4 + trims.getD (i / 8) 0) (e - p) else b.ofRat (rnd i) n m 1 (e - p)
        | _ => 0
      ⟨(p + 127).toNat, trims.foldr (fun t acc => t + 4 * acc) 0, xs.mapIdx code⟩

/-- The blocks of 32 of a list. -/
def chunks32 {α : Type} (xs : List α) : List (List α) :=
  (List.range (xs.length / 32)).map (fun b => (xs.drop (32 * b)).take 32)

/-- Conversion of a whole vector to the bytes of a format (R104 to R106, R59). -/
def convVec (fmt : Nat) (rnd : Nat → Rnd) (xs : List Num) : List Byte :=
  if hasScale fmt then
    let bs := (chunks32 xs).mapIdx (fun k b => convBlock fmt (fun i => rnd (32 * k + i)) b)
    pack (fmtWidth fmt) (bs.flatMap (·.codes)) ++ bs.map (fun b => BitVec.ofNat 8 b.scale)
      ++ (if hasTrim fmt then bs.map (fun b => BitVec.ofNat 8 b.trims) else [])
  else pack (fmtWidth fmt) (xs.mapIdx (fun i x => (elemOf fmt).ofNum (rnd i) x))

/-- Whether conversion between two codes needs a whole number of elements and blocks that a length meets (R71): the element
count, or none. -/
def convCount (fi fo len : Nat) : Option Nat :=
  if hasScale fi then
    let bb := 4 * fmtWidth fi + 1 + (if hasTrim fi then 1 else 0)
    if len % bb = 0 then some (len / bb * 32) else none
  else
    let w := fmtWidth fi
    if len * 8 % w = 0 ∧ (hasScale fo = true → len * 8 / w % 32 = 0) then some (len * 8 / w) else none

/-- Integer image of an element of 8 bits or fewer, trim included (R100): its value divided by the Integer LSB. -/
def intImage (fmt code trim : Nat) : Int :=
  match (elemOf fmt).value code with
  | .fin n m e =>
    let base : Int := (m * pow2 (e - (if elemOf fmt = .int8 then 0 else (elemOf fmt).fp.emin)) : Nat)
    let v := if hasTrim fmt then base * (4 + trim) else base
    if n then -v else v
  | _ => 0

/-- Exponent of the Integer LSB of a format (R96). -/
def intLsb (fmt : Nat) : Int :=
  if elemOf fmt = .int8 then 0 else if hasTrim fmt then (elemOf fmt).fp.emin - 2 else (elemOf fmt).fp.emin

/-- One operand element of a block product: code, scale byte, trim code. -/
structure Opnd where
  code : Nat
  scale : Nat
  trim : Nat
  deriving DecidableEq, Repr

/-- Exact block sum of R100 to R102 as a value: NaN and infinities first, then the integer sum times 2^e. -/
def blockSum (fa fb : Nat) (as bs : List Opnd) : Num :=
  let va := as.map (fun o => scaledValue fa o.code o.scale o.trim)
  let vb := bs.map (fun o => scaledValue fb o.code o.scale o.trim)
  let prods := List.zipWith Num.mul va vb
  if va.any (· == .nan) ∨ vb.any (· == .nan) ∨ prods.any (· == .nan) then .nan
  else if prods.any (· == .inf true) ∧ prods.any (· == .inf false) then .nan
  else if prods.any (· == .inf true) then .inf true
  else if prods.any (· == .inf false) then .inf false
  else
    let s := (List.zipWith (fun a b => intImage fa a.code a.trim * intImage fb b.code b.trim) as bs).foldl (· + ·) 0
    let sa := (as.headD ⟨0, 127, 0⟩).scale
    let sb := (bs.headD ⟨0, 127, 0⟩).scale
    .fin (s < 0) s.natAbs (intLsb fa + intLsb fb + ((sa : Int) - 127) + ((sb : Int) - 127))

/-- Block sum of BF16 and FP16 operands (R103): rounded products in the canonical tree. -/
def blockSum16 (f : Nat) (as bs : List Nat) : Word :=
  canonTree (List.zipWith (fun a b => toF32 (((elemOf f).value a).mul ((elemOf f).value b))) as bs)

/-- The accumulator after one block (R100, R103): one rounding. -/
def accBlock (acc : Word) (blk : Num) : Word := toF32 ((f32 acc).add blk)

/-- E(x) of R113. -/
def ewrExp (x : Word) : Nat :=
  let e := x.toNat / 2 ^ 23 % 256
  if e = 255 then 255 else max e 1

/-- The window integer of R113: trunc(|x| / 2^(B − 229)), negated when x is negative. -/
def ewrInt (b : Nat) (x : Word) : Int :=
  match f32 x with
  | .fin n m e =>
    let s := scaled m 1 e ((b : Int) - 229)
    let q : Int := (s.1 / s.2 : Nat)
    if n then -q else q
  | _ => 0

/-- The result element of R113 and R115: the exact sum times 2^(B − 229), rounded once into the output format. -/
def ewrResult (outFmt b : Nat) (sum : Int) : Nat :=
  if b = 255 then (elemOf outFmt).nanCode
  else (elemOf outFmt).ofRat .nearest (sum < 0) sum.natAbs 1 ((b : Int) - 229)

end Sys2Proof.Machine
end

