-- ==== Sys2Proof/Machine/Matrix.lean ====
section
/-!
DEFINITION. Matrix engine instructions (02_cores_and_engines.md R60 to R62) and what their operations compute on a tile
(R63, R100 to R103).
-/
namespace Sys2Proof.Machine

/-- Bytes of a panel of W columns by K (R61). -/
def panelBytes (fmt k w : Nat) : Nat :=
  k * w * fmtWidth fmt / 8 + (if hasScale fmt then k / 32 * w else 0) + (if hasTrim fmt then k / 32 * w else 0)

/-- A scratchpad area that must start 64-byte aligned and end at or below 0x60_0000 (R61, R65). -/
def areaBad (off n : Nat) : Bool := off % 64 != 0 || decide (scratchBytes < off + n)

/-- K of a MAC (R61). -/
def macK (sk : W64) : Nat := sk.toNat % 2 ^ 32

/-- FORMAT_INVALID of MAC and MAC_ZERO (R61, R62). -/
def macFormatBad (fa fb : Nat) (sk : W64) : Bool :=
  let k := macK sk
  fa == 15 || fb == 15 || k == 0 || k % 32 != 0 || decide (1048576 < k) || decide (2 ^ 32 ≤ sk.toNat) ||
  ((fa == 12) != (fb == 12)) || ((fa == 13 || fa == 14 || fb == 13 || fb == 14) && fa != fb)

/-- The operation an MMA instruction puts in its queue. -/
def mmaOp (c : Core) (w : W64) : EngOp :=
  ⟨c.pc, w, c.a (fld w 49 46), c.a (fld w 45 42), 0, 0, c.s (fld w 41 37), 0⟩

/-- MAC and MAC_ZERO: every check made at issue, in the order of R42. -/
def macCheck (c : Core) (w : W64) : Option Nat :=
  let fa := fld w 36 33
  let fb := fld w 32 29
  let op := mmaOp c w
  firstFault [(fld w 21 0 != 0, 2), (fmtUndeclared c.features fa || fmtUndeclared c.features fb, 0x13),
    (macFormatBad fa fb op.x, 7),
    (areaBad op.a.toNat (panelBytes fa (macK op.x) 128) || areaBad op.b.toNat (panelBytes fb (macK op.x) 64), 5)]

/-- DRAIN and LOAD: fields the operation does not use are reserved; the tile image is 32 KiB. -/
def imageCheck (c : Core) (w : W64) : Option Nat :=
  firstFault [(fld w 45 29 != 0 || fld w 21 0 != 0, 2), (areaBad (mmaOp c w).a.toNat 32768, 5)]

/-- ZERO uses ENG, TILE, SIG and SEM only. -/
def zeroCheck (_c : Core) (w : W64) : Option Nat := firstFault [(fld w 49 29 != 0 || fld w 21 0 != 0, 2)]

/-- An MMA instruction of a given OP: its checks, then its engine's queue. -/
def issueMMA (o : Nat) (check : Core → W64 → Option Nat) (lc : Fin 192) (w : W64) (s : State) : Out :=
  issue s lc w (opcodeOf w == 0x40 && fld w 53 51 == o) fun c =>
    match check c w with
    | some n => s.coreFault lc n c.pc w
    | none => s.enqueue lc c (fld w 55 54) (mmaOp c w)

/-- MAC (R60): tile += A × B. -/
def execMac (lc : Fin 192) (w : W64) (s : State) : Out := issueMMA 0 macCheck lc w s

/-- MAC_ZERO (R60): tile = 0, then tile += A × B. -/
def execMacZero (lc : Fin 192) (w : W64) (s : State) : Out := issueMMA 1 macCheck lc w s

/-- DRAIN (R60): write the tile to scratchpad. -/
def execMmaDrain (lc : Fin 192) (w : W64) (s : State) : Out := issueMMA 2 imageCheck lc w s

/-- LOAD (R60): read the tile from scratchpad. -/
def execMmaLoad (lc : Fin 192) (w : W64) (s : State) : Out := issueMMA 3 imageCheck lc w s

/-- ZERO (R60): tile = 0. -/
def execMmaZero (lc : Fin 192) (w : W64) (s : State) : Out := issueMMA 4 zeroCheck lc w s

/-- Operand element (k, i) of a panel at `base` (R61). -/
def panelElem (rd : Nat → Byte) (fmt base kk w k i : Nat) : Opnd :=
  let eb := kk * w * fmtWidth fmt / 8
  let sc := kk / 32 * w
  let code := packedAt rd base (fmtWidth fmt) (k * w + i)
  let scale := if hasScale fmt then (rd (base + eb + k / 32 * w + i)).toNat else 127
  let trim := if hasTrim fmt then (rd (base + eb + sc + k / 32 * w + i)).toNat / 4 ^ (k % 32 / 8) % 4 else 0
  ⟨code, scale, trim⟩

/-- The sum of block b of tile element (i, j) (R100 to R103). -/
def macBlock (rd : Nat → Byte) (fa fb pa pb kk i j b : Nat) : Num :=
  let ka := (List.range 32).map (fun k => panelElem rd fa pa kk 128 (32 * b + k) i)
  let kb := (List.range 32).map (fun k => panelElem rd fb pb kk 64 (32 * b + k) j)
  if fa = 13 ∨ fa = 14 then f32 (blockSum16 fa (ka.map (·.code)) (kb.map (·.code))) else blockSum fa fb ka kb

/-- Tile element (i, j) after a MAC: the blocks added in ascending K, one rounding each (R63, R100). -/
def macElem (rd : Nat → Byte) (fa fb pa pb kk : Nat) (acc : Word) (i j : Nat) : Word :=
  (List.range (kk / 32)).foldl (fun a b => accBlock a (macBlock rd fa fb pa pb kk i j b)) acc

/-- Rewrite every element of a tile. -/
def State.mapTile (s : State) (lc e t : Nat) (f : Nat → Word → Word) : State :=
  (List.range 8192).foldl (fun s i => s.setTile lc e t i (f i (s.tile lc e t i))) s

/-- The bytes of a tile image, row-major FP32 (R60); the drain is a conversion and writes a NaN in canonical form (R97, R107). -/
def State.tileBytes (s : State) (lc e t : Nat) : List Byte :=
  (List.range 8192).flatMap (fun i => leBytes 4 (toF32 (f32 (s.tile lc e t i))).toNat)

/-- The effect of a completed matrix operation on its tile or on scratchpad (R60, R63). -/
def State.mmaEffect (s : State) (lc e : Nat) (op : EngOp) : State :=
  let w := op.word
  let t := fld w 50 50
  let rd := fun off => s.byteAt (scratchAddr lc off)
  let fa := fld w 36 33
  let fb := fld w 32 29
  let mac := fun acc i => macElem rd fa fb op.a.toNat op.b.toNat (macK op.x) acc (i / 64) (i % 64)
  match fld w 53 51 with
  | 0 => s.mapTile lc e t (fun i acc => mac acc i)
  | 1 => s.mapTile lc e t (fun i _ => mac 0 i)
  | 2 => s.store (scratchAddr lc op.a.toNat) (s.tileBytes lc e t)
  | 3 => s.mapTile lc e t (fun i _ => BitVec.ofNat 32 (s.num (scratchAddr lc (op.a.toNat + 4 * i)) 4))
  | _ => s.mapTile lc e t (fun _ _ => 0)

/-- Scratchpad areas a matrix operation reads, as (offset, bytes) (R60, R61). -/
def mmaReads (op : EngOp) : List (Nat × Nat) :=
  let w := op.word
  let k := macK op.x
  match fld w 53 51 with
  | 0 | 1 => [(op.a.toNat, panelBytes (fld w 36 33) k 128), (op.b.toNat, panelBytes (fld w 32 29) k 64)]
  | 3 => [(op.a.toNat, 32768)]
  | _ => []

/-- Whether an operation reads poisoned operands (R41, R215). -/
def State.mmaPoison (s : State) (lc : Nat) (op : EngOp) : Bool :=
  (mmaReads op).any (fun r => s.anyBad (scratchAddr lc r.1) r.2)

/-- Whether a queued operation may start beside those running on its engine (R44): nothing earlier on its own tile is
unfinished, but for MACs directly ahead of a MAC. -/
def mmaMayStart (running : List RunOp) (op : EngOp) : Bool :=
  let isMac := fun (w : W64) => fld w 53 51 ≤ 1
  running.all (fun r => fld r.op.word 50 50 != fld op.word 50 50 || (isMac r.op.word && isMac op.word))

end Sys2Proof.Machine
end

