-- ==== Sys2Proof/Machine/Transc.lean ====
section
/-!
DEFINITION. The transcendental functions of the vector engine (03_numerics.md R120): the special results, an enclosure of the exact
result by integer arithmetic, and the device's own result, which the stated error bounds hold to that enclosure.
-/
namespace Sys2Proof.Machine

/-- An interval `lo` × 2^e to `hi` × 2^e that holds an exact real result. -/
structure Encl where
  lo : Int
  hi : Int
  e : Int
  deriving DecidableEq, Repr

/-- Fraction bits of the fixed-point arithmetic below. -/
def fixBits : Nat := 400

/-- The sum of `n` terms of a series: `term` is the k-th, and `next k` makes the one after it. -/
def fixSeries (next : Nat → Int → Int) (part : Nat → Int → Int) : Nat → Nat → Int → Int → Int
  | 0, _, _, acc => acc
  | n + 1, k, term, acc => fixSeries next part n (k + 1) (next k term) (acc + part k term)

/-- 2 atanh(p / q) in fixed point: the sum of 2 (p / q)^(2k + 1) / (2k + 1). -/
def fixAtanh2 (terms : Nat) (p q : Int) : Int :=
  fixSeries (fun _ t => t * p * p / (q * q)) (fun k t => t / (2 * k + 1)) terms 0 (2 * 2 ^ fixBits * p / q) 0

/-- atan(1 / q) in fixed point. -/
def fixAtan (terms : Nat) (q : Int) : Int := fixSeries (fun _ t => -t / (q * q)) (fun k t => t / (2 * k + 1)) terms 0 (2 ^ fixBits / q) 0

/-- ln 2 = 2 atanh(1 / 3) in fixed point. -/
def fixLn2 : Int := fixAtanh2 130 1 3

/-- π = 16 atan(1 / 5) − 4 atan(1 / 239) in fixed point. -/
def fixPi : Int := 16 * fixAtan 90 5 - 4 * fixAtan 30 239

/-- e^t of a fixed-point t from 0 to 1. -/
def fixExp (t : Int) : Int := fixSeries (fun k u => u * t / (2 ^ fixBits * (k + 1))) (fun _ u => u) 80 0 (2 ^ fixBits) 0

/-- sin t and cos t of a fixed-point t from −π to π, by the series from its first term. -/
def fixSine (first : Int) (k0 : Nat) (t : Int) : Int :=
  fixSeries (fun k u => -(u * t / 2 ^ fixBits) * t / (2 ^ fixBits * ((2 * k + k0 + 1) * (2 * k + k0 + 2)))) (fun _ u => u) 60 0 first 0

/-- The interval of half-width 2^err about a fixed-point value of exponent `e`. -/
def enclose (v e : Int) (err : Nat) : Encl := ⟨v - 2 ^ err, v + 2 ^ err, e⟩

/-- 2^x for x = ± m × 2^e: the integer part is the exponent, the rest e^(f ln 2). -/
def exactExp2 (neg : Bool) (m : Nat) (e : Int) : Encl :=
  let s := scaled m 1 e (-fixBits)
  let x : Int := if neg then -(s.1 / s.2 : Nat) else (s.1 / s.2 : Nat)
  let k := x / 2 ^ fixBits
  enclose (fixExp (x % 2 ^ fixBits * fixLn2 / 2 ^ fixBits)) (k - fixBits) 200

/-- log2 x for x = m × 2^e, m not 0: with x = y × 2^k and y from 1 to 2, k + ln y / ln 2. -/
def exactLog2 (m : Nat) (e : Int) : Encl :=
  let n := Nat.log2 m
  let k : Int := e + n
  if m = 2 ^ n then ⟨k, k, 0⟩
  else enclose (k * 2 ^ fixBits + fixAtanh2 130 ((m : Int) - 2 ^ n) (m + 2 ^ n) * 2 ^ fixBits / fixLn2) (-fixBits) 200

/-- 1 / √x for x = m × 2^e, m not 0. -/
def exactRsqrt (m : Nat) (e : Int) : Encl :=
  let odd := e % 2 ≠ 0
  let m2 := if odd then 2 * m else m
  let e2 : Int := (if odd then e - 1 else e) / 2
  let r := rootBelow 2 (2 ^ 400 / m2) 201 0
  ⟨r, r + 1, -200 - e2⟩

/-- The angle x − 2πn of x = ± m × 2^e that lies from −π to π, in fixed point. -/
def reduceAngle (neg : Bool) (m : Nat) (e : Int) : Int :=
  let s := scaled m 1 e (-fixBits)
  let x : Int := if neg then -(s.1 / s.2 : Nat) else (s.1 / s.2 : Nat)
  (x + fixPi) % (2 * fixPi) - fixPi

/-- sin x. -/
def exactSin (neg : Bool) (m : Nat) (e : Int) : Encl :=
  let t := reduceAngle neg m e
  enclose (fixSine t 1 t) (-fixBits) 300

/-- cos x. -/
def exactCos (neg : Bool) (m : Nat) (e : Int) : Encl :=
  enclose (fixSine (2 ^ fixBits) 0 (reduceAngle neg m e)) (-fixBits) 300

/-- An interval's middle, rounded to FP32. -/
def Encl.nearest (i : Encl) : Word := toF32 (.fin (decide (i.lo + i.hi < 0)) (i.lo + i.hi).natAbs (i.e - 1))

/-- Exponent of the unit in the last place of an FP32 word (R120). -/
def ulpExp (w : Word) : Int := (max (w.toNat / 2 ^ 23 % 256) 1 : Nat) - 150

/-- Whether an FP32 word lies within 2^b of a point of the interval. -/
def Encl.within (i : Encl) (w : Word) (b : Int) : Bool :=
  match f32 w with
  | .fin n m e =>
    let g := min (min i.e e) b
    let v : Int := if n then -(m * pow2 (e - g) : Nat) else (m * pow2 (e - g) : Nat)
    decide (v - pow2 (b - g) ≤ i.hi * pow2 (i.e - g)) && decide (i.lo * pow2 (i.e - g) ≤ v + pow2 (b - g))
  | _ => false

/-- The device's own result where it keeps the error bound 2^b, else the correctly rounded one (log entry 5). -/
def Encl.take (i : Encl) (own : Word) (b : Int) : Word := if i.within own b then own else i.nearest

/-- The bound of LOG2 (R120): 2^−23 for x from 0.5 to 2, else 1 ulp. -/
def logBound (i : Encl) (m : Nat) (e : Int) : Int :=
  let v : Num := .fin false m e
  if v.lt (.fin false 1 (-1)) ∨ (Num.fin false 2 0).lt v then ulpExp i.nearest else -23

/-- The bound of SIN and COS (R120): 2^−22 up to 2^16, 2^−20 above. -/
def angleBound (m : Nat) (e : Int) : Int := if (Num.fin false 1 16).lt (.fin false m e) then -20 else -22

/-- The transcendental functions of R120: the special results the spec states, else the device's own result within its bound. -/
def transcF (fn : Nat) (x : Word) : Word :=
  let own := Config.transc fn x
  match f32 x with
  | .nan => toF32 .nan
  | .inf n =>
    match fn with
    | 0x10 => if n then 0 else toF32 (.inf false)
    | 0x11 => if n then toF32 .nan else toF32 (.inf false)
    | 0x12 => if n then toF32 .nan else 0
    | _ => toF32 .nan
  | .fin n m e =>
    match fn with
    | 0x10 =>
      if ¬ (Num.fin n m e).lt (.fin false 128 0) then toF32 (.inf false)
      else if ¬ (Num.fin true 150 0).lt (.fin n m e) then 0
      else let i := exactExp2 n m e; i.take own (ulpExp i.nearest)
    | 0x11 =>
      if m = 0 then toF32 (.inf true) else if n then toF32 .nan
      else let i := exactLog2 m e; i.take own (logBound i m e)
    | 0x12 =>
      if m = 0 then toF32 (.inf n) else if n then toF32 .nan
      else let i := exactRsqrt m e; i.take own (ulpExp i.nearest)
    | 0x13 => if m = 0 then toF32 (.fin n 0 0) else (exactSin n m e).take own (angleBound m e)
    | _ => (exactCos n m e).take own (angleBound m e)

/-- EXP2 of R120. -/
def exp2F (x : Word) : Word := transcF 0x10 x

end Sys2Proof.Machine
end

