-- ==== Sys2Proof/Machine/Vector.lean ====
section
/-!
DEFINITION. Vector engine instructions (02_cores_and_engines.md R65 to R67) and the results of their functions (R66, R67,
R104 to R108, R117, R120).
-/
namespace Sys2Proof.Machine

/-- Which operand fields a function uses (R66): x, y, z, the scalar SP, TIN and TOUT. -/
structure VopUse where
  x : Bool
  y : Bool
  z : Bool
  sp : Bool
  tin : Bool
  tout : Bool
  deriving DecidableEq, Repr

def vopUse (fn : Nat) : VopUse :=
  match fn with
  | 0x01 | 0x02 | 0x03 | 0x05 | 0x06 => ⟨true, true, false, false, true, true⟩
  | 0x04 | 0x23 => ⟨true, true, true, false, true, true⟩
  | 0x09 | 0x0A => ⟨true, false, false, true, true, true⟩
  | 0x22 => ⟨true, false, false, false, true, false⟩
  | 0x30 | 0x31 => ⟨false, true, false, true, false, false⟩
  | 0x32 => ⟨true, true, false, false, true, false⟩
  | _ => ⟨true, false, false, false, true, true⟩

/-- The operation a VOP instruction puts in its queue: AD, AX, AY, AZ, SN and SP. -/
def vopOp (c : Core) (w : W64) : EngOp :=
  ⟨c.pc, w, c.a (fld w 49 46), c.a (fld w 45 42), c.a (fld w 41 38), c.a (fld w 37 34), c.s (fld w 33 29), c.s (fld w 11 7)⟩

def vopFn (w : W64) : Nat := fld w 55 50
def vopTin (w : W64) : Nat := fld w 28 25
def vopTout (w : W64) : Nat := fld w 24 21
def vopRnd (w : W64) : Nat := fld w 20 19

/-- Element count N (R65). -/
def vopN (op : EngOp) : Nat := op.x.toNat % 2 ^ 32

/-- Fields that the function does not use are reserved; RND 0b10 and 0b11 are reserved codes (R49, R65, R66). -/
def vopReserved (w : W64) : Bool :=
  let u := vopUse (vopFn w)
  fld w 6 0 != 0 || decide (2 ≤ vopRnd w) || (!u.x && fld w 45 42 != 0) || (!u.y && fld w 41 38 != 0) ||
  (!u.z && fld w 37 34 != 0) || (!u.sp && vopRnd w != 1 && fld w 11 7 != 0) || (!u.tin && vopTin w != 0) ||
  (!u.tout && vopTout w != 0)

/-- FEATURE_UNDECLARED of a VOP (R81). -/
def vopFeature (c : Core) (w : W64) : Bool :=
  let u := vopUse (vopFn w)
  (u.tin && fmtUndeclared c.features (vopTin w)) || (u.tout && fmtUndeclared c.features (vopTout w)) ||
  (vopRnd w == 1 && !c.features.getLsbD 12)

/-- FORMAT_INVALID of a VOP (R59, R65, R66). -/
def vopFormatBad (w : W64) (n : Nat) : Bool :=
  let fn := vopFn w
  let u := vopUse fn
  let reduces := fn == 0x20 || fn == 0x21
  n == 0 || decide (16777216 < n) || (u.tin && hasScale (vopTin w) && n % 32 != 0) ||
  (u.tout && hasScale (vopTout w) && (reduces || n % 32 != 0)) || ((fn == 0x30 || fn == 0x31) && n % 4 != 0)

/-- Bytes of the result of a function (R66). -/
def vopOutBytes (w : W64) (n : Nat) : Nat :=
  let fn := vopFn w
  if fn = 0x20 ∨ fn = 0x21 then (fmtWidth (vopTout w) + 7) / 8
  else if fn = 0x22 then 8
  else if fn = 0x30 ∨ fn = 0x31 then 4 * n
  else if fn = 0x32 then 4
  else vecBytes (vopTout w) n

/-- Bytes of operand y or z of a function (R66): a vector, one element or block, the counter base, or one FP32. -/
def vopSideBytes (w : W64) (n : Nat) : Nat :=
  let fn := vopFn w
  if fn = 0x23 then (if hasScale (vopTin w) then vecBytes (vopTin w) 32 else (fmtWidth (vopTin w) + 7) / 8)
  else if fn = 0x30 ∨ fn = 0x31 then 8
  else if fn = 0x32 then 4
  else vecBytes (vopTin w) n

/-- The checks of a VOP at issue, in the order of R42. -/
def vopCheck (c : Core) (w : W64) : Option Nat :=
  let op := vopOp c w
  let n := vopN op
  let u := vopUse (vopFn w)
  firstFault [(vopReserved w, 2), (vopFeature c w, 0x13), (vopFormatBad w n, 7),
    (areaBad op.a.toNat (vopOutBytes w n) || (u.x && areaBad op.b.toNat (vecBytes (vopTin w) n)) ||
      (u.y && areaBad op.c.toNat (vopSideBytes w n)) || (u.z && areaBad op.d.toNat (vopSideBytes w n)), 5)]

/-- A VOP instruction of a given FN: its checks, then the vector engine's queue (queue 4). -/
def issueVOP (fn : Nat) (lc : Fin 192) (w : W64) (s : State) : Out :=
  issue s lc w (opcodeOf w == 0x48 && vopFn w == fn) fun c =>
    match vopCheck c w with
    | some n => s.coreFault lc n c.pc w
    | none => s.enqueue lc c 4 (vopOp c w)

/-- VOP COPY, FN 0x00 (R66). -/
def execVopCopy (lc : Fin 192) (w : W64) (s : State) : Out := issueVOP 0x00 lc w s

/-- VOP ADD, FN 0x01 (R66). -/
def execVopAdd (lc : Fin 192) (w : W64) (s : State) : Out := issueVOP 0x01 lc w s

/-- VOP SUB, FN 0x02 (R66). -/
def execVopSub (lc : Fin 192) (w : W64) (s : State) : Out := issueVOP 0x02 lc w s

/-- VOP MUL, FN 0x03 (R66). -/
def execVopMul (lc : Fin 192) (w : W64) (s : State) : Out := issueVOP 0x03 lc w s

/-- VOP FMA, FN 0x04 (R66). -/
def execVopFma (lc : Fin 192) (w : W64) (s : State) : Out := issueVOP 0x04 lc w s

/-- VOP MAX, FN 0x05 (R66). -/
def execVopMax (lc : Fin 192) (w : W64) (s : State) : Out := issueVOP 0x05 lc w s

/-- VOP MIN, FN 0x06 (R66). -/
def execVopMin (lc : Fin 192) (w : W64) (s : State) : Out := issueVOP 0x06 lc w s

/-- VOP ABS, FN 0x07 (R66). -/
def execVopAbs (lc : Fin 192) (w : W64) (s : State) : Out := issueVOP 0x07 lc w s

/-- VOP NEG, FN 0x08 (R66). -/
def execVopNeg (lc : Fin 192) (w : W64) (s : State) : Out := issueVOP 0x08 lc w s

/-- VOP SCALE, FN 0x09 (R66). -/
def execVopScale (lc : Fin 192) (w : W64) (s : State) : Out := issueVOP 0x09 lc w s

/-- VOP ADDS, FN 0x0A (R66). -/
def execVopAdds (lc : Fin 192) (w : W64) (s : State) : Out := issueVOP 0x0A lc w s

/-- VOP EXP2, FN 0x10 (R66). -/
def execVopExp2 (lc : Fin 192) (w : W64) (s : State) : Out := issueVOP 0x10 lc w s

/-- VOP LOG2, FN 0x11 (R66). -/
def execVopLog2 (lc : Fin 192) (w : W64) (s : State) : Out := issueVOP 0x11 lc w s

/-- VOP RSQRT, FN 0x12 (R66). -/
def execVopRsqrt (lc : Fin 192) (w : W64) (s : State) : Out := issueVOP 0x12 lc w s

/-- VOP SIN, FN 0x13 (R66). -/
def execVopSin (lc : Fin 192) (w : W64) (s : State) : Out := issueVOP 0x13 lc w s

/-- VOP COS, FN 0x14 (R66). -/
def execVopCos (lc : Fin 192) (w : W64) (s : State) : Out := issueVOP 0x14 lc w s

/-- VOP RCP, FN 0x15 (R66). -/
def execVopRcp (lc : Fin 192) (w : W64) (s : State) : Out := issueVOP 0x15 lc w s

/-- VOP RSUM, FN 0x20 (R66). -/
def execVopRsum (lc : Fin 192) (w : W64) (s : State) : Out := issueVOP 0x20 lc w s

/-- VOP RMAX, FN 0x21 (R66). -/
def execVopRmax (lc : Fin 192) (w : W64) (s : State) : Out := issueVOP 0x21 lc w s

/-- VOP SMXSTEP, FN 0x22 (R66). -/
def execVopSmxstep (lc : Fin 192) (w : W64) (s : State) : Out := issueVOP 0x22 lc w s

/-- VOP RESCALE, FN 0x23 (R66). -/
def execVopRescale (lc : Fin 192) (w : W64) (s : State) : Out := issueVOP 0x23 lc w s

/-- VOP RNG, FN 0x30 (R66). -/
def execVopRng (lc : Fin 192) (w : W64) (s : State) : Out := issueVOP 0x30 lc w s

/-- VOP UNIF, FN 0x31 (R66). -/
def execVopUnif (lc : Fin 192) (w : W64) (s : State) : Out := issueVOP 0x31 lc w s

/-- VOP PICK, FN 0x32 (R66). -/
def execVopPick (lc : Fin 192) (w : W64) (s : State) : Out := issueVOP 0x32 lc w s

/-- RESCALE of R66 on one element, with k = y[0] − z[0]. -/
def rescaleF (x k : Word) : Word :=
  match f32 k with
  | .fin n m e =>
    let s := scaled m 1 e 0
    if s.1 % s.2 = 0 then
      let i : Int := if n then -(s.1 / s.2 : Nat) else (s.1 / s.2 : Nat)
      match f32 x with
      | .fin nx mx ex => toF32 (.fin nx mx (ex + i))
      | v => toF32 v
    else mulF x (exp2F k)
  | _ => mulF x (exp2F k)

/-- One element of an elementwise function, in FP32 (R66, R67). -/
def vopElem (fn : Nat) (x y z c k : Word) : Word :=
  match fn with
  | 0x00 => x
  | 0x01 => addF x y
  | 0x02 => subF x y
  | 0x03 => mulF x y
  | 0x04 => toF32 (((f32 x).mul (f32 y)).add (f32 z))
  | 0x05 => maxF x y
  | 0x06 => toF32 ((f32 x).min (f32 y))
  | 0x07 => toF32 (f32 x).abs
  | 0x08 => toF32 (f32 x).neg
  | 0x09 => mulF x c
  | 0x0A => addF x c
  | 0x15 => rcpF x
  | 0x23 => rescaleF x k
  | fn => transcF fn x

/-- PICK of R67: the smallest i with prefix sum above t = y[0] × p[N − 1], or N − 1. -/
def pickF (xs : List Word) (y : Word) : Nat :=
  let ps := (xs.foldl (fun (acc : Word × List Word) x => let p := addF acc.1 x; (p, acc.2 ++ [p])) (0, [])).2
  let t := f32 (mulF y (ps.getLastD 0))
  (ps.findIdx? (fun p => t != .nan && f32 p != .nan && t.lt (f32 p) && !((f32 p).mag.1 == 0 && t.mag.1 == 0 &&
    (match f32 p, t with | .fin _ _ _, .fin _ _ _ => true | _, _ => false)))).getD (xs.length - 1)

/-- Words of RNG and UNIF: word w of call c goes to d[4c + w] (R66). -/
def rngWords (key base : W64) (n : Nat) : List Word :=
  (List.range n).map (fun i => genWord key (base + BitVec.ofNat 64 (i / 4)) (i % 4))

/-- Rounding of element i under RND (R65, R108). -/
def vopRound (w : W64) (op : EngOp) (i : Nat) : Rnd :=
  if vopRnd w = 1 then
    .stoch (stochWord ((op.y >>> 32).setWidth 32) (op.x.toNat / 2 ^ 32 + i))
  else .nearest

/-- Bytes a vector operation writes, from AD on (R65 to R67). -/
def State.vopBytes (s : State) (lc : Nat) (op : EngOp) : List Byte :=
  let w := op.word
  let fn := vopFn w
  let n := vopN op
  let rd := fun off => s.byteAt (scratchAddr lc off)
  let tin := vopTin w
  let vec := fun (b : BitVec 48) => (vecRead rd tin n b.toNat).map toF32
  let one := fun (b : BitVec 48) => toF32 (vecElem rd tin (if hasScale tin then 32 else 1) b.toNat 0)
  let word := fun (a : Nat) => (BitVec.ofNat 32 (leNat ((List.range 4).map (fun k => rd (a + k)))) : Word)
  let xs := vec op.b
  match fn with
  | 0x20 => pack (fmtWidth (vopTout w)) [(elemOf (vopTout w)).ofNum (vopRound w op 0) (f32 (rsum xs))]
  | 0x21 => pack (fmtWidth (vopTout w)) [(elemOf (vopTout w)).ofNum (vopRound w op 0) (f32 (rmax xs))]
  | 0x22 =>
    let m := word op.a.toNat
    let sv := word (op.a.toNat + 4)
    let m' := maxF m (rmax xs)
    let r := rsum (xs.map (fun x => exp2F (subF x m')))
    leBytes 4 m'.toNat ++ leBytes 4 (addF (mulF sv (exp2F (subF m m'))) r).toNat
  | 0x30 =>
    let base := BitVec.ofNat 64 (leNat ((List.range 8).map (fun k => rd (op.c.toNat + k))))
    (rngWords op.y base n).flatMap (fun v => leBytes 4 v.toNat)
  | 0x31 =>
    let base := BitVec.ofNat 64 (leNat ((List.range 8).map (fun k => rd (op.c.toNat + k))))
    (rngWords op.y base n).flatMap (fun v => leBytes 4 (toF32 (.fin false (v.toNat / 256) (-24))).toNat)
  | 0x32 => leBytes 4 (pickF xs (word op.c.toNat))
  | fn =>
    let u := vopUse fn
    let ys := if u.y ∧ fn ≠ 0x23 then vec op.c else []
    let zs := if u.z ∧ fn ≠ 0x23 then vec op.d else []
    let k := if fn = 0x23 then subF (one op.c) (one op.d) else 0
    let c := op.y.setWidth 32
    convVec (vopTout w) (vopRound w op)
      (xs.mapIdx (fun i x => f32 (vopElem fn x (ys.getD i 0) (zs.getD i 0) c k)))

/-- Scratchpad areas a vector operation reads, as (offset, bytes) (R65). -/
def vopReads (op : EngOp) : List (Nat × Nat) :=
  let w := op.word
  let n := vopN op
  let u := vopUse (vopFn w)
  (if u.x then [(op.b.toNat, vecBytes (vopTin w) n)] else []) ++ (if u.y then [(op.c.toNat, vopSideBytes w n)] else []) ++
    (if u.z then [(op.d.toNat, vopSideBytes w n)] else []) ++ (if vopFn w = 0x22 then [(op.a.toNat, 8)] else [])

/-- Whether a vector operation reads poisoned operands (R41, R215). -/
def State.vopPoison (s : State) (lc : Nat) (op : EngOp) : Bool :=
  (vopReads op).any (fun r => s.anyBad (scratchAddr lc r.1) r.2)

end Sys2Proof.Machine
end

