-- ==== Sys2Proof/Machine/Transfer.lean ====
section
/-!
DEFINITION. Transfer engine instructions (02_cores_and_engines.md R68 to R77): the checks made at issue, and what a local
operation moves (R69, R71, R75, R215).
-/
namespace Sys2Proof.Machine

def xfOp (w : W64) : Nat := fld w 52 49
def xfStream (w : W64) : Nat := fld w 55 53
def xfIn (w : W64) : Nat := fld w 30 27
def xfOut (w : W64) : Nat := fld w 26 23
def xfDm (w : W64) : Bool := fld w 22 22 == 1

/-- The operation an XFER instruction puts in its stream's queue: AD, AS, SL and SX. -/
def xferOp (c : Core) (w : W64) : EngOp :=
  ⟨c.pc, w, c.a (fld w 48 45), c.a (fld w 44 41), 0, 0, c.s (fld w 40 36), c.s (fld w 35 31)⟩

/-- RESERVED_FIELD of an XFER (R49, R69, R70, R73). -/
def xferReserved (w : W64) (op : EngOp) : Bool :=
  let o := xfOp w
  let x := op.y
  fld w 14 0 != 0 || (xfDm w && !(o == 7 && op.x.toNat == 64)) || (o == 0 && fld w 35 31 != 0) ||
  (o == 8 && (fld w 40 36 != 0 || xfOut w != 0 || decide (8 ≤ xfIn w))) ||
  ((o == 2 || o == 3) && (fld x 31 23 != 0 || fld x 63 48 != 0)) || ((o == 4 || o == 5) && fld x 63 52 != 0) ||
  (decide (6 ≤ o) && fld x 63 42 != 0)

/-- FEATURE_UNDECLARED of an XFER (R81). -/
def xferFeature (c : Core) (w : W64) : Bool :=
  let o := xfOp w
  (o != 8 && (fmtUndeclared c.features (xfIn w) || fmtUndeclared c.features (xfOut w))) ||
  (decide (6 ≤ o) && !c.features.getLsbD 7)

/-- FORMAT_INVALID of an XFER at issue (R71): a conversion where none is permitted, or a length that is a register value and
does not hold whole elements and blocks. -/
def xferFormatBad (w : W64) (len : Nat) : Bool :=
  let o := xfOp w
  let fi := xfIn w
  let fo := xfOut w
  if fi = fo ∨ o = 8 then false
  else if o = 0 ∨ o = 1 ∨ o = 9 then (convCount fi fo len).isNone
  else !(o == 4 || o == 5)

/-- Bytes of the destination of a row of `len` source bytes (R71). -/
def xferOutLen (fi fo len : Nat) : Nat :=
  if fi = fo then len else vecBytes fo ((convCount fi fo len).getD 0)

/-- Rows, source stride and destination stride of COPY and COPY2D (R69). -/
def xferRows (w : W64) (op : EngOp) : Nat × Nat × Nat :=
  if xfOp w = 1 then (fld op.y 19 0, fld op.y 41 20, fld op.y 63 42) else (1, 0, 0)

/-- The ranges of a map with twelve stacks as a sender knows them: first byte, bytes between slots, slots, bytes used of each, whether
it may be written (R203, R207). -/
def remoteMap : List (Nat × Nat × Nat × Nat × Bool) :=
  [(0, 0x18000000000, 1, 0x18000000000, true), (0x20000000000, 0x2000000000, 12, 0x2000000000, true),
   (0x38000000000, 0x20000000, 12, 0x18000000, true), (0x39000000000, 0x800000, 192, 0x600000, true),
   (0x3A000000000, 0x10000000, 4, 0x1000000, true), (0x3A002000000, 0x10000000, 4, 0x18000, false),
   (0x3A004000000, 0x10000000, 4, 0x2000000, false), (0x3F000000000, 0x4000000, 1, 0x4000000, false)]

/-- A remote area: DPAs of the target device inside one range or window slot of the map, one that may be written where it is written
(R68, R203, R207). -/
def remoteDpaOk (v : BitVec 48) (n align : Nat) (write : Bool) : Bool :=
  match xaddr v with
  | .dpa a => a % align == 0 && remoteMap.any (fun m => decide (m.1 ≤ a) && decide ((a - m.1) / m.2.1 < m.2.2.1) &&
      decide ((a - m.1) % m.2.1 + n ≤ m.2.2.2.1) && (!write || m.2.2.2.2))
  | _ => false

/-- The range checks of an XFER at issue, each with the cause of its space (R68, R69, R77): area limits, alignment, lengths. An area of
COPY2D is checked as one extent from its first row to its last (log entry 26: DESIGN CHOICE). -/
def State.xferRanges (s : State) (w : W64) (op : EngOp) : List (Bool × Nat) :=
  let o := xfOp w
  let src := xaddr op.b
  let dst := xaddr op.a
  let len := op.x.toNat
  let size := fld op.y 47 32
  let badSize := decide (size < 8) || decide (4096 < size) || size % 8 != 0
  let idx := fld op.y 22 0
  let idxBad := idx % 4 != 0 || decide (scratchBytes < idx + 4 * len)
  match o with
  | 0 | 1 =>
    let r := xferRows w op
    let ol := xferOutLen (xfIn w) (xfOut w) len
    let ext := if r.1 = 0 then 0 else (r.1 - 1) * r.2.1 + len
    let oext := if r.1 = 0 then 0 else (r.1 - 1) * r.2.2 + ol
    [(len % 8 != 0 || (o == 0 && (decide (len < 8) || decide (268435456 < len))) || r.2.1 % 8 != 0, src.cause),
     (r.2.2 % 8 != 0, dst.cause), (o == 0 && src.low % 8 != 0, src.cause), (o == 0 && dst.low % 8 != 0, dst.cause),
     (!s.areaOk src ext false, src.cause), (!s.areaOk dst oext true, dst.cause)]
  | 2 => [(badSize, src.cause), (idxBad, 5), (!s.areaOk dst (len * size) true, dst.cause), (!s.areaOk src 0 false, src.cause)]
  | 3 => [(badSize, src.cause), (idxBad, 5), (!s.areaOk src (len * size) false, src.cause), (!s.areaOk dst 0 true, dst.cause)]
  | 4 => [(dst.low % 8 != 0 || !s.areaOk dst 0 true, dst.cause)]
  | 5 => [(src.low % 8 != 0 || !s.areaOk src 0 false, src.cause)]
  | 6 | 10 =>
    let cap := if o = 6 then 4096 else 16777216
    [(decide (len < 64) || decide (cap < len) || len % 64 != 0, 6), (!remoteDpaOk op.b len 64 false, 6),
     (dst.low % 64 != 0 || !s.areaOk dst len true, dst.cause)]
  | 8 => [(src.low % 8 != 0 || !s.areaOk src 24 true, src.cause), (!remoteDpaOk op.a 8 8 true, 6)]
  | _ =>
    let cap := if o = 7 then 4096 else 16777216
    let ol := xferOutLen (xfIn w) (xfOut w) len
    [(decide (len < 64) || decide (cap < len) || len % 64 != 0, src.cause), (src.low % 64 != 0 || !s.areaOk src len false, src.cause),
     (!remoteDpaOk op.a ol 64 true, 6)]

/-- KV_RANGE at issue (R77). -/
def kvBad (w : W64) (op : EngOp) : Bool :=
  (xfOp w == 4 || xfOp w == 5) &&
  (decide (6144 ≤ fld op.y 12 0) || op.x == 0 || decide (1048576 < op.x.toNat) || decide (2 ^ 32 < fld op.y 51 20 + op.x.toNat))

/-- Every check of an XFER made at issue, in the order of R42. -/
def State.xferCheck (s : State) (c : Core) (w : W64) : Option Nat :=
  let op := xferOp c w
  let r := s.xferRanges w op
  firstFault [(xferReserved w op, 2), (xferFeature c w, 0x13), (xferFormatBad w op.x.toNat, 7),
    (r.any (fun e => e.1 && e.2 == 5), 5), (r.any (fun e => e.1 && e.2 == 6), 6), (kvBad w op, 0x0C)]

/-- An XFER instruction of a given OP: its checks, then its stream's queue (queues 5 to 12). -/
def issueXFER (o : Nat) (lc : Fin 192) (w : W64) (s : State) : Out :=
  issue s lc w (opcodeOf w == 0x50 && xfOp w == o) fun c =>
    match s.xferCheck c w with
    | some n => s.coreFault lc n c.pc w
    | none => s.enqueue lc c (5 + xfStream w) (xferOp c w)

/-- XFER COPY, OP 0x0 (R69): local copy. -/
def execXferCopy (lc : Fin 192) (w : W64) (s : State) : Out := issueXFER 0 lc w s

/-- XFER COPY2D, OP 0x1 (R69): two-dimensional local copy. -/
def execXferCopy2d (lc : Fin 192) (w : W64) (s : State) : Out := issueXFER 1 lc w s

/-- XFER GATHER, OP 0x2 (R69): gather of indexed elements. -/
def execXferGather (lc : Fin 192) (w : W64) (s : State) : Out := issueXFER 2 lc w s

/-- XFER SCATTER, OP 0x3 (R69): scatter to indexed elements. -/
def execXferScatter (lc : Fin 192) (w : W64) (s : State) : Out := issueXFER 3 lc w s

/-- XFER KVWALK, OP 0x4 (R69): read of berth KV records. -/
def execXferKvwalk (lc : Fin 192) (w : W64) (s : State) : Out := issueXFER 4 lc w s

/-- XFER KVPUT, OP 0x5 (R69): write of berth KV records. -/
def execXferKvput (lc : Fin 192) (w : W64) (s : State) : Out := issueXFER 5 lc w s

/-- XFER RLOAD, OP 0x6 (R69): remote load. -/
def execXferRload (lc : Fin 192) (w : W64) (s : State) : Out := issueXFER 6 lc w s

/-- XFER RSTORE, OP 0x7 (R69): remote stores. -/
def execXferRstore (lc : Fin 192) (w : W64) (s : State) : Out := issueXFER 7 lc w s

/-- XFER RATOMIC, OP 0x8 (R69): remote atomic. -/
def execXferRatomic (lc : Fin 192) (w : W64) (s : State) : Out := issueXFER 8 lc w s

/-- XFER BULKPUT, OP 0x9 (R69): bulk transfer to a remote device. -/
def execXferBulkPut (lc : Fin 192) (w : W64) (s : State) : Out := issueXFER 9 lc w s

/-- XFER BULKGET, OP 0xA (R69): bulk transfer from a remote device. -/
def execXferBulkGet (lc : Fin 192) (w : W64) (s : State) : Out := issueXFER 10 lc w s

/-- What stops a data movement: a fault cause, memory that is not mapped (R203, R206), a lower die in reset on its way (R254), or
a home where accesses wait (R210, R217, R218). -/
inductive Stop
  | cause (n : Nat)
  | gone
  | reset
  | busy
  deriving DecidableEq, Repr

/-- What a data movement ends in: the state with what it wrote, and what stopped it. -/
structure Moved where
  st : State
  fault : Option Stop
  deriving DecidableEq, Repr

/-- Elements before the first whose source bytes are poisoned, in whole blocks where a block format is involved (R215). -/
def State.cleanCount (s : State) (fi fo n src : Nat) : Nat :=
  let w := fmtWidth fi
  let eb := (n * w + 7) / 8
  let badAt := fun i => s.anyBad (src + i * w / 8) ((i * w % 8 + w + 7) / 8) || (hasScale fi && s.bad (src + eb + i / 32)) ||
    (hasTrim fi && s.bad (src + eb + n / 32 + i / 32))
  let k := ((List.range n).find? badAt).getD n
  if k < n ∧ (hasScale fi = true ∨ hasScale fo = true) then k / 32 * 32 else k

/-- What a conversion of the first `k` of `n` elements writes, as (offset, bytes): elements, scales, trims (R59, R71, R104 to
R107). -/
def convPieces (rd : Nat → Byte) (src fi fo n k : Nat) : List (Nat × List Byte) :=
  let out := convVec fo (fun _ => .nearest) (((List.range k).map (vecElem rd fi n src)).map (fun x => f32 (toF32 x)))
  if k = n then [(0, out)]
  else
    let w := fmtWidth fo
    let ek := (k * w + 7) / 8
    let eb := (n * w + 7) / 8
    (0, out.take (k * w / 8)) ::
      ((if hasScale fo then [(eb, (out.drop ek).take (k / 32))] else []) ++
       (if hasTrim fo then [(eb + n / 32, (out.drop (ek + k / 32)).take (k / 32))] else []))

def storePieces (dst : Nat) (ps : List (Nat × List Byte)) (s : State) : State :=
  ps.foldl (fun (t : State) (p : Nat × List Byte) => t.store (dst + p.1) p.2) s

/-- A converting copy of one row (R71, R215): it stops at poisoned data with what it has written. -/
def State.convRow (s : State) (src dst len fi fo : Nat) : Moved :=
  let n := (convCount fi fo len).getD 0
  let k := s.cleanCount fi fo n src
  ⟨storePieces dst (convPieces (fun off => s.byteAt off) src fi fo n k) s, if k = n then none else some (.cause 0x0F)⟩

/-- One row of a copy that place `p` makes, converting or not, where its memory is mapped, answers and can be reached (R20, R203, R217,
R218, R254). -/
def State.copyRow (p : Nat) (s : State) (src dst len fi fo : Nat) : Moved :=
  if len = 0 then ⟨s, none⟩
  else if s.areaReset src len || s.areaReset dst (xferOutLen fi fo len) then ⟨s, some .reset⟩
  else if !s.liveOk src len || !s.liveOk dst (xferOutLen fi fo len) then ⟨s, some .gone⟩
  else if s.areaBusy src len || s.areaBusy dst (xferOutLen fi fo len) || s.areaQueued dst (xferOutLen fi fo len) then ⟨s, some .busy⟩
  else if !s.areaOpen p src len || !s.areaOpen p dst (xferOutLen fi fo len) then ⟨s, some .busy⟩
  else if fi = fo then ⟨s.copyRaw src dst len, none⟩
  else s.convRow src dst len fi fo

/-- Rows in order; the first failure stops them. -/
def State.copyRows (p fi fo : Nat) : List (Nat × Nat × Nat) → State → Moved
  | [], s => ⟨s, none⟩
  | (a, b, n) :: r, s =>
    match State.copyRow p s a b n fi fo with
    | ⟨s1, none⟩ => State.copyRows p fi fo r s1
    | m => m

/-- Elements of a gather or scatter: each must lie in the base's space (R69, R203). -/
def State.elemRow (s : State) (lc : Nat) (base : XAddr) (off size : Nat) (write : Bool) : Option Nat :=
  match base with
  | .own b => if b + off + size ≤ scratchBytes then some (scratchAddr lc (b + off)) else none
  | .dpa a => if s.mapOk (a + off) size write then some (a + off) else none
  | .bad => none

/-- GATHER and SCATTER: element rows in list order; the first element out of its space faults with that space's cause. -/
def State.indexRows (lc : Nat) (base flat : XAddr) (size idx : Nat) (gather : Bool) : Nat → Nat → State → Moved
  | 0, _, s => ⟨s, none⟩
  | n + 1, i, s =>
    let k := s.num (scratchAddr lc (idx + 4 * i)) 4
    let f := flat.dpaOf lc + i * size
    if s.bad (scratchAddr lc (idx + 4 * i)) then ⟨s, some (.cause 0x0F)⟩
    else match s.elemRow lc base (k * size) size (!gather) with
      | none => ⟨s, some (.cause base.cause)⟩
      | some e =>
        match (if gather then State.copyRow (16 + lc / 16) s e f size 0 0 else State.copyRow (16 + lc / 16) s f e size 0 0) with
        | ⟨s1, none⟩ => State.indexRows lc base flat size idx gather n (i + 1) s1
        | m => m

/-- Rows of COPY and COPY2D. -/
def copyPlan (lc : Nat) (op : EngOp) : List (Nat × Nat × Nat) :=
  let r := xferRows op.word op
  (List.range r.1).map (fun i => ((xaddr op.b).dpaOf lc + i * r.2.1, (xaddr op.a).dpaOf lc + i * r.2.2, op.x.toNat))

/-- The page walk of R75: the address of token t's record, or the fault it raises. `m` is (PAGE, REC, LAYERS, page list). -/
def State.kvAddr (s : State) (page rec layers plist layer t : Nat) : Except Nat Nat :=
  let tpp := page / rec
  let e := plist + 8 * (t / tpp * layers + layer)
  if s.anyBad e 8 then .error 0x0F
  else if s.num e 8 / 2 ^ 63 = 0 then .error 0x0D
  else .ok (s.num e 8 % 2 ^ 42 + t % tpp * rec)

/-- Bytes of one record in the contiguous area of KVWALK or KVPUT (R77): REC, or its converted size. -/
def kvAreaLen (fi fo rec : Nat) (put : Bool) : Nat :=
  if fi = fo then rec else if put then vecBytes fi ((convCount fo fi rec).getD 0) else xferOutLen fi fo rec

/-- Whether each record meets the conditions of R71 on whole elements and blocks. -/
def kvConvOk (fi fo rec : Nat) (put : Bool) : Bool :=
  fi == fo || (if put then (convCount fo fi rec).isSome && (convCount fi fo (kvAreaLen fi fo rec true)).isSome
    else (convCount fi fo rec).isSome)

/-- KVWALK and KVPUT: records in token order (R75, R76); `put` writes to the pages. -/
def State.kvRows (p page rec layers plist layer fi fo : Nat) (put : Bool) : Nat → Nat → Nat → State → Moved
  | 0, _, _, s => ⟨s, none⟩
  | n + 1, t, area, s =>
    let al := kvAreaLen fi fo rec put
    match s.kvAddr page rec layers plist layer t with
    | .error c => ⟨s, some (.cause c)⟩
    | .ok a =>
      match (if put then State.copyRow p s area a al fi fo else State.copyRow p s a area rec fi fo) with
      | ⟨s1, none⟩ => State.kvRows p page rec layers plist layer fi fo put n (t + 1) (area + al) s1
      | m => m

end Sys2Proof.Machine
end

