-- ==== Sys2Proof/Machine/Engines.lean ====
section
/-!
DEFINITION. Start and completion of matrix and vector engine operations (02_cores_and_engines.md R41 to R44, R85).
-/
namespace Sys2Proof.Machine

/-- Take the head of a queue into execution under a number of its own. -/
def Core.begin (c : Core) (q : Nat) (op : EngOp) (rest : List EngOp) (berth : List Nat) (remote : Bool) : Core :=
  let c1 := c.setQueue q rest
  let r : RunOp := { id := c.nextId, op := op, waiting := 0, failed := none, berth := berth, remote := remote }
  { c1.setRunning q (c1.running q ++ [r]) with nextId := c.nextId + 1 }

/-- An operation that failed when it executed: it leaves its queue or engine and faults the core (R42, R84). -/
def State.opFault (s : State) (lc q : Nat) (op : EngOp) (rest : List EngOp) (cause : Nat) : State :=
  (s.setCore lc ((s.core lc).setQueue q rest)).coreFault lc cause op.idx op.word

/-- End of an operation that succeeded: it leaves its engine, adds 1 to its semaphore when SIG is set, and whatever waited
for it goes on (R43). -/
def State.finishOp (s : State) (lc q : Nat) (r : RunOp) (sig : Bool) (sem : Nat) : State :=
  let c := s.core lc
  let s1 := s.setCore lc (c.setRunning q ((c.running q).filter (fun o => o.id != r.id)))
  let s2 := if sig then s1.addSem lc sem 1 r.op.idx r.op.word else s1
  s2.wake lc

/-- An operation of a matrix or vector engine starts: the errors of the codewords it reads are corrected or poison their units, and
poisoned operands fault the core (R41, R42, R90, R215). -/
def State.startEngine (s : State) (lc q : Nat) (op : EngOp) (rest : List EngOp) (areas : List (Nat × Nat)) (errs : List ScratchErr) :
    State :=
  let s1 := s.scratchErrs lc areas errs
  if (s1.core lc).cstate ≠ .running then s1
  else if areas.any (fun r => s1.anyBad (scratchAddr lc r.1) r.2) then s1.opFault lc q op rest 0x0F
  else (s1.setCore lc ((s1.core lc).begin q op rest [] false)).wake lc

/-- A queued matrix operation starts when the tile order allows; on a die at half matrix rate it may slip (R41, R44, R403). -/
def execMatrixOpStart (lc : Fin 192) (e : Fin 4) (errs : List ScratchErr) (s : State) : Out :=
  let c := s.core lc
  match c.queue e with
  | [] => .next s
  | op :: rest =>
    if c.cstate = .running ∧ mmaMayStart (c.running e) op then
      let s1 := if s.pwr.half.contains (lc / 16) then s.setCore lc c.disturb else s
      .next (s1.startEngine lc e op rest (mmaReads op) errs)
    else .next s

/-- The oldest operation running on a tile completes: its effect, then its signal (R43, R63, R64). -/
def execMatrixOpComplete (lc : Fin 192) (e : Fin 4) (t : Fin 2) (s : State) : Out :=
  let c := s.core lc
  match (c.running e).find? (fun r => fld r.op.word 50 50 == t.val) with
  | none => .next s
  | some r => .next ((s.mmaEffect lc e r.op).finishOp lc e r (fld r.op.word 28 28 == 1) (fld r.op.word 27 22))

/-- A queued vector operation starts (R41, R42). -/
def execVectorOpStart (lc : Fin 192) (errs : List ScratchErr) (s : State) : Out :=
  let c := s.core lc
  match c.queue 4 with
  | [] => .next s
  | op :: rest =>
    if c.cstate = .running ∧ c.running 4 = [] then .next (s.startEngine lc 4 op rest (vopReads op) errs) else .next s

/-- The running vector operation completes: every result is written, then its signal (R43, R65 to R67). -/
def execVectorOpComplete (lc : Fin 192) (s : State) : Out :=
  let c := s.core lc
  match c.running 4 with
  | [] => .next s
  | r :: _ =>
    .next ((s.store (scratchAddr lc r.op.a.toNat) (s.vopBytes lc r.op)).finishOp lc 4 r (fld r.op.word 18 18 == 1)
      (fld r.op.word 17 12))

end Sys2Proof.Machine
end

