-- ==== Sys2Proof/Machine/Sync.lean ====
section
/-!
DEFINITION. Semaphores, waits, fences, HALT and the system reads of the sequencer (02_cores_and_engines.md R45 to R55), and
the events that end or bound a stall (R47, R87, R381).
-/
namespace Sys2Proof.Machine

/-- Whether a logical core belongs to the launch a core runs (R48). -/
def State.inLaunch (s : State) (lc target : Nat) : Bool :=
  s.launches.any (fun l => l.seq == (s.core lc).launch && l.cores.contains target)

/-- Sending a remote SIGNAL: into the outgoing queue, or a stall while that is full (R47). -/
def State.sendSig (s : State) (lc : Nat) (c : Core) (target sem v : Nat) : State :=
  if c.outEntries < 16 then s.putSig lc c ⟨target, sem, v, c.tag⟩ else s.setCore lc { c with stall := .outq target sem v }

/-- SIGNAL (R46 to R48, R54): add v to semaphore SEM of the own core or of another core of the launch. -/
def execSignal (lc : Fin 192) (w : W64) (s : State) : Out :=
  issue s lc w (opcodeOf w == 0x60) fun c =>
    let rt := fld w 49 45
    let rv := fld w 44 40
    let v := if rv = 0 then fld w 15 0 else (c.s rv).toNat % 2 ^ 32
    let t := (c.s rt).toNat
    let sem := fld w 55 50
    if fld w 39 16 != 0 then s.coreFault lc 2 c.pc w
    else if rt ≠ 0 ∧ (256 ≤ t ∨ s.inLaunch lc t = false) then s.coreFault lc 9 c.pc w
    else if rt = 0 ∨ t = lc.val then
      if (c.sem sem).toNat + v < 2 ^ 32 then s.nextPc lc (c.setSem sem (c.sem sem + BitVec.ofNat 32 v))
      else s.coreFault lc 8 c.pc w
    else s.sendSig lc c t sem v

/-- WAIT (R45, R54): pass when the count is at least c and subtract c; else stall. A count of 0 passes at once. -/
def execWait (lc : Fin 192) (w : W64) (s : State) : Out :=
  issue s lc w (opcodeOf w == 0x61) fun c =>
    let rv := fld w 49 45
    let n := if rv = 0 then fld w 15 0 else (c.s rv).toNat % 2 ^ 32
    let sem := fld w 55 50
    if fld w 44 16 != 0 then s.coreFault lc 2 c.pc w
    else if n ≤ (c.sem sem).toNat then s.nextPc lc (c.setSem sem (c.sem sem - BitVec.ofNat 32 n))
    else s.setCore lc { c with stall := .wait sem n }

/-- WAITBT (R54, R381): stall until beacon time is at least RS. -/
def execWaitbt (lc : Fin 192) (w : W64) (s : State) : Out :=
  issue s lc w (opcodeOf w == 0x62) fun c =>
    let t := (c.s (fld w 55 51)).toNat
    if fld w 50 0 != 0 then s.coreFault lc 2 c.pc w
    else if t ≤ s.btOf (dieCD (lc / 16)) then s.nextPc lc c
    else s.setCore lc { c with stall := .waitbt t }

/-- FENCE (R50): stall until every engine queue of the core is empty and every operation is complete. -/
def execFence (lc : Fin 192) (w : W64) (s : State) : Out :=
  issue s lc w (opcodeOf w == 0x63) fun c =>
    if fld w 55 0 != 0 then s.coreFault lc 2 c.pc w
    else if c.quiet allQueues then s.nextPc lc c
    else s.setCore lc { c with stall := .fence allQueues }

/-- FENCE_E (R54): as FENCE, for the queues that MASK selects. -/
def execFenceE (lc : Fin 192) (w : W64) (s : State) : Out :=
  issue s lc w (opcodeOf w == 0x64) fun c =>
    let m := fld w 12 0
    if fld w 55 13 != 0 then s.coreFault lc 2 c.pc w
    else if c.quiet m then s.nextPc lc c
    else s.setCore lc { c with stall := .fence m }

/-- SEMRD (R50): RD = count of semaphore SEM. -/
def execSemrd (lc : Fin 192) (w : W64) (s : State) : Out :=
  issue s lc w (opcodeOf w == 0x65) fun c =>
    if fld w 44 0 != 0 then s.coreFault lc 2 c.pc w
    else s.nextPc lc (c.setS (fld w 55 51) ((c.sem (fld w 50 45)).setWidth 64))

/-- HALT (R55): wait as FENCE does, then end the program and enter DRAINING. -/
def execHalt (lc : Fin 192) (w : W64) (s : State) : Out :=
  issue s lc w (opcodeOf w == 0x70) fun c =>
    if fld w 55 0 != 0 then s.coreFault lc 2 c.pc w
    else if c.quiet allQueues then s.setCore lc { c with cstate := .draining, halted := true }
    else s.setCore lc { c with stall := .halt }

/-- RDBT (R381): RD = beacon time. -/
def execRdbt (lc : Fin 192) (w : W64) (s : State) : Out :=
  issue s lc w (opcodeOf w == 0x71) fun c =>
    if fld w 50 0 != 0 then s.coreFault lc 2 c.pc w
    else s.nextPc lc (c.setS (fld w 55 51) (BitVec.ofNat 64 (s.btOf (dieCD (lc / 16)))))

/-- RDCYC (R50, R56): RD = cycles of the core island since the core entered RUNNING, by the counts of R56; what stalls and slip since
the last read have added is a free value (log entry 8). -/
def execRdcyc (lc : Fin 192) (w : W64) (s : State) : Out :=
  issue s lc w (opcodeOf w == 0x72) fun c =>
    if fld w 50 0 != 0 then s.coreFault lc 2 c.pc w
    else if c.lapse then
      let n := (c.cyc + s.freeVal.toNat) % 2 ^ 64
      s.drawn.nextPc lc { c.setS (fld w 55 51) (BitVec.ofNat 64 n) with cyc := n, lapse := false }
    else s.nextPc lc (c.setS (fld w 55 51) (BitVec.ofNat 64 c.cyc))

/-- RDSLIP (R39, R377): RD = slip count of the core since it entered RUNNING; what bank conflicts, late crossings, pauses and clock
holds since the last read have added is a free value (log entry 8). -/
def execRdslip (lc : Fin 192) (w : W64) (s : State) : Out :=
  issue s lc w (opcodeOf w == 0x73) fun c =>
    if fld w 50 0 != 0 then s.coreFault lc 2 c.pc w
    else if c.slips then
      let n := (c.slip + s.freeVal.toNat) % 2 ^ 64
      s.drawn.nextPc lc { c.setS (fld w 55 51) (BitVec.ofNat 64 n) with slip := n, slips := !c.quiet allQueues }
    else s.nextPc lc (c.setS (fld w 55 51) (BitVec.ofNat 64 c.slip))

/-- Reserved OP or FN values (R60, R65, R69). -/
def reservedOp (w : W64) : Bool :=
  let o := opcodeOf w
  if o = 0x40 then decide (5 ≤ fld w 53 51)
  else if o = 0x48 then
    let f := fld w 55 50
    !(f ≤ 0x0A || (0x10 ≤ f && f ≤ 0x15) || (0x20 ≤ f && f ≤ 0x23) || (0x30 ≤ f && f ≤ 0x32))
  else if o = 0x50 then decide (0x0B ≤ fld w 52 49)
  else false

/-- Major opcodes of the table of R50. -/
def opcodeKnown (o : Nat) : Bool :=
  o ≤ 0x0E || (0x10 ≤ o && o ≤ 0x17) || (0x20 ≤ o && o ≤ 0x25) || (0x30 ≤ o && o ≤ 0x39) || o == 0x40 || o == 0x48 ||
  o == 0x50 || (0x60 ≤ o && o ≤ 0x65) || (0x70 ≤ o && o ≤ 0x73)

/-- An instruction whose major opcode, OP or FN is reserved raises ILLEGAL_INSTRUCTION (R50, R60, R65, R69). -/
def execIllegalInstruction (lc : Fin 192) (w : W64) (s : State) : Out :=
  issue s lc w (!opcodeKnown (opcodeOf w) || reservedOp w) fun c => s.coreFault lc 1 c.pc w

/-- Count a stale signal; STALE_SIGNALS when the count passes 256 within one launch (R47, R89). -/
def State.staleSig (s : State) (lc : Nat) (c : Core) : State :=
  let s1 := s.setCore lc { c with stale := c.stale + 1 }
  if c.stale = 256 then s1.raise 0x0806 (dieCD (lc / 16)) [(1, lc), (4, c.stale + 1)] else s1

/-- A signal at its target (R47): applied, discarded as stale, held, or refused; the Bool says it was refused. -/
def State.landSig (s : State) (g : Sig) : State × Bool :=
  let t := s.core g.core
  if t.cstate = .running ∧ t.tag = g.tag then (s.addSem g.core g.sem g.v 0xFFFFFFFF 0, false)
  else if t.prevTag = some g.tag then (s.staleSig g.core t, false)
  else if t.pend.length < 64 then (s.setCore g.core { t with pend := t.pend ++ [g] }, false)
  else (s, true)

/-- A refused signal goes back to the head of its sender's outgoing queue, behind those refused before it (R47). -/
def Core.takeBack (c : Core) (g : Sig) : Core :=
  { c with outq := c.outq.take c.refused ++ g :: c.outq.drop c.refused, refused := c.refused + 1, blocked := true }

/-- The oldest remote SIGNAL of core `lc` whose path is open reaches its target, which may refuse it; one that is taken frees its
entry (R47, R172). -/
def execRemoteSignalArrive (lc : Fin 192) (s : State) : Out :=
  let c := s.core lc
  match c.transit.find? (fun g => s.pathOpen (16 + lc / 16) (16 + g.core / 16)) with
  | none => .next s
  | some g =>
    let t := (s.setCore lc { c with transit := c.transit.erase g }).landSig g
    if t.2 then .next (t.1.setCore lc ((t.1.core lc).takeBack g)) else .next (t.1.wake lc)

/-- The target of core `lc`'s held signal reports a free entry: the held signal is sent again and the queue drains (R47). -/
def execSignalFreeEntry (lc : Fin 192) (s : State) : Out :=
  let c := s.core lc
  match c.outq.head? with
  | none => .next s
  | some g =>
    if c.blocked ∧ (s.core g.core).pend.length < 64 ∧ s.pathOpen (16 + g.core / 16) (16 + lc / 16) then
      .next (State.drainSigs lc 16 (s.setCore lc { c with blocked := false, refused := 0 }))
    else .next s

/-- A stall longer than WAIT_LIMIT_US raises WAIT_TIMEOUT (R55, R87). -/
def execWaitTimeout (lc : Fin 192) (s : State) : Out :=
  let c := s.core lc
  if c.cstate = .running ∧ c.stall ≠ .none then .next (s.coreFault lc 0x0A c.pc c.word) else .next s

/-- Beacon time reaches the target of a WAITBT and the sequencer resumes (R54, R381). -/
def execWaitbtTimeReached (lc : Fin 192) (s : State) : Out :=
  let c := s.core lc
  match c.stall with
  | .waitbt t => if c.cstate = .running ∧ t ≤ s.btOf (dieCD (lc / 16)) then .next (s.nextPc lc c) else .next s
  | _ => .next s

/-- A transfer engine request that lost a bank for 15 cycles wins it; each matrix or vector engine it delays adds to the
core's slip count (R39, R377). -/
def execTeBankStarveWin (lc : Fin 192) (_bank : Fin 32) (delayed : Fin 6) (s : State) : Out :=
  let c := s.core lc
  .next (s.setCore lc { c with slip := c.slip + delayed })

end Sys2Proof.Machine
end

