-- ==== Sys2Proof/Machine/CoreEvents.lean ====
section
/-!
DEFINITION. The life cycle of a core: launch, loading, abort, drain, patrol scrub of its scratchpad, retirement of a
physical core and rebinding (02_cores_and_engines.md R41, R78 to R91).
-/
namespace Sys2Proof.Machine

/-- Address of the core table entry of a logical core in an image (R78, R79). -/
def State.imgCore (s : State) (img lc : Nat) : Option Nat :=
  let t := img + s.num (img + 0x18) 8
  ((List.range (s.num (img + 0x10) 4)).map (fun i => t + 32 * i)).find? (fun e => s.num e 2 == lc)

/-- Initialisation entries of a logical core, in table order: source address, scratchpad offset, length (R79). -/
def State.imgInit (s : State) (img lc : Nat) : List (Nat × Nat × Nat) :=
  let t := img + s.num (img + 0x28) 8
  (((List.range (s.num (img + 0x30) 4)).map (fun i => t + 24 * i)).filter (fun e => s.num e 2 == lc)).map
    (fun e => (img + s.num (e + 0x10) 8, s.num (e + 8) 4, s.num (e + 4) 4))

/-- The areas that the loading of a core reads: its code, unless it is resident, and its initialisation data (R82). -/
def State.loadAreas (s : State) (lc : Nat) : List (Nat × Nat) :=
  let c := s.core lc
  let code := match s.imgCore c.image lc with
    | some e => if c.loadCode then [(c.image + s.num (e + 8) 8, s.num (e + 4) 4)] else []
    | none => []
  code ++ (s.imgInit c.image lc).map (fun i => (i.1, i.2.2))

/-- Whether no area that the loading of a core reads waits at its home, and the path to it is open (R172, R217, R218). -/
def State.loadFree (s : State) (lc : Nat) : Bool :=
  (s.loadAreas lc).all (fun a => !s.areaBusy a.1 a.2 && s.areaOpen (16 + lc / 16) a.1 a.2)

/-- A launch reaches an IDLE core over the fabric, which enters LOADING; the code is kept when its BUILD_ID is resident (R34, R82,
R84). -/
def execCoreLaunchReceive (lc : Fin 192) (seq : BitVec 32) (s : State) : Out :=
  let c := s.core lc
  match s.launches.find? (fun l => l.seq == seq.toNat && l.todo.contains lc) with
  | none => .next s
  | some l =>
    if c.cstate = .idle ∧ c.broken = false ∧ s.pathOpen 12 (16 + lc / 16) then
      let load := !(c.resident && c.buildId == l.buildId)
      let c1 := { c with cstate := .loading, launch := l.seq, tag := l.tag, arg := l.arg, image := l.image }
      let c2 := { c1 with features := l.features, waitLimit := l.waitLimit, wantId := l.buildId, fault := none }
      let c3 := { c2 with loadCode := load, resident := !load, aborted := false, halted := false, stale := 0 }
      let ls := s.launches.map (fun m => if m.seq = l.seq then { m with todo := m.todo.del lc } else m)
      let s1 := { s with launches := ls }.setCore lc c3
      .next (s1.askHomes (16 + lc / 16) (s1.loadAreas lc))
    else .next s

/-- Copy initialisation entries in order; the first outside scratchpad stops them (R82, R84). -/
def State.loadInit (lc : Nat) : List (Nat × Nat × Nat) → State → State × Bool
  | [], s => (s, true)
  | (a, off, n) :: r, s =>
    if off + n ≤ scratchBytes then State.loadInit lc r (s.copyRaw a (scratchAddr lc off) n) else (s, false)

/-- The 64-bit words of a code area. -/
def State.codeWords (s : State) (a n : Nat) : List W64 :=
  (List.range (n / 8)).map (fun i => BitVec.ofNat 64 (s.num (a + 8 * i) 8))

/-- Held signals when a launch starts (R47): those with its tag are applied, earlier ones are stale, the rest stay held. -/
def State.applyHeld (lc tag : Nat) : List Sig → State → State
  | [], s => s
  | g :: r, s =>
    let c := s.core lc
    if g.tag = tag then State.applyHeld lc tag r (s.addSem lc g.sem g.v 0xFFFFFFFF 0)
    else if serialEarlier (BitVec.ofNat 16 g.tag) (BitVec.ofNat 16 tag) then State.applyHeld lc tag r (s.staleSig lc c)
    else State.applyHeld lc tag r (s.setCore lc { c with pend := c.pend ++ [g] })

/-- Registers at the start of a launch (R83). -/
def Core.atStart (c : Core) (lc : Nat) (entry : Nat) : Core :=
  let c0 := { c with cstate := .running, sregs := [], aregs := [], loops := [], pc := entry, stall := .none }
  let c1 := { c0 with slip := 0, slips := false, cyc := 0, ready := [], lapse := false, pend := [], queues := [], run := [] }
  ((c1.setS 1 (BitVec.ofNat 64 lc)).setS 2 c.arg).setS 3 (BitVec.ofNat 64 c.tag)

/-- Loading ends: RUNNING at ENTRY, or FAULTING with IMAGE_INVALID (R82 to R84). Poisoned code is IMAGE_INVALID, and an ENTRY at or
beyond CODE_LEN a PC_RANGE with index ENTRY and word 0 (log entry 87); while a home that the loading reads or its path keeps it, it
goes on later (R217, R218). -/
def execCoreLoadingDone (lc : Fin 192) (s : State) : Out :=
  let c := s.core lc
  if c.cstate = .loading ∧ s.loadFree lc then
    match s.imgCore c.image lc with
    | none => .next (s.coreFault lc 0x11 0xFFFFFFFF 0)
    | some e =>
      let n := s.num (e + 4) 4
      let a := c.image + s.num (e + 8) 8
      let entry := s.num (e + 0x10) 4
      let bad := c.loadCode && (s.anyBad a n || crc32c (s.bytes a n) != s.num (e + 0x14) 4)
      let code := if c.loadCode then s.codeWords a n else c.code
      if bad then .next ((s.setCore lc { c with code := [] }).coreFault lc 0x11 0xFFFFFFFF 0)
      else
        let t := State.loadInit lc (s.imgInit c.image lc) s
        let d := { c with resident := true, code := code, buildId := c.wantId }
        if !t.2 then .next ((t.1.setCore lc d).coreFault lc 0x11 0xFFFFFFFF 0)
        else
          let s1 := t.1.setCore lc (d.atStart lc entry)
          let s2 := State.applyHeld lc c.tag c.pend s1
          if entry < code.length then .next s2 else .next (s2.coreFault lc 3 entry 0)
  else .next s

/-- An abort that IO0 has sent reaches a core: LOADING and RUNNING enter DRAINING, and a blocked wait ends (R34, R84 to R86). -/
def execCoreAbortReceive (lc : Fin 192) (s : State) : Out :=
  let c := s.core lc
  if (c.cstate = .loading ∨ c.cstate = .running) ∧ s.launches.any (fun l => l.seq == c.launch && l.aborts.contains lc) ∧
      s.pathOpen 12 (16 + lc / 16) then
    .next (s.setCore lc { c with cstate := .draining, stall := .none, queues := [], aborted := true })
  else .next s

/-- Engines idle and remote operations complete: the core reports and returns to IDLE, semaphores zeroed (R83 to R85). -/
def execCoreDrainDone (lc : Fin 192) (s : State) : Out :=
  let c := s.core lc
  if (c.cstate = .draining ∨ c.cstate = .faulting) ∧ c.quiet allQueues ∧ c.remote = 0 then
    let kind := if c.cstate = .faulting then 2 else if c.aborted then 1 else 0
    let status := (c.fault.map (·.status)).getD 0
    let at_ := (c.fault.map (·.bt)).getD s.bt
    .next ((s.report lc kind status at_).setCore lc { c with cstate := .idle, sems := [], prevTag := some c.tag })
  else .next s

/-- Patrol scrub of one scratchpad granule: corrected words are counted per bank, a double error poisons its unit, and a granule that had
one is scrubbed (R41, R89, R90, R215). -/
def execScratchPatrolScrub (lc : Fin 192) (granule : Fin 98304) (corrected : Fin 5) (double : Option (Fin 4)) (s : State) : Out :=
  if (s.core lc).cstate = .absent then .next s
  else
    let s1 := if corrected.val = 0 then s else s.scratchCorrected lc (granule % 32) corrected
    let s2 := match double with
      | none => s1
      | some w => s1.scratchDouble lc granule w
    let c := s2.core lc
    .next (if c.badGran.contains granule then s2.setCore lc { c with scrubbed := c.scrubbed.add granule } else s2)

/-- PHYSICAL_CORE_FAIL: a check in a physical core fails (R88, R90). -/
def execPhysicalCoreFail (d : Fin 12) (pc : Fin 18) (s : State) : Out := .next (s.failPhysical d pc true)

/-- Good physical cores of die `d` bound to no logical core (R91, R95). -/
def State.spareCores (s : State) (d : Nat) : List Nat :=
  (List.range 18).filter (fun p => bitAt (s.rd F.STK_PCORE_GOOD d) p && (s.boundTo d p).isNone)

/-- The spare R91 chooses: FIRST, then SECOND when USE_ORDER is set, else the lowest-numbered. -/
def State.chooseSpare (s : State) (d : Nat) : Option Nat :=
  let sp := s.spareCores d
  if s.bit F.STK_SPARE_ORDER_USE_ORDER d && sp.contains (s.rd F.STK_SPARE_ORDER_FIRST d) then some (s.rd F.STK_SPARE_ORDER_FIRST d)
  else if s.bit F.STK_SPARE_ORDER_USE_ORDER d && sp.contains (s.rd F.STK_SPARE_ORDER_SECOND d) then
    some (s.rd F.STK_SPARE_ORDER_SECOND d)
  else sp.head?

/-- Clearing of a core (R89): registers, semaphores, queues, pending signals, resident image and scratchpad. The accumulator tiles and
the error record belong to the physical core and stay (R37, R90; log entry 85). -/
def State.resetCore (s : State) (lc : Nat) : State :=
  let c := s.core lc
  (s.clearScratch lc).setCore lc
    { cstate := .idle, bankCe := c.bankCe, bankHit := c.bankHit, badGran := c.badGran, scrubbed := c.scrubbed }

/-- A logical core becomes ABSENT, condition 8 of R448; a launch that has not reached it yet gets its report (R84, R91). -/
def State.absentCore (s : State) (lc : Nat) : State :=
  let s1 := (s.wr F.STK_LCMAP_PRESENT lc 0).setCore lc {}
  let due := (s.launches.filter (fun l => l.todo.contains lc)).map (fun l => (⟨l.seq, lc, 2, 0x51, s.bt, 0, true⟩ : Report))
  ({ s1 with reports := s1.reports ++ due }.raise 0x0805 (dieCD (lc / 16)) [(1, lc)]).setCond 8 true

/-- A compute die is retired: its physical cores go out of service, each with CORE_RETIRED, what its logical cores run is reported as
CORE_RETIRED, and they are ABSENT (R32, R84, R89, R95; log entry 88). -/
def State.retireCores (s : State) (d : Nat) : State :=
  let s1 := (List.range 18).foldl (fun (t : State) p => t.failPhysical d p false) s
  ((List.range 16).map (16 * d + ·)).foldl (fun (t : State) lc =>
    if (t.core lc).cstate = .absent then t else (t.loseCore lc 0).absentCore lc) s1

/-- A logical core goes over to a physical core: its scratchpad reads as zero, its image is not resident, and it is PARKED where its die
is still held (R84, R91). -/
def State.bindSpare (s : State) (lc p : Nat) : State :=
  let s1 := (((s.wr F.STK_LCMAP_PRESENT lc 1).wr F.STK_LCMAP_PC lc p).clearScratch lc).setCore lc
    { cstate := if s.dieHeld (lc / 16) then .parked else .idle }
  s1.raise 0x0803 (dieCD (lc / 16)) [(1, lc), (1, p)]

/-- An IDLE logical core whose physical core failed is rebound to a spare, or becomes ABSENT, once the launch it ran has completed
(R89, R91, R93). -/
def execCoreRebind (lc : Fin 192) (s : State) : Out :=
  let c := s.core lc
  if c.cstate = .idle ∧ c.broken ∧ s.launches.all (fun l => c.lostIn != some l.seq) then
    match s.chooseSpare (lc / 16) with
    | some p => .next (s.bindSpare lc p)
    | none => .next (s.absentCore lc)
  else .next s

end Sys2Proof.Machine
end

