-- ==== Sys2Proof/Machine/Bundles.lean ====
section
/-!
DEFINITION. Vertical bundles (08_die_stack.md R230 to R244): beats with their check and replay, lane wear, spare lanes, half width
and retirement. Bundle x is 128 n + 2 b + d, d 0 for down and 1 for up (R259).
-/
namespace Sys2Proof.Machine

/-- Physical lanes bound to the logical lanes, in logical order. -/
def Bundle.bound (b : Bundle) : List Nat := if b.bind = [] then List.range 64 else b.bind

/-- Good lanes of a half (R237). -/
def Bundle.half (b : Bundle) (h : Nat) : List Nat := ((List.range 34).map (34 * h + ·)).filter (fun l => !b.bad.contains l)

/-- Good lanes a bundle may use in place of a worn one: of the whole bundle, or of its half (R236, R237). -/
def State.spares (s : State) (x : Nat) : List Nat :=
  let b := s.bundle x
  let pool := if s.bundleState x = 1 then b.half (s.rd F.STK_VB_BUNDLE_HALF_SEL x) else b.half 0 ++ b.half 1
  pool.filter (fun l => !b.bound.contains l)

/-- SBS stands in for CHK or CTL. -/
def Bundle.sbsUsed (b : Bundle) : Bool := b.side.contains 1 || b.side.contains 2

/-- Two of CHK, CTL and SBS, or CLK, are lost (R235, R238). -/
def Bundle.sideLost (b : Bundle) : Bool := b.side.contains 0 || decide (2 ≤ (b.side.filter (· != 0)).length)

/-- Show SPARES and SBS_USED of a bundle (R259). -/
def State.showBundle (s : State) (x : Nat) : State :=
  let n := if s.bundleState x = 2 then 0 else min 4 (s.spares x).length
  (s.wr F.STK_VB_BUNDLE_SPARES x n).wr F.STK_VB_BUNDLE_SBS_USED x (b2n ((s.bundle x).sbsUsed && s.bundleState x != 2))

/-- Show the counts of a stack (R258), and condition 6 of R448. -/
def State.showStack (s : State) (n : Nat) : State :=
  let at_ := fun (p d : Nat) => s.bundleState (128 * n + 2 * p + d)
  let pairs := ((List.range 64).filter (fun p => at_ p 0 != 2 && at_ p 1 != 2)).length
  let half := fun (d : Nat) => ((List.range 64).filter (fun p => at_ p d == 1)).length
  (((s.wr F.STK_VB_STACK_PAIRS n pairs).wr F.STK_VB_STACK_HALF_DOWN n (half 0)).wr F.STK_VB_STACK_HALF_UP n (half 1)).setCond 6
    (!s.stack.narrow.isEmpty)

/-- A bundle takes a width, and its lanes where it stays in service. -/
def State.setWidth (s : State) (x st sel : Nat) (bind : List Nat) : State :=
  let b := s.bundle x
  let s1 := s.setBundle x { b with bind := bind, plan := 0, worn := none, spare := none, wait := [] }
  let s2 := (s1.wr F.STK_VB_BUNDLE_STATE x st).wr F.STK_VB_BUNDLE_HALF_SEL x sel
  let nar := if st = 0 then s2.stack.narrow.del x else s2.stack.narrow.add x
  ({ s2 with stack := { s2.stack with narrow := nar } } : State).showBundle x

/-- Errors counted against a lane over the last second (R234, R237). -/
def State.lastErrs (s : State) (b : Bundle) (lane : Nat) : List Nat :=
  (tget (fun _ => []) b.errs lane).filter (fun t => decide (s.now < t + nsSec))

/-- What becomes of a bundle that cannot run at its width: 1 half H0, 2 half H1, 3 retired (R237). The better half has more good
lanes, then fewer errors counted over the last second, then is H0. -/
def State.planOf (s : State) (x : Nat) : Nat :=
  let b := s.bundle x
  let n := fun (h : Nat) => (b.half h).length
  let e := fun (h : Nat) => ((b.half h).map (fun l => (s.lastErrs b l).length)).foldl (· + ·) 0
  if b.sideLost ∨ !s.bit F.STK_PKG_VB_HALF_WIDTH ∨ (n 0 < 32 ∧ n 1 < 32) then 3
  else if s.bundleState x = 1 then (if 32 ≤ n (1 - s.rd F.STK_VB_BUNDLE_HALF_SEL x) then 2 - s.rd F.STK_VB_BUNDLE_HALF_SEL x else 3)
  else if n 1 < n 0 ∨ (n 0 = n 1 ∧ e 0 ≤ e 1) then 1 else 2

/-- A bundle gets a plan; one that retires takes its partner with it (R238). -/
def State.plan (s : State) (x : Nat) : State :=
  let p := s.planOf x
  let s1 := s.setBundle x { s.bundle x with plan := p, worn := none }
  if p = 3 then s1.setBundle (bundlePartner x) { s1.bundle (bundlePartner x) with plan := 3 } else s1

/-- A worn lane is replaced next, waits for the substitution that runs, or the bundle narrows or retires (R236 to R238, R244). -/
def State.needLane (s : State) (x lane : Nat) : State :=
  let b := s.bundle x
  let inUse := if lane < 68 then b.bound.contains lane else true
  if !inUse then s.showBundle x
  else if b.worn.isSome then s.setBundle x { b with wait := b.wait ++ [lane] }
  else if (if lane < 68 then !(s.spares x).isEmpty else !b.sideLost) then s.setBundle x { b with worn := some lane }
  else s.plan x

/-- A lane is worn: it is recorded in flash and not used again (R234). -/
def State.wearLane (s : State) (x lane : Nat) : State :=
  let b := s.bundle x
  let s1 := { s with stack := { s.stack with wornFlash := s.stack.wornFlash.add (x * 128 + lane) } }
  if lane < 68 then (s1.setBundle x { b with bad := b.bad.add lane }).needLane x lane
  else (s1.setBundle x { b with side := b.side.add (lane - 67) }).needLane x lane

/-- Count errors against a lane; past LANE_ERR within any second it is worn (R234). -/
def State.laneError (s : State) (x lane k : Nat) : State :=
  let b := s.bundle x
  let new := s.lastErrs b lane ++ List.replicate k s.now
  let s1 := s.setBundle x { b with errs := tput (fun _ => []) b.errs lane new }
  let good := if lane < 68 then !b.bad.contains lane else !b.side.contains (lane - 67)
  if k ≠ 0 ∧ s.rd F.STK_VB_CTRL_LANE_ERR < new.length ∧ good then s1.wearLane x lane else s1

/-- The sideband lane that carries the check (68) or the control word (69), or SBS (70) where it stands in for it (R234, R236). -/
def Bundle.sideLane (b : Bundle) (l : Nat) : Nat := if b.side.contains (l - 67) then 70 else l

/-- Physical lane of bit j of data byte k (R230, R237). -/
def Bundle.laneOf (b : Bundle) (half : Bool) (i : Nat) : Nat := b.bound.getD (i % (if half then 32 else 64)) 0

/-- The bits in which two copies of a beat differ, as the physical lanes that carried them (R234). -/
def Bundle.diffLanes (b : Bundle) (half : Bool) (x y : List Byte) : List Nat :=
  (List.range (8 * min x.length y.length)).filterMap (fun i =>
    if (x.getD (i / 8) 0).getLsbD (i % 8) != (y.getD (i / 8) 0).getLsbD (i % 8) then some (b.laneOf half i) else none)

def bitDiff (a b : Nat) : Nat := ((List.range 16).filter (fun i => bitAt a i != bitAt b i)).length

/-- Compare a failed copy with its replay and count the errors (R234). -/
def State.compareCopy (s : State) (x : Nat) (old : List Byte × Nat) (data : List Byte) (ctl : Nat) : State :=
  let half := s.bundleState x == 1
  let ls := (s.bundle x).diffLanes half old.1 data
  let s1 := ls.eraseDups.foldl (fun (t : State) l => t.laneError x l (ls.count l)) s
  let s2 := s1.laneError x ((s.bundle x).sideLane 69) (bitDiff old.2 ctl)
  if ls = [] ∧ old.2 = ctl then s2.laneError x ((s.bundle x).sideLane 68) 1 else s2

/-- A beat of data is delivered in order, and its credit will return on the partner; the last of a message completes it (R232, R233,
R241). -/
def State.takeBeat (s : State) (x : Nat) (data : List Byte) (last : Bool) : State :=
  let b := s.bundle x
  let m := b.part ++ data
  let b1 := { b with next := (b.next + 1) % 128, part := if last then [] else m, got := if last then b.got ++ [m] else b.got }
  let y := bundlePartner x
  let s1 := s.setBundle x b1
  let s2 := s1.setBundle y { s1.bundle y with owe := (s1.bundle y).owe + 1 }
  if last then s2.offBundle (bundleStack x) (bundleDir x) (noteOf m) else s2

/-- A bundle sends what it may send; an idle one with credits to return sends an IDLE beat (R232). -/
def State.turnBundle (s : State) (x : Nat) : State :=
  let s1 := State.pumpBundle x (s.bundle x).q.length s
  if (s1.bundle x).owe = 0 ∨ s1.bundleState x = 2 then s1 else s1.putBeat x 0 0 []

/-- A NAK on a bundle, in an IDLE beat: it names the failed beat of its partner (R232, R233). -/
def State.sendNak (s : State) (x seq : Nat) : State :=
  let c := 64 + seq % 64
  s.send (.beat x (beatData []) c (crc16 (beatData [] ++ leBytes 2 c)))

/-- Send the kept beats from the one a NAK names, in sequence order (R233). -/
def State.resendFrom (s : State) (x seq : Nat) : State :=
  ((s.bundle x).sent.dropWhile (fun e => e.1 % 64 != seq)).foldl (fun (t : State) e =>
    t.putBeat x (if e.2.last then 2 else 1) e.1 e.2.data) s

/-- A NAK reaches the sender of a bundle: it resends, and replays past the limit of one second raise VB_REPLAY_RATE; engines that wait
count the stall as slip (R233, R240, R377). -/
def State.nakBundle (s : State) (x seq : Nat) : State :=
  let b := s.bundle x
  let new := b.replay.add nsSec s.now 1
  let prev := if b.replay.win = new.win then b.replayPrev else if b.replay.win + 1 = new.win then b.replay.n else 0
  let s1 := ((s.setBundle x { b with replay := new, replayPrev := prev }).resendFrom x seq).disturbDie (bundleStack x)
  if new.n = 1001 then s1.raise 0x0705 (dieSD (bundleStack x)) [] else s1

/-- A CONTROL beat: 0 PAUSE_SPARE, 1 PAUSE_HALF, 2 PAUSE_RETIRE, 3 RESUME (R232). -/
def State.sendControl (s : State) (x code : Nat) : State := s.putBeat x 3 code []

/-- PAUSE_SPARE: the bundle pauses to replace a worn lane by its lowest-numbered spare, or CHK or CTL by SBS (R236, R244). -/
def State.pauseSpare (s : State) (x : Nat) : State :=
  let b := s.bundle x
  if s.bundleState x = 2 ∨ b.pause ≠ 0 ∨ s.inRemap x = true then s
  else match b.worn with
    | none => s
    | some l =>
      match (if l < 68 then (s.spares x).head? else some 70) with
      | some p => ((s.setBundle x { b with pause := 1, spare := some p, drained := false }).sendControl x 0).disturbDie (bundleStack x)
      | none => s.plan x

/-- PAUSE_HALF: the bundle pauses to narrow or to change halves (R237). -/
def State.pauseHalf (s : State) (x : Nat) : State :=
  let b := s.bundle x
  if (b.plan = 1 ∨ b.plan = 2) ∧ b.pause = 0 then
    ((s.setBundle x { b with pause := 2 }).sendControl x 1).disturbDie (bundleStack x)
  else s

/-- PAUSE_RETIRE: the bundle pair pauses to retire (R238). -/
def State.pauseRetire (s : State) (x : Nat) : State :=
  let b := s.bundle x
  let y := bundlePartner x
  if b.plan = 3 ∧ b.pause = 0 then
    let s1 := s.setBundle x { b with pause := 3 }
    (((s1.setBundle y { s1.bundle y with pause := 3 }).sendControl x 2).sendControl y 2).disturbDie (bundleStack x)
  else s

/-- RESUME: the bundle sends again, and a lane that wore meanwhile takes its turn (R232, R236, R244). -/
def State.resumeBundle (s : State) (x : Nat) : State :=
  let b := s.bundle x
  if b.pause ≠ 4 then s
  else (b.wait.foldl (fun (t : State) l => t.needLane x l) (s.setBundle x { b with pause := 0, wait := [] })).turnBundle x

/-- VB_PAUSE_SPARE: the bundle pauses to replace a worn lane, and PAUSE_SPARE goes out (R236, R244). -/
def execVbPauseSpare (x : Fin 1536) (s : State) : Out := .next (s.pauseSpare x)

/-- VB_SUBSTITUTION_DRAINED: the receiver has drained: both ends rebind, and the spare trains (R236). -/
def execVbSubstitutionDrained (x : Fin 1536) (s : State) : Out :=
  let b := s.bundle x
  if b.pause = 1 then .next (s.setBundle x { b with drained := true }) else .next s

/-- VB_SPARE_TRAIN_DONE: with no error RESUME is sent and VB_LANE_SPARED raised; else the spare is worn too, and the next is tried in
a further pause (R236, R256). -/
def execVbSpareTrainDone (x : Fin 1536) (pass : Bool) (s : State) : Out :=
  let b := s.bundle x
  match b.worn, b.spare with
  | some l, some p =>
    if b.pause ≠ 1 ∨ !b.drained then .next s
    else if pass then
      let bind := if l < 68 then b.bound.map (fun y => if y = l then p else y) else b.bind
      let s1 := (s.setBundle x { b with bind := bind, pause := 4, drained := false, worn := none, spare := none }).showBundle x
      .next ((s1.sendControl x 3).raise 0x0701 (dieSD (bundleStack x)) [(1, bundlePair x), (1, bundleDir x), (1, l), (1, p)])
    else
      let s1 := { s with stack := { s.stack with wornFlash := s.stack.wornFlash.add (x * 128 + p) } }
      let b1 : Bundle := if p < 68 then { b with bad := b.bad.add p } else { b with side := b.side.add 3 }
      let s2 := s1.setBundle x { b1 with pause := 4, drained := false, spare := none }
      let more := if l < 68 then !(s2.spares x).isEmpty else false
      let s3 := (s2.showBundle x).sendControl x 3
      if more then .next s3 else .next (s3.plan x)
  | _, _ => .next s

/-- VB_RESUME: the bundle sends again (R232, R236, R244). -/
def execVbResume (x : Fin 1536) (s : State) : Out := .next (s.resumeBundle x)

/-- VB_PAUSE_HALF: the bundle pauses to narrow or to change halves, and PAUSE_HALF goes out (R237). -/
def execVbPauseHalf (x : Fin 1536) (s : State) : Out := .next (s.pauseHalf x)

/-- VB_PAUSE_RETIRE: the bundle pair pauses to retire, and PAUSE_RETIRE goes out (R238). -/
def execVbPauseRetire (x : Fin 1536) (s : State) : Out := .next (s.pauseRetire x)

/-- What a received CONTROL code does; the reserved ones do nothing (R8, R232). -/
def State.takeControl (s : State) (x code : Nat) : State :=
  if code = 0 then s.pauseSpare x else if code = 1 then s.pauseHalf x else if code = 2 then s.pauseRetire x
  else if code = 3 then s.resumeBundle x else s

/-- What the control word of a good beat says beside its data: a NAK for the partner or credits it gets back, and CONTROL (R232). -/
def State.takeWord (s : State) (x c : Nat) : State :=
  let y := bundlePartner x
  let s1 := if c / 64 % 2 = 1 then s.nakBundle y (c % 64)
    else s.setBundle y { s.bundle y with used := (s.bundle y).used - c % 64 }
  if c / 16384 = 3 then s1.takeControl x (c / 128 % 128) else s1

/-- BUNDLE_BEAT_RECEIVE: a beat is checked. One that fails is discarded and NAKed on the partner, and so is every later one until its
replay (log entry 92); the replay is compared with the failed copy. Good beats are delivered in order, the credits they return are taken
by the partner, and what their control words ask is done (R231 to R234). Where `clk` is clear the forwarded clock has gone: CLK is lost
(R238). -/
def execBundleBeatReceive (x : Fin 1536) (data : List (BitVec 8)) (ctl crc : BitVec 16) (clk : Bool) (s : State) : Out :=
  let y := bundlePartner x
  if s.bundleState x = 2 then .next s
  else if !clk then .next ((s.setBundle x { s.bundle x with side := (s.bundle x).side.add 0 }).plan x)
  else
    let b := s.bundle x
    let c := ctl.toNat
    let last := c / 16384 == 2
    if crc16 (data ++ leBytes 2 c) ≠ crc.toNat then
      let b1 := if b.nak.isSome then b else { b with nak := some b.next, failed := some (data, c) }
      .next ((s.setBundle x b1).sendNak y b.next)
    else
      let s1 := s.takeWord x c
      let b1 := s1.bundle x
      if c / 16384 ≠ 1 ∧ c / 16384 ≠ 2 ∨ c / 128 % 128 ≠ b1.next then .next (s1.turnBundle y)
      else match b1.nak, b1.failed with
        | some _, some f =>
          let s2 := (s1.setBundle x { b1 with nak := none, failed := none }).compareCopy x f data c
          .next ((s2.takeBeat x data last).turnBundle y)
        | _, _ => .next ((s1.takeBeat x data last).turnBundle y)

/-- BUNDLE_NAK_RECEIVE: the sender resends from the named beat (R233, R240). -/
def execBundleNakReceive (x : Fin 1536) (seq : BitVec 6) (s : State) : Out :=
  if s.bundleState x = 2 then .next s else .next (s.nakBundle x seq.toNat)

/-- VB_REMAP_PAUSE_START: a remap pause begins once the substitutions that run in the direction have ended (R242 to R244). -/
def execVbRemapPauseStart (n : Fin 12) (up : Bool) (s : State) : Out :=
  let d := b2n up
  let k := 2 * n.val + d
  if s.stack.remap.contains k || (dirBundles n d).any (fun x => (s.bundle x).pause == 1) ||
      !(dirBundles n d).any (fun x => (s.bundle x).plan != 0) then .next s
  else .next (({ s with stack := { s.stack with remap := s.stack.remap.add k } } : State).disturbDie n)

/-- A die is retired: GLB_INV_d shows it and why; it changes again only at a cold reset (R515). -/
def State.retireDie (s : State) (d cause : Nat) : State :=
  if s.rd F.GLB_INV_STATE d ≠ 0 then s else (s.wr F.GLB_INV_STATE d 1).wr F.GLB_INV_CAUSE d cause

/-- A compute die is retired: its logical cores are ABSENT, condition 9 of R448 holds (R32, R515). -/
def State.retireCd (s : State) (n cause : Nat) : State :=
  if s.rd F.GLB_INV_STATE (dieCD n) ≠ 0 then s else ((s.retireDie (dieCD n) cause).retireCores n).setCond 9 true

/-- The events and records of a bundle pair that is retired as a whole (R238, R239). -/
def State.pairGone (s : State) (x : Nat) : State :=
  ({ s with stack := { s.stack with gone := s.stack.gone.add (x / 2) } } : State).raise 0x0703 (dieSD (bundleStack x)) [(1, bundlePair x)]

/-- A bundle pair is retired as a whole (R238). -/
def State.retirePair (s : State) (x : Nat) : State :=
  let y := bundlePartner x
  let s1 := (s.setWidth x 2 0 (s.bundle x).bind).setWidth y 2 0 (s.bundle y).bind
  let s2 := s1.setBundle x { s1.bundle x with pause := 0 }
  (s2.setBundle y { s2.bundle y with pause := 0 }).pairGone x

/-- Lanes that wore where a spare is left are replaced in the remap pause itself, which absorbs the wear (R244; log entry 93). -/
def State.absorb (s : State) (x : Nat) : State :=
  let b := s.bundle x
  if s.bundleState x = 2 ∨ b.plan ≠ 0 ∨ b.pause ≠ 0 then s
  else (b.worn.toList ++ b.wait).foldl (fun (t : State) l =>
    let c := t.bundle x
    match (if l < 68 then (t.spares x).head? else some 70) with
    | some p =>
      let bind := if l < 68 then c.bound.map (fun y => if y = l then p else y) else c.bind
      ((t.setBundle x { c with bind := bind, worn := none, wait := [] }).showBundle x).raise 0x0701 (dieSD (bundleStack x))
        [(1, bundlePair x), (1, bundleDir x), (1, l), (1, p)]
    | none => t.plan x) s

/-- What the end of a remap pause makes of one bundle, with the wear found meanwhile (R237, R238, R244). -/
def State.applyPlan (s : State) (x : Nat) : State :=
  let b := s.bundle x
  if b.plan = 0 ∨ s.bundleState x = 2 then s
  else match (if b.plan = 3 then 3 else s.planOf x) with
    | 3 => s.retirePair x
    | h =>
      let s1 := s.setWidth x 1 (h - 1) ((b.half (h - 1)).take 32)
      ((s1.setBundle x { s1.bundle x with pause := 4 }).sendControl x 3).raise 0x0702 (dieSD (bundleStack x))
        [(1, bundlePair x), (1, bundleDir x), (1, h - 1)]

/-- The messages whose beats stand in a list. -/
def beatMessages : List Byte → List Beat → List (List Byte)
  | [], [] => []
  | m, [] => [m]
  | m, b :: r => if b.last then (m ++ b.data) :: beatMessages [] r else beatMessages (m ++ b.data) r

/-- Messages a bundle has taken over and not delivered, in order: what has arrived of one, the kept beats from the next one expected on,
and what waits (R233, R242). -/
def Bundle.held (b : Bundle) : List (List Byte) :=
  beatMessages b.part (((b.sent.dropWhile (fun e => e.1 != b.next)).map (·.2)) ++ b.q)

/-- Whether a message is partly delivered. -/
def Bundle.midway (b : Bundle) : Bool := !b.part.isEmpty || b.sent.any (fun e => e.1 == b.next)

/-- The bundles of a direction that have messages to move to a new slot list: one that leaves service gives up all it holds, another what
it has not begun to send (R242). -/
def State.moveHeld (s : State) (old : List (Nat × Bundle)) : State :=
  let moved := old.flatMap (fun e => if s.bundleState e.1 = 2 then e.2.held
    else if e.2.midway then e.2.held.drop 1 else e.2.held)
  let s1 := old.foldl (fun (t : State) e =>
    let b := t.bundle e.1
    if t.bundleState e.1 = 2 then t.setBundle e.1 { b with q := [], sent := [], part := [], used := 0 }
    else if e.2.midway then
      let k := (b.q.takeWhile (fun d => !d.last)).length + 1
      let begun := !b.sent.isEmpty && !((b.sent.getLast?.map (fun d => d.2.last)).getD true)
      t.setBundle e.1 { b with q := if begun then b.q.take k else [] }
    else t.setBundle e.1 { b with q := [] }) s
  match old.head? with
  | none => s1
  | some e => moved.foldl (fun (t : State) m => t.onBundle (bundleStack e.1) (bundleDir e.1) (noteOf m).line m) s1

/-- Fewer pairs than MIN_PAIRS: the watch room retires the compute die (R238, R258). -/
def State.cutCheck (s : State) (n : Nat) : State :=
  if s.rd F.STK_VB_STACK_PAIRS n < s.rd F.STK_VB_CTRL_MIN_PAIRS ∧ !s.bit F.STK_VB_STACK_CUT n then
    ((s.wr F.STK_VB_STACK_CUT n 1).retireCd n 3).raise 0x0704 (dieSD n) []
  else s

/-- The remap pauses of some directions of a stack end: bundles take half width, change halves or retire with their pairs, both ends adopt
the new slot list, and what was held goes out on it (R237, R238, R242, R244). -/
def State.endRemap (s : State) (n : Nat) (ds : List Nat) : State :=
  let old := ds.map (fun d => (dirBundles n d).map (fun x => (x, s.bundle x)))
  let xs := ds.flatMap (dirBundles n)
  let s1 := xs.foldl State.applyPlan (xs.foldl State.absorb s)
  let s2 := ds.foldl (fun (t : State) d =>
    { t with stack := { t.stack with remap := (t.stack.remap.del (2 * n + d)).del (24 + 2 * n + d) } }) s1
  ((old.foldl State.moveHeld s2).showStack n).cutCheck n

/-- Whether a pair of the stack is to retire, which takes remap pauses of both directions. -/
def State.pairLeaves (s : State) (n : Nat) : Bool :=
  (dirBundles n 0 ++ dirBundles n 1).any (fun x => (s.bundle x).plan == 3 && s.bundleState x != 2)

/-- VB_REMAP_DRAINED: the receivers of a direction have drained, and its remap pause ends; where a pair retires, it ends once those of the
other direction have drained too, for the slot lists of both change (R238, R242). -/
def execVbRemapDrained (n : Fin 12) (up : Bool) (s : State) : Out :=
  let d := b2n up
  let k := 2 * n.val + d
  let o := 2 * n.val + (1 - d)
  if !s.stack.remap.contains k then .next s
  else if !s.pairLeaves n then .next (s.endRemap n [d])
  else if s.stack.remap.contains o ∧ s.stack.remap.contains (24 + o) then .next (s.endRemap n [0, 1])
  else .next { s with stack := { s.stack with remap := s.stack.remap.add (24 + k) } }

/-- Build one bundle from the lanes that failed the start test or are fused, in the numbers of R234 with 70 SBS and 71 CLK: whether
VB_START_DEGRADED names it, for fewer than 64 good lanes or as part of a pair retired in service and built again (R235, R239). Lanes worn
in service stay excluded; but for a cold start a retired pair stays retired and a half-width bundle at half width. -/
def State.buildBundle (s : State) (x : Nat) (bad : List Nat) (cold : Bool) : State × Bool :=
  let old := s.bundleState x
  let flash := (s.stack.wornFlash.filter (fun k => k / 128 == x)).map (· % 128)
  let all := bad ++ flash
  let sideOf := fun (l : Nat) => if l = 71 then 0 else l - 67
  let b : Bundle := { bad := (all.filter (· < 68)).foldl NSet.add [], side := ((all.filter (68 ≤ ·)).map sideOf).foldl NSet.add [] }
  let s1 := s.setBundle x b
  let good := b.half 0 ++ b.half 1
  let few := decide (good.length < 64)
  if !cold ∧ old = 2 then (s1.setBundle x { (s1.bundle x) with bind := [] }, false)
  else if b.sideLost then (s1.setWidth x 2 0 [], few)
  else if 64 ≤ good.length ∧ (cold ∨ old = 0) then
    (s1.setWidth x 0 0 (if good.take 64 = List.range 64 then [] else good.take 64), cold && s.stack.gone.contains (x / 2))
  else
    let s2 := if cold then s1.wr F.STK_VB_BUNDLE_STATE x 0 else s1
    let keep := !cold && old == 1 && decide (32 ≤ (b.half (s.rd F.STK_VB_BUNDLE_HALF_SEL x)).length)
    match (if keep then s.rd F.STK_VB_BUNDLE_HALF_SEL x + 1 else s2.planOf x) with
    | 3 => (s2.setWidth x 2 0 [], few)
    | h => (s2.setWidth x 1 (h - 1) ((b.half (h - 1)).take 32), few || (cold && s.stack.gone.contains (x / 2)))

/-- Pairs of a stack, by their down bundle. -/
def stackPairs (n : Nat) : List Nat := (List.range 64).map (fun p => 128 * n + 2 * p)

/-- Build every bundle of a stack (R235, R238, R239): those that VB_START_DEGRADED names, ascending. A pair of which a bundle cannot run
is retired. -/
def State.buildStack (s : State) (n : Nat) (tests : List (Nat × List Nat)) (cold : Bool) : State × List Nat :=
  let xs := (List.range 128).map (128 * n + ·)
  let was := (stackPairs n).filter (fun x => !cold && s.bundleState x == 2)
  let r := xs.foldl (fun (a : State × List Nat) x =>
    let t := a.1.buildBundle x ((tests.filter (fun (e : Nat × List Nat) => e.1 == x)).flatMap (·.2)) cold
    (t.1, if t.2 then a.2 ++ [x] else a.2)) (s, [])
  let dead := (stackPairs n).filter (fun x => (r.1.bundleState x == 2 || r.1.bundleState (x + 1) == 2) && !was.contains x)
  let s0 := { r.1 with stack := { r.1.stack with gone := r.1.stack.gone.filter (fun p => p / 64 != n || was.contains (2 * p)) } }
  let s1 := dead.foldl (fun (t : State) x => t.retirePair x) s0
  let up := s1.stack.remap
  let s2 := { s1 with stack := { s1.stack with remap := (((up.del (2 * n)).del (2 * n + 1)).del (24 + 2 * n)).del (25 + 2 * n) } }
  ((s2.showStack n).cutCheck n, r.2)

end Sys2Proof.Machine
end

