-- ==== Sys2Proof/Machine/Fabric.lean ====
section
/-!
DEFINITION. Rings of the fabric and the ports: the transition table of R159, repair of a failed ring (R163 to R165, R272), lane
tests (R173), quality figures (R174, R273), feed-forward (R161) and hot headroom (R162).
-/
namespace Sys2Proof.Machine

/-- The row a ring stands in, with its channel: position, or the channel a spare has been retuned to. -/
structure RingPlace where
  fab : Bool
  ep : Nat
  plane : Nat
  port : Nat
  rx : Bool
  chan : Option Nat
  spare : Option Nat
  deriving DecidableEq, Repr

def State.place (s : State) (r : Ring) : RingPlace :=
  let c := (s.ring (ringKey r)).chan
  match r with
  | .fab ep plane pos rx =>
    let sp := if pos.val = 0 then some 0 else if pos.val = 16 then some 1 else none
    ⟨true, ep, plane, 0, rx, if sp.isSome then c else some pos.val, sp⟩
  | .port p pos rx =>
    let sp := if 32 ≤ pos.val then some (pos.val - 32) else none
    ⟨false, 0, 0, p, rx, if sp.isSome then c else some pos.val, sp⟩

/-- The pair whose lane a fabric ring of channel `c` serves (R151). -/
def ringPair (ep c : Nat) (rx : Bool) : Nat :=
  let c := c % 16
  if rx then ((ep + 16 - c) % 16) * 16 + ep else ep * 16 + (ep + c) % 16

/-- The link whose lane a port ring of channel `c` serves (R269). -/
def ringLink (p c : Nat) (rx : Bool) : Nat := 32 * p + (if rx then otherLane c else c)

/-- The lane of a pair bound to a slot, or the unused reserve slot itself (30, 31); none for a slot that its lane has left. -/
def State.laneAt (s : State) (pr plane c : Nat) : Option Nat :=
  match (List.range 30).find? (fun n => s.laneSlot pr n == (plane, c)) with
  | some n => some n
  | none => [30, 31].find? (fun m => (pairSlots (pairOffset (pr / 16) (pr % 16))).getD m (0, 0) == (plane, c))

def State.setUntested (s : State) (pr n : Nat) (u : Bool) : State :=
  { s with fab := { s.fab with untested := if u then s.fab.untested.add (pr * 32 + n) else s.fab.untested.del (pr * 32 + n) } }

def State.markSuspect (s : State) (k : Nat) : State := { s with fab := { s.fab with suspect := s.fab.suspect.add k } }

/-- Keys of lanes in the set of suspects: pair × 32 + lane, then links. -/
def laneKey : LaneId → Nat
  | .pair i j n => (16 * i.val + j.val) * 32 + n.val
  | .spare ep plane k => 9000 + (ep.val * 16 + plane.val) * 2 + k.val
  | .link x => 10000 + x.val
  | .loop p => 10768 + p.val

/-- What follows for the lane of a ring whose state changed: its pair's or link's state; with `withdraw` the lane needs a
new test (R159, R160). -/
def State.ringChanged (s : State) (r : Ring) (withdraw : Bool) : State :=
  let pl := s.place r
  match pl.chan with
  | none => s
  | some c =>
    if pl.fab then
      let pr := ringPair pl.ep c pl.rx
      match s.laneAt pr pl.plane c with
      | some n => (if withdraw then s.setUntested pr n true else s).refreshPair pr
      | none => s
    else s.linkRing (ringLink pl.port c pl.rx)

/-! ## Repair -/

/-- Key of a substitution unit: endpoint × 16 + plane, then ports (R165, R272). -/
def unitKey : SubPart → Nat
  | .fab ep plane => ep.val * 16 + plane.val
  | .port p => 256 + p.val

def RingPlace.unit (p : RingPlace) : Nat := if p.fab then p.ep * 16 + p.plane else 256 + p.port

def State.unit (s : State) (u : Nat) : SubUnit := tget (fun _ => {}) s.fab.units u

def State.setUnit (s : State) (u : Nat) (x : SubUnit) : State :=
  { s with fab := { s.fab with units := tput (fun _ => {}) s.fab.units u x } }

/-- The ring of spare `k` of a unit. -/
def unitSpare (u : Nat) (rx : Bool) (k : Nat) : Nat :=
  if u < 256 then fabRing (u / 16) (u % 16) rx (16 * k) else portRing (u - 256) rx (32 + k)

/-- A free spare for a channel: on the fabric the lower-numbered of two (R163), on a port spare ⌊c / 8⌋ (R268, R272). -/
def State.freeSpare (s : State) (u : Nat) (j : Repair) : Option Nat :=
  (if u < 256 then [0, 1] else [j.chan / 8]).find? (fun k =>
    let r := s.ring (unitSpare u j.rx k)
    r.chan.isNone && r.st != 4)

/-- Count a spare as in use or retired (R180, R293). -/
def State.useSpare (s : State) (u : Nat) (rx : Bool) (k : Nat) : State :=
  if u < 256 then
    let f := if rx then F.FAB_SPARE_RX_USED else F.FAB_SPARE_TX_USED
    let p := u % 16
    let v := s.rd f (u / 16)
    if v / 4 ^ p % 4 < 2 then s.wr f (u / 16) (v + 4 ^ p) else s
  else
    let f := if rx then F.PRT_PORT_SPARE_RX else F.PRT_PORT_SPARE_TX
    let v := s.rd f (u - 256)
    if bitAt v k then s else s.wr f (u - 256) (v + 2 ^ k)

/-- An unused reserve slot of a pair whose ring and filter are locked and tested (R163). -/
def State.freeReserve (s : State) (pr : Nat) : Option Nat :=
  [30, 31].find? (fun m => !s.fab.noSlot.contains (pr * 32 + m) && !s.fab.untested.contains (pr * 32 + m) &&
    !(List.range 30).any (fun n => tget id s.fab.steer (pr * 32 + n) == pr * 32 + m) &&
    s.slotLocked pr ((pairSlots (pairOffset (pr / 16) (pr % 16))).getD m (0, 0)))

/-- SHORT of a pair: its lanes that are out with no substitute (R179). -/
def State.showOut (s : State) (pr : Nat) : State :=
  s.wr F.FAB_PAIR_SHORT pr ((List.range 30).filter (fun n => s.fab.out.contains (pr * 32 + n))).length

/-- A lane stays out: LANE_SHORT with the pair and its lanes in service, or PORT_LANE_OUT (R163, R272). -/
def State.laneOut (s : State) (u : Nat) (j : Repair) : State :=
  if u < 256 then
    let s1 : State := { s with fab := { s.fab with out := s.fab.out.add (j.pair * 32 + j.lane) } }
    (s1.showOut j.pair).raise 0x0305 (epDie (j.pair / 16)) [(1, j.pair), (1, (s.lanesUp j.pair).length)]
  else (if j.lane % 32 = 0 then s else s.linkDark j.lane).raise 0x0505 (dieIO ((u - 256) / 6)) (linkData j.lane)

/-- Begin the first waiting repair of a unit when it is free, choosing its step in the order of R163; a repair for which no
step applies ends with its lane out and the next begins. -/
def State.repairNext (u : Nat) : Nat → State → State
  | 0, s => s
  | fuel + 1, s =>
    let x := s.unit u
    match x.jobs with
    | [] => s
    | j :: r =>
      if j.step ≠ 0 ∨ x.held ≠ [] ∨ x.window then s
      else
        let spareOk := if u < 256 then s.bit F.FAB_CTRL_SPARE_ENABLE else true
        match (if spareOk then s.freeSpare u j else none) with
        | some k =>
          let key := unitSpare u j.rx k
          let s1 := (s.setRing key { s.ring key with chan := some j.chan, st := 1, fails := 0 }).useSpare u j.rx k
          s1.setUnit u { x with jobs := { j with spare := k, step := 1 } :: r }
        | none =>
          let onReserve := 30 ≤ tget id s.fab.steer (j.pair * 32 + j.lane) % 32
          match (if u < 256 ∧ s.bit F.FAB_CTRL_RESERVE_ENABLE ∧ !onReserve then s.freeReserve j.pair else none) with
          | some m =>
            let s1 := { s with fab := { s.fab with steer := tput id s.fab.steer (j.pair * 32 + j.lane) (j.pair * 32 + m) } }
            (s1.setUntested j.pair j.lane true).setUnit u { x with jobs := { j with reserve := true, step := 2 } :: r }
          | none => State.repairNext u fuel ((s.setUnit u { x with jobs := r }).laneOut u j)

/-- Add a repair to its unit and begin it if the unit is free. -/
def State.repair (s : State) (u : Nat) (j : Repair) : State :=
  let x := s.unit u
  State.repairNext u (x.jobs.length + 1) (s.setUnit u { x with jobs := x.jobs ++ [j] })

/-- A ring is RETIRED (R159, R163): RING_RETIRED of a fabric ring with endpoint, plane, channel and kind; a spare counts as
used, the ring of an unused reserve slot makes the slot unusable, and any other starts a repair of its lane. -/
def State.retireRing (s : State) (r : Ring) : State :=
  let k := ringKey r
  let pl := s.place r
  let s1 := s.setRing k { s.ring k with st := 4, chan := none, fails := 0 }
  let s2 := if pl.fab then s1.raise 0x0302 (epDie pl.ep)
      [(1, pl.ep), (1, pl.plane), (1, pl.chan.getD (16 * pl.spare.getD 0)), (1, b2n pl.rx)] else s1
  let s3 := match pl.spare with
    | some sp => if pl.chan.isNone then s2.useSpare pl.unit pl.rx sp else s2
    | none => s2
  match pl.chan with
  | none => s3
  | some c =>
    if pl.fab then
      let pr := ringPair pl.ep c pl.rx
      match s.laneAt pr pl.plane c with
      | none => s3
      | some n =>
        if 30 ≤ n then { s3 with fab := { s3.fab with noSlot := s3.fab.noSlot.add (pr * 32 + n) } }
        else ((s3.setUntested pr n true).refreshPair pr).repair pl.unit { rx := pl.rx, chan := c, pair := pr, lane := n }
    else
      let x := ringLink pl.port c pl.rx
      (if s3.linkState x = 6 then s3.linkPause x 2 else s3.linkRing x).repair pl.unit { rx := pl.rx, chan := c, pair := 0, lane := x }

/-- A repair ends: its unit takes the next. -/
def State.repairEnd (s : State) (u : Nat) : State :=
  let x := s.unit u
  State.repairNext u (x.jobs.length + 1) (s.setUnit u { x with jobs := x.jobs.drop 1 })

/-- The spare of a running repair failed its lock or its test: it is retired and the next step of R163 applies (R165). -/
def State.spareFailed (s : State) (u : Nat) (j : Repair) : State :=
  let key := unitSpare u j.rx j.spare
  let s1 := s.setRing key { s.ring key with st := 4, chan := none }
  let s2 := if u < 256 then s1.raise 0x0302 (epDie (u / 16)) [(1, u / 16), (1, u % 16), (1, j.chan), (1, b2n j.rx)] else s1
  let x := s2.unit u
  State.repairNext u (x.jobs.length + 1) (s2.setUnit u { x with jobs := { j with step := 0, reserve := false } :: x.jobs.drop 1 })

/-- A reserve slot failed its test: it is unusable, and the next step of R163 applies. -/
def State.reserveFailed (s : State) (u : Nat) (j : Repair) : State :=
  let m := tget id s.fab.steer (j.pair * 32 + j.lane)
  let s1 := { s with fab := { s.fab with noSlot := s.fab.noSlot.add m,
                                         steer := tput id s.fab.steer (j.pair * 32 + j.lane) (j.pair * 32 + j.lane) } }
  let x := s1.unit u
  State.repairNext u (x.jobs.length + 1) (s1.setUnit u { x with jobs := { j with step := 0, reserve := false } :: x.jobs.drop 1 })

/-- A repair's lane test passed: the lane is restored, with SPARE_RING_USED, RESERVE_SLOT_USED or PORT_SPARE_USED
(R163, R164, R272). -/
def State.repairDone (s : State) (u : Nat) (j : Repair) : State :=
  if u < 256 then
    let s1 := s.setUntested j.pair j.lane false
    let s2 := if j.reserve then
        (s1.bump F.FAB_PAIR_RESERVE_USED j.pair 1).raise 0x0304 (epDie (u / 16)) [(1, j.pair), (1, (s.laneSlot j.pair j.lane).1)]
      else s1.raise 0x0303 (epDie (u / 16)) [(1, j.spare)]
    (s2.refreshPair j.pair).repairEnd u
  else (((s.raise 0x0504 (dieIO ((u - 256) / 6)) (linkData j.lane)).linkRing j.lane).linkResume j.lane).repairEnd u

/-! ## The commands of R159 -/

/-- Base die and region of it under the row of a ring: EP(3q) to EP(3q+2), then EP(12+q) with its ports (R158, R407). -/
def ringRegion : Ring → Nat × Nat
  | .fab ep _ _ _ => if ep.val < 12 then (ep / 3, ep % 3) else (ep - 12, 3)
  | .port p _ _ => (p / 6, 3)

/-- Whether both pairs of a base-die region hold a broken sensor (R407). -/
def State.rowBroken (s : State) (bd r : Nat) : Bool :=
  bitAt (s.rd F.THM_BROKEN_PAIRS bd) (2 * r) && bitAt (s.rd F.THM_BROKEN_PAIRS bd) (2 * r + 1)

/-- What ring lock reads of a region, in 0.25 °C: its reading, or for a broken one the highest of the others plus 5 °C; a region not
sampled yet is in range, and a base die all of whose regions are broken reads none (R407; log entry 66). -/
def State.rowTemp (s : State) (bd r : Nat) : Option Int :=
  let at_ := fun (i : Nat) => tget (fun _ => (200 : Int)) s.pwr.regions (32 * bd + i)
  if !s.rowBroken bd r then some (at_ r)
  else match (List.range 8).filter (fun i => !s.rowBroken bd i) with
    | [] => none
    | i :: rest => some (rest.foldl (fun a j => max a (at_ j)) (at_ i) + 20)

/-- In range: 45 °C to 80 °C under the ring's row (R159). -/
def State.inRange (s : State) (r : Ring) : Bool :=
  match s.rowTemp (ringRegion r).1 (ringRegion r).2 with
  | some t => decide (180 ≤ t) && decide (t ≤ 320)
  | none => false

/-- A seeking ring that finds no light or is out of range is PARKED, its attempt count cleared (R159). -/
def State.parkSeek (s : State) (k : Nat) (dark : Bool) : State := s.setRing k { s.ring k with st := 0, fails := 0, dark := dark }

/-- RING_SEEK_BEGIN: light valid, in range, lock enabled by start-up: a PARKED ring seeks from its commissioned code, which start-up
found or a calibration window has adopted (R159, R437). -/
def execRingSeekBegin (r : Ring) (s : State) : Out :=
  let k := ringKey r
  if s.fab.up ∧ (s.ring k).st = 0 ∧ s.inRange r then
    .next (s.setRing k { s.ring k with st := 1, fails := 0, dark := false, lift := tget (fun _ => 0) s.fab.codes k })
  else .next s

/-- RING_SEEK_LOCK: detuning within 10 pm for 50 µs: LOCKED, the attempt count cleared (R159). -/
def execRingSeekLock (r : Ring) (s : State) : Out :=
  let k := ringKey r
  if (s.ring k).st = 1 ∧ !s.inRange r then .next (s.parkSeek k false)
  else if (s.ring k).st = 1 then
    .next ((s.setRing k { s.ring k with st := 2, fails := 0, dark := false, seen := false }).ringChanged r false)
  else .next s

/-- RING_SEEK_ATTEMPT_FAIL: an attempt fails in range; the third in a row retires the ring and starts its repair; out of range the ring
parks (R159). -/
def execRingSeekAttemptFail (r : Ring) (s : State) : Out :=
  let k := ringKey r
  let g := s.ring k
  if g.st = 1 ∧ !s.inRange r then .next (s.parkSeek k false)
  else if g.st = 1 then
    if g.fails < 2 then .next (s.setRing k { g with fails := g.fails + 1 })
    else
      let pl := s.place r
      match (s.unit pl.unit).jobs with
      | j :: _ =>
        if j.step = 1 ∧ unitSpare pl.unit j.rx j.spare = k then .next (s.spareFailed pl.unit j) else .next (s.retireRing r)
      | [] => .next (s.retireRing r)
  else .next s

/-- RING_LIGHT_LOST: light not valid, or out of range: SEEK parks, LOCKED goes to HOLD (R159). -/
def execRingLightLost (r : Ring) (s : State) : Out :=
  let k := ringKey r
  let g := s.ring k
  if g.st = 1 then .next (s.parkSeek k true)
  else if g.st = 2 then .next ((s.setRing k { g with st := 3, dark := true }).ringChanged r false)
  else if g.st = 3 then .next (s.setRing k { g with dark := true })
  else .next s

/-- RING_DETUNE_LOSS: detuning above 40 pm for 20 µs: the lane is withdrawn and suspect, LOCK_LOST raised (R159). -/
def execRingDetuneLoss (r : Ring) (s : State) : Out :=
  let k := ringKey r
  let g := s.ring k
  if g.st = 2 then
    let pl := s.place r
    let c := pl.chan.getD (16 * pl.spare.getD 0)
    let s1 := s.setRing k { g with st := 1, fails := 0 }
    let s2 := if pl.fab then s1.raise 0x0301 (epDie pl.ep) [(1, pl.ep), (1, pl.plane), (1, c)] else s1
    let s3 := if pl.chan.isNone then s2
      else if pl.fab then
        match s.laneAt (ringPair pl.ep c pl.rx) pl.plane c with
        | some n => s2.markSuspect (ringPair pl.ep c pl.rx * 32 + n)
        | none => s2
      else s2.markSuspect (10000 + ringLink pl.port c pl.rx)
    .next (s3.ringChanged r true)
  else .next s

/-- A test of a repair ends: a pass restores the lane, a failure takes the next step of R163 (R163 to R165). -/
def State.testEnd (s : State) (u : Nat) (j : Repair) (pass : Bool) : State :=
  if pass then s.repairDone u j else if j.reserve then s.reserveFailed u j else s.spareFailed u j

/-- No HOLD pauses a unit any more: what a test has found meanwhile takes effect, and the next repair begins (R165). -/
def State.unitResume (s : State) (u : Nat) : State :=
  let x := s.unit u
  match x.jobs with
  | j :: _ => if 3 ≤ j.step then s.testEnd u j (j.step == 3) else State.repairNext u (x.jobs.length + 1) s
  | [] => s

/-- A HOLD request also pauses the substitution of its unit, which goes on when the last is released (R165). -/
def State.holdPart (s : State) (r : Ring) (on : Bool) : State :=
  let u := (s.place r).unit
  let x := s.unit u
  if on then s.setUnit u { x with held := x.held.add (ringKey r) }
  else
    let s1 := s.setUnit u { x with held := x.held.del (ringKey r) }
    if x.held.del (ringKey r) = [] then s1.unitResume u else s1

/-- RING_HOLD_REQUEST: a LOCKED ring goes to HOLD (R159); an ACTIVE link of a port pauses first (R284). -/
def execRingHoldRequest (r : Ring) (s : State) : Out :=
  let k := ringKey r
  let g := s.ring k
  let s1 := s.holdPart r true
  if g.st = 2 then
    let pl := s.place r
    let s2 := s1.setRing k { g with st := 3, hold := true }
    match pl.chan with
    | none => .next s2
    | some c => if pl.fab then .next (s2.ringChanged r false) else .next (s2.linkPause (ringLink pl.port c pl.rx) 0)
  else .next s1

/-- RING_HOLD_RELEASE: HOLD ends with light valid and the ring relocks within 200 µs (R159); a link paused here resumes
(R284), and a paused substitution goes on (R165). -/
def execRingHoldRelease (r : Ring) (s : State) : Out :=
  let k := ringKey r
  let g := s.ring k
  let s1 := s.holdPart r false
  if g.st = 3 then
    let pl := s.place r
    let s2 := s1.setRing k { g with st := 2, hold := false, dark := false }
    match pl.chan with
    | none => .next s2
    | some c =>
      if pl.fab then .next (s2.ringChanged r false)
      else
        let x := ringLink pl.port c pl.rx
        .next (if s2.linkState x = 7 then s2.linkResume x else s2.linkRing x)
  else .next s1

/-- RING_HOLD_EXPIRE: detuning above 10 pm 200 µs after HOLD: the ring seeks and its lane is withdrawn (R159). -/
def execRingHoldExpire (r : Ring) (s : State) : Out :=
  let k := ringKey r
  let g := s.ring k
  if g.st = 3 then
    .next (((s.holdPart r false).setRing k { g with st := 1, fails := 0, hold := false, dark := false }).ringChanged r true)
  else .next s

/-- RING_HOLD_PARK: HOLD lasts 20 ms with light not valid: PARKED, the lane withdrawn (R159). -/
def execRingHoldPark (r : Ring) (s : State) : Out :=
  let k := ringKey r
  let g := s.ring k
  if g.st = 3 ∧ g.dark then .next ((s.setRing k { g with st := 0, hold := false }).ringChanged r true) else .next s

/-! ## Substitution and tests -/

/-- SUBSTITUTION_START: a waiting substitution starts when its plane or port is free (R165). -/
def execSubstitutionStart (u : SubPart) (s : State) : Out :=
  .next (State.repairNext (unitKey u) ((s.unit (unitKey u)).jobs.length + 1) s)

/-- The spare of substitution unit `k` has locked, and the lane test begins, or it failed; while the substitution is held nothing
changes (R164, R165). -/
def State.retuneDone (s : State) (k : Nat) (ok : Bool) : State :=
  let x := s.unit k
  match x.jobs with
  | [] => s
  | j :: r =>
    if j.step = 1 ∧ x.held = [] then
      if ok then
        let key := unitSpare k j.rx j.spare
        (s.setRing key { s.ring key with st := 2, fails := 0 }).setUnit k { x with jobs := { j with step := 2 } :: r }
      else s.spareFailed k j
    else s

/-- SPARE_RETUNE_DONE: the spare has reached its channel and locked, and the lane test begins; or it failed (R164, R165). While
the substitution is held it restarts its retune on release. -/
def execSpareRetuneDone (u : SubPart) (ok : Bool) (s : State) : Out := .next (s.retuneDone (unitKey u) ok)

/-- The repair under test on a lane, with its unit: any unit whose first repair is in its test step. -/
def State.testJob (s : State) (t : LaneId) : Option (Nat × Repair) :=
  let hit := fun (u : Nat) (j : Repair) => j.step == 2 && (match t with
    | .pair a b n => decide (u < 256) && j.pair == 16 * a.val + b.val && j.lane == n.val
    | .link x => decide (256 ≤ u) && j.lane == x.val
    | .loop p => decide (256 ≤ u) && j.lane == 32 * p.val
    | .spare _ _ _ => false)
  s.fab.units.findSome? (fun (e : Nat × SubUnit) =>
    match e.2.jobs with
    | j :: _ => if hit e.1 j then some (e.1, j) else none
    | [] => none)

/-- Whether a test passes (R173); one at start-up also shows the margin of R157 over the sensitivity of R156. -/
def testPass (r : TestRead) (start : Bool) : Bool :=
  decide (r.errors ≤ 10) && decide (24 ≤ r.eye) && decide (r.detuneTx ≤ 10) && decide (r.detuneRx ≤ 10) &&
  (!start || decide (-2470 + 400 ≤ r.power))

/-- Whether it is the receive filter of a lane that is retired: its detuning exceeds a limit, and that of the transmit ring does not
(R174; log entry 12). -/
def rxFaulty (limit tx rx : Nat) : Bool := decide (tx ≤ limit) && decide (limit < rx)

/-- The ring or filter that serves a lane or link. -/
def State.laneRing (s : State) (t : LaneId) (rx : Bool) : Ring :=
  match t with
  | .pair i j n =>
    let sl := s.laneSlot (16 * i.val + j.val) n
    let e := if rx then j else i
    .fab e (Fin.ofNat 16 sl.1) (Fin.ofNat 32 (s.servesFab e sl.1 rx sl.2 % 32)) rx
  | .spare ep plane k => .fab ep plane (Fin.ofNat 32 (16 * k.val)) rx
  | .link x =>
    let c := if rx then otherLane (x % 32) else x % 32
    .port (Fin.ofNat 24 (x / 32)) (Fin.ofNat 36 ((s.servesPort (x / 32) rx c - 16384) % 36)) rx
  | .loop p => .port p (Fin.ofNat 36 ((s.servesPort p rx 0 - 16384) % 36)) rx

/-- What the lane 0 loopback of a port shows (R289, R293). -/
def State.loopTest (s : State) (t : LaneId) (pass : Bool) : State :=
  match t with
  | .loop p =>
    let s1 := s.wr F.PRT_PORT_LOOP_OK p (b2n pass)
    if pass then s1 else s1.raise 0x0506 (dieIO (p / 6)) [(1, p)]
  | _ => s

/-- A lane or loopback test ends (R173). The test of a repair goes to its unit, at the next step boundary while a HOLD pauses it; a lane
or spare that fails otherwise has its ring or filter retired (R163, R165, R174). -/
def State.laneTest (s0 : State) (t : LaneId) (pass rx : Bool) : State :=
  let s := s0.loopTest t pass
  match s.testJob t with
  | some (u, j) =>
    let x := s.unit u
    if x.held = [] then s.testEnd u j pass
    else s.setUnit u { x with jobs := { j with step := if pass then 3 else 4 } :: x.jobs.drop 1 }
  | none =>
    match t with
    | .pair i j n =>
      let pr := 16 * i.val + j.val
      if i = j then s
      else if pass then (s.setUntested pr n false).refreshPair pr
      else ((s.setUntested pr n true).refreshPair pr).retireRing (s.laneRing t rx)
    | .spare _ _ _ => if pass then s else s.retireRing (s.laneRing t rx)
    | .link x => if pass ∨ x.val % 32 = 0 then s else s.retireRing (s.laneRing t rx)
    | .loop _ => s

/-- The readings of a test decide it. -/
def State.judgeTest (s : State) (t : LaneId) (r : TestRead) (start : Bool) : State :=
  s.laneTest t (testPass r start) (rxFaulty 10 r.detuneTx r.detuneRx)

/-- LANE_TEST_DONE: a lane or loopback test ends (R173). -/
def execLaneTestDone (t : LaneId) (r : TestRead) (s : State) : Out := .next (s.judgeTest t r false)

/-! ## Quality figures -/

/-- The first figure of a window over its threshold (R174): eye, detuning, bit error ratio, flits lost. -/
def State.worstFigure (s : State) (q : Quality) : Option Nat :=
  if q.eye < s.rd F.FAB_QTHR_EYE then some 0
  else if s.rd F.FAB_QTHR_DETUNE < max q.detuneTx q.detuneRx then some 1
  else if 10 ^ (12 - s.rd F.FAB_QTHR_BER) < q.ber then some 2
  else if 10 < q.lost then some 3
  else none

/-- Whether every figure meets its clear level (R174). -/
def State.figuresClear (s : State) (q : Quality) : Bool :=
  decide (s.rd F.FAB_QTHR_EYE + 4 ≤ q.eye) && decide (max q.detuneTx q.detuneRx + 8 ≤ s.rd F.FAB_QTHR_DETUNE) &&
  decide (q.ber < 10 ^ (12 - (s.rd F.FAB_QTHR_BER + 1))) && q.lost == 0

/-- Keep the detuning of a ring or filter that a window has measured (R174). -/
def State.noteDetune (s : State) (r : Ring) (d : Nat) : State := s.setRing (ringKey r) { s.ring (ringKey r) with detune := d }

/-- Retire the ring or filter of a condemned lane (R174). -/
def State.condemn (s : State) (l : LaneId) : State :=
  let d := fun (rx : Bool) => (s.ring (ringKey (s.laneRing l rx))).detune
  s.laneTest l false (rxFaulty (s.rd F.FAB_QTHR_DETUNE) (d false) (d true))

/-- LANE_QUALITY_WINDOW: the windows of R174 end on a lane in service: `fast` over the windows that make it suspect, `slow`
over those that clear it (R174, R273). -/
def execLaneQualityWindow (l : LaneId) (fast slow : Quality) (s0 : State) : Out :=
  let k := laneKey l
  let s := (s0.noteDetune (s0.laneRing l false) fast.detuneTx).noteDetune (s0.laneRing l true) fast.detuneRx
  let live := match l with
    | .pair i j n => s0.laneUp (16 * i.val + j.val) n && i != j
    | .link x => s0.linkState x == 6
    | _ => false
  if !live || !s0.bit F.GLB_START_DONE then .next s0
  else if s.fab.suspect.contains k then
    if s.figuresClear slow then .next { s with fab := { s.fab with suspect := s.fab.suspect.del k } } else .next s
  else match s.worstFigure fast with
    | none => .next s
    | some fig =>
      match l with
      | .link x => .next ((s.markSuspect k).raise 0x050B (dieIO (x / 192)) (linkData x ++ [(1, fig)]))
      | .pair i _ _ => .next ((s.markSuspect k).raise 0x0308 (epDie i) [(1, fig)])
      | _ => .next s

/-! ## Lock loop and feed-forward -/

/-- The hot headroom of a ring in 0.25 °C: its heater lift, 7.5 m°C a code, and the part of the 6 °C of junction trim that is not used
(R158, R162). -/
def RingSt.headroom (r : RingSt) : Nat := (r.lift * 15 / 2 + (6000 - r.trim)) / 250

/-- The hot headroom of an endpoint: the least among its LOCKED rings and filters (R162), of those the loop has set since they locked. -/
def State.headroomOf (s : State) (ep : Nat) : Option Nat :=
  match (s.fab.rings.filter (fun e => decide (1024 * ep ≤ e.1) && decide (e.1 < 1024 * ep + 1024) && (s.ring e.1).st == 2 &&
      e.2.seen)).map (fun e => e.2.headroom) with
  | [] => none
  | d :: r => some (min 255 (r.foldl min d))

/-- RING_LOCK_LOOP_UPDATE: the loops of one endpoint's rings and filters set their heaters, at most 30 °C of lift, and their junction
trims, at most 6 °C, and the endpoint's hot headroom is reported; below 4.0 °C it raises HEADROOM_LOW and asks the compute die above for
a cap, and at 6.0 °C it clears (R158, R162). -/
def execRingLockLoopUpdate (ep : Fin 16) (meas : List RingMeas) (s : State) : Out :=
  let mine := meas.filter (fun m => match m.ring with | .fab e _ _ _ => e == ep | .port _ _ _ => false)
  let s1 := mine.foldl (fun (a : State) m =>
    let k := ringKey m.ring
    let r := a.ring k
    if r.st = 1 ∨ r.st = 2 then
      a.setRing k { r with lift := min 4000 m.heater.toNat, trim := min 6000 m.trim.toNat, seen := true }
    else a) s
  match s1.headroomOf ep with
  | none => .next s1
  | some h =>
    let s2 := s1.wr F.FAB_HEADROOM_HEADROOM ep h
    if h < 16 ∧ !s2.bit F.FAB_HEADROOM_LOW ep then
      let s3 := (s2.wr F.FAB_HEADROOM_LOW ep 1).raise 0x0309 (epDie ep) [(1, ep), (1, h)]
      .next (if ep.val < 12 then { s3 with fab := { s3.fab with capAsk := s3.fab.capAsk.add ep } } else s3)
    else if 24 ≤ h ∧ s2.bit F.FAB_HEADROOM_LOW ep then
      .next { ((s2.wr F.FAB_HEADROOM_LOW ep 0).raise 0x030A (epDie ep) []) with
        fab := { ((s2.wr F.FAB_HEADROOM_LOW ep 0).raise 0x030A (epDie ep) []).fab with capAsk := s2.fab.capAsk.del ep } }
    else .next s2

/-- FEED_FORWARD_UPDATE: every 10 µs the heaters of EPn's ring rows take −GAIN × ΔP, shaped by a first-order response of time
constant TAU (R161); GAIN counts 5/4 under CONSERVATIVE (R176). It acts in LOCKED and HOLD only. The step is
(target − output) × 10 / TAU in µ°C (log entry 13). -/
def execFeedForwardUpdate (n : Fin 12) (power : BitVec 16) (s : State) : Out :=
  if !s.bit F.GLB_START_DONE || !s.bit F.FAB_CTRL_FF_ENABLE || !s.bit F.STK_PKG_FF_TELEMETRY then .next s
  else
    let gain : Int := s.rd F.FAB_FF_GAIN n * (if s.rd F.FAB_CTRL_LOCK_PRESET = 1 then 1250 else 1000)
    let dp : Int := (power.toNat : Int) - tget (fun _ => 0) s.fab.ffPower n
    let tgt := tget (fun _ => 0) s.fab.ffTarget n - gain * dp
    let old := tget (fun _ => 0) s.fab.ffOut n
    let dy := (tgt - old) * 10 / (s.rd F.FAB_FF_TAU n : Int)
    let lo := n.val * 1024
    let rings := tmap (fun _ => ({} : RingSt)) (fun k r =>
      if lo ≤ k ∧ k < lo + 1024 ∧ r.st ≠ 2 ∧ r.st ≠ 3 then { r with heat := r.heat - dy } else r) s.fab.rings
    .next { s with fab := { s.fab with
      ffPower := tput (fun _ => 0) s.fab.ffPower n power.toNat, ffTarget := tput (fun _ => 0) s.fab.ffTarget n tgt,
      ffOut := tput (fun _ => 0) s.fab.ffOut n (old + dy), rings := rings } }

end Sys2Proof.Machine
end

