-- ==== Sys2Proof/Machine/Calib.lean ====
section
/-!
DEFINITION. Groups of rows out of service: draining and HOLD for a source switch-over (R192) and for calibration windows
(14_startup_and_calibration.md R435 to R438), and the windows themselves. Group 16 e + p is endpoint e on plane p; group 256 + p is
port p.
-/
namespace Sys2Proof.Machine

/-- Put the LOCKED rings of a list in HOLD at a request (R159). -/
def State.holdRings (s : State) (ks : List Nat) : State :=
  ks.foldl (fun (t : State) k => let r := t.ring k; if r.st = 2 then t.setRing k { r with st := 3, hold := true } else t) s

/-- End the HOLD request of a list of rings: one that has light and relocks, `ok`, is LOCKED (R159). -/
def State.freeRings (s : State) (ks : List Nat) (ok : Nat → Bool) : State :=
  ks.foldl (fun (t : State) k =>
    let r := t.ring k
    if r.st = 3 ∧ r.hold then t.setRing k { r with hold := false, st := if r.dark || !ok k then 3 else 2 } else t) s

def fabRow (ep plane : Nat) (rx : Bool) : List Nat := (List.range 32).map (fabRing ep plane rx)
def portRow (p : Nat) (rx : Bool) : List Nat := (List.range 36).map (portRing p rx)

/-- Pairs an endpoint takes part in. -/
def epPairs (ep : Nat) : List Nat := (List.range 16).map (16 * ep + ·) ++ (List.range 16).map (fun i => 16 * i + ep)

/-- Rows of the fabric go out of service, or come back (R160). -/
def State.drainRow (s : State) (ep plane : Nat) (on : Bool) : State :=
  let k := ep * 16 + plane
  { s with fab := { s.fab with drained := if on then s.fab.drained.add k else s.fab.drained.del k } }

/-- The mark of a switch-over among the HOLDs that pause a unit. -/
def switchHold : Nat := 100000

/-- A unit's substitutions pause with a switch-over's HOLD or wait for a window, and go on after it (R165). -/
def State.markUnit (s : State) (u : Nat) (held window : Bool) : State :=
  let x := s.unit u
  let hs := if held then x.held.add switchHold else x.held.del switchHold
  let s1 := s.setUnit u { x with held := hs, window := window }
  if hs ≠ [] ∨ window = true then s1 else s1.unitResume u

/-- I/O die, or endpoint's die, to which a group belongs (R544). -/
def groupDie (g : Nat) : Nat := if g < 256 then epDie (g / 16) else dieIO ((g - 256) / 6)

/-- Rings and filters of a group (R435). -/
def groupRings (g : Nat) : List Nat :=
  if g < 256 then fabRow (g / 16) (g % 16) false ++ fabRow (g / 16) (g % 16) true
  else portRow (g - 256) false ++ portRow (g - 256) true

/-- Length of a round, in ns (R435, R443). -/
def State.calRound (s : State) : Nat := s.rd F.GLB_CAL_CTRL_PERIOD * 60 * nsSec

/-- When a group's next slot begins: slots are a 280th of a round apart, in ascending order from step 12 on (R435). -/
def State.calSlot (s : State) (g : Nat) : Nat :=
  match tget (fun _ => 0) s.light.slot g with
  | 0 => s.light.calFrom + g * s.calRound / 280
  | t + 1 => t

/-- Whether a group's slot has come, or the time at which a window that was cut runs again (R435, R438). -/
def State.calDue (s : State) (g : Nat) : Bool :=
  match tget (fun _ => 0) s.light.again g with
  | 0 => decide (s.calSlot g ≤ s.now)
  | t + 1 => decide (t ≤ s.now)

/-- A group's slot is used: its next begins a round later; a window that runs again uses none (R435). -/
def State.useSlot (s : State) (g : Nat) : State :=
  if tget (fun _ => 0) s.light.again g = 0 then
    let late := (s.now - s.calSlot g) / s.calRound
    { s with light := { s.light with slot := tput (fun _ => 0) s.light.slot g (s.calSlot g + (late + 1) * s.calRound + 1) } }
  else s

/-- Steps 1 and 2 of a window: the group's lanes leave service, its rings are held (R436). -/
def State.openWindow (s : State) (g : Nat) : State :=
  let l1 : LightSt := { s.light with
    open_ := s.light.open_.add g
    again := tput (fun _ => 0) s.light.again g 0
    told := s.light.told.del g
    deferred := tput (fun _ => 0) s.light.deferred g 0 }
  let s0 : State := { s with light := l1 }
  if g < 256 then
    let s1 := ((s0.drainRow (g / 16) (g % 16) true).markUnit g ((s.unit g).held.contains switchHold) true).holdRings (groupRings g)
    (epPairs (g / 16)).foldl State.refreshPair s1
  else
    let s1 := (portLinks (g - 256)).foldl (fun (t : State) x => t.linkPause x 1) s0
    (s1.markUnit g ((s.unit g).held.contains switchHold) true).holdRings (groupRings g)

/-- Steps 5 and 6: HOLD released, the lanes whose rings are LOCKED restored (R436). -/
def State.closeWindow (s : State) (g : Nat) (ok : Nat → Bool) : State :=
  let s0 := ({ s with light := { s.light with open_ := s.light.open_.del g } } : State).freeRings (groupRings g) ok
  if g < 256 then
    let s1 := (s0.drainRow (g / 16) (g % 16) false).markUnit g ((s.unit g).held.contains switchHold) false
    (epPairs (g / 16)).foldl State.refreshPair s1
  else
    let s1 := (portLinks (g - 256)).foldl (fun (t : State) x => if (t.link x).pausedHere then t.linkResume x else t) s0
    s1.markUnit g ((s.unit g).held.contains switchHold) false

/-- A window ends at once, its results discarded; it runs again 1 s later (R194, R438). -/
def State.cutWindow (s : State) (g : Nat) : State :=
  if s.light.open_.contains g then
    let s1 := s.closeWindow g (fun _ => true)
    { s1 with light := { s1.light with again := tput (fun _ => 0) s1.light.again g (s1.now + nsSec + 1) } }
  else s

/-- The base die or I/O die on which windows are counted (R438): 0 to 3 base dies, 4 to 7 I/O dies. -/
def windowSeat (g : Nat) : Nat := if g < 256 then epBase (g / 16) else 4 + (g - 256) / 6

/-- Whether a module's switch-over waits for or works on a group (R194). -/
def State.laserWaits (s : State) (g : Nat) : Bool :=
  let m := if g < 256 then 3 * (g % 16 / 4) + 2 else 3 * ((g - 256) / 6) + (g - 256) % 6 / 3
  let n := if g < 256 then g % 4 else (g - 256) % 3
  let l : Laser := tget (fun _ => {}) s.light.mods m
  l.todo.contains n

/-- Whether the window would leave a pair with no lane in service, or a device that only this port reaches (R438). -/
def State.windowCuts (s : State) (g : Nat) : Bool :=
  if g < 256 then
    (epPairs (g / 16)).any (fun pr => !(s.lanesUp pr).isEmpty && (s.lanesUp pr).all (fun n => (s.laneSlot pr n).1 == g % 16))
  else
    let p := g - 256
    (portLinks p).any (fun x => s.linkState x == 6 &&
      !(List.range 24).any (fun o => o != p && (portLinks o).any (fun y => s.linkState y == 6 && s.linkPeer y == s.linkPeer x)))

/-- The lower dies whose reset keeps a group's window shut: the base die beneath it, and its endpoint's cache die (R438). -/
def groupDies (g : Nat) : List Nat :=
  if g < 256 then (12 + epBase (g / 16)) :: (if g / 16 < 12 then [g / 16] else []) else [12 + (g - 256) / 6]

/-- Whether a group is drained already, by a switch-over or for a removal (R192, R196). -/
def State.groupOut (s : State) (g : Nat) : Bool :=
  s.fab.drained.contains (if g < 256 then g else portOut (g - 256))

/-- Whether a group's window may open now: its slot has come, start-up done, no brown-out hold, no window on the same base die or I/O
die, no substitution on its unit, no switch-over, no drain for a removal, no die reset of its parts (R165, R194, R196, R438). -/
def State.windowFree (s : State) (g : Nat) : Bool :=
  s.calDue g && s.bit F.GLB_START_DONE && !s.bit F.PWR_FEED_BROWNOUT && !(s.light.open_.any (fun o => windowSeat o == windowSeat g)) &&
  !(s.unit g).jobs.any (fun j => j.step != 0) && !s.laserWaits g && !s.groupOut g && (groupDies g).all (fun n => s.rd F.STK_DIE_STATE n == 0)

/-- A window is deferred to its next slot; CAL_DEFERRED once the group has been deferred for 60 minutes (R438). -/
def State.deferWindow (s : State) (g : Nat) : State :=
  let since := tget (fun _ => 0) s.light.deferred g
  if since = 0 then { s with light := { s.light with deferred := tput (fun _ => 0) s.light.deferred g (s.now + 1) } }
  else if since + nsHour ≤ s.now + 1 ∧ !s.light.told.contains g then
    ({ s with light := { s.light with told := s.light.told.add g } } : State).raise 0x0B86 (groupDie g) [(2, g)]
  else s

/-- CAL_WINDOW_START: a group's window opens, waits, or is deferred because it would leave a pair or link with no lane (R435 to
R438). -/
def execCalWindowStart (g : Fin 280) (s : State) : Out :=
  if !s.windowFree g then .next s
  else if s.windowCuts g then .next ((s.deferWindow g).useSlot g)
  else .next ((s.useSlot g).openWindow g)

/-- CAL_WINDOW_ABORT: a temperature change, light loss or a die reset ends a window; it runs again (R438). -/
def execCalWindowAbort (g : Fin 280) (s : State) : Out := .next (s.cutWindow g)

/-! ## Results -/

def diffNat (a b : Nat) : Nat := a - b + (b - a)

/-- Two runs agree on a lane (R437). -/
def runsAgree (a b : CalRun) : Bool :=
  decide (diffNat a.tx.toNat b.tx.toNat ≤ 3) && decide (diffNat a.rx.toNat b.rx.toNat ≤ 3) && decide (diffNat a.eye.toNat b.eye.toNat ≤ 4)

/-- Transmit ring and receive filter of a lane. -/
def State.laneRings (s : State) (l : LaneId) : List Nat :=
  match l with
  | .pair i j n =>
    let sl := s.laneSlot (16 * i.val + j.val) n
    [s.servesFab i sl.1 false sl.2, s.servesFab j sl.1 true sl.2]
  | .spare ep plane k => [fabRing ep plane false (16 * k.val), fabRing ep plane true (16 * k.val)]
  | .link x => [s.servesPort (x / 32) false (x % 32), s.servesPort (x / 32) true (otherLane (x % 32))]
  | .loop p => [portRing p false 0, portRing p true 0]

/-- A lane's number as calibration events carry it: the lane of its pair or port; a loopback lane's channel (R439, R543). -/
def laneNum : LaneId → Nat
  | .pair _ _ n => n.val
  | .spare _ _ k => 16 * k.val
  | .link x => x.val % 32
  | .loop _ => 0

/-- The adopted codes become the lane's commissioned codes and are applied (R436, R437). -/
def State.adopt (s : State) (l : LaneId) (r : CalRun) : State :=
  let put := fun (t : State) (k c : Nat) =>
    ({ t with fab := { t.fab with codes := tins t.fab.codes k c } } : State).setRing k { t.ring k with lift := c }
  match s.laneRings l with
  | [a, b] => put (put s a r.tx.toNat) b r.rx.toNat
  | _ => s

/-- A lane that calibration condemns: suspect, out of service, its ring or filter retired and repaired (R174, R437). Which figure of R174
its event names is a free value (log entry 4). -/
def State.calCondemn (s : State) (g : Nat) (l : LaneId) : State :=
  let fig := s.freeVal.toNat % 4
  let s1 := match l with
    | .pair i _ _ => (s.drawn.markSuspect (laneKey l)).raise 0x0308 (epDie i) [(1, fig)]
    | .link x => (s.drawn.markSuspect (laneKey l)).raise 0x050B (dieIO (x / 192)) (linkData x ++ [(1, fig)])
    | _ => s
  ((s1.bump F.GLB_CAL_STATUS_CONDEMNED 0 1).raise 0x0B85 (groupDie g) [(2, g), (1, laneNum l)]).condemn l

/-- The result of one lane: run 2 where runs 1 and 2 agree, else run 3 where it agrees with one of them, else condemned (R437). -/
def laneResult (c : CalLane) : Option CalRun :=
  if runsAgree c.run1 c.run2 then some c.run2
  else if runsAgree c.run3 c.run1 || runsAgree c.run3 c.run2 then some c.run3
  else none

/-- CAL_WINDOW_DONE: the runs of a window are judged, the adopted codes applied, HOLD released, the lanes that locked restored
(R436, R437). -/
def execCalWindowDone (g : Fin 280) (runs : List CalLane) (s : State) : Out :=
  if !s.light.open_.contains g.val then .next s
  else
    let odd := runs.filter (fun c => !runsAgree c.run1 c.run2)
    let s1 := if odd = [] then s else s.bump F.GLB_CAL_STATUS_THIRD_RUNS 0 1
    let s2 := odd.foldl (fun (t : State) c => t.raise 0x0B84 (groupDie g) [(2, g.val), (1, laneNum c.lane)]) s1
    let s3 := runs.foldl (fun (t : State) c => match laneResult c with
      | some r => t.adopt c.lane r
      | none => t) s2
    let slow := (runs.filter (fun c => !c.locked)).flatMap (fun c => s.laneRings c.lane)
    let s4 := s3.closeWindow g (fun k => !slow.contains k)
    .next ((runs.filter (fun c => (laneResult c).isNone)).foldl (fun (t : State) c => t.calCondemn g c.lane) s4)

end Sys2Proof.Machine
end

