-- ==== Sys2Proof/Machine/Clock.lean ====
section
/-!
DEFINITION. Clock islands (12_clocking_and_time.md R369 to R378): step changes, droop stretch and the margin cap of the replica
paths. Island x is 36 d + 2 p + k of compute die d, physical core p; k 0 the core island, 1 the engine island.
-/
namespace Sys2Proof.Machine

def State.isl (s : State) (x : Nat) : Island := tget (fun _ => {}) s.clk.isl x

def State.setIsl (s : State) (x : Nat) (i : Island) : State :=
  { s with clk := { s.clk with isl := tput (fun _ => {}) s.clk.isl x i } }

/-- The lowest of TARGET, the cap of the power and thermal loops and the margin cap (R373). -/
def State.lowestStep (s : State) (x : Nat) : Nat :=
  min (s.rd F.CLK_ISL_TARGET x) (min (s.rd F.CLK_ISL_PCAP x) (s.rd F.CLK_ISL_MCAP x))

/-- Die of an island's events. -/
def islDie (x : Nat) : Nat := dieCD (x / 36)

/-- A change to the lowest step begins where one is due and none is in progress (R373, R374). -/
def State.beginStep (s : State) (x : Nat) : State :=
  let i := s.isl x
  if i.goal = none ∧ s.lowestStep x ≠ s.rd F.CLK_ISL_STEP x then s.setIsl x { i with goal := some (s.lowestStep x) } else s

/-- ISLAND_STEP_CHANGE: the lowest step has changed and a clock change begins (R373). -/
def execIslandStepChange (x : Fin 432) (s : State) : Out := .next (s.beginStep x)

/-- What may slip on the core whose physical core an island serves (R377). -/
def State.disturbIsl (s : State) (x : Nat) : State :=
  match s.boundTo (x / 36) (x % 36 / 2) with
  | some lc => s.setCore lc (s.core lc).disturb
  | none => s

/-- ISLAND_STEP_CHANGE_DONE: the island runs at the new step, its crossings calibrated; a change that became due meanwhile begins. A
failed calibration fails the physical core (R371, R373, R374). -/
def execIslandStepChangeDone (x : Fin 432) (cal : List Crossing) (s : State) : Out :=
  match (s.isl x).goal with
  | none => .next s
  | some g =>
    let s1 := ((s.wr F.CLK_ISL_STEP x g).setIsl x { s.isl x with goal := none }).calibrate cal
    .next (if cal.all crossingOk then (s1.disturbIsl x).beginStep x else s1.failPhysical (x / 36) (x % 36 / 2) true)

/-- Number of a stretched domain: islands, endpoints, cache dies, I/O dies, watch rooms (R369). -/
def domKey : Domain → Nat
  | .island x => x.val
  | .endpoint e => 432 + e.val
  | .cacheDie n => 448 + n.val
  | .ioDie q => 460 + q.val
  | .watchRoom q => 464 + q.val

/-- Die a domain belongs to (R544). -/
def domDie : Domain → Nat
  | .island x => islDie x
  | .endpoint e => if e.val < 12 then dieSD e.val else dieIO (e.val - 12)
  | .cacheDie n => dieSD n
  | .ioDie q => dieIO q
  | .watchRoom q => dieIO q

/-- DROOP_DETECT: a detector stretches a period: one stretch event of its domain; STRETCH_RATE past 10,000 in 1 s (R375, R388,
R391). -/
def execDroopDetect (dom : Domain) (s : State) : Out :=
  let k := domKey dom
  let r := (tget (fun _ => ({} : Rate)) s.clk.rate k).add nsSec s.now 1
  let s1 : State := { s with clk := { s.clk with
    rate := tput (fun _ => {}) s.clk.rate k r
    stretch := if k < 432 then s.clk.stretch else tput (fun _ => 0) s.clk.stretch k (tget (fun _ => 0) s.clk.stretch k + 1) } }
  let s2 := if k < 432 then (s1.bump F.CLK_STRETCH_COUNT k 1).disturbIsl k else s1
  .next (if r.n = 10001 then s2.raise 0x0143 (domDie dom) [] else s2)

/-- The margin cap moves down a step, held at FLOOR with POLICY_LIMITED (R376, R513). -/
def State.lowerCap (s : State) (x cap : Nat) : State :=
  let fl := s.rd F.CLK_CTRL_FLOOR
  let i := s.isl x
  let i1 : Island := { i with
    moved := s.now + 1
    floor := if fl < cap then 0 else if i.floor = 0 then s.now + 1 else i.floor
    limited := i.limited || decide (cap < fl) }
  let s1 := (s.wr F.CLK_ISL_MCAP x (max cap fl)).setIsl x i1
  if cap < fl ∧ !i.limited then s1.raise 0x0110 srcPkg [(4, F.CLK_ISL_MCAP.off x), (1, F.CLK_ISL_MCAP.lo)] else s1

/-- The warning of R376. -/
def State.marginWarn (s : State) (x m : Nat) : State :=
  let i := s.isl x
  let w := s.rd F.CLK_CTRL_WARN
  let i1 : Island := { i with above2 := if w + 2 ≤ m then (if i.above2 = 0 then s.now + 1 else i.above2) else 0,
                              above := if w ≤ m then (if i.above = 0 then s.now + 1 else i.above) else 0 }
  let s1 := s.setIsl x i1
  if m < w ∧ !i.warned then (s1.setIsl x { i1 with warned := true }).raise 0x0140 (islDie x) [(2, x), (1, m)]
  else if i.warned ∧ i1.above2 ≠ 0 ∧ i1.above2 + nsSec ≤ s.now + 1 then
    (s1.setIsl x { i1 with warned := false }).raise 0x0142 (islDie x) []
  else s1

/-- The margin cap of R376: set a step below the running step, lowered every 100 µs while MARGIN is below CRIT; the condition clears once
MARGIN has been at least WARN for 1 s, and the cap then rises a step per further second; a core at FLOOR for 1 s is retired (R90). -/
def State.marginCap (s : State) (x m : Nat) : State :=
  let i := s.isl x
  let cap := s.rd F.CLK_ISL_MCAP x
  if m < s.rd F.CLK_CTRL_CRIT then
    if !i.crit then
      let s1 := (s.setIsl x { i with crit := true }).lowerCap x (s.rd F.CLK_ISL_STEP x - 1)
      s1.raise 0x0141 (islDie x) [(2, x), (1, s1.rd F.CLK_ISL_MCAP x)]
    else if i.floor ≠ 0 ∧ i.floor + nsSec ≤ s.now + 1 then s.failPhysical (x / 36) (x % 36 / 2) true
    else if i.moved + 100000 ≤ s.now + 1 then s.lowerCap x (cap - 1)
    else s
  else
    let s1 := s.setIsl x { i with floor := 0 }
    let clear : Bool := i.above ≠ 0 ∧ i.above + nsSec ≤ s.now + 1
    if clear && i.crit then s.setIsl x { i with crit := false, floor := 0, moved := s.now + 1 }
    else if clear ∧ cap < 15 ∧ i.moved + nsSec ≤ s.now + 1 then
      (s1.wr F.CLK_ISL_MCAP x (cap + 1)).setIsl x { s1.isl x with moved := s.now + 1, limited := false }
    else s1

/-- REPLICA_MEASURE: MARGIN of an island's replica paths; the margin cap acts once start-up is done (R376, R430). -/
def execReplicaMeasure (x : Fin 432) (margin : BitVec 8) (s : State) : Out :=
  let s1 := (s.wr F.CLK_ISL_MARGIN x margin.toNat).marginWarn x margin.toNat
  .next (if s.bit F.GLB_START_DONE then s1.marginCap x margin.toNat else s1)

end Sys2Proof.Machine
end

