-- ==== Sys2Proof/Machine/Memory.lean ====
section
/-!
DEFINITION. Memory homes (07_memory.md): requests at a home (R210, R211), the Reed-Solomon code of HBM and its syndromes (R214),
poison (R215), patrol scrub (R216), refresh bands (R217), page retirement (R218) and the error log (R227).
-/
namespace Sys2Proof.Machine

/-- Key of a 4 KiB stack page (R218). -/
def pageKey (st page : Nat) : Nat := st * 2 ^ 25 + page

/-- Multiplication by x in GF(2^8) with x^8 + x^4 + x^3 + x^2 + 1 (R214). -/
def rsDouble (b : Byte) : Byte := if b.getLsbD 7 then (b <<< 1) ^^^ 0x1D else b <<< 1

/-- b × α^n. -/
def rsTimes : Nat → Byte → Byte
  | 0, b => b
  | n + 1, b => rsTimes n (rsDouble b)

/-- What a syndrome says (R214): the symbol in error, or nothing where it is uncorrectable. -/
def rsSymbol (s0 s1 : Byte) : Option Nat :=
  if s0 = 0 ∨ s1 = 0 then none else (List.range 34).find? (fun j => rsTimes j s0 == s1)

/-- Write the error log of HBs: while VALID is 0, or when the new error is uncorrectable (R227). -/
def State.errLog (s : State) (st unit type symbol syndrome : Nat) : State :=
  if s.bit F.MEM_ERRLOG_HI_VALID st ∧ type ≠ 1 ∧ type ≠ 2 then s
  else
    let s1 := (s.wr F.MEM_ERRLOG_HI_VALID st 1).wr F.MEM_ERRLOG_HI_TYPE st type
    ((s1.wr F.MEM_ERRLOG_HI_SYMBOL st symbol).wr F.MEM_ERRLOG_HI_SYNDROME st syndrome).wr F.MEM_ERRLOG_LO_UNIT st unit

/-- A page becomes a candidate for retirement, in order of detection (R218). -/
def State.retireCandidate (s : State) (st page : Nat) : State :=
  let k := pageKey st page
  if s.mem.remap.contains k ∨ s.mem.queue.contains k ∨ tget (fun _ => 0) s.mem.retiring st = page + 1 then s
  else { s with mem := { s.mem with queue := s.mem.queue ++ [k] } }

/-- A corrected unit of HBs: counted, MEM_CORRECTED_RATE past 1,000 in one hour, and a candidate for retirement at RETIRE_CE
events in 24 h, or where a symbol that a scrub wrote back errs again (R216, R218, R221, R226). `first` is clear where the same read has
already met a corrected unit of the page. -/
def State.hbmCorrected (s : State) (st unit sym : Nat) (s0 s1 : Byte) (scrub first : Bool) : State :=
  let page := unit / 128
  let k := pageKey st page
  let symKey := (st * 2 ^ 32 + unit) * 64 + sym
  let times := (tget (fun _ => []) s.mem.pageCe k ++ (if first then [s.now] else [])).filter (fun t => decide (s.now < t + nsDay))
  let old : Rate := tget (fun _ => {}) s.mem.stackRate st
  let rate := old.add nsHour s.now 1
  let recur := s.mem.symCe.contains symKey
  let m1 : MemSt := { s.mem with pageCe := tput (fun _ => []) s.mem.pageCe k times, stackRate := tput (fun _ => {}) s.mem.stackRate st rate }
  let m2 : MemSt := { m1 with symCe := if scrub then m1.symCe.add symKey else m1.symCe }
  let t1 := { s with mem := m2 }.bump F.MEM_ECC_CNT_CORR st 1
  let t2 := if rate.n = 1001 then t1.raise 0x0601 (dieSD st) [] else t1
  let trigger := recur || decide (s.rd F.MEM_CTRL_RETIRE_CE ≤ times.length)
  let t3 := t2.errLog st unit (if trigger then 3 else 0) sym (s0.toNat + 256 * s1.toNat)
  if trigger then t3.retireCandidate st page else t3

/-- DPA of a unit of HBs. -/
def hbmUnitAt (st unit : Nat) : Nat := 0x20000000000 + st * 0x2000000000 + unit * 32

/-- An uncorrectable unit of HBs: counted, poisoned, logged, and its page a candidate; the poison syndrome alone is only
logged (R214, R215, R218, R226). -/
def State.hbmUncorrectable (s : State) (st unit : Nat) (s0 s1 : Byte) : State :=
  let syn := s0.toNat + 256 * s1.toNat
  let a := hbmUnitAt st unit
  if s0 = 0xA5 ∧ s1 = 0 then (s.mark a).errLog st unit 2 0x3F syn
  else
    let t1 := ((s.mark a).bump F.MEM_ECC_CNT_UNCORR st 1).raise 0x0602 (dieSD st) [(5, unit * 32), (2, syn), (1, 0)]
    (t1.errLog st unit 1 0x3F syn).retireCandidate st (unit / 128)

/-- The syndromes of an error pattern, S0 and S1 (R214): a codeword without error gives zero. -/
def rsSyndrome (err : List (Fin 34 × Byte)) : Byte × Byte :=
  err.foldl (fun (p : Byte × Byte) e => (p.1 ^^^ e.2, p.2 ^^^ rsTimes e.1 e.2)) (0, 0)

/-- Change data symbols of a unit of HBs; symbols 32 and 33 hold no data. -/
def State.xorUnit (s : State) (st unit : Nat) (err : List (Fin 34 × Byte)) : State :=
  err.foldl (fun (t : State) e => if e.1.val < 32 then t.poke (hbmUnitAt st unit + e.1) (t.byteAt (hbmUnitAt st unit + e.1) ^^^ e.2) else t) s

/-- A unit of HBs is read whose codeword differs by `err` from the one its data has, and by the poison syndrome where it is poisoned
(R214, R215). A syndrome of one symbol is corrected by XOR with S0: an error in that symbol leaves the data as they were, an error in
others is miscorrected. -/
def State.hbmUnit (s : State) (st unit : Nat) (err : List (Fin 34 × Byte)) (scrub first : Bool) : State :=
  let e := rsSyndrome err
  let s0 := e.1 ^^^ (if s.bad (hbmUnitAt st unit) then 0xA5 else 0)
  let s1 := e.2
  if s0 = 0 ∧ s1 = 0 then s
  else match rsSymbol s0 s1 with
    | some j => ((s.unmark (hbmUnitAt st unit)).xorUnit st unit (err ++ [(Fin.ofNat 34 j, s0)])).hbmCorrected st unit j s0 s1 scrub first
    | none => s.hbmUncorrectable st unit s0 s1

/-- Units of HBs read by one access: those with an error and those that are poisoned (R214, R215, R218, R227). -/
def State.hbmUnits (st : Nat) : List (Nat × List (Fin 34 × Byte)) → List Nat → State → State
  | [], _, s => s
  | (u, err) :: r, seen, s =>
    State.hbmUnits st r (u / 128 :: seen) (s.hbmUnit st u err false (!seen.contains (u / 128)))

/-- The error of a unit of HBs among those of an access. -/
def errOf (errs : List UnitErr) (unit : Nat) : List (Fin 34 × Byte) :=
  errs.flatMap (fun e => match e with | .hbm u err => if u.toNat = unit then err else [] | .sram _ _ => [])

/-- Units `u` to `u + n - 1` of HBs that an access reads with an error or poisoned. -/
def State.hbmRead (s : State) (st u n : Nat) (errs : List UnitErr) : State :=
  let us := ((List.range n).map (u + ·)).filter (fun k => !(errOf errs k).isEmpty || s.bad (hbmUnitAt st k))
  State.hbmUnits st (us.map (fun k => (k, errOf errs k))) [] s

/-- Source of the events of an SRAM: cache die SDn, or the I/O die numbered 12 + q. -/
def sramDie (d : Nat) : Nat := if d < 12 then dieSD d else dieIO (d - 12)

/-- A unit of SRAM of a cache die or an I/O die is read with an error. A corrected one is counted, with SRAM_CORRECTED_RATE past 1,000
of a cache die in one hour; a double error of the direct part or the general SRAM poisons the unit, one of the cache part only
invalidates its line (R208, R216, R221). The SECDED syndrome of the event is a free value. -/
def State.sramUnit (s : State) (d off : Nat) (double single : Bool) : State :=
  let src := sramDie d
  let old : Rate := tget (fun _ => {}) s.mem.sramRate d
  let rate := if single then old.add nsHour s.now 1 else old
  let s1 := { s with mem := { s.mem with sramRate := tput (fun _ => {}) s.mem.sramRate d rate } }
  let s2 := if single ∧ d < 12 ∧ rate.n = 1001 then s1.raise 0x0609 src [] else s1
  let a := if d < 12 then 0x38000000000 + d * 0x20000000 + off else 0x3A000000000 + (d - 12) * 0x10000000 + off
  if double ∧ (12 ≤ d ∨ off < s.directBytes d) then
    (s2.mark a).drawn.raise 0x0602 src [(5, off), (2, s2.freeVal.toNat % 65536), (1, if d < 12 then 1 else 3)]
  else s2

/-- Units `u` to `u + n - 1` of an SRAM that an access reads with an error. -/
def State.sramRead (s : State) (d u n : Nat) (errs : List UnitErr) : State :=
  errs.foldl (fun (t : State) e => match e with
    | .sram k double => if u ≤ k.toNat ∧ k.toNat < u + n then t.sramUnit d (k.toNat * 32) double (!double) else t
    | .hbm _ _ => t) s

/-- The errors an access meets in the store of its home (R208, R214, R216). -/
def State.homeErrs (s : State) (a n : Nat) (errs : List UnitErr) : State :=
  match s.locate a with
  | .hbm st off => s.hbmRead st (off / 32) ((off % 32 + n + 31) / 32) errs
  | .sram d off => s.sramRead d (off / 32) ((off % 32 + n + 31) / 32) errs
  | .ioSram q off => s.sramRead (12 + q) (off / 32) ((off % 32 + n + 31) / 32) errs
  | _ => s

/-- Apply an access at its home: a read returns the bytes and which units are poisoned, a write is applied (R210, R211, R215). -/
def State.homeApply (s : State) (a : Nat) (op : HomeOp) : State :=
  match op with
  | .read n =>
    let bad := (List.range ((a % 32 + n + 31) / 32)).filter (fun k => s.bad (if k = 0 then a else (a / 32 + k) * 32))
    { s with mem := { s.mem with answers := s.mem.answers ++ [(s.bytes a n, bad)] } }
  | .write d => s.store a d

def homeLen : HomeOp → Nat
  | .read n => n
  | .write d => d.length

def isWrite : HomeOp → Bool
  | .read _ => false
  | .write _ => true

/-! ### Lines -/

def State.line (s : State) (k : Nat) : LineQ := tget (fun _ => {}) s.rack.lines k

def State.setLine (s : State) (k : Nat) (l : LineQ) : State :=
  { s with rack := { s.rack with lines := tput (fun _ => {}) s.rack.lines k l } }

/-- The line of a request at its home, by canonical address (R205, R312). -/
def State.lineOf (s : State) (addr : Nat) : Nat := (s.locate addr).key / 64

/-- The lines of an area. -/
def State.linesOf (s : State) (a n : Nat) : List Nat :=
  (List.range ((a % 64 + max n 1 + 63) / 64)).map (fun i => s.lineOf ((a / 64 + i) * 64))

/-- The operations queued on the lines of an area: what arrived before a write to it (R210, R302). -/
def State.queuedOn (s : State) (a n : Nat) : List (Nat × Nat) := ((s.linesOf a n).flatMap (fun k => (s.line k).ops)).eraseDups

/-- Whether two accesses touch a common line. -/
def State.sameLine (s : State) (a n b m : Nat) : Bool := (s.linesOf a n).any (s.linesOf b m).contains

/-- Whether an access waits at its home (R210, R217, R218, R312): its home takes none, or it writes where earlier ones wait. -/
def State.homeWaits (s : State) (a n : Nat) (write : Bool) : Bool :=
  s.areaBusy a n || (write && (!(s.queuedOn a n).isEmpty || s.mem.waiting.any (fun w => s.sameLine a n w.addr (homeLen w.op))))

/-- HOME_ACCESS: a request reaches its home. It waits in band H3, while its page retires or, a write, behind what arrived before; else the
units it touches are read with their errors and the home applies it (R210, R214, R216 to R218). -/
def execHomeAccess (a : BitVec 42) (op : HomeOp) (errs : List UnitErr) (s : State) : Out :=
  if !s.mapOk a.toNat (max (homeLen op) 1) (isWrite op) || !s.liveOk a.toNat (max (homeLen op) 1) then .next s
  else if s.homeWaits a.toNat (homeLen op) (isWrite op) then
    .next { s with mem := { s.mem with waiting := s.mem.waiting ++
      [⟨a.toNat, op, errs, if isWrite op then s.queuedOn a.toNat (homeLen op) else []⟩] } }
  else .next ((s.homeErrs a.toNat (homeLen op) errs).homeApply a.toNat op)

/-- HBM_PATROL_SCRUB: one unit is read, corrected in place and counted (R216). -/
def execHbmPatrolScrub (st : Fin 12) (unit : BitVec 32) (err : List (Fin 34 × BitVec 8)) (s : State) : Out :=
  if s.bit F.MEM_HBM_PRESENT st ∧ !s.bit F.MEM_HBM_RETIRED st ∧ s.rd F.MEM_HBM_BAND st ≠ 3 then
    .next (s.hbmUnit st unit.toNat err true true)
  else .next s

/-- SRAM_PATROL_SCRUB: one 32-byte unit of a cache die's or an I/O die's SRAM is read with what error it has (R208, R216). -/
def execSramPatrolScrub (die : Fin 16) (unit : BitVec 32) (double : Bool) (single : Bool) (s : State) : Out :=
  let off := unit.toNat * 32
  let held := if die.val < 12 then decide (off < 0x18000000) else decide (off < 0x1000000)
  if !s.inService (sramDie die) || !held then .next s else .next (s.sramUnit die off double single)

/-- Lower edge of a refresh band in °C (R217). -/
def bandEdge (b : Nat) : Nat := if b = 0 then 0 else 75 + 10 * b

/-- The band a temperature calls for on the way up. -/
def bandFor (t : Nat) : Nat := if t < 85 then 0 else if t < 95 then 1 else if t < 105 then 2 else 3

/-- Leave bands downward, each only 3 °C below its lower edge (R217). -/
def bandDown : Nat → Nat → Nat
  | 0, _ => 0
  | b + 1, t => if t + 3 ≤ bandEdge (b + 1) then bandDown b t else b + 1

/-- Whether a waiting access may go: its home takes it, what it waited behind is done, and no earlier one that waits touches its lines. -/
def State.mayGo (s : State) (w : Waiting) (before : List Waiting) : Bool :=
  !s.areaBusy w.addr (homeLen w.op) && (s.queuedOn w.addr (homeLen w.op)).all (fun o => !w.behind.contains o) &&
  !(isWrite w.op && before.any (fun v => s.sameLine w.addr (homeLen w.op) v.addr (homeLen v.op)))

/-- Resume what waited at the homes and need not wait any more, in arrival order. -/
def State.resumeSome : List Waiting → List Waiting → State → State
  | [], stay, s => { s with mem := { s.mem with waiting := stay } }
  | w :: r, stay, s =>
    if s.mayGo w stay then State.resumeSome r stay ((s.homeErrs w.addr (homeLen w.op) w.errs).homeApply w.addr w.op)
    else State.resumeSome r (stay ++ [w]) s

def State.resumeWaiting (s : State) : State := State.resumeSome s.mem.waiting [] s

/-- HBM_TEMP_READ: the controller reads its stack's temperature and chooses the refresh band (R217). -/
def execHbmTempRead (st : Fin 12) (temp : BitVec 8) (s : State) : Out :=
  if !s.bit F.MEM_HBM_PRESENT st || s.bit F.MEM_HBM_RETIRED st then .next s
  else
    let t := temp.toNat
    let old := s.rd F.MEM_HBM_BAND st
    let new := max (bandFor t) (bandDown old t)
    let s1 := (s.wr F.MEM_HBM_TEMP st t).wr F.MEM_HBM_BAND st new
    if new = old then .next s1
    else
      let s2 := s1.raise 0x0605 (dieSD st) [(1, old), (1, new)]
      if new = 3 then .next (s2.raise 0x0606 (dieSD st) [])
      else if old = 3 then .next (s2.raise 0x0607 (dieSD st) []).resumeWaiting
      else .next s2

/-- PAGE_RETIRE_START: the stack's next candidate begins retirement, unless one is in progress; without a free spare page it
stays in place, with RETIRE_FULL once (R218, R225). -/
def execPageRetireStart (st : Fin 12) (s : State) : Out :=
  match s.mem.queue.find? (fun k => k / 2 ^ 25 == st.val) with
  | none => .next s
  | some k =>
    if tget (fun _ => 0) s.mem.retiring st ≠ 0 then .next s
    else
      let m1 : MemSt := { s.mem with queue := s.mem.queue.erase k }
      if 4096 ≤ s.rd F.MEM_HBM_RETIRED_PAGES st then
        if s.mem.full.contains st then .next { s with mem := m1 }
        else .next ((({ s with mem := { m1 with full := m1.full.add st } } : State).raise 0x0604 (dieSD st) []).setCond 4 true)
      else .next { s with mem := { m1 with retiring := tput (fun _ => 0) m1.retiring st (k % 2 ^ 25 + 1) } }

/-- PAGE_RETIRE_DONE: the page has been read, its uncorrectable units are poisoned, the data is in the spare page, the remap entry set,
PAGE_RETIRED raised, and the accesses that waited go on; address and contents are as before (R218, R122). -/
def execPageRetireDone (st : Fin 12) (errs : List UnitErr) (s : State) : Out :=
  match tget (fun _ => 0) s.mem.retiring st with
  | 0 => .next s
  | p + 1 =>
    let k := pageKey st p
    let s0 := s.hbmRead st (p * 128) 128 errs
    let m1 : MemSt := { s0.mem with remap := s0.mem.remap.add k, retiring := tput (fun _ => 0) s0.mem.retiring st 0 }
    let m2 : MemSt := { m1 with flashRows := m1.flashRows.add k }
    let s1 := { s0 with mem := m2 }.bump F.MEM_HBM_RETIRED_PAGES st 1
    .next (s1.raise 0x0603 (dieSD st) [(5, p * 4096)]).resumeWaiting

end Sys2Proof.Machine
end

