-- ==== Sys2Proof/Machine/Flits.lean ====
section
/-!
DEFINITION. The flit layer of the fabric and the ports: flit layout (R263, R264), choice of the next flit (R170, R168, R278),
reception, credits, sequence numbers and losses (R169, R171, R267, R278), and landing buffers (R279, R280).
-/
namespace Sys2Proof.Machine

/-- The fields of a flit header (R264). -/
structure FlitHdr where
  type : Nat
  vc : Nat
  stream : Nat
  seq : Nat
  crvc : Nat
  crcnt : Nat
  valid : Nat
  src : Nat
  dst : Nat
  flits : Nat
  deriving DecidableEq, Repr

def FlitHdr.word (h : FlitHdr) : Nat :=
  h.type * 2 ^ 60 + h.vc * 2 ^ 58 + h.stream * 2 ^ 50 + h.seq * 2 ^ 34 + h.crvc * 2 ^ 32 + h.crcnt * 2 ^ 26 + h.valid * 2 ^ 18 +
  h.src * 2 ^ 13 + h.dst * 2 ^ 8 + h.flits

def hdrOf (w : Nat) : FlitHdr :=
  let f := fun hi lo => w / 2 ^ lo % 2 ^ (hi - lo + 1)
  ⟨f 63 60, f 59 58, f 57 50, f 49 34, f 33 32, f 31 26, f 25 18, f 17 13, f 12 8, f 7 0⟩

/-- The 256 bytes of a flit (R263, R265). -/
def flitBytes (h : FlitHdr) (data : List Byte) : List Byte :=
  let b := leBytes 8 h.word ++ (data ++ List.replicate 240 0).take 240
  b ++ leBytes 8 (crc64 b)

/-! ## Credits -/

/-- Reserved credits of a pair's virtual channel (R169). -/
def reservedCredits (vc : Nat) : Nat := if vc = 3 then 32 else 64

def FlitTx.usedOf (t : FlitTx) (vc : Nat) : Nat := tget (fun _ => 0) t.used vc

/-- Shared credits of a pair in use (R169). -/
def FlitTx.shared (t : FlitTx) : Nat := (List.range 4).foldl (fun a v => a + (t.usedOf v - reservedCredits v)) 0

/-- Whether a pair grants one flit of a virtual channel. -/
def FlitTx.grants (t : FlitTx) (vc : Nat) : Bool := decide (t.usedOf vc < reservedCredits vc) || decide (t.shared < 800)

/-- Credits a link holds for a virtual channel (R277, R278). -/
def FlitTx.held (t : FlitTx) (spine : Bool) (vc : Nat) : Nat := laneCredits spine vc - t.usedOf vc

def FlitTx.spend (t : FlitTx) (vc : Nat) : FlitTx := { t with used := tput (fun _ => 0) t.used vc (t.usedOf vc + 1) }

def FlitTx.regain (t : FlitTx) (vc n : Nat) : FlitTx := { t with used := tput (fun _ => 0) t.used vc (t.usedOf vc - n) }

def FlitTx.oweOf (t : FlitTx) (vc : Nat) : Nat := tget (fun _ => 0) t.owe vc

def FlitTx.addOwe (t : FlitTx) (vc n : Nat) : FlitTx := { t with owe := tput (fun _ => 0) t.owe vc (t.oweOf vc + n) }

def FlitTx.seqOf (t : FlitTx) (vc : Nat) : Nat := tget (fun _ => 0) t.seq vc

/-- The virtual channel whose credits the next header returns: the lowest with credits owed (log entry 14). -/
def FlitTx.oweVc (t : FlitTx) : Nat := ((List.range 4).find? (fun v => t.oweOf v != 0)).getD 0

/-- Put a flit on lane `lane` of a channel: header with sequence number and the credits it returns, code word (R264, R266). -/
def State.emit (s : State) (ch : Chan) (lane src dst vc : Nat) (f : OutFlit) : State :=
  let k := chanKey ch
  let t := s.tx k
  let v := t.oweVc
  let n := min 63 (t.oweOf v)
  let sq := t.seqOf vc
  let h : FlitHdr := ⟨f.type, vc, f.stream, sq, v, n, f.valid, src, dst, f.flits⟩
  let t1 := { t with owe := tput (fun _ => 0) t.owe v (t.oweOf v - n) }
  let t2 := if f.type = 0 then { t1 with null := (t.null + 1) % 4 }
    else ({ t1 with seq := tput (fun _ => 0) t1.seq vc ((sq + 1) % 65536) } : FlitTx).spend vc
  (s.setTx k t2).send (.flit ch lane (laneLevels (codeword (flitBytes h f.data))))

/-- The NULL flit of an idle lane; its virtual channel and next sequence number rotate (R264). -/
def nullFlit : OutFlit := ⟨0, 0, 0, 0, []⟩

/-- The order in which virtual channels are served, from the turn on (R170). -/
def vcOrder (turn : Nat) : List Nat := [1, 0, 2, 1, 0, 2].drop (turn % 3) |>.take 3

/-! ## Sending on a pair -/

/-- Groups of the fabric that hold endpoint `j` (R166). -/
def groupsOf (j : Nat) : List Nat := if j < 12 then [j % 3, 3 + j / 3] else []

/-- A multicast flit may be sent on lane `n` when that lane is in service in every member pair, its next slot there is not taken, and
every pair grants it (R167, R168). -/
def State.mcastReady (s : State) (i g vc n : Nat) : Bool :=
  !(s.mcastQueue i g vc).isEmpty &&
  (groupMembers g i).all (fun m => let t := s.tx (i * 16 + m)
    s.laneUp (i * 16 + m) n && !t.taken.contains n && t.grants vc)

/-- Send the head multicast flit on lane `n` in the slot of pair (i, j): the lane's next slot and one credit of every member pair, one
sequence number per sender, group and channel (R167, R168, R171). -/
def State.mcastSend (s : State) (i j g vc n : Nat) : State :=
  match s.mcastQueue i g vc with
  | [] => s
  | f :: r =>
    let s1 := (s.setMcast i g vc r).mcastFill i g vc
    let k := (i * 7 + g) * 4 + vc
    let sq := tget (fun _ => 0) s1.fab.mcastSeq k
    let h : FlitHdr := ⟨f.type, vc, g + 1, sq, 0, 0, f.valid, i, 0, f.flits⟩
    let cw := laneLevels (codeword (flitBytes h f.data))
    let s2 := { s1 with fab := { s1.fab with mcastSeq := tput (fun _ => 0) s1.fab.mcastSeq k ((sq + 1) % 65536) } }
    (groupMembers g i).foldl (fun (a : State) m =>
      let t := a.tx (i * 16 + m)
      let t1 : FlitTx := { t with reserved := t.reserved.del (g * 4 + vc), alt := t.alt.del vc,
                                  taken := if m = j then t.taken else t.taken.add n }
      (a.setTx (i * 16 + m) (t1.spend vc)).send (.flit (.pair (Fin.ofNat 16 i) (Fin.ofNat 16 m)) n cw)) s2

/-- With MCAST_ENABLE clear, what a multicast queue holds becomes one unicast flit per member (R176). -/
def State.mcastConvert (s : State) (i g vc : Nat) : State :=
  let fs := s.mcastQueue i g vc ++ s.mcastWaiting i g vc
  if fs = [] ∨ s.bit F.FAB_CTRL_MCAST_ENABLE then s
  else (groupMembers g i).foldl (fun (a : State) m => a.onPair i m vc fs) ((s.setMcast i g vc []).setMcastWait i g vc [])

/-- The next flit of one virtual channel of pair (i, j), if it has one and a credit: unicast and multicast flits take turns (R168,
R170). -/
def State.pairTry (s : State) (i j : Fin 16) (lane vc : Nat) : Option State :=
  let k := 16 * i.val + j.val
  let t := s.tx k
  let uni := match t.queue vc with
    | f :: r =>
      if t.grants vc then
        some ((s.setTx k { (t.setQueue vc r).fill vc with alt := t.alt.add vc }).emit (.pair i j) lane i j vc f)
      else none
    | [] => none
  let multi := ((groupsOf j).find? (fun g => s.mcastReady i g vc lane)).map (fun g => s.mcastSend i j g vc lane)
  if t.alt.contains vc then multi <|> uni else uni <|> multi

/-- The first of a list of virtual channels that sends. -/
def firstSend (try_ : Nat → Option State) : List Nat → Option (Nat × State)
  | [] => none
  | v :: r => match try_ v with
    | some s => some (v, s)
    | none => firstSend try_ r

/-- One flit time of a pair on the next of its lanes: a slot that a multicast flit of another pair's slot has taken passes, one that is
reserved serves that flit alone; else control, then response, request and bulk in turn, else a NULL flit (R168, R170). A reservation
whose group has a DOWN member holds nothing (R167, R172). -/
def State.pairSlot (s0 : State) (i j : Fin 16) : State :=
  let k := 16 * i.val + j.val
  let s := (groupsOf j).foldl (fun (a : State) g => [0, 1, 2, 3].foldl (fun (b : State) vc => b.mcastConvert i g vc) a) s0
  match s.lanesUp k with
  | [] => s
  | ls =>
    let t := s.tx k
    let lane := ls.getD (t.lane % ls.length) 0
    if t.taken.contains lane then s.setTx k { t with lane := t.lane + 1, taken := t.taken.del lane }
    else
      let due := t.reserved.filter (fun g => (groupMembers (g / 4) i).all (fun m => !(s.lanesUp (16 * i.val + m)).isEmpty))
      let s1 := s.setTx k { t with lane := t.lane + 1, reserved := [] }
      let idle := s1.emit (.pair i j) lane i j t.null nullFlit
      match due with
      | _ :: _ =>
        match due.find? (fun g => s1.mcastReady i (g / 4) (g % 4) lane) with
        | some g => s1.mcastSend i j (g / 4) (g % 4) lane
        | none => idle
      | [] =>
        match s1.pairTry i j lane 3 with
        | some s2 => s2
        | none => match firstSend (s1.pairTry i j lane) (vcOrder t.turn) with
          | some (v, s2) => s2.setTx k { s2.tx k with turn := (vcOrder 0).idxOf v + 1 }
          | none => idle

/-! ## Sending on a link -/

def egressKey (q dst vc : Nat) : Nat := (q * 1024 + dst) * 4 + vc

def State.egress (s : State) (q dst vc : Nat) : List OutPkt := tget (fun _ => []) s.port.egress (egressKey q dst vc)

def State.setEgress (s : State) (q dst vc : Nat) (l : List OutPkt) : State :=
  { s with port := { s.port with egress := tput (fun _ => []) s.port.egress (egressKey q dst vc) l } }

/-- Flits of a packet. -/
def OutPkt.flits (p : OutPkt) : Nat := (p.bytes.length + 239) / 240

/-- Whether a link holds the credits for a whole packet (R278). -/
def State.linkHolds (s : State) (x vc : Nat) (e : OutPkt) : Bool :=
  decide (e.flits ≤ (s.tx (linkKey x)).held (s.spinePort (x / 32)) vc)

/-- Whether it is the turn of a link to carry a packet: the ACTIVE links to its destination take turns, and one without credit is passed
over; a packet that names a link takes that one (R283). -/
def State.linkTurn (s : State) (x vc : Nat) (e : OutPkt) : Bool :=
  match e.link with
  | some y => y == x
  | none =>
    let q := x / 192
    let ls := s.activeLinks q e.dst
    let last := tget (fun _ => 0) s.port.turn (egressKey q e.dst vc)
    ((ls.filter (fun y => decide (last < y))) ++ ls.filter (fun y => decide (y ≤ last))).find? (fun y => s.linkHolds y vc e) == some x

/-- Take from the egress queue the first packet this link may carry, if it holds the credits for all of it (R278, R283). -/
def State.linkFeed (s : State) (x vc : Nat) : State :=
  let q := x / 192
  let dst := s.linkPeer x
  let l := s.egress q dst vc
  match l.find? (fun (e : OutPkt) => e.link.isNone || e.link == some x) with
  | none => s
  | some e =>
    if s.linkTurn x vc e ∧ s.linkHolds x vc e then
      let s1 := (s.setEgress q dst vc (l.erase e)).setTx (linkKey x) ((s.tx (linkKey x)).setQueue vc (packetFlits e.stream e.bytes))
      if e.link.isSome then s1
      else { s1 with port := { s1.port with turn := tput (fun _ => 0) s1.port.turn (egressKey q dst vc) x } }
    else s

/-- Source and destination a link writes into its headers: slots, or racks on a SPINE port (R264). -/
def State.linkEnds (s : State) (x : Nat) : Nat × Nat :=
  if s.spinePort (x / 32) then (s.rd F.PRT_IDENT_RACK, s.linkPeer x / 32) else (s.rd F.PRT_IDENT_SLOT, s.linkPeer x % 32)

/-- A CONTROL flit as it crosses the serializer: BT_PROBE takes T1 now, BT_ECHO T3 (R285, R288). -/
def State.stampCtl (s : State) (f : OutFlit) : OutFlit :=
  let at_ := fun (k : Nat) => { f with data := f.data.take k ++ s.stamp ++ f.data.drop (k + 9) }
  if f.type ≠ 8 then f else if f.data.headD 0 = 6 then at_ 8 else if f.data.headD 0 = 7 then at_ 40 else f

/-- The next flit of one virtual channel of a link. -/
def State.linkTry (s : State) (x : Fin 768) (vc : Nat) : Option State :=
  let s1 := if (s.tx (linkKey x)).queue vc = [] then s.linkFeed x vc else s
  let t := s1.tx (linkKey x)
  match t.queue vc with
  | f :: r =>
    if 0 < t.held (s.spinePort (x / 32)) vc then
      let e := s1.linkEnds x
      let s2 := s1.setTx (linkKey x) (t.setQueue vc r)
      some ((if s1.stampCtl f = f then s2 else s2.drawn).emit (.link x) (x % 32) e.1 e.2 vc (s1.stampCtl f))
    else none
  | [] => none

/-- A flit time of a link in TEST: PRBS31 (R173, R284). -/
def State.testSlot (s : State) (x : Fin 768) : State :=
  let l := s.link x
  let t := prbsBytes 272 l.prbs
  (s.setLink x { l with prbs := t.1 }).send (.flit (.link x) (x % 32) (laneLevels t.2))

/-- One flit time of a link: NULL flits in training until IDENT, CONTROL flits from then on, the test pattern in TEST, and no new
flits but control while PAUSED (R284). -/
def State.linkSlot (s : State) (x : Fin 768) : State :=
  let st := s.linkState x
  let t := s.tx (linkKey x)
  let e := s.linkEnds x
  let idle := s.emit (.link x) (x % 32) e.1 e.2 t.null nullFlit
  if x.val % 32 = 0 ∨ st < 2 ∨ st = 8 then s
  else if st = 4 then s.testSlot x
  else if st ≠ 6 then (match s.linkTry x 3 with | some s1 => s1 | none => idle)
  else match s.linkTry x 3 with
    | some s1 => s1
    | none => match firstSend (s.linkTry x) (vcOrder t.turn) with
      | some (v, s1) => s1.setTx (linkKey x) { s1.tx (linkKey x) with turn := (vcOrder 0).idxOf v + 1 }
      | none => idle

/-- FLIT_SLOT: in each flit time the sender of a channel picks the next flit and sends it (R168, R170, R278). -/
def execFlitSlot (ch : Chan) (s : State) : Out :=
  match ch with
  | .pair i j => .next (s.pairSlot i j)
  | .link x => .next (s.linkSlot x)

/-! ## Reception -/

/-- Forward distance from `a` to `b` modulo 2^16. -/
def seqDist (a b : Nat) : Nat := (b + 65536 - a) % 65536

/-- Credits that a header returns (R264). -/
def State.takeCredits (s : State) (k : Nat) (h : FlitHdr) : State :=
  if h.crcnt = 0 then s else s.setTx k ((s.tx k).regain h.crvc h.crcnt)

/-- Owe the far end of a channel credits for flits received from it. -/
def State.oweCredits (s : State) (k vc n : Nat) : State := s.setTx k ((s.tx k).addOwe vc n)

/-- A message has arrived whole on a pair (R264): it is handed to endpoint `j` (R34, R36). -/
def State.message (s : State) (k j : Nat) (m : List Byte) : State :=
  let r := s.rx k
  (s.setRx k { r with got := r.got ++ [m] }).atEp j (noteOf m)

/-- The data of a flit joins the message that is arriving on its virtual channel and stream; SOLO and TAIL end it, a control flit carries
none (R264). -/
def State.assemble (s : State) (k j vcs : Nat) (flit : List Byte) : State :=
  let h := hdrOf (leNat (flit.take 8))
  let d := (flit.drop 8).take h.valid
  let r := s.rx k
  let part := tget (fun _ => []) r.part vcs
  let keep := fun (l : List Byte) => s.setRx k { r with part := tput (fun _ => []) r.part vcs l }
  match h.type with
  | 1 => (keep []).message k j d
  | 2 => keep d
  | 3 => keep (part ++ d)
  | 4 => (keep []).message k j (part ++ d)
  | _ => s

/-- Hand a fabric flit to its consumer: its credit is returned and the next number expected (R169, R171). -/
def State.deliver (s : State) (k back vcs : Nat) (seq : Nat) (flit : List Byte) : State :=
  let r := s.rx k
  let s1 := s.setRx k { r with next := tput (fun _ => 0) r.next vcs ((seq + 1) % 65536) }
  (s1.oweCredits back (vcs % 4) 1).assemble k (k % 16) vcs flit

/-- Deliver held flits as long as the next number is there. -/
def State.deliverRun (k back vcs : Nat) : Nat → State → State
  | 0, s => s
  | n + 1, s =>
    let r := s.rx k
    let nx := tget (fun _ => 0) r.next vcs
    match r.held.find? (fun h => h.vc == vcs && h.seq == nx) with
    | none => s
    | some h => State.deliverRun k back vcs n ((s.setRx k { r with held := r.held.erase h }).deliver k back vcs nx h.flit)

/-- A codeword of a fabric pair: dropped and counted where it cannot be used, else delivered in sequence order (R171). -/
def State.pairReceive (s : State) (i j : Fin 16) (cw : List Byte) : State :=
  let k := 16 * i.val + j.val
  let back := 16 * j.val + i.val
  let r := s.rx k
  match decodeFlit cw with
  | none => s.setRx k { r with lost := r.lost + 1 }
  | some (f, _) =>
    let h := hdrOf (leNat (f.take 8))
    let s1 := s.takeCredits back h
    if h.type = 0 then s1
    else
      let vcs := h.stream % 8 * 4 + h.vc
      let d := seqDist (tget (fun _ => 0) r.next vcs) h.seq
      if d = 0 then State.deliverRun k back vcs (r.held.length) (s1.deliver k back vcs h.seq f)
      else if d < 32768 then s1.setRx k { r with held := r.held ++ [⟨vcs, h.seq, f⟩] }
      else s1

/-! ## Landing buffers -/

def LinkSt.landing (l : LinkSt) (vc : Nat) : Landing := tget (fun _ => {}) l.land vc

def LinkSt.setLanding (l : LinkSt) (vc : Nat) (b : Landing) : LinkSt := { l with land := tput (fun _ => {}) l.land vc b }

/-- The 32 bytes of a length record (R280). -/
def lengthRecord (vc lane : Nat) (p : Landed) : List Byte :=
  [1] ++ leBytes 1 vc ++ leBytes 1 p.stream ++ leBytes 1 p.status ++ leBytes 2 p.data.length ++ leBytes 2 ((p.data.length + 31) / 32) ++
  leBytes 2 p.seq ++ leBytes 1 p.src ++ leBytes 1 lane ++ leBytes 4 0 ++ leBytes 8 p.bt ++ leBytes 8 0

/-- The idle item: what a read from an empty bank returns (R279, R280). -/
def idleItem : List Byte := List.replicate 32 0

/-- Words of 32 bytes, the last padded with zeros. -/
def bankWords (d : List Byte) : List (List Byte) :=
  (List.range ((d.length + 31) / 32)).map (fun i => (((d.drop (32 * i)).take 32) ++ List.replicate 32 0).take 32)

/-- A packet as its bank holds it: the length record in its slot, then its data (R279). -/
def packetWords (vc lane : Nat) (p : Landed) : List (List Byte) := lengthRecord vc lane p :: bankWords p.data

/-- Read one word of a bank (R279). -/
def readWord : List (List Byte) → List Byte × List (List Byte)
  | [] => (idleItem, [])
  | w :: r => (w, r)

/-- Read `n` words of a bank. -/
def readWords : Nat → List (List Byte) → List Byte × List (List Byte)
  | 0, b => ([], b)
  | n + 1, b => let t := readWords n (readWord b).2; ((readWord b).1 ++ t.1, t.2)

/-- Read the next packet of a bank by its length record; nothing where the record is the idle item (R279, R280). -/
def takePacket (b : List (List Byte)) : Option (Landed × List (List Byte)) :=
  let w := (readWord b).1
  let f := fun (i n : Nat) => leNat ((w.drop i).take n)
  if f 0 1 = 0 then none
  else
    let t := readWords (f 6 2) (readWord b).2
    some (⟨f 2 1, f 3 1, f 8 2, f 10 1, f 16 8, t.1.take (f 4 2)⟩, t.2)

/-- The filling bank passes to the consumer at the end of a packet when the draining bank is empty (R279). -/
def Landing.swap (b : Landing) (vc lane : Nat) : Landing :=
  if b.part.isNone && b.drain.isEmpty then { fill := [], part := none, drain := b.fill.flatMap (packetWords vc lane) } else b

/-- Close the open packet with a status (R279). -/
def Landing.close (b : Landing) (vc lane status : Nat) : Landing :=
  match b.part with
  | some p => ({ b with fill := b.fill ++ [{ p with status := status }], part := none } : Landing).swap vc lane
  | none => b

/-- Missing sequence numbers of a virtual channel of a link are lost: the open packet is cut short and their credits
return at once (R278, R279). -/
def State.linkGap (s : State) (x vc seq : Nat) : State :=
  let r := s.rx (linkKey x)
  let d := seqDist (tget (fun _ => 0) r.next vc) seq
  if d = 0 ∨ 32768 ≤ d then s
  else
    let l := s.link x
    ((s.setLink x (l.setLanding vc ((l.landing vc).close vc (otherLane (x % 32)) 1))).setRx (linkKey x)
      { r with next := tput (fun _ => 0) r.next vc seq }).oweCredits (linkKey x) vc d

/-- One data flit landed in a bank: HEAD and SOLO open a packet, the last flit closes it; a flit with no open packet is
dropped and its credit returned (R279). -/
def State.land (s : State) (x : Nat) (h : FlitHdr) (data : List Byte) : State :=
  let l := s.link x
  let r := s.rx (linkKey x)
  let b := l.landing h.vc
  let lane := otherLane (x % 32)
  let use := s.setRx (linkKey x) { r with used := tput (fun _ => 0) r.used h.vc (tget (fun _ => 0) r.used h.vc + 1) }
  if h.type = 1 ∨ h.type = 2 then
    let b1 := { b.close h.vc lane 1 with part := some ⟨h.stream, 0, h.seq, h.src, s.bt, data⟩ }
    use.setLink x (l.setLanding h.vc (if h.type = 1 then b1.close h.vc lane 0 else b1))
  else match b.part with
    | some p =>
      let b1 : Landing := { b with part := some { p with data := p.data ++ data, bt := s.bt } }
      use.setLink x (l.setLanding h.vc (if h.type = 4 then b1.close h.vc lane 0 else b1))
    | none => s.oweCredits (linkKey x) h.vc 1

/-- A flit of a link that is not NULL: a control flit passes to the link layer and returns its credit, a data flit lands, and one without
a free credit takes the link down (R278, R279, R284). Data flits come in ACTIVE and PAUSED only. -/
def State.takeFlit (s : State) (x : Nat) (h : FlitHdr) (data : List Byte) : State :=
  let k := linkKey x
  let r := s.rx k
  let next := s.setRx k { r with next := tput (fun _ => 0) r.next h.vc ((h.seq + 1) % 65536) }
  if h.vc = 3 ∨ h.type > 4 then next.oweCredits k h.vc 1
  else if s.linkState x < 6 then s
  else if laneCredits (s.spinePort (x / 32)) h.vc ≤ tget (fun _ => 0) r.used h.vc then
    ((s.raise 0x0509 (dieIO (x / 192)) (linkData x)).linkDark x).linkSettle x
  else next.land x h data

/-- A codeword of a link (R267, R278, R279, R284). From IDENT on the link layer follows sequence numbers and owes credits. -/
def State.linkReceive (s : State) (x : Nat) (cw : List Byte) : State :=
  let st := s.linkState x
  if x % 32 = 0 ∨ st < 2 ∨ st = 8 then s
  else
    let k := linkKey x
    let r := s.rx k
    match decodeFlit cw with
    | none =>
      let bad := if rsDecode (scramble (cw.map (·.toNat))) = [] then r.bad + 1 else 0
      let s1 := (s.setRx k { r with bad := bad }).bump F.PRT_LINK_LOST x 1
      if bad = 8 ∧ st = 6 then (s1.linkDark x).linkSettle x else s1
    | some (f, _) =>
      let h := hdrOf (leNat (f.take 8))
      let s1 := (s.setRx k { r with bad := 0 }).takeCredits k h
      if st = 2 then s1
      else
        let s2 := s1.linkGap x h.vc h.seq
        if h.type = 0 then s2 else s2.takeFlit x h ((f.drop 8).take h.valid)

/-- FLIT_RECEIVE: a codeword is received, decoded, checked and delivered or dropped (R171, R266, R267, R278). -/
def execFlitReceive (ch : Chan) (levels : List (Fin 4)) (s : State) : Out :=
  match ch with
  | .pair i j => .next (s.pairReceive i j (laneBytes levels))
  | .link x => .next (s.linkReceive x (laneBytes levels))

/-- FLIT_LOSS_TIMEOUT: a number missing 1 µs after a later one arrived is lost; its credit returns and the later flits are
delivered (R171). A link declares its losses at the gap (R278). -/
def execFlitLossTimeout (ch : Chan) (vc : Fin 4) (stream : Fin 8) (s : State) : Out :=
  match ch with
  | .link _ => .next s
  | .pair i j =>
    let k := 16 * i.val + j.val
    let back := 16 * j.val + i.val
    let vcs := stream.val * 4 + vc.val
    let r := s.rx k
    let nx := tget (fun _ => 0) r.next vcs
    match (r.held.filter (fun h => h.vc == vcs)).map (fun h => seqDist nx h.seq) with
    | [] => .next s
    | d :: ds =>
      let m := ds.foldl min d
      let r1 := { r with next := tput (fun _ => 0) r.next vcs ((nx + m) % 65536), part := tput (fun _ => []) r.part vcs [] }
      let s1 := (s.setRx k { r1 with lost := r.lost + m }).oweCredits back vc m
      .next (State.deliverRun k back vcs r.held.length s1)

/-- CREDIT_IDLE_RETURN: credits endpoint `i` owes `j` go in a control flit after 100 ns without other traffic (R169). -/
def execCreditIdleReturn (i j : Fin 16) (s : State) : Out :=
  let k := 16 * i.val + j.val
  let t := s.tx k
  match s.lanesUp k with
  | [] => .next s
  | ls =>
    if t.oweOf t.oweVc ≠ 0 ∧ t.grants 3 then
      .next ((s.setTx k { t with lane := t.lane + 1 }).emit (.pair i j) (ls.getD (t.lane % ls.length) 0) i j 3 ⟨8, 0, 240, 0, []⟩)
    else .next s

/-- MCAST_WAIT_RESERVE: a multicast flit that waited 64 flit times has the next slot of every member pair, unless one is DOWN (R167, R168,
R172). -/
def execMcastWaitReserve (i : Fin 16) (g : Fin 7) (vc : Fin 4) (s : State) : Out :=
  if s.mcastQueue i g vc = [] ∨ (groupMembers g i).any (fun m => (s.lanesUp (16 * i.val + m)).isEmpty) then .next s
  else .next ((groupMembers g i).foldl (fun (a : State) m =>
    let t := a.tx (16 * i.val + m)
    a.setTx (16 * i.val + m) { t with reserved := t.reserved.add (g * 4 + vc) }) s)

end Sys2Proof.Machine
end

