-- ==== Sys2Proof/Machine/Ports.lean ====
section
/-!
DEFINITION. Ports: link training (R284 to R287), the mover and the commit FIFOs (R281), egress queues and the injection
throttle (R283).
-/
namespace Sys2Proof.Machine

/-! ## Training -/

/-- ALIGN to IDENT: TRAIN_IDENT is sent (R284). -/
def State.linkAlign (s : State) (x : Nat) : State :=
  if s.linkState x = 2 then
    ((s.setLinkState x 3).setLink x { s.link x with ident := false, acked := false }).sendCtl x (s.identData 1 x)
  else s

/-- LINK_ALIGNED: 64 clean codewords: ALIGN to IDENT (R284). -/
def execLinkAligned (x : Fin 768) (s : State) : Out := .next (s.linkAlign x)

/-- TRAIN_IDENT_RESEND: in IDENT a TRAIN_IDENT is sent every 10 µs (R284). -/
def execTrainIdentResend (x : Fin 768) (s : State) : Out :=
  if s.linkState x = 3 then .next (s.sendCtl x (s.identData 1 x)) else .next s

/-- The check of a received TRAIN_IDENT (R286). -/
def State.identOk (s : State) (x : Nat) (f : TrainFields) : Bool :=
  let sp := s.spinePort (x / 32)
  f.port.toNat == x / 32 && f.spine == sp && f.multi == s.bit F.PRT_CTRL_TOPOLOGY && f.device.toNat == s.linkPeer x &&
  f.version.toNat == s.rd F.STK_PKG_PROTO

/-- The bytes of a train message with given fields (R285). -/
def trainBytes (code : Nat) (f : TrainFields) : List Byte :=
  leBytes 4 code ++ leBytes 2 f.device.toNat ++ leBytes 1 f.port.toNat ++ leBytes 1 (b2n f.spine + 2 * b2n f.multi) ++
  leBytes 1 f.version.toNat ++ [0] ++ leBytes 2 f.bootId.toNat ++ leBytes 4 f.feat.toNat

/-- IDENT to TEST once TRAIN_IDENT has passed and TRAIN_ACK has come (R284). -/
def State.toTest (s : State) (x : Nat) : State :=
  let l := s.link x
  if s.linkState x = 3 ∧ l.ident ∧ l.acked then (s.setLinkState x 4).wr F.PRT_LINK_PEER x (s.linkPeer x) else s

/-- A received TRAIN_IDENT is checked; it is acknowledged, or the link enters FAULT with WIRING_FAULT (R284 to R286, R289). -/
def State.identIn (s : State) (x : Nat) (f : TrainFields) : State :=
  if s.linkState x = 3 then
    if s.identOk x f then
      ((s.setLink x { s.link x with ident := true, newBoot := f.bootId.toNat }).sendCtl x (trainBytes 2 f)).toTest x
    else
      (s.setLinkState x 8).raise 0x0503 (dieIO (x / 192)) (linkData x ++
        [(2, f.device.toNat), (1, f.port.toNat), (1, b2n f.spine + 2 * b2n f.multi), (1, f.version.toNat)])
  else s

/-- TRAIN_IDENT: a TRAIN_IDENT is received (R284 to R286). -/
def execTrainIdent (x : Fin 768) (f : TrainFields) (s : State) : Out := .next (s.identIn x f)

/-- TRAIN_ACK: with a passing TRAIN_IDENT it moves the link to TEST (R284). -/
def execTrainAck (x : Fin 768) (_f : TrainFields) (s : State) : Out :=
  if s.linkState x = 3 then .next ((s.setLink x { s.link x with acked := true }).toTest x) else .next s

/-- IDENT_TIMEOUT: 10 ms in IDENT without passing returns the link to ALIGN (R284). -/
def execIdentTimeout (x : Fin 768) (s : State) : Out :=
  if s.linkState x = 3 then .next ((s.setLinkState x 2).setLink x { s.link x with ident := false, acked := false }) else .next s

/-- Bytes of the packets that the unread words of a bank hold (R279, R280). -/
def bankLengths : Nat → List (List Byte) → List Nat
  | 0, _ => []
  | n + 1, b =>
    match takePacket b with
    | none => []
    | some (e, r) => e.data.length :: bankLengths n r

/-- Flits that the banks of one virtual channel hold. -/
def Landing.flits (b : Landing) : Nat :=
  ((b.fill ++ b.part.toList).map (fun p => p.data.length) ++ bankLengths b.drain.length b.drain).foldl
    (fun a n => a + (n + 239) / 240) 0

/-- CREDIT to ACTIVE: the credits the peer announced, LINK_UP, and PEER_RESTARTED where its BOOT_ID changed (R284, R289);
beacon time may have a parent now (R384). -/
def State.linkActive (s : State) (x : Nat) (given : List Nat) : State :=
  let sp := s.spinePort (x / 32)
  let t := s.tx (linkKey x)
  let used := (List.range 4).foldl (fun (u : Tbl Nat) v => tput (fun _ => 0) u v (laneCredits sp v - given.getD v 0)) []
  let l := s.link x
  let s1 := ((s.setTx (linkKey x) { t with used := used }).setLinkState x 6).setLink x
    { l with initIn := none, peerBoot := some l.newBoot, fails := 0, steps := 0 }
  let s2 := s1.raise 0x0501 (dieIO (x / 192)) (linkData x ++ [(2, s.linkPeer x), (2, l.newBoot)])
  let s3 := match l.peerBoot with
    | some b => if b = l.newBoot then s2 else s2.raise 0x050A (dieIO (x / 192)) (linkData x ++ [(2, b), (2, l.newBoot)])
    | none => s2
  s3.btSettle.linkShut x

/-- TEST to CREDIT: CREDIT_INIT carries each channel's credits less the flits its banks hold (R284). -/
def State.toCredit (s : State) (x : Nat) : State :=
  let sp := s.spinePort (x / 32)
  let l := s.link x
  let held := (List.range 4).map (fun v => (l.landing v).flits)
  let used := (List.range 4).foldl (fun (u : Tbl Nat) v => tput (fun _ => 0) u v (held.getD v 0)) []
  let data := leBytes 4 3 ++ (List.range 4).flatMap (fun v => leBytes 1 (laneCredits sp v - held.getD v 0))
  let s1 := (s.setLinkState x 5).setRx (linkKey x) { s.rx (linkKey x) with used := used }
  let s2 := s1.sendCtl x data
  match l.initIn with
  | some g => s2.linkActive x g
  | none => s2

/-- A link for which no repair is left enters FAULT, with PORT_LANE_OUT (R287). -/
def State.linkFault (s : State) (x : Nat) : State :=
  ((s.linkDark x).setLinkState x 8).raise 0x0505 (dieIO (x / 192)) (linkData x)

/-- The end that a step of R287 names substitutes a ring of the link: its receive filter, or its transmit ring. -/
def State.linkSubstitute (s : State) (x : Nat) (rx : Bool) : State :=
  let p := x / 32
  let c := if rx then otherLane (x % 32) else x % 32
  match s.freeSpare (256 + p) { rx := rx, chan := c, pair := 0, lane := x } with
  | none => s.linkFault x
  | some _ =>
    let key := s.servesPort p rx c
    (s.linkDark x).retireRing (.port (Fin.ofNat 24 p) (Fin.ofNat 36 ((key - 16384) % 36)) rx)

/-- LINK_TEST_DONE: both ends pass: CREDIT. Either fails: DARK; after two failures in a row the receiving end's filter is
substituted, then the sending end's ring, with one test after each step, then FAULT (R284, R287). -/
def execLinkTestDone (x : Fin 768) (here far : Bool) (s : State) : Out :=
  if s.linkState x ≠ 4 then .next s
  else if here ∧ far then .next ((s.setLink x { s.link x with fails := 0, steps := 0 }).toCredit x)
  else
    let n := (s.link x).fails + 1
    let s1 := s.setLink x { s.link x with fails := n }
    if n < 2 then .next ((s1.linkDark x).linkSettle x)
    else if n = 2 then .next (if here then (s1.linkDark x).linkSettle x else s1.linkSubstitute x true)
    else if n = 3 then .next (if far then (s1.linkDark x).linkSettle x else s1.linkSubstitute x false)
    else .next (s1.linkFault x)

/-- CREDIT_INIT: received in CREDIT it makes the link ACTIVE; received during the test it is kept until then (R284). -/
def execCreditInit (x : Fin 768) (req rsp bulk ctl : BitVec 8) (s : State) : Out :=
  let g := [req.toNat, rsp.toNat, bulk.toNat, ctl.toNat]
  if s.linkState x = 5 then .next (s.linkActive x g)
  else if s.linkState x = 4 then .next (s.setLink x { s.link x with initIn := some g })
  else .next s

/-- LANE_PAUSE: received in ACTIVE, the link enters PAUSED and keeps its credits (R284). -/
def execLanePause (x : Fin 768) (_reason : BitVec 8) (s : State) : Out :=
  if s.linkState x = 6 then .next ((s.setLinkState x 7).setLink x { s.link x with pausedHere := false }) else .next s

/-- LANE_RESUME: the end that paused resumes; realignment and a 10^8-bit test within 2 ms return the link to ACTIVE, or it
goes DARK (R284). -/
def execLaneResume (x : Fin 768) (ok : Bool) (s : State) : Out :=
  if s.linkState x = 7 then
    if ok then .next (((s.setLinkState x 6).setLink x { s.link x with pausedHere := false }).linkShut x)
    else .next ((s.linkDark x).linkSettle x)
  else .next s

/-- PAUSED_TIMEOUT: 50 ms in PAUSED: DARK, LINK_DOWN, credits discarded (R284). -/
def execPausedTimeout (x : Fin 768) (s : State) : Out :=
  if s.linkState x = 7 then .next ((s.linkDark x).linkSettle x) else .next s

/-! ## Commit -/

def State.fifo (s : State) (p vc : Nat) : List (Nat × List Byte) := tget (fun _ => []) s.port.commit (p * 4 + vc)

def State.setFifo (s : State) (p vc : Nat) (l : List (Nat × List Byte)) : State :=
  { s with port := { s.port with commit := tput (fun _ => []) s.port.commit (p * 4 + vc) l } }

/-- Bytes a packet takes in a FIFO: whole words of 32 bytes. -/
def wordBytes (n : Nat) : Nat := (n + 31) / 32 * 32

/-- The end-to-end check of a packet: its last four bytes hold the CRC-32C of the others (R281). -/
def packetCrcOk (b : List Byte) : Bool := decide (4 ≤ b.length) && crc32c (b.take (b.length - 4)) == leNat (b.drop (b.length - 4))

/-- Whether the mover of a FIFO may take a packet from receive lane `c`: the lane's landing buffer holds one, and its source is not paused
(R279, R281, R313). -/
def State.laneReady (s : State) (p vc c : Nat) : Bool :=
  let x := 32 * p + otherLane c
  c != 0 && !s.rack.paused.contains (p / 6 * 1024 + s.linkPeer x) &&
  !(((s.link x).landing vc).swap vc c).drain.isEmpty

/-- The lane that the mover of a FIFO serves next: the lanes take turns after the last one (R281). -/
def State.moverLane (s : State) (p vc : Nat) : Option Nat :=
  let last := tget (fun _ => 0) s.port.mover (p * 4 + vc)
  ((List.range 32).map (fun k => (last + 1 + k) % 32)).find? (s.laneReady p vc)

/-- PACKET_COMMIT: the mover takes the next packet of the lane whose turn it is, waiting for room; it commits the packet or rewinds it,
and the packet's credits return (R279, R281, R313). -/
def execPacketCommit (p : Fin 24) (lane : Fin 32) (vc : Fin 3) (s : State) : Out :=
  let x := 32 * p.val + otherLane lane
  let l := s.link x
  let b := (l.landing vc).swap vc lane
  if s.moverLane p vc ≠ some lane.val then .next s
  else match takePacket b.drain with
    | none => .next s
    | some (e, r) =>
      let q := s.fifo p vc
      if 65536 < q.foldl (fun a (m : Nat × List Byte) => a + wordBytes m.2.length) 0 + wordBytes e.data.length then .next s
      else
        let k := linkKey x
        let n := (e.data.length + 239) / 240
        let rx := s.rx k
        let s0 := { s with port := { s.port with mover := tput (fun _ => 0) s.port.mover (p * 4 + vc) lane } }
        let s1 := (s0.setLink x (l.setLanding vc (({ b with drain := r } : Landing).swap vc lane))).setRx k
          { rx with used := tput (fun _ => 0) rx.used vc (tget (fun _ => 0) rx.used vc - n) }
        let s2 := s1.oweCredits k vc n
        if e.status = 0 ∧ packetCrcOk e.data then .next (s2.setFifo p vc (q ++ [(e.stream, e.data)]))
        else .next (s2.bump F.PRT_DISCARD_REWIND (p / 6) 1)

/-! ## Egress -/

def fillOf (l : List OutPkt) : Nat := l.foldl (fun a e => a + e.flits) 0

/-- Request and bulk fill of a destination's egress queue, in flits (R283). -/
def State.egressFill (s : State) (q dst : Nat) : Nat := fillOf (s.egress q dst 0) + fillOf (s.egress q dst 2)

/-- The band of a fill: boundaries at START, at equal thirds up to STOP, and at STOP, in sixteenths of 512 flits (R283). -/
def State.bandOf (s : State) (fill : Nat) : Nat :=
  let a := s.rd F.PRT_CTRL_START
  let z := s.rd F.PRT_CTRL_STOP
  ((List.range 4).filter (fun k => decide (32 * (3 * a + k * (z - a)) ≤ 3 * fill))).length

def State.band (s : State) (q dst : Nat) : Nat := tget (fun _ => 0) s.port.band (q * 1024 + dst)

def State.setBand (s : State) (q dst b : Nat) : State :=
  { s with port := { s.port with band := tput (fun _ => 0) s.port.band (q * 1024 + dst) b } }

/-- An endpoint's rate toward a destination in 1/512 flit per ns: 3/4, 1/2 or 1/4 of R in bands T1 to T3 (R283). -/
def State.bandRate (s : State) (q dst : Nat) : Nat :=
  (s.activeLinks q dst).length * (match s.band q dst with | 1 => 15 | 2 => 10 | 3 => 5 | _ => 0)

def State.bucket (s : State) (q dst ep : Nat) : Bucket :=
  let b : Bucket := tget (fun _ => {}) s.port.buckets ((q * 1024 + dst) * 16 + ep)
  { tokens := min 4096 (b.tokens + ((s.now - b.at_) * s.bandRate q dst : Nat)), at_ := s.now }

/-- Whether an endpoint may inject a packet now: response and control packets are never throttled; band T4 stops the others,
and bands T1 to T3 pass them while the token bucket is not empty (R283). -/
def State.mayInject (s : State) (q : Nat) (p : OutPkt) : Bool :=
  if p.vc = 1 ∨ p.vc = 3 then true
  else match s.band q p.dst with
    | 0 => true
    | 4 => false
    | _ => decide (0 < (s.bucket q p.dst p.ep).tokens)

def State.spendTokens (s : State) (q : Nat) (p : OutPkt) : State :=
  if p.vc = 1 ∨ p.vc = 3 ∨ s.band q p.dst = 0 then s
  else
    let b := s.bucket q p.dst p.ep
    let b1 : Bucket := { b with tokens := b.tokens - 512 * p.flits }
    { s with port := { s.port with buckets := tput (fun _ => {}) s.port.buckets ((q * 1024 + p.dst) * 16 + p.ep) b1 } }

/-- Packets on the way to an I/O die's egress queues. -/
def State.issuedTo (s : State) (q : Nat) : List OutPkt := tget (fun _ => []) s.port.issued q

def State.setIssued (s : State) (q : Nat) (l : List OutPkt) : State :=
  { s with port := { s.port with issued := tput (fun _ => []) s.port.issued q l } }

/-- Where a packet for an egress queue comes from: the endpoint of an I/O die, or the compute die of a core (R36). -/
def OutPkt.place (p : OutPkt) : Nat := if p.ep < 12 then 16 + p.ep else p.ep

/-- A packet sets out for the egress queues of I/O die `q`, over the fabric from the die of its core (R36); the DPA in its header places
it on a bundle (R241). -/
def State.issuePkt (s : State) (q : Nat) (p : OutPkt) : State :=
  (s.setIssued q (s.issuedTo q ++ [p])).post
    { kind := 8, src := p.place, dst := 12 + q, vc := p.vc, line := leNat ((p.bytes.drop 8).take 8) % 2 ^ 42 / 256, body := p.bytes }

/-- Room of an egress queue: 512 flits for request and bulk together, 128 for response, 32 for control (R283). -/
def State.egressRoom (s : State) (q : Nat) (p : OutPkt) : Bool :=
  match p.vc with
  | 1 => decide (fillOf (s.egress q p.dst 1) + p.flits ≤ 128)
  | 3 => decide (fillOf (s.egress q p.dst 3) + p.flits ≤ 32)
  | _ => decide (s.egressFill q p.dst + p.flits ≤ 512)

/-- The port an event of an egress queue carries: the first of its die with the role that reaches the destination (R289; log entry
89). -/
def State.egressPort (s : State) (q dst : Nat) : Nat := if dst / 32 = s.rd F.PRT_IDENT_RACK then 6 * q else 6 * q + 3

/-- EGRESS_ENQUEUE: the first packet that has a path (R36, R172) and that its endpoint may inject reaches the die's egress queue, which
takes it, or discards and counts it where it lacks room or where a request or response of more than one flit would go over a SPINE port;
a fill that reaches a lower-rate band takes it at once, with THROTTLE_STOP on entry to T4 (R277, R283). -/
def execEgressEnqueue (q : Fin 4) (s : State) : Out :=
  match (s.issuedTo q).find? (fun p => s.mayInject q p && s.pathOpen p.place (12 + q)) with
  | none => .next s
  | some p =>
    let s1 := (s.setIssued q ((s.issuedTo q).erase p)).spendTokens q p
    let spine := p.dst / 32 != s.rd F.PRT_IDENT_RACK
    if (spine && decide (p.vc < 2) && decide (1 < p.flits)) || !s1.egressRoom q p then
      let s2 := s1.bump F.PRT_DISCARD_EGRESS q 1
      .next (s2.raise 0x0508 (dieIO q) [(1, s.egressPort q p.dst), (2, p.dst), (2, s2.rd F.PRT_DISCARD_EGRESS q)])
    else
      let s2 := s1.setEgress q p.dst p.vc (s1.egress q p.dst p.vc ++ [p])
      let b := s2.bandOf (s2.egressFill q p.dst)
      if s2.band q p.dst < b then
        let s3 := s2.setBand q p.dst b
        .next (if b = 4 then s3.raise 0x0507 (dieIO q) [(1, s.egressPort q p.dst), (2, p.dst)] else s3)
      else .next s2

/-- THROTTLE_BAND_RISE: fill below a band's lower edge for STEP_HOLD µs: the band rises one step (R283). -/
def execThrottleBandRise (q : Fin 4) (dst : Fin 1024) (s : State) : Out :=
  if s.bandOf (s.egressFill q dst) < s.band q dst then .next (s.setBand q dst (s.band q dst - 1)) else .next s

end Sys2Proof.Machine
end

