-- ==== Sys2Proof/Machine/Rack.lean ====
section
/-!
DEFINITION. Rack memory, shared operations: packet layouts (R303, R305, R316), protection windows (R299), placing and sending
requests (R297, R298, R306), parcels (R315 to R317), and what an answer does for the operation that waits for it (R308).
-/
namespace Sys2Proof.Machine

/-! ## Packets -/

/-- A packet's bytes: header, payload and CRC-32C (R281, R303). -/
def Pkt.bytes (p : Pkt) : List Byte :=
  let b := leBytes 1 p.op ++ leBytes 1 p.flags ++ leBytes 2 (p.source + 1024 * p.e) ++ leBytes 4 p.seq ++
    leBytes 8 (p.addr + p.window * 2 ^ 42 + p.target * 2 ^ 50) ++ leBytes 3 p.key ++ leBytes 1 p.pred ++ leBytes 2 p.epoch ++
    leBytes 2 p.bootId ++ leBytes 2 p.len ++ leBytes 1 p.atom ++ [0] ++ leBytes 4 p.tag ++ p.data
  b ++ leBytes 4 (crc32c b)

def Rsp.bytes (p : Rsp) : List Byte :=
  let b := leBytes 1 p.op ++ leBytes 1 p.status ++ leBytes 2 (p.source + 1024 * p.e) ++ leBytes 4 p.seq ++ leBytes 8 p.value ++
    leBytes 2 p.responder ++ leBytes 2 p.bootId ++ leBytes 2 p.len ++ leBytes 2 p.failRec ++ leBytes 4 p.offset ++
    leBytes 4 p.tag ++ p.data
  b ++ leBytes 4 (crc32c b)

/-- A little-endian field of a byte list. -/
def at_ (b : List Byte) (off n : Nat) : Nat := leNat ((b.drop off).take n)

/-- Read a request packet (R303). -/
def parsePkt (b : List Byte) : Pkt :=
  let ad := at_ b 8 8
  { op := at_ b 0 1, flags := at_ b 1 1, source := at_ b 2 2 % 1024, e := at_ b 2 2 / 1024, seq := at_ b 4 4,
    addr := ad % 2 ^ 42, window := ad / 2 ^ 42 % 256, target := ad / 2 ^ 50 % 1024, key := at_ b 16 3, pred := at_ b 19 1,
    epoch := at_ b 20 2, bootId := at_ b 22 2, len := at_ b 24 2, atom := at_ b 26 1 % 16, tag := at_ b 28 4,
    data := (b.drop 32).take (b.length - 36) }

/-- Read a response packet (R305). -/
def parseRsp (b : List Byte) : Rsp :=
  { op := at_ b 0 1, status := at_ b 1 1, source := at_ b 2 2 % 1024, e := at_ b 2 2 / 1024, seq := at_ b 4 4,
    value := at_ b 8 8, responder := at_ b 16 2 % 1024, bootId := at_ b 18 2, len := at_ b 20 2, failRec := at_ b 22 2,
    offset := at_ b 24 4, tag := at_ b 28 4, data := (b.drop 32).take (b.length - 36) }

/-- A record's bytes (R316). -/
def Rec.bytes (r : Rec) : List Byte :=
  leBytes 1 r.kind ++ leBytes 1 r.atom ++ leBytes 2 r.len ++ leBytes 8 (r.addr + r.window * 2 ^ 42) ++ leBytes 3 r.key ++ [0] ++ r.data

/-- Data bytes that follow a record's header: none for READ. -/
def recData (kind len : Nat) : Nat := if kind = 4 then 0 else len

/-- The records of a PARCEL payload, in order (R316). -/
def parseRecs : Nat → List Byte → List Rec
  | 0, _ => []
  | fuel + 1, b =>
    if b.length < 16 then []
    else
      let n := at_ b 2 2
      let d := recData (at_ b 0 1) n
      let ad := at_ b 4 8
      { dst := 0, kind := at_ b 0 1, atom := at_ b 1 1 % 16, addr := ad % 2 ^ 42, window := ad / 2 ^ 42 % 256,
        key := at_ b 12 3, len := n, data := (b.drop 16).take d, own := ⟨0, 0, 0, 0, 0, 0, 0⟩ } ::
        parseRecs fuel (b.drop (16 + d))

def pktRecs (p : Pkt) : List Rec := parseRecs (p.data.length / 16 + 1) p.data

/-- Whether a packet is atomic, or carries an atomic record (R306, R310). -/
def Pkt.atomic (p : Pkt) : Bool := p.op == 3 || (p.op == 6 && (pktRecs p).any (fun r => r.kind == 3))

/-- The head of a port's commit FIFO (R281). -/
def State.headPkt (s : State) (p vc : Nat) : Option (Nat × List Byte) := (s.fifo p vc).head?

def State.popPkt (s : State) (p vc : Nat) : State := s.setFifo p vc ((s.fifo p vc).drop 1)

/-! ## Windows -/

def State.winBase (s : State) (w : Nat) : Nat := s.rd F.MEM_WIN_BASE_HI_BASE_HI w * 2 ^ 32 + s.rd F.MEM_WIN_BASE_LO_BASE_LO w * 4096

def State.winSize (s : State) (w : Nat) : Nat := s.rd F.MEM_WIN_SIZE_SIZE w * 4096

/-- The window check: 0, WINDOW_KEY_FAULT (0x21) or ADDRESS_FAULT (0x20) (R299). `perm` is 0 READ, 1 WRITE, 2 ATOMIC. -/
def State.winCheck (s : State) (w key perm addr n : Nat) : Nat :=
  let grants := s.bit (if perm = 0 then F.MEM_WIN_CTRL_READ else if perm = 1 then F.MEM_WIN_CTRL_WRITE else F.MEM_WIN_CTRL_ATOMIC) w
  if !s.bit F.MEM_WIN_CTRL_ENABLE w || s.rd F.MEM_WIN_CTRL_KEY w != key || !grants then 0x21
  else if addr < s.winBase w ∨ s.winBase w + s.winSize w < addr + n then 0x20
  else if !s.mapOk addr n (decide (perm ≠ 0)) || !s.liveOk addr n then 0x20
  else 0

/-! ## Atomics -/

/-- FP32 value in the low word of an 8-byte word with a new low word. -/
def lowWord (m : Nat) (w : Word) : Nat := m / 2 ^ 32 * 2 ^ 32 + w.toNat

/-- The operations of R296 on the word m with operand a and, for CAS_64, swap value b. -/
def atomicOp (code m a b : Nat) : Nat :=
  let sg := fun (v : Nat) => (BitVec.ofNat 64 v).toInt
  let w := fun (v : Nat) => BitVec.ofNat 32 v
  match code with
  | 0 => (m + a) % 2 ^ 64
  | 1 => lowWord m (addF (w m) (w a))
  | 2 => if sg a < sg m then a else m
  | 3 => if sg m < sg a then a else m
  | 4 => lowWord m (toF32 ((f32 (w m)).min (f32 (w a))))
  | 5 => lowWord m (maxF (w m) (w a))
  | 6 => a
  | _ => if m = a then b else m

/-! ## Reachability and placement -/

/-- The device a request leaves toward: its target in the rack, else the relay in the target rack at the own slot (R297). -/
def State.hop (s : State) (dst : Nat) : Nat :=
  if dst / 32 = s.rd F.PRT_IDENT_RACK then dst else 32 * (dst / 32) + s.rd F.PRT_IDENT_SLOT

def State.sameRack (s : State) (dst : Nat) : Bool := dst / 32 == s.rd F.PRT_IDENT_RACK

/-- Whether I/O die `q` has a path to a target now (R297). -/
def State.hasPath (s : State) (q dst : Nat) : Bool := !(s.activeLinks q (s.hop dst)).isEmpty

/-- Whether a target can be reached at first send (R297). -/
def State.reachable (s : State) (dst : Nat) : Bool :=
  s.bit F.PRT_IDENT_VALID && (s.sameRack dst || (s.bit F.PRT_CTRL_TOPOLOGY && s.bit F.STK_PKG_SPINE_ROLE)) &&
  (List.range 4).any (fun q => s.hasPath q dst)

/-- The hash of a line (R298). -/
def lineHash (addr : Nat) : Nat :=
  let l := addr / 64
  (l ^^^ l / 2 ^ 7 ^^^ l / 2 ^ 14) % 65536

/-- The first die from `q` on, modulo 4, that has a path. -/
def State.dieFrom (s : State) (q dst : Nat) : Nat :=
  (([0, 1, 2, 3].map (fun k => (q + k) % 4)).find? (fun k => s.hasPath k dst)).getD q

def State.pair (s : State) (e dst : Nat) : Pair := tget (fun _ => {}) s.rack.pairs (e * 1024 + dst)

def State.setPair (s : State) (e dst : Nat) (p : Pair) : State :=
  { s with rack := { s.rack with pairs := tput (fun _ => {}) s.rack.pairs (e * 1024 + dst) p } }

/-- Unacknowledged requests of one transfer stream of a core to one target, with their I/O die (R298). -/
def State.streamReqs (s : State) (lc q dst : Nat) : List Req :=
  (s.rack.pairs.flatMap (fun (e : Nat × Pair) => if e.1 % 1024 = dst then e.2.sent ++ e.2.wait else [])).filter
    (fun r => r.owns.any (fun o => (o.kind == 1 || o.kind == 5) && o.a == lc && o.q == q))

/-- Whether an operation of a transfer stream owns a record. -/
def Rec.ofStream (r : Rec) (lc q : Nat) : Bool := (r.own.kind == 1 || r.own.kind == 5) && r.own.a == lc && r.own.q == q

/-- Lines a record touches. -/
def Rec.lines (r : Rec) : List Nat := (List.range ((r.addr % 64 + max r.len 1 + 63) / 64)).map (fun i => r.addr / 64 + i)

/-- I/O die, lines and whether it stores, of every request of a stream to a target that is not acknowledged, the records of open
parcels among them (R298). -/
def State.streamLines (s : State) (lc q dst : Nat) : List (Nat × List Nat × Bool) :=
  (s.streamReqs lc q dst).flatMap (fun r =>
    if r.pkt.op = 6 then (r.recs.filter (fun x => x.ofStream lc q)).map (fun x => (r.q, x.lines, x.kind != 4))
    else [(r.q, r.lines, r.pkt.op != 1 && r.pkt.op != 5)]) ++
  s.rack.parcels.flatMap (fun (e : Nat × List Rec) =>
    (e.2.filter (fun x => x.ofStream lc q && x.dst == dst)).map (fun x => (e.1 / 32, x.lines, x.kind != 4)))

/-- The I/O die of a single-line request of a stream: that of an unacknowledged request of the stream to the line, else IOq of
the hash, else the next with a path (R298). -/
def State.placeLine (s : State) (lc q dst addr : Nat) : Nat :=
  match (s.streamLines lc q dst).find? (fun (r : Nat × List Nat × Bool) => r.2.1.contains (addr / 64)) with
  | some r => r.1
  | none => s.dieFrom (lineHash addr % 4) dst

/-- The named link of a single-line request (R298). -/
def State.nameLink (s : State) (q dst addr : Nat) : Option Nat :=
  let l := s.activeLinks q dst
  if l = [] then none else l[lineHash addr / 4 % l.length]?

/-- The end-to-end stream of a transfer stream through I/O die `q` (R306). -/
def teStream (q lc st : Nat) : Nat := 16 * q + (8 * lc + st) % 15

/-! ## Sending -/

/-- Virtual channel of a request (R304). -/
def reqVc (op : Nat) : Nat := if op = 1 ∨ op = 2 ∨ op = 3 then 0 else 2

/-- HOLD and FENCED send no remote request (R455, R458). -/
def State.mayRemote (s : State) : Bool := s.rd F.LVS_STATUS_STATE != 3 && s.rd F.LVS_STATUS_STATE != 7

/-- A request leaves through its die toward its hop (R283, R298). -/
def State.launchReq (s : State) (r : Req) : State :=
  s.issuePkt r.q ⟨s.hop r.pkt.target, reqVc r.pkt.op, 0, r.link, r.ep, r.pkt.bytes⟩

/-- Distance back to the nearest earlier unacknowledged request of the pair on a common line, or 0 (R306). -/
def predOf (sent : List Req) (lines : List Nat) (seq : Nat) : Nat :=
  match sent.reverse.find? (fun r => r.lines.any (fun l => lines.contains l)) with
  | some r => (seq + 2 ^ 32 - r.pkt.seq) % 2 ^ 32
  | none => 0

/-- Whether a pair may send its next sequence number: less than 64 above the oldest unacknowledged, and at most four
unacknowledged atomics (R306). -/
def Pair.open_ (p : Pair) (atomic : Bool) : Bool :=
  (match p.sent with
   | [] => true
   | r :: _ => decide ((p.next + 2 ^ 32 - r.pkt.seq) % 2 ^ 32 < 64)) &&
  (!atomic || decide ((p.sent.filter (fun r => r.pkt.atomic)).length < 4))

/-- Send what a pair may send (R306). -/
def State.pump (e dst : Nat) : Nat → State → State
  | 0, s => s
  | fuel + 1, s =>
    let p := s.pair e dst
    match p.wait with
    | [] => s
    | r :: rest =>
      if p.open_ r.pkt.atomic ∧ s.mayRemote then
        let pk := { r.pkt with source := s.device, e := e, seq := p.next, pred := predOf p.sent r.lines p.next,
                               epoch := s.rd F.LVS_STATUS_EPOCH, bootId := s.rd F.PRT_IDENT_BOOT_ID }
        let r1 := { r with pkt := pk }
        State.pump e dst fuel ((s.setPair e dst { next := (p.next + 1) % 2 ^ 32, sent := p.sent ++ [r1], wait := rest }).launchReq r1)
      else s

def State.pumpAll (s : State) (e dst : Nat) : State := State.pump e dst ((s.pair e dst).wait.length) s

/-- Give a request to its pair. -/
def State.rackSend (s : State) (e : Nat) (r : Req) : State :=
  let p := s.pair e r.pkt.target
  (s.setPair e r.pkt.target { p with wait := p.wait ++ [r] }).pumpAll e r.pkt.target

/-! ## Parcels -/

def State.parcel (s : State) (q rack : Nat) : List Rec := tget (fun _ => []) s.rack.parcels (q * 32 + rack)

def State.setParcel (s : State) (q rack : Nat) (l : List Rec) : State :=
  { s with rack := { s.rack with parcels := tput (fun _ => []) s.rack.parcels (q * 32 + rack) l } }

def Rec.size (r : Rec) : Nat := 16 + recData r.kind r.len

/-- Split one target's records into packets of at most 4,096 bytes; an ATOMIC or READ record is the last of its packet
(R315, R317). -/
def packRecs : List Rec → List Rec → List (List Rec)
  | cur, [] => if cur = [] then [] else [cur]
  | cur, r :: rest =>
    let used := cur.foldl (fun a x => a + x.size) 0
    if cur ≠ [] ∧ 4096 < used + r.size then
      cur :: (if r.kind = 3 ∨ r.kind = 4 then [r] :: packRecs [] rest else packRecs [r] rest)
    else if r.kind = 3 ∨ r.kind = 4 then (cur ++ [r]) :: packRecs [] rest
    else packRecs (cur ++ [r]) rest

/-- The request that carries one packet of records (R315, R316). -/
def recsReq (q tag : Nat) (last : Bool) (rs : List Rec) : Req :=
  let d := rs.flatMap Rec.bytes
  { q := q, ep := 12 + q, recs := rs, owns := rs.map (·.own), lines := rs.flatMap Rec.lines
    pkt := { op := 6, flags := 2 * b2n last, target := (rs.map (·.dst)).headD 0, len := d.length, tag := tag, data := d } }

def State.sendParcel (q tag : Nat) : List (List Rec) → State → State
  | [], s => s
  | rs :: rest, s => State.sendParcel q tag rest (s.rackSend (16 * q + 15) (recsReq q tag (rest == []) rs))

/-- Flush: close the open parcel of a rack and send its packets, each for one target (R315, R317). -/
def State.flushParcel (s : State) (q rack : Nat) : State :=
  let rs := s.parcel q rack
  if rs = [] then s
  else
    let targets := (rs.map (·.dst)).eraseDups
    let packs := targets.flatMap (fun t => packRecs [] (rs.filter (fun r => r.dst == t)))
    let tag := s.rack.parcelTag
    let s1 := s.setParcel q rack []
    State.sendParcel q tag packs { s1 with rack := { s1.rack with parcelTag := (tag + 1) % 2 ^ 32 } }

/-- Add a record to the gateway's open parcel; a full parcel is flushed first, and every record but a STORE flushes at once
(R315, R317). -/
def State.addRec (s : State) (q : Nat) (r : Rec) : State :=
  let rack := r.dst / 32
  let used := (s.parcel q rack).foldl (fun a x => a + x.size) 0
  let s1 := if s.rd F.PRT_RM_CTRL_PARCEL * 4096 < used + r.size then s.flushParcel q rack else s
  let s2 := s1.setParcel q rack (s1.parcel q rack ++ [r])
  if r.kind = 1 ∧ used + r.size < s.rd F.PRT_RM_CTRL_PARCEL * 4096 then s2 else s2.flushParcel q rack

/-- Flush every gateway that holds a record of a transfer stream (R317). -/
def State.flushStream (s : State) (lc st : Nat) : State :=
  (List.range 128).foldl (fun (a : State) k =>
    if (a.parcel (k / 32) (k % 32)).any (fun r => (r.own.kind == 1 || r.own.kind == 5) && r.own.a == lc && r.own.q == 5 + st) then
      a.flushParcel (k / 32) (k % 32) else a) s

/-- Place one request of an operation: in the rack as a packet on its stream, across racks as a record of a parcel
(R298, R306, R317). `kind` is the record kind it becomes. -/
def State.place1 (s : State) (q e kind : Nat) (link : Bool) (ep : Nat) (p : Pkt) (own : Own) : State :=
  if s.sameRack p.target then
    s.rackSend e { q := q, ep := ep, pkt := p, owns := [own], link := if link then s.nameLink q p.target p.addr else none,
                   lines := if reqVc p.op = 2 then [] else (List.range ((max p.len 1 + 63) / 64)).map (fun i => p.addr / 64 + i) }
  else s.addRec q ⟨p.target, kind, p.atom, p.addr, p.window, p.key, p.len, p.data, own⟩

/-! ## The pieces of a remote operation -/

/-- Whether an operation is a remote store (R73). -/
def isRemoteStore (o : Nat) : Bool := o == 7 || o == 8 || o == 9

/-- Local area of a remote operation: address form and bytes read or written (R69, R70). -/
def remoteLocal (op : EngOp) : XAddr × Nat :=
  let o := xfOp op.word
  if o = 6 ∨ o = 10 then (xaddr op.a, op.x.toNat)
  else if o = 8 then (xaddr op.b, if xfIn op.word = 7 then 16 else 8)
  else (xaddr op.b, op.x.toNat)

/-- DPA on the target device. -/
def remoteAddr (op : EngOp) : Nat :=
  match xaddr (if xfOp op.word = 6 ∨ xfOp op.word = 10 then op.b else op.a) with
  | .dpa a => a
  | _ => 0

/-- The bytes a remote store sends; BULK_PUT converts them at the source (R71). -/
def State.remoteData (s : State) (lc : Nat) (op : EngOp) : List Byte :=
  let l := remoteLocal op
  let a := l.1.dpaOf lc
  let fi := xfIn op.word
  let fo := xfOut op.word
  if xfOp op.word = 8 then s.bytes a l.2 ++ List.replicate (16 - l.2) 0
  else if fi = fo then s.bytes a l.2
  else
    let n := (convCount fi fo l.2).getD 0
    convVec fo (fun _ => .nearest) (((List.range n).map (vecElem (fun off => s.byteAt off) fi n a)).map (fun x => f32 (toF32 x)))

/-- A range cut at multiples of `m` of its address, as (offset, bytes). -/
def cutAligned (m addr : Nat) : Nat → Nat → Nat → List (Nat × Nat)
  | 0, _, _ => []
  | fuel + 1, off, n =>
    if off < n then
      let k := min (m - (addr + off) % m) (n - off)
      (off, k) :: cutAligned m addr fuel (off + k) n
    else []

/-- A range cut into pieces of `m` bytes from its start. -/
def cutFlat (m n : Nat) : List (Nat × Nat) := (List.range ((n + m - 1) / m)).map (fun i => (m * i, min m (n - m * i)))

/-- The pieces a remote operation sends, as (offset, bytes): lines, packets or records (R70, R298, R317). -/
def State.remotePieces (s : State) (dst : Nat) (op : EngOp) (n : Nat) : List (Nat × Nat) :=
  let far := !s.sameRack dst
  match xfOp op.word with
  | 6 => if far then cutAligned 4096 (remoteAddr op) (n + 1) 0 n else [(0, n)]
  | 7 => cutFlat 64 n
  | 8 => [(0, 16)]
  | 9 => cutFlat (if far then 4080 else 4096) n
  | _ => if far then cutAligned 4096 (remoteAddr op) (n + 1) 0 n else cutFlat 4096 n

/-- Packet operation code and record kind of a piece (R304, R316). -/
def remoteCode (o : Nat) (dm : Bool) : Nat × Nat :=
  match o with
  | 6 => (1, 4)
  | 7 => (2, if dm then 2 else 1)
  | 8 => (3, 3)
  | 9 => (4, 5)
  | _ => (5, 4)

/-- The dies that have a path to a target, from the die of a line on, modulo 4 (R298). -/
def State.bulkDies (s : State) (q0 dst : Nat) : List Nat := ([0, 1, 2, 3].map (fun k => (q0 + k) % 4)).filter (fun q => s.hasPath q dst)

/-- Send the next pieces of an operation in order, from the `i`-th on; `more` where others stay behind (R298, R303, R306, R317). -/
def State.sendPieces (lc st id : Nat) (op : EngOp) (data : List Byte) (tag : Nat) (more : Bool) :
    Nat → List (Nat × Nat) → State → State
  | _, [], s => s
  | i, (off, n) :: r, s =>
    let o := xfOp op.word
    let dst := sxDevice op.y
    let addr := remoteAddr op + off
    let far := !s.sameRack dst
    let bulk := o == 9 || o == 10
    let q0 := if bulk then lineHash (remoteAddr op) % 4 else s.placeLine lc (5 + st) dst (if o = 6 then remoteAddr op else addr)
    let dies := s.bulkDies q0 dst
    let q := if bulk then dies.getD (i % max dies.length 1) q0 else q0
    let rd := o == 6 || o == 10
    let code := remoteCode o (xfDm op.word)
    let pk : Pkt := { op := code.1, flags := b2n (xfDm op.word && o == 7) + 2 * b2n (bulk && r.isEmpty && !more), addr := addr,
                      window := sxWindow op.y, target := dst, key := sxKey op.y, len := n, atom := if o = 8 then xfIn op.word else 0,
                      tag := if bulk then tag else 0, data := if rd then [] else (data.drop off).take n }
    let own : Own := ⟨if o = 8 then 5 else 1, lc, 5 + st, id, off, if rd then n else 0, if far && rd then addr % 4096 else 0⟩
    State.sendPieces lc st id op data tag more (i + 1) r (s.place1 q (teStream q lc st) code.2 (!bulk) (lc / 16) pk own)

/-- Remote requests a transfer engine holds at most without acknowledgement (R72). -/
def teRequests : Nat := 2048

/-- A started operation sends what the engine's limit of requests leaves room for (R72). -/
def State.sendMore (lc st : Nat) (s : State) (id : Nat) : State :=
  let c := s.core lc
  let q := 5 + st
  match (c.running q).find? (fun r => r.id == id) with
  | none => s
  | some r =>
    let n := min (teRequests - c.remote) r.todo.length
    if n = 0 then s
    else
      let r1 := { r with todo := r.todo.drop n, sent := r.sent + n }
      let c1 := { c.setRunning q ((c.running q).map (fun x => if x.id = id then r1 else x)) with remote := c.remote + n }
      let data := if isRemoteStore (xfOp r.op.word) then s.remoteData lc r.op else []
      State.sendPieces lc st id r.op data r.tag (!r1.todo.isEmpty) r.sent (r.todo.take n) (s.setCore lc c1)

/-- Every started operation of a core sends what it may (R72). -/
def State.sendOn (s : State) (lc : Nat) : State :=
  (List.range 8).foldl (fun (a : State) st =>
    (((a.core lc).running (5 + st)).filter (fun r => !r.todo.isEmpty)).foldl (fun (b : State) r => State.sendMore lc st b r.id) a) s

/-! ## What an answer does -/

/-- An answer for a transfer operation: data is written locally, and the operation waits for one answer less
(R43, R70, R308). -/
def State.ownTe (s : State) (o : Own) (atomic : Bool) (status value : Nat) (data : List Byte) : State :=
  let c := s.core o.a
  match (c.running o.q).find? (fun r => r.id == o.id) with
  | none => s
  | some r =>
    let r1 := { r with waiting := r.waiting - 1, failed := if r.failed.isSome ∨ status = 0 then r.failed else some status }
    let c1 := { c.setRunning o.q ((c.running o.q).map (fun x => if x.id = o.id then r1 else x)) with remote := c.remote - 1 }
    let s1 := (s.setCore o.a c1).sendOn o.a
    if status ≠ 0 then s1
    else if atomic then s1.store ((xaddr r.op.b).dpaOf o.a + 16) (leBytes 8 value)
    else if o.n = 0 then s1
    else s1.store ((xaddr r.op.a).dpaOf o.a + o.off) ((data.drop o.skip).take o.n)

/-- An answer for a descriptor's remote copy (R354). -/
def State.ownDesc (s : State) (o : Own) (status : Nat) (data : List Byte) (write : Bool) : State :=
  let d : DescOp := tget (fun _ => ⟨0, 0, 0, 0⟩) s.rack.descOps o.a
  let ok := status = 0
  let d1 : DescOp := { d with left := d.left - 1, status := if d.status = 0 then status else d.status,
                              moved := if ok ∧ d.status = 0 then d.moved + o.n else d.moved }
  let s1 := { s with rack := { s.rack with descOps := tput (fun _ => ⟨0, 0, 0, 0⟩) s.rack.descOps o.a d1 } }
  if ok ∧ write then s1.store (d.base + o.off) ((data.drop o.skip).take o.n) else s1

/-- An answer for a packet of a collective (R324, R325). -/
def State.ownColl (s : State) (o : Own) (status : Nat) : State :=
  { s with rack := { s.rack with colls := s.rack.colls.map (fun c =>
      if c.id = o.id then { c with unacked := c.unacked - 1, status := if c.status = 0 then status else c.status } else c) } }

/-! ## Messages of chapter 4 -/

/-- Bytes of one bulk operation (R69, R354). -/
def bulkMax : Nat := 16777216

/-- The pieces of a remote copy: bulk operations of at most 16 MiB, each cut into packets or records, with whether a piece is the
last of its operation (R298, R317, R354). -/
def State.copyPieces (s : State) (dst addr n : Nat) (write : Bool) : List (Nat × Nat × Bool) :=
  (cutFlat bulkMax n).flatMap (fun (o : Nat × Nat) =>
    let far := !s.sameRack dst
    let ps := if far ∧ !write then cutAligned 4096 (addr + o.1) (o.2 + 1) 0 o.2
      else cutFlat (if far then 4080 else 4096) o.2
    ps.zipIdx.map (fun (p : (Nat × Nat) × Nat) => (o.1 + p.1.1, p.1.2, decide (p.2 + 1 = ps.length))))

/-- A message as the bytes of its transfer (log entry 96). -/
def msgBytes : Msg → List Byte
  | .berth _ b seq h r t => [1] ++ leBytes 2 b ++ leBytes 4 seq ++ leBytes 4 h.length ++ leBytes 4 t.length ++ h ++ t ++ r
  | .berthAck _ seq st => [2] ++ leBytes 4 seq ++ leBytes 1 st
  | .checkpointAck _ b => [3] ++ leBytes 2 b
  | .moor _ k op key seg st d => [4] ++ leBytes 1 k ++ leBytes 4 op ++ leBytes 8 key.toNat ++ leBytes 2 seg ++ leBytes 1 st ++ d
  | .moorSeg _ op seg d => [5] ++ leBytes 4 op ++ leBytes 2 seg ++ d
  | _ => []

/-- ATOM of a packet or record that carries such a message: no code of R296 (log entry 96). -/
def mailAtom : Nat := 15

def State.mailAt (s : State) (id : Nat) : Mail := tget (fun _ => {}) s.rack.mails id

def State.setMail (s : State) (id : Nat) (m : Mail) : State :=
  { s with rack := { s.rack with mails := tput (fun _ => {}) s.rack.mails id m } }

/-- The packets or records of one message go out, over the dies with a path in rotation (R136, R137, R298, R317). -/
def State.sendMail (dst id : Nat) (data : List Byte) : Nat → List (Nat × Nat × Bool) → State → State
  | _, [], s => s
  | i, (off, n, last) :: r, s =>
    let dies := s.bulkDies 0 dst
    let q := dies.getD (i % max dies.length 1) 0
    let pk : Pkt := { op := 4, flags := 2 * b2n last, addr := off, target := dst, len := n, atom := mailAtom, tag := id,
                      data := (data.drop off).take n }
    State.sendMail dst id data (i + 1) r (s.place1 q (16 * q) 5 false (12 + q) pk ⟨6, 0, 0, id, 0, 0, 0⟩)

/-- The next stage of messages goes out (R136, R141). -/
def State.nextStage (s : State) (id : Nat) (m : Mail) : State :=
  match m.rest with
  | [] => s.setMail id {}
  | ms :: r =>
    let ps := ms.map (fun d => (d, s.copyPieces m.dst 0 d.length true))
    ps.foldl (fun (t : State) x => State.sendMail m.dst id x.1 0 x.2 t)
      (s.setMail id { m with rest := r, left := (ps.map (fun x => x.2.length)).foldl (· + ·) 0 })

/-- Messages for a device in stages, each sent once the one before it has been acknowledged; the device itself takes them at once (R126,
R136, R137, R141). -/
def State.mail (s : State) (dst job a seq : Nat) (stages : List (List Msg)) : State :=
  if dst = s.device then stages.flatten.foldl State.send s
  else
    let id := s.rack.mailTag
    let m : Mail := { dst := dst, job := job, a := a, seq := seq, rest := (stages.map (List.map msgBytes)).filter (· != []) }
    ({ s with rack := { s.rack with mailTag := (id + 1) % 2 ^ 32 } } : State).nextStage id m

/-- One message for which nothing waits. -/
def State.tell (s : State) (dst : Nat) (m : Msg) : State := s.mail dst 0 0 0 [[m]]

/-- An answer for a packet of a message. -/
def State.ownMail (s : State) (o : Own) (status : Nat) : State :=
  let m := s.mailAt o.id
  s.setMail o.id { m with left := m.left - 1, status := if m.status = 0 then status else m.status }

/-- An answer for whatever a request or record belongs to. -/
def State.ownDone (s : State) (o : Own) (status value : Nat) (data : List Byte) : State :=
  match o.kind with
  | 1 => s.ownTe o false status value data
  | 5 => s.ownTe o true status value data
  | 2 => s.ownDesc o status data false
  | 4 => s.ownDesc o status data true
  | 3 => s.ownColl o status
  | 6 => s.ownMail o status
  | _ => s

/-- A request leaves its pair, which may send more. -/
def State.closeReq (s : State) (e dst seq : Nat) : State :=
  let p := s.pair e dst
  (s.setPair e dst { p with sent := p.sent.filter (fun r => r.pkt.seq != seq) }).pumpAll e dst

/-- Complete every operation of a request with one status. -/
def State.doneAll (s : State) (os : List Own) (status : Nat) : State := os.foldl (fun (a : State) o => a.ownDone o status 0 []) s

end Sys2Proof.Machine
end

