-- ==== Sys2Proof/Machine/HostPath.lean ====
section
/-!
DEFINITION. The command path (11_host_and_command.md): command ports and switch-over (R337 to R343), HOST_ABSENT (R336), rings and
their lines (R345 to R348), completion records (R357, R358), MSI-X (R338, R367), event delivery (R361), the CXL.mem window (R340)
and feature negotiation (R363).
-/
namespace Sys2Proof.Machine

/-! ## Features and host memory -/

/-- Whether `n` bytes at a host address lie in DDR5 (R339). -/
def State.ddrOk (s : State) (a n : Nat) : Bool := decide (a + n ≤ s.cmd.ddr)

/-- Write host memory over CXL.cache (R339). -/
def State.hostStore (s : State) (a : Nat) (bs : List Byte) : State :=
  { s with hmem := (bs.foldl (fun (m : Nat × List Host.Cell) b => (m.1 + 1, tput (fun _ => 0) m.2 m.1 b)) (a, s.hmem)).2 }

def State.setCmd (s : State) (c : CmdSt) : State := { s with cmd := c }

/-! ## MSI-X -/

/-- Send an MSI-X vector through the active port, or set its pending bit while its table entry is masked (R338, R505). -/
def State.sendMsix (s : State) (v : Nat) : State :=
  let p := s.rd F.HST_CTRL_ACTIVE
  if (tget (fun i => if i % 4 = 3 then 1 else 0) s.cmd.msixTab ((p * 64 + v) * 4 + 3)).getLsbD 0 then
    s.setCmd { s.cmd with msixPend := s.cmd.msixPend.add (p * 64 + v) }
  else s.send (.msix p v)

/-- After a record of a completion ring: send its vector, or count the record as unsignalled (R367). -/
def State.signalCq (s : State) (c : Nat) : State :=
  if s.bit F.RNG_CQ_CFG_MSIX_EN c ∧ s.feature 1 then
    let n := tget (fun _ => 0) s.cmd.unsig c + 1
    if s.rd F.RNG_CQ_CFG_COAL_COUNT c ≤ n then
      (s.setCmd { s.cmd with unsig := tput (fun _ => 0) s.cmd.unsig c 0 }).sendMsix (s.rd F.RNG_CQ_CFG_VECTOR c)
    else s.setCmd { s.cmd with unsig := tput (fun _ => 0) s.cmd.unsig c n }
  else s

/-! ## Ports -/

/-- HOST_ABSENT or NO_COMMAND_PORT (R336, R341). -/
def State.absent (s : State) : Bool := s.bit F.HST_CTRL_HOST_ABSENT

/-- Whether a command port's I/O die is in service and no die reset acts on it or on the base die beneath (R341). -/
def State.portDie (s : State) (p : Nat) : Bool := s.inService (dieIO p) && s.rd F.STK_DIE_STATE (12 + p) == 0

/-- A command port is ready: link up, die in service, mirror current (R341, R343). -/
def State.portReady (s : State) (p : Nat) : Bool :=
  s.bit F.HST_PORT_LINK_UP p && s.portDie p && (p == s.rd F.HST_CTRL_ACTIVE || !s.cmd.mirrorLost)

/-- Show the readiness of both ports (R365). -/
def State.showReady (s : State) : State :=
  (s.wr F.HST_CTRL_A_READY 0 (b2n (s.portReady 0))).wr F.HST_CTRL_B_READY 0 (b2n (s.portReady 1))

/-- Whether the active port's link and die are up, so that host memory can be reached (R339, R341). -/
def State.portOpen (s : State) : Bool :=
  s.bit F.HST_PORT_LINK_UP (s.rd F.HST_CTRL_ACTIVE) && s.portDie (s.rd F.HST_CTRL_ACTIVE)

/-- Whether the rings are served: the host is present and the active port open (R336, R341). -/
def State.hostOpen (s : State) : Bool := !s.absent && s.portOpen

/-- Discard what was due for host memory, and count it (R336). -/
def State.discardHost (s : State) (n : Nat) : State := s.setCmd { s.cmd with discard := s.cmd.discard + n }

/-- Entry to HOST_ABSENT: every ring's ENABLE, COMMITTED and UNLOCKED clear, and the records not marked written are discarded (R336,
R510). -/
def State.dropHost (s0 : State) : State :=
  let s := s0.setCmd { s0.cmd with discard := s0.cmd.discard + s0.cmd.due.length, due := [] }
  let s1 := (List.range 32).foldl (fun (a : State) r => (a.wr F.RNG_CMD_CFG_ENABLE r 0).wr F.RNG_CQ_CFG_ENABLE r 0) s
  (((s1.wr F.EVT_CFG_ENABLE 0 0).wr F.NEG_CTRL_COMMITTED 0 0).wr F.GLB_EXPERT_UNLOCKED 0 0).wr F.HST_CTRL_HOST_ABSENT 0 1

/-- A completion record reaches its slot, and its ring's vector is due (R357, R367). -/
def State.putRecord (s : State) (c a : Nat) (bs : List Byte) : State := (s.hostStore a bs).signalCq c

/-- The records not marked written go out in ring order, once the device reaches host memory (R343). -/
def State.rewrite (s : State) : State :=
  if s.hostOpen then
    s.cmd.due.foldl (fun (t : State) (e : Nat × Nat × List Byte) => t.putRecord e.1 e.2.1 e.2.2) (s.setCmd { s.cmd with due := [] })
  else s

/-- The active port is lost or to be left: the other becomes active where it is ready, else NO_COMMAND_PORT, unless the driver
asked. `trigger` is the position in R341's list. Accepted descriptors go on (R341, R343). -/
def State.switchPort (s : State) (trigger : Nat) : State :=
  let other := 1 - s.rd F.HST_CTRL_ACTIVE
  if s.portReady other then
    ((s.wr F.HST_CTRL_ACTIVE 0 other).raise 0x0540 (dieIO other) [(1, other), (1, trigger)]).showReady.rewrite
  else if trigger = 3 ∨ s.cmd.noPort then s.showReady
  else (s.dropHost.setCmd { s.cmd with noPort := true }).showReady.raise 0x0546 srcPkg []

/-- Whatever changed an I/O die or a base die: readiness is shown afresh, a standby that returned takes its mirror, and an active
port whose die went is left (R341, R343). `trigger` as in R341: 1 the I/O die, 2 the base die. -/
def State.portDies (s : State) (trigger : Nat) : State :=
  let a := s.rd F.HST_CTRL_ACTIVE
  let s1 := if s.cmd.mirrorLost ∧ s.portDie (1 - a) then (s.setCmd { s.cmd with mirrorLost := false }).setCond 3 false else s
  if s1.portDie a ∨ s1.cmd.noPort then s1.showReady else s1.switchPort trigger

/-- A command port's link goes down (R362). -/
def State.portDown (s : State) (p : Nat) : State :=
  if s.bit F.HST_PORT_LINK_UP p then (s.wr F.HST_PORT_LINK_UP p 0).showReady.raise 0x0541 (dieIO p) [(1, p)] else s

/-- The host die alone resets: both ports go down and the device is HOST_ABSENT until the driver commits (R336, R362). -/
def State.resetHost (s : State) : State :=
  let s1 := (s.portDown 0).portDown 1
  if s.absent then s1.dropHost.showReady else s1.dropHost.showReady.raise 0x0544 srcPkg []

/-- HOST_RESET: the host die alone resets (R336). -/
def execHostReset (s : State) : Out := .next s.resetHost

/-- COMMAND_PORT_LINK_DOWN: a command port's link goes down (R341). -/
def execCommandPortLinkDown (p : Fin 2) (s : State) : Out := .next (s.portDown p)

/-- COMMAND_PORT_LINK_UP: a command port's link is up; on the active port the records not marked written go out (R341, R343). -/
def execCommandPortLinkUp (p : Fin 2) (s : State) : Out :=
  if s.inService (dieIO p) then .next (s.wr F.HST_PORT_LINK_UP p 1).showReady.rewrite else .next s

/-- PORT_RETRAIN_TIMEOUT: the active port's link has not retrained within 1 ms: switch-over, or NO_COMMAND_PORT (R341). -/
def execPortRetrainTimeout (s : State) : Out :=
  if s.bit F.HST_PORT_LINK_UP (s.rd F.HST_CTRL_ACTIVE) ∨ s.cmd.noPort then .next s else .next (s.switchPort 0)

/-- The driver writes CMD = SWITCH: the other port becomes active where it is ready (R341). -/
def State.hstSwitch (s : State) : State := if s.cmd.noPort then s else s.switchPort 3

/-- UCIE_LANE_REPAIR: a lane of a command port is replaced (R337, R362, R365). -/
def execUcieLaneRepair (p : Fin 2) (lane : Fin 128) (s : State) : Out :=
  .next ((s.bump F.HST_PORT_REPAIRED p 1).raise 0x0542 (dieIO p) [(1, p), (1, lane)])

/-! ## Rings -/

/-- Base address, line address and size of the ring whose registers stand `row` rows of 0x20 bytes from the first command ring
(completion ring c: row 128 + c). -/
def State.ringBase (s : State) (lo hi : Fld) (i : Nat) : Nat := s.rd hi i * 2 ^ 32 + s.rd lo i * 2 ^ lo.lo

def State.cmdBase (s : State) (r : Nat) : Nat := s.ringBase F.RNG_CMD_BASE_LO_BASE_LO F.RNG_CMD_BASE_HI_BASE_HI r
def State.watchAddr (s : State) (r : Nat) : Nat := s.ringBase F.RNG_CMD_WATCH_LO_WATCH_LO F.RNG_CMD_WATCH_HI_WATCH_HI r
def State.cqBase (s : State) (c : Nat) : Nat := s.ringBase F.RNG_CQ_BASE_LO_BASE_LO F.RNG_CQ_BASE_HI_BASE_HI c
def State.cqHead (s : State) (c : Nat) : Nat := s.ringBase F.RNG_CQ_HEAD_LO_HEAD_LO F.RNG_CQ_HEAD_HI_HEAD_HI c
def State.evtBase (s : State) : Nat := s.ringBase F.EVT_BASE_LO_BASE_LO F.EVT_BASE_HI_BASE_HI 0
def State.evtHead (s : State) : Nat := s.ringBase F.EVT_HEAD_LO_HEAD_LO F.EVT_HEAD_HI_HEAD_HI 0
def State.cmdSize (s : State) (r : Nat) : Nat := 2 ^ s.rd F.RNG_CMD_CFG_SIZE r
def State.cqSize (s : State) (c : Nat) : Nat := 2 ^ s.rd F.RNG_CQ_CFG_SIZE c
def State.evtSize (s : State) : Nat := 2 ^ s.rd F.EVT_CFG_SIZE

/-- Descriptors posted and not fetched: COUNT − F (R347). -/
def State.backlog (s : State) (r : Nat) : Nat :=
  (tget (fun _ => 0) s.cmd.watch r + 2 ^ 32 - s.rd F.RNG_CMD_FETCH_F r) % 2 ^ 32

/-- Records of a completion ring, or of the event ring (32), that the host has not consumed. -/
def State.unread (s : State) (c : Nat) : Nat :=
  (tget (fun _ => 0) s.cmd.written c + 2 ^ 32 - tget (fun _ => 0) s.cmd.head c) % 2 ^ 32

/-- Accepted descriptors of the rings bound to a completion ring that have not completed (R348). -/
def State.boundDescs (s : State) (c : Nat) : Nat :=
  (s.cmd.descs.filter (fun d => s.rd F.RNG_CMD_CFG_CQ d.ring == c)).length

/-- A ring goes into error (R347). -/
def State.ringError (s : State) (r : Nat) : State :=
  ((s.wr F.RNG_CMD_CFG_ENABLE r 0).wr F.RNG_CMD_CFG_ERROR r 1).raise 0x0543 srcPkg [(1, r)]

/-- Whether a command ring meets one of the errors of R347; a watch line outside DDR5 counts with them (log entry 63). -/
def State.ringBad (s : State) (r : Nat) : Bool :=
  let c := s.rd F.RNG_CMD_CFG_CQ r
  decide (s.cmdSize r < s.backlog r) || !s.ddrOk (s.watchAddr r) 64 || !s.ddrOk (s.cqBase c) 32 ||
  !s.ddrOk (s.cqHead c) 64 ||
  (decide (0 < s.backlog r) && !s.ddrOk (s.cmdBase r + s.rd F.RNG_CMD_FETCH_F r % s.cmdSize r * 128) 128)

/-- WATCH_LINE_WRITE: the host writes a watch line; the fetcher re-reads it, and a ring that meets an error of R347 is disabled
(R346, R347). -/
def execWatchLineWrite (r : Fin 32) (count : BitVec 32) (s : State) : Out :=
  let s1 := s.setCmd { s.cmd with watch := tput (fun _ => 0) s.cmd.watch r count.toNat }
  if s1.bit F.RNG_CMD_CFG_ENABLE r ∧ s1.hostOpen ∧ s1.ringBad r then .next (s1.ringError r) else .next s1

/-- HEAD_LINE_WRITE: the host writes a head line: records consumed (R346, R348). -/
def execHeadLineWrite (c : Fin 33) (count : BitVec 32) (s : State) : Out :=
  .next (s.setCmd { s.cmd with head := tput (fun _ => 0) s.cmd.head c count.toNat })

/-- MSIX_COALESCE_TIMER: COAL_US after the first unsignalled record its vector is sent (R367). -/
def execMsixCoalesceTimer (c : Fin 32) (s : State) : Out :=
  if 0 < tget (fun _ => 0) s.cmd.unsig c ∧ s.rd F.RNG_CQ_CFG_COAL_US c ≠ 0 ∧ s.bit F.RNG_CQ_CFG_MSIX_EN c ∧ s.feature 1 then
    .next ((s.setCmd { s.cmd with unsig := tput (fun _ => 0) s.cmd.unsig c 0 }).sendMsix (s.rd F.RNG_CQ_CFG_VECTOR c))
  else .next s

/-! ## Completion records -/

/-- PHASE of record number `n` in a ring of `size` entries: 1 on even laps (R357). -/
def phaseOf (n size : Nat) : Nat := if n / size % 2 = 0 then 1 else 0

/-- Bytes of a completion record (R357). -/
def recordBytes (tag seq f status phase ring type detail value : Nat) : List Byte :=
  leBytes 8 tag ++ leBytes 4 seq ++ leBytes 4 f ++ leBytes 1 status ++ leBytes 1 phase ++ leBytes 1 ring ++ leBytes 1 type ++
  leBytes 4 detail ++ leBytes 8 value

/-- Write a descriptor's record into the completion ring of its command ring; while the active port is down it keeps its slot and goes out
later; discarded and counted while the host is absent, discarded where that ring is not in use; one that lies outside DDR5 raises
RING_OVERRUN (R336, R339, R343, R357). -/
def State.writeRecord (s : State) (ring tag seq status type detail value : Nat) : State :=
  let c := s.rd F.RNG_CMD_CFG_CQ ring
  if s.absent then s.discardHost 1
  else if !s.bit F.RNG_CQ_CFG_ENABLE c then s
  else
    let n := tget (fun _ => 0) s.cmd.written c
    let a := s.cqBase c + 32 * (n % s.cqSize c)
    if !s.ddrOk a 32 then s.ringError ring
    else
      let bs := recordBytes tag seq (s.rd F.RNG_CMD_FETCH_F ring) status (phaseOf n (s.cqSize c)) ring type detail value
      let s1 := s.setCmd { s.cmd with written := tput (fun _ => 0) s.cmd.written c ((n + 1) % 2 ^ 32) }
      if s1.hostOpen then s1.putRecord c a bs else s1.setCmd { s1.cmd with due := s1.cmd.due ++ [(c, a, bs)] }

/-! ## Events -/

/-- Bytes of an event record (R360). -/
def eventBytes (e : EvRec) (phase : Nat) : List Byte :=
  leBytes 2 e.code ++ leBytes 1 (evSeverity e.code) ++ leBytes 1 (phase + 2 * b2n e.lost) ++ leBytes 4 e.seq ++ leBytes 8 e.bt ++
  leBytes 2 e.source ++ leBytes 2 0 ++ e.data

/-- A buffer slot has become free: EVENTS_DROPPED enters it first where records were dropped (R361). -/
def State.slotFreed (s : State) : State :=
  if s.evDropped = 0 then s
  else
    let r : EvRec := ⟨0x0547, true, s.evSeq, s.bt, srcPkg, evData [(4, min s.evDropped (2 ^ 32 - 1))]⟩
    { s.record r with evSeq := (s.evSeq + 1) % 2 ^ 32, evDropped := 0 }

/-- EVENT_DELIVER: the oldest buffered record is written to the event ring while it is enabled and has a free slot, with one
vector per record (R361, R367). -/
def execEventDeliver (s : State) : Out :=
  match s.evts with
  | [] => .next s
  | e :: rest =>
    let n := tget (fun _ => 0) s.cmd.written 32
    if !s.hostOpen ∨ !s.bit F.EVT_CFG_ENABLE ∨ s.evtSize ≤ s.unread 32 then .next s
    else
      let a := s.evtBase + 32 * (n % s.evtSize)
      if !s.ddrOk a 32 ∨ !s.ddrOk s.evtHead 64 then .next ((s.wr F.EVT_CFG_ENABLE 0 0).raise 0x0543 srcPkg [(1, 32)])
      else
        let s1 := ({ s with evts := rest }.setCmd { s.cmd with written := tput (fun _ => 0) s.cmd.written 32 ((n + 1) % 2 ^ 32) })
        let s2 := (s1.hostStore a (eventBytes e (phaseOf n s.evtSize))).slotFreed
        if s.bit F.EVT_CFG_MSIX_EN ∧ s.feature 1 then .next (s2.sendMsix (s.rd F.EVT_CFG_VECTOR)) else .next s2

/-! ## CXL.mem -/

/-- Whether an address of the HDM range is decoded at a port (R340, R364). -/
def State.hdmOk (s : State) (p a : Nat) : Bool :=
  s.feature 11 && s.bit F.HST_PORT_LINK_UP p && decide (a < s.rd F.MEM_MAP_N * 0x2000000000)

/-- Whether a host access waits at the home of its line: band H3, a page in retirement, no path from the port's I/O die, or, a write,
earlier writes that wait there (R20, R210, R217, R218). -/
def State.cxlWaits (s : State) (p a n : Nat) (write : Bool) : Bool :=
  s.areaBusy a n || (write && s.areaQueued a n) || !s.areaOpen (12 + p) a n

/-- Whether a host access is answered at once as for a retired stack: its memory has gone (R206), or a lower die on its way is in reset
and its endpoint refuses (R254, R340; log entry 94). -/
def State.cxlRefused (s : State) (a n : Nat) : Bool := !s.liveOk a n || s.areaReset a n

/-- CXL_MEM_READ: the host reads a 64-byte line of the HDM range: its bytes, or zero data with poison (R340); one that waits at its home
is not answered yet. -/
def execCxlMemRead (p : Fin 2) (a : BitVec 48) (s : State) : Out :=
  let b := a.toNat / 64 * 64
  if !s.hdmOk p b then .next s
  else if !s.cxlRefused b 64 ∧ s.cxlWaits p b 64 false then .next s
  else if s.cxlRefused b 64 ∨ s.anyBad b 64 then
    .next (s.setCmd { s.cmd with cxl := s.cmd.cxl ++ [(List.replicate 64 0, true)] })
  else .next (s.setCmd { s.cmd with cxl := s.cmd.cxl ++ [(s.bytes b 64, false)] })

/-- CXL_MEM_WRITE: the host writes a line of the HDM range, or part of one; a write to a retired stack is dropped and counted
(R340). -/
def execCxlMemWrite (p : Fin 2) (a : BitVec 48) (data : List (BitVec 8)) (s : State) : Out :=
  if !s.hdmOk p a.toNat ∨ data = [] ∨ 64 < a.toNat % 64 + data.length then .next s
  else if s.cxlRefused a.toNat data.length then .next (s.bump F.HST_PORT_DROPPED p 1)
  else if s.cxlWaits p a.toNat data.length true then .next s
  else .next (s.store a.toNat data)

/-! ## Negotiation -/

/-- COMMIT written to NEG_CTRL: the driver's version and bit 0 are checked; the accepted mask becomes the AND with the offer, COMMITTED
is set and HOST_ABSENT ends, with HOST_DISCARD where records or copies were discarded (R363, R336). -/
def State.negCommit (s : State) : State :=
  if s.bit F.NEG_CTRL_COMMITTED ∨ (s.cmd.noPort ∧ !s.portReady 0 ∧ !s.portReady 1) then s
  else if s.rd F.NEG_CTRL_DRIVER_MAJOR ≠ s.rd F.NEG_VERSION_MAJOR ∨ !bitAt (s.rd F.NEG_ACCEPT_ACCEPT 0) 0 then
    s.wr F.NEG_CTRL_MISMATCH 0 1
  else
    let s2 := (List.range 8).foldl (fun (t : State) i =>
      t.setReg (F.NEG_ACCEPT_ACCEPT.off i) (t.reg (F.NEG_ACCEPT_ACCEPT.off i) &&& t.reg (F.NEG_OFFER_OFFER.off i))) s
    let s3 := ((s2.wr F.NEG_CTRL_MISMATCH 0 0).wr F.NEG_CTRL_COMMITTED 0 1).wr F.HST_CTRL_HOST_ABSENT 0 0
    let a := s.rd F.HST_CTRL_ACTIVE
    let s4 := if s.cmd.noPort ∧ !s.portReady a then s3.wr F.HST_CTRL_ACTIVE 0 (1 - a) else s3
    let s5 := if 0 < s.cmd.discard then s4.raise 0x054A srcPkg [(4, min s.cmd.discard (2 ^ 32 - 1))] else s4
    let s6 := (s5.setCmd { s5.cmd with noPort := false, discard := 0 }).showReady
    if s.absent then s6.raise 0x0545 srcPkg [] else s6

end Sys2Proof.Machine
end

