-- ==== Sys2Proof/Machine/DescOps.lean ====
section
/-!
DEFINITION. Accepted descriptors: when one may start (R350), the role check (R125, R456), and how one finishes (R357 to R359, R448).
-/
namespace Sys2Proof.Machine

def descType (b : List Byte) : Nat := at_ b 0 1
def descFlags (b : List Byte) : Nat := at_ b 1 1

/-- FLAGS of R351. -/
def Desc.barrier (d : Desc) : Bool := bitAt (descFlags d.bytes) 0
def Desc.quiet (d : Desc) : Bool := bitAt (descFlags d.bytes) 1
def Desc.step (d : Desc) : Bool := bitAt (descFlags d.bytes) 3

/-- A field of a descriptor. -/
def Desc.f (d : Desc) (off n : Nat) : Nat := at_ d.bytes off n

/-- Logical cores of a LAUNCH body (R353). -/
def descCores (b : List Byte) : List Nat := (List.range 192).filter (fun l => bitAt (at_ b (0x20 + l / 8) 1) (l % 8))

def State.desc (s : State) (seq : Nat) : Option Desc := s.cmd.descs.find? (fun d => d.seq == seq)

/-- Whether a holder of R350 keeps descriptor `d` from starting; `earlier` are the descriptors accepted before it. -/
def State.held (s : State) (earlier : List Desc) (d : Desc) : Bool :=
  let ring := earlier.filter (fun e => e.ring == d.ring)
  (d.barrier && !ring.isEmpty) ||
  ring.any (fun e => descType e.bytes == 0x0B || descType e.bytes == 0x0D || (e.barrier && e.phase == 0)) ||
  (descType d.bytes == 0x01 &&
    ((descCores d.bytes).any (fun l => let c := (s.core l).cstate
        (c != .idle && c != .absent && c != .parked) || s.launches.any (fun m => m.todo.contains l)) ||
     earlier.any (fun e => descType e.bytes == 0x01 && e.phase == 0 &&
       (descCores e.bytes).any (fun l => (descCores d.bytes).contains l))))

/-- Whether the descriptors of a list that come before `seq` and have not started are all held, and `seq` itself is not. -/
def State.mayStart (s : State) (seq : Nat) : List Desc → List Desc → Bool
  | _, [] => false
  | before, d :: r =>
    if d.seq = seq then d.phase == 0 && !s.held before d
    else (d.phase != 0 || s.held before d) && s.mayStart seq (before ++ [d]) r

/-- Accepted descriptors start in acceptance order, but for those that are held (R350). -/
def State.canStart (s : State) (seq : Nat) : Bool := s.mayStart seq [] s.cmd.descs

/-- A HOLD keeps what a mooring descriptor would send (R455). -/
def State.lvHolds (s : State) (d : Desc) : Bool :=
  let t := descType d.bytes
  s.rd F.LVS_STATUS_STATE == 3 && (t == 8 || t == 9 || t == 0x0A)

def State.setDesc (s : State) (d : Desc) : State :=
  s.setCmd { s.cmd with descs := s.cmd.descs.map (fun e => if e.seq = d.seq then d else e) }

/-- A level of D1 to D4 holds (R448). -/
def State.degradedNow (s : State) : Bool :=
  let l := s.rd F.GLB_DEGRADED_LEVEL
  decide (1 ≤ l) && decide (l ≤ 4)

/-- The operation of a descriptor has ended, with a status and the DETAIL and VALUE of its record; DONE becomes DONE_DEGRADED
where a degraded state held meanwhile (R358, R359, R448). A descriptor finishes once. -/
def State.finishDesc (s : State) (seq status detail value : Nat) : State :=
  match s.desc seq with
  | none => s
  | some d =>
    if d.phase = 2 then s
    else
      let st := if status = 0 ∧ (d.degraded ∨ s.degradedNow) then 1 else status
      s.setDesc { d with phase := 2, status := st, detail := detail, value := value }

/-- Role of the device, and whether it is CHANGING (R148). -/
def State.roleCode (s : State) : Nat := s.rd F.BRT_ROLE_ROLE
def State.changing (s : State) : Bool := s.bit F.BRT_ROLE_CHANGING

/-- PROMPT or GENERATE. -/
def State.berthRole (s : State) : Bool := s.roleCode == 1 || s.roleCode == 2

/-- Whether the role and the lightvessel state allow a descriptor (R125, R456). -/
def State.roleOk (s : State) (d : Desc) : Bool :=
  let t := descType d.bytes
  let needs := (t == 1 && d.step) || (4 ≤ t && t ≤ 8)
  (!needs || s.berthRole) && !(s.rd F.LVS_STATUS_STATE == 5 && (needs || t == 9 || t == 0x0A))

/-- Start a descriptor of a given type, where it may start: a FENCED device completes it with FENCED, a role that does not allow
it with ROLE_MISMATCH; else its body acts (R125, R350, R458). -/
def State.startDesc (s : State) (seq : BitVec 32) (mine : Desc → Bool) (body : State → Desc → State) : State :=
  match s.desc seq.toNat with
  | none => s
  | some d =>
    if mine d ∧ s.canStart seq.toNat ∧ !s.lvHolds d then
      let s1 := s.setDesc { d with phase := 1, degraded := s.degradedNow }
      if s.rd F.LVS_STATUS_STATE = 7 then s1.finishDesc d.seq 0x13 0 0
      else if s.roleOk d then body s1 d else s1.finishDesc d.seq 0x42 0 0
    else s

/-- FENCE: it starts, and it completes when every earlier descriptor of its ring, or of any ring, has completed (R356). -/
def execFenceDesc (seq : BitVec 32) (s : State) : Out :=
  let s1 := s.startDesc seq (fun d => descType d.bytes == 0x0B) (fun t _ => t)
  match s1.desc seq.toNat with
  | none => .next s1
  | some d =>
    let earlier := s1.cmd.descs.takeWhile (fun e => e.seq != d.seq)
    let open_ := if d.f 0x10 1 = 0 then earlier.filter (fun e => e.ring == d.ring) else earlier
    if descType d.bytes = 0x0B ∧ d.phase = 1 ∧ open_ = [] then .next (s1.finishDesc d.seq 0 0 0) else .next s1

/-- A counter of R356. -/
def State.counter (s : State) (k : Nat) : Nat := s.rd F.RNG_CTR_HI_VALUE k * 2 ^ 32 + s.rd F.RNG_CTR_LO_VALUE k

def State.setCounter (s : State) (k v : Nat) : State :=
  (s.wr F.RNG_CTR_LO_VALUE k (v % 2 ^ 32)).wr F.RNG_CTR_HI_VALUE k (v / 2 ^ 32)

/-- SIGNAL: it adds VALUE to its counter when it starts, and completes at once (R356, R358). -/
def execSignalDesc (seq : BitVec 32) (s : State) : Out :=
  .next (s.startDesc seq (fun d => descType d.bytes == 0x0C) fun t d =>
    let k := d.f 0x10 1
    let v := (t.counter k + d.f 0x18 8) % 2 ^ 64
    (t.setCounter k v).finishDesc d.seq 0 k v)

/-- WAIT: it starts, and it completes when its counter has reached VALUE (R356, R358). -/
def execWaitDesc (seq : BitVec 32) (s : State) : Out :=
  let s1 := s.startDesc seq (fun d => descType d.bytes == 0x0D) (fun t _ => t)
  match s1.desc seq.toNat with
  | none => .next s1
  | some d =>
    let k := d.f 0x10 1
    if descType d.bytes = 0x0D ∧ d.phase = 1 ∧ d.f 0x18 8 ≤ s1.counter k then
      .next (s1.finishDesc d.seq 0 k (s1.counter k))
    else .next s1

/-- Offset of the first byte at which a copy of `n` bytes to the host must stop, and the status: its source unmapped, poisoned, or
its destination outside DDR5 (R353, R354). -/
def State.hostStop (s : State) (src dst n : Nat) : Nat × Nat :=
  let gone := (granules src n).find? (fun g => !(s.live (s.locate g) && s.region g == s.region src))
  let bad := (touchedUnits src n).find? s.bad
  let a := (gone.map (· - src)).getD n
  let b := (bad.map (· - src)).getD n
  let c := s.cmd.ddr - dst
  if c < n ∧ c ≤ a ∧ c ≤ b then (c, 0x20) else if a < n ∧ a ≤ b then (a, 0x20) else if b < n then (b, 0x60) else (n, 0)

/-- Copy device memory to the host as far as it can go, or discard and count it while the host is absent: bytes moved, status, and
the offending host address (R336, R353, R354, R358). -/
def State.toHost (s : State) (src dst n : Nat) : State × Nat × Nat × Nat :=
  if s.absent then (s.discardHost 1, n, 0, 0)
  else
    let k := s.hostStop src dst n
    (s.hostStore dst (s.bytes src k.1), k.1, k.2, if k.2 = 0x20 ∧ s.cmd.ddr ≤ dst + k.1 then max s.cmd.ddr dst else 0)

/-- The result copy of a launch (R353). A failure changes only the status of the record. -/
def State.resultCopy (s : State) (d : Desc) : State × Desc :=
  let t := s.toHost (d.f 0x48 8) (d.f 0x50 8) (d.f 0x58 4)
  if t.2.2.1 = 0 then (t.1, { d with copy := false })
  else (t.1, { d with copy := false, status := t.2.2.1, detail := 0, value := if t.2.2.2 = 0 then d.value else t.2.2.2 })

end Sys2Proof.Machine
end

