-- ==== Sys2Proof/Machine/Collect.lean ====
section
/-!
DEFINITION. Collectives, shared operations (10_rack_memory.md R321 to R325, R445): slices, exponent bytes, window integers, the
reduction of a block, and what is sent to the other members.
-/
namespace Sys2Proof.Machine

/-- Blocks of the vector, and the first block of slice `m` (R321). -/
def Coll.nb (c : Coll) : Nat := (c.count + 31) / 32
def Coll.lo (c : Coll) (m : Nat) : Nat := m * c.nb / c.members.length

/-- Blocks of slice `m`. -/
def Coll.slice (c : Coll) (m : Nat) : List Nat := (List.range (c.lo (m + 1) - c.lo m)).map (c.lo m + ·)

/-- The member that owns a block. -/
def Coll.owner (c : Coll) (b : Nat) : Nat :=
  ((List.range c.members.length).find? (fun m => decide (c.lo m ≤ b) && decide (b < c.lo (m + 1)))).getD 0

/-- Bytes of an element at the destination. -/
def Coll.width (c : Coll) : Nat := if c.op = 1 ∨ c.mode = 2 ∨ c.outFmt = 0xF then 4 else 2

/-- Elements of block `b` that exist: the last one is padded with +0 (R112). -/
def Coll.elems (c : Coll) (b : Nat) : Nat := min 32 (c.count - 32 * b)

/-- The members other than this device. -/
def Coll.others (c : Coll) : List Nat := (List.range c.members.length).filter (· != c.me)

/-- The FP32 elements of block `b` of the source vector. -/
def State.collBlock (s : State) (c : Coll) (b : Nat) : List Word :=
  (List.range 32).map (fun i => if i < c.elems b then BitVec.ofNat 32 (s.num (c.src + 4 * (32 * b + i)) 4) else 0)

/-- The exponent byte of block `b` (R113, phase 1). -/
def State.collExp (s : State) (c : Coll) (b : Nat) : Nat := ((s.collBlock c b).map ewrExp).foldl max 0

/-- The 32 window integers of block `b`, 16 bytes each (R113, phase 2). -/
def State.collInts (s : State) (c : Coll) (b bb : Nat) : List Byte :=
  (s.collBlock c b).flatMap (fun x => leBytes 16 ((ewrInt bb x) % 2 ^ 128).toNat)

/-- The 128 bytes of block `b` in FP32. -/
def State.collWords (s : State) (c : Coll) (b : Nat) : List Byte := (s.collBlock c b).flatMap (fun x => leBytes 4 x.toNat)

def State.coll (s : State) (id : Nat) : Option Coll := s.rack.colls.find? (fun c => c.id == id)

def State.setColl (s : State) (c : Coll) : State :=
  { s with rack := { s.rack with colls := s.rack.colls.map (fun x => if x.seq = c.seq then c else x) } }

/-- Send one packet to member `m`; packets of one exchange go in rotation to the dies that have a path, from the die of the
source's first line on (R298, R303, R321). -/
def State.collSend (s : State) (id m op b0 i : Nat) (data : List Byte) : State :=
  match s.coll id with
  | none => s
  | some c =>
    let dst := c.members.getD m 0
    let dies := s.bulkDies (lineHash c.src % 4) dst
    let q := dies.getD (i % max dies.length 1) (lineHash c.src % 4)
    let d := c.plan ++ leBytes 2 c.me ++ data
    (s.setColl { c with unacked := c.unacked + 1 }).rackSend (16 * q)
      { q := q, ep := 12 + q, owns := [⟨3, 0, 0, id, 0, 0, 0⟩],
        pkt := { op := op, target := dst, addr := b0, len := d.length, tag := id, data := d } }

/-- Cut a list of blocks into runs of at most `k`. -/
def runsOf (k : Nat) (bs : List Nat) : List (List Nat) :=
  (List.range ((bs.length + k - 1) / max k 1)).map (fun i => (bs.drop (k * i)).take k)

/-- Send runs of blocks to member `m`, each with the bytes `f` gives a block. -/
def State.collSendRuns (s : State) (id m op k : Nat) (bs : List Nat) (f : Nat → List Byte) : State :=
  ((runsOf k bs).zipIdx).foldl (fun (t : State) (r : List Nat × Nat) => t.collSend id m op (r.1.headD 0) r.2 (r.1.flatMap f)) s

/-- A contribution is kept once. -/
def Coll.add (c : Coll) (x : Contrib) : Coll :=
  if c.contribs.any (fun y => y.pos == x.pos && y.block == x.block && y.phase == x.phase) then c
  else { c with contribs := c.contribs ++ [x] }

/-- Contributions of a phase to a block, in the order of the positions. -/
def Coll.have_ (c : Coll) (b phase : Nat) : List Contrib :=
  (List.range c.members.length).filterMap (fun p => c.contribs.find? (fun x => x.pos == p && x.block == b && x.phase == phase))

/-- The codes of a reduced block: window integers added and rounded once, or the canonical tree over positions, and whether it
met NaN or infinity or overflowed (R113, R115, R116, R323). -/
def Coll.reduce (c : Coll) (b : Nat) (xs : List Contrib) : List Nat × Bool :=
  if c.mode = 2 then
    ((List.range 32).map (fun i => (canonTree (xs.map (fun x => BitVec.ofNat 32 (at_ x.data (4 * i) 4)))).toNat), false)
  else
    let bb := ((c.fixed.find? (fun (f : Nat × Nat) => f.1 == b)).map (·.2)).getD 255
    let sums := (List.range 32).map (fun i => xs.foldl (fun (a : Int) x => a + (BitVec.ofNat 128 (at_ x.data (16 * i) 16)).toInt) 0)
    let codes := sums.map (ewrResult c.outFmt bb)
    (codes, codes.any (fun k => match (elemOf c.outFmt).value k with | .fin _ _ _ => false | _ => true))

/-- Write the elements of a block at its offset from the destination; memory lost meanwhile ends the collective with PATH_RESET
(R206, R322, R359). -/
def State.collWrite (s : State) (c : Coll) (b : Nat) (d : List Byte) : State × Nat :=
  let n := c.width * c.elems b
  let a := c.dst + c.width * 32 * b
  if s.liveOk a n && s.mapOk a n true then (s.store a (d.take n), 0) else (s, 0x11)

def worse (a b : Nat) : Nat := if a = 0 ∨ a = 0x30 ∧ b ≠ 0 then b else a

/-- Reduce and write every block of a list that has all its contributions (R322, R323). -/
def State.collFinish (id : Nat) : List Nat → State → State
  | [], s => s
  | b :: r, s =>
    match s.coll id with
    | none => s
    | some c =>
      let xs := c.have_ b 2
      if xs.length ≠ c.members.length ∨ c.written.contains b then State.collFinish id r s
      else
        let v := c.reduce b xs
        let w := s.collWrite c b (v.1.flatMap (leBytes c.width))
        let st := worse (worse c.status w.2) (if v.2 then 0x30 else 0)
        let rest := c.contribs.filter (fun x => x.block != b)
        let c1 := { c with written := c.written.add b, overs := c.overs + b2n v.2, status := st, contribs := rest }
        State.collFinish id r (w.1.setColl c1)

/-- Every block of the own slice is written: an ALL_REDUCE sends it to the other members (R324). -/
def State.collGather (s : State) (id : Nat) : State :=
  match s.coll id with
  | none => s
  | some c =>
    if c.op = 2 ∧ !c.gathering ∧ (c.slice c.me).all c.written.contains then
      c.others.foldl (fun (t : State) m =>
        t.collSendRuns id m 9 (128 / c.width) (c.slice c.me) (fun b => t.bytes (c.dst + c.width * 32 * b) (c.width * c.elems b)))
        (s.setColl { c with gathering := true })
    else s

/-- Blocks of the own slice with every exponent byte get their B, which goes to every member (R322). -/
def State.collFix (s : State) (id : Nat) (bs : List Nat) : State :=
  match s.coll id with
  | none => s
  | some c =>
    let go := bs.filter (fun b => !(c.fixed.any (fun (f : Nat × Nat) => f.1 == b)) && (c.have_ b 1).length == c.members.length)
    let top := fun b => ((c.have_ b 1).map (fun x => at_ x.data 0 1)).foldl max 0
    let c1 := go.foldl (fun (a : Coll) b => ({ a with fixed := a.fixed ++ [(b, top b)] }).add ⟨c.me, b, 2, s.collInts c b (top b)⟩) c
    let s1 := c.others.foldl (fun (t : State) m => t.collSendRuns id m 8 4096 go (fun b => leBytes 1 (top b))) (s.setColl c1)
    State.collFinish id go s1

/-- What a contribution does at this member (R322 to R324). `n` is the first block, `d` the bytes after the prefix. -/
def State.collTake (s : State) (id op pos n : Nat) (d : List Byte) : State :=
  match s.coll id with
  | none => s
  | some c =>
    if op = 7 then
      let bs := ((List.range d.length).map (n + ·)).filter (c.slice c.me).contains
      let c1 := bs.foldl (fun (a : Coll) b => a.add ⟨pos, b, 1, (d.drop (b - n)).take 1⟩) c
      (((s.setColl c1).collFix id bs).collGather id)
    else if op = 8 then
      let bs := (List.range d.length).map (n + ·)
      s.collSendRuns id pos 9 8 bs (fun b => s.collInts c b (at_ d (b - n) 1))
    else if (c.slice c.me).contains n then
      let k := if c.mode = 1 then 512 else 128
      let bs := ((List.range (d.length / k)).map (n + ·)).filter (c.slice c.me).contains
      let c1 := bs.foldl (fun (a : Coll) b => a.add ⟨pos, b, 2, (d.drop (k * (b - n))).take k⟩) c
      (State.collFinish id bs (s.setColl c1)).collGather id
    else
      let k := 32 * c.width
      let bs := ((List.range ((d.length + k - 1) / k)).map (n + ·)).filter (c.slice pos).contains
      bs.foldl (fun (t : State) b =>
        match t.coll id with
        | none => t
        | some x =>
          let w := t.collWrite x b (d.drop (k * (b - n)))
          w.1.setColl { x with gathered := x.gathered.add b, status := worse x.status w.2 }) s

/-- The prefix and position of a contribution, against the collective it names: 0, or DESCRIPTOR_MALFORMED (R321, R325). -/
def State.collCheck (s : State) (p : Pkt) : Nat :=
  match s.coll p.tag with
  | none => 0
  | some c => if p.data.take 14 = c.plan ∧ at_ p.data 14 2 < c.members.length then 0 else 0x40

/-- A contribution that does not match makes the owner complete with DESCRIPTOR_MALFORMED, its complete blocks written
(R325). -/
def State.collBad (s : State) (id : Nat) : State :=
  match s.coll id with
  | none => s
  | some c => s.setColl { c with status := worse c.status 0x40 }

/-- Whether a collective has ended: every slice it writes is written and every packet answered, or a failure (R324, R325). -/
def Coll.done (c : Coll) : Bool :=
  (c.status != 0 && c.status != 0x30) ||
  (c.unacked == 0 && (c.op == 1 || (c.slice c.me).all c.written.contains) &&
    (c.op == 0 || c.others.all (fun m => (c.slice m).all c.gathered.contains)) && (c.op != 2 || c.gathering))

/-- Positions a block still lacks, ascending (R325, R327). -/
def Coll.missing (c : Coll) : List Nat :=
  (List.range c.members.length).filter (fun p =>
    (c.op != 1 && (c.slice c.me).any (fun b => !c.written.contains b &&
      !(c.contribs.any (fun x => x.pos == p && x.block == b && x.phase == (if c.mode == 1 && (c.fixed.all (fun f => f.1 != b)) then 1 else 2))))) ||
    (c.op != 0 && p != c.me && (c.slice p).any (fun b => !c.gathered.contains b)))

end Sys2Proof.Machine
end

