-- ==== Sys2Proof/Machine/BerthOps.lean ====
section
/-!
DEFINITION. Berths, shared operations: the berth table (R129), page pools (R130, R131), step boundaries and pending operations
(R132 to R134), the berth header (R135), what leaves the device for a move, a session or a checkpoint (R136, R138, R141, R460).
-/
namespace Sys2Proof.Machine

def State.setRole (s : State) (r : RoleSt) : State := { s with role := r }

def State.setBerth (s : State) (b : Nat) (e : Berth) : State :=
  s.setRole { s.role with berths := tput (fun _ => {}) s.role.berths b e }

/-! ## Pages (R130, R131) -/

/-- The `k`-th number that is not in a rising list. -/
def kthFree : NSet → Nat → Nat
  | [], k => k
  | u :: r, k => if u ≤ k then kthFree r (k + 1) else k

/-- DPA of page `i` of a sub-pool, in the per-stack view (R130). -/
def State.pageAddr (s : State) (st i : Nat) : Nat :=
  0x20000000000 + st * 0x2000000000 + s.role.setup.poolOff + i * s.role.setup.page

def State.usePages (s : State) (st : Nat) (ps : List Nat) : State :=
  s.setRole { s.role with used := tput (fun _ => []) s.role.used st (ps.foldl NSet.add (s.usedPages st)) }

/-- Pages that can be allocated on a stack: none once it is retired, with the free list it held (R130, R206; log entry 20). -/
def State.poolLeft (s : State) (st : Nat) : Nat := if s.bit F.MEM_HBM_RETIRED st then 0 else s.freePages st

/-- Take one free page of a stack: which of them is a free value (R131; log entry 4). -/
def State.takePage (s : State) (st : Nat) : Option (Nat × State) :=
  let n := s.poolLeft st
  if n = 0 then none
  else
    let p := kthFree (s.usedPages st) (s.freeVal.toNat % n)
    some (p, s.drawn.usePages st [p])

/-- Take `n` contiguous free pages of a stack, which of the runs is a free value. -/
def State.takeRun (s : State) (st n : Nat) : Option (Nat × State) :=
  if n = 1 then s.takePage st
  else if s.bit F.MEM_HBM_RETIRED st then none
  else
    let used := s.usedPages st
    let starts := (List.range (s.poolPages + 1 - n)).filter (fun i => (List.range n).all (fun k => !used.contains (i + k)))
    match starts[s.freeVal.toNat % starts.length]? with
    | none => none
    | some i => some (i, s.drawn.usePages st ((List.range n).map (i + ·)))

/-- Whole records per page (R75). -/
def State.tpp (s : State) : Nat := if s.role.setup.rec_ = 0 then 1 else s.role.setup.page / s.role.setup.rec_

/-- The stack of token group `g` of berth `b` (R131). -/
def groupStack (sts : List Nat) (b g : Nat) : Nat := sts.getD ((b + g) % sts.length) 0

/-- Take the pages of the groups in order, writing each page-list entry with bit 63 set (R131). -/
def State.takeGroups (sts : List Nat) (b list : Nat) : List Nat → List (Nat × Nat) → State → Except Nat (List (Nat × Nat) × State)
  | [], acc, s => .ok (acc, s)
  | i :: r, acc, s =>
    let st := groupStack sts b (i / max s.role.setup.layers 1)
    match s.takePage st with
    | none => .error st
    | some (p, s1) =>
      State.takeGroups sts b list r (acc ++ [(st, p)]) (s1.store (list + 8 * i) (leBytes 8 (2 ^ 63 + s1.pageAddr st p)))

/-- Open berth `b` with a capacity: page list and pages (R131), or the stack whose sub-pool lacks them. -/
def State.allocate (s : State) (b maxTokens : Nat) : Except Nat State :=
  let sts := s.stackList
  let groups := (maxTokens + s.tpp - 1) / s.tpp
  let n := groups * s.role.setup.layers
  let lp := (8 * n + s.role.setup.page - 1) / max s.role.setup.page 1
  let p0 := sts.headD 0
  match s.takeRun p0 lp with
  | none => .error p0
  | some (first, s1) =>
    match State.takeGroups sts b (s1.pageAddr p0 first) (List.range n) [] s1 with
    | .error st => .error st
    | .ok (pages, s2) =>
      .ok (s2.setBerth b { s2.berth b with maxTokens := maxTokens, pagelist := s1.pageAddr p0 first, tokens := 0, lvCursor := 0,
                                           pages := (List.range lp).map (fun i => (p0, first + i)) ++ pages })

/-- Free a berth: its pages return and its entry is zero (R131, R134; log entry 21). -/
def State.freeBerth (s : State) (b : Nat) : State :=
  let e := s.berth b
  let used := e.pages.foldl (fun (u : Tbl NSet) (p : Nat × Nat) =>
    tput (fun _ => []) u p.1 (NSet.del (tget (fun _ => []) u p.1) p.2)) s.role.used
  let s1 := (s.setRole { s.role with used := used, bops := s.role.bops.filter (fun o => o.berth != b) }).setBerth b {}
  { s1 with lv := { s1.lv with due := s1.lv.due.del b, overdue := s1.lv.overdue.del b, first := s1.lv.first.del b,
                               flight := tput (fun _ => 0) s1.lv.flight b 0, holds := s1.lv.holds.filter (fun h => h.2.1 != b),
                               heads := tput (fun _ => ([], [])) s1.lv.heads b ([], []), mirrors := s1.lv.mirrors.del b } }

/-! ## Records and headers -/

/-- The records of tokens t0 to t1 − 1 of one layer, in token order, or the status that stops their sending: UNCORRECTABLE_MEMORY
for poisoned data, ADDRESS_FAULT for an invalid page (R136, R215). -/
def State.layerRecords (s : State) (plist layer : Nat) : Nat → Nat → Except Nat (List Byte)
  | 0, _ => .ok []
  | n + 1, t =>
    let u := s.role.setup
    match s.kvAddr u.page u.rec_ u.layers plist layer t with
    | .error c => .error (if c = 0x0F then 0x60 else 0x20)
    | .ok a =>
      if !s.liveOk a u.rec_ then .error 0x11
      else if s.anyBad a u.rec_ then .error 0x60
      else match s.layerRecords plist layer n (t + 1) with
        | .ok r => .ok (s.bytes a u.rec_ ++ r)
        | .error c => .error c

/-- Records of layers in ascending order, each over the same tokens. -/
def State.records (s : State) (plist t0 n : Nat) : List Nat → Except Nat (List Byte)
  | [] => .ok []
  | l :: r =>
    match s.layerRecords plist l n t0 with
    | .error c => .error c
    | .ok d => match s.records plist t0 n r with
      | .ok e => .ok (d ++ e)
      | .error c => .error c

/-- Write the records of one layer at token positions, as far as the berth's pages reach (R75). -/
def State.putLayer (plist layer : Nat) : Nat → Nat → List Byte → State → State
  | 0, _, _, s => s
  | n + 1, t, d, s =>
    let u := s.role.setup
    match s.kvAddr u.page u.rec_ u.layers plist layer t with
    | .error _ => s
    | .ok a => State.putLayer plist layer n (t + 1) (d.drop u.rec_) (if s.liveOk a u.rec_ then s.store a (d.take u.rec_) else s)

/-- Write records of layers in ascending order. -/
def State.putRecords (plist t0 n : Nat) : List Nat → List Byte → State → State
  | [], _, s => s
  | l :: r, d, s => State.putRecords plist t0 n r (d.drop (n * s.role.setup.rec_)) (State.putLayer plist l n t0 d s)

/-- The berth header (R135). -/
def State.header (s : State) (b tokens segs : Nat) : List Byte :=
  let e := s.berth b
  let u := s.role.setup
  let h := leBytes 4 0x4B564842 ++ leBytes 2 1 ++ leBytes 1 e.kvFmt ++ [0] ++ leBytes 4 tokens ++ leBytes 2 u.rec_ ++
    leBytes 2 u.layers ++ leBytes 4 s.tpp ++ leBytes 2 u.segLayers ++ leBytes 2 segs ++ leBytes 8 e.samplingKey.toNat ++
    leBytes 8 e.sessionKey.toNat ++ List.replicate 20 0
  h ++ leBytes 4 (crc32c h)

/-- MAGIC, VERSION and HDR_CRC of a received header (R135). -/
def headerGood (h : List Byte) : Bool :=
  decide (64 ≤ h.length) && at_ h 0 4 == 0x4B564842 && at_ h 4 2 == 1 && at_ h 0x3C 4 == crc32c (h.take 60)

/-- The conditions of R136 on a header: 0, ROLE_MISMATCH for its check or layout, ADDRESS_FAULT for capacity. -/
def State.headerCheck (s : State) (b : Nat) (h : List Byte) : Nat :=
  let u := s.role.setup
  if !headerGood h || at_ h 6 1 % 16 != u.kvFmt || at_ h 0xC 2 != u.rec_ || at_ h 0xE 2 != u.layers then 0x42
  else if (s.berth b).maxTokens < at_ h 8 4 then 0x20
  else 0

/-- OPENING to ACTIVE: the berth takes what the header carries (R134, R136). -/
def State.commitBerth (s : State) (b : Nat) (h : List Byte) : State :=
  let e := s.berth b
  s.setBerth b { e with state := 2, tokens := at_ h 8 4, samplingKey := BitVec.ofNat 64 (at_ h 0x18 8),
                        sessionKey := BitVec.ofNat 64 (at_ h 0x20 8), kvFmt := at_ h 6 1 % 16, lvCursor := 0, mode := 0 }

/-! ## Sessions (R138) -/

/-- Token ranges and layer bands of a session: TSEG, LB and SEG_COUNT. -/
def bandsOf (layers segLayers : Nat) : Nat := (layers + segLayers - 1) / max segLayers 1

def segCount (tokens tseg layers segLayers : Nat) : Nat :=
  if tokens = 0 then 1 else (tokens + tseg - 1) / max tseg 1 * bandsOf layers segLayers

/-- First token, tokens and layers of segment `x` (R138). -/
def segSpan (tokens tseg layers segLayers x : Nat) : Nat × Nat × List Nat :=
  let lb := max (bandsOf layers segLayers) 1
  let r := x / lb
  let j := x % lb
  let t0 := r * tseg
  (t0, min ((r + 1) * tseg) tokens - t0, (List.range (min ((j + 1) * segLayers) layers - j * segLayers)).map (j * segLayers + ·))

/-- The bytes of segments 1 to n − 1, then of segment 0 with its header, each with its number (R138, R141). -/
def State.segments (s : State) (b tokens n : Nat) : List Nat → Except Nat (List (Nat × List Byte))
  | [] => .ok []
  | x :: r =>
    let u := s.role.setup
    let sp := segSpan tokens s.tpp u.layers u.segLayers x
    match s.records (s.berth b).pagelist sp.1 sp.2.1 sp.2.2 with
    | .error c => .error c
    | .ok d => match s.segments b tokens n r with
      | .error c => .error c
      | .ok e => .ok ((x, if x = 0 then s.header b tokens n ++ d else d) :: e)

/-! ## Reaching another device -/

/-- Whether a berth or mooring party can be reached: the device itself, or R297; across racks also with MULTI_RACK (R137, R352). -/
def State.partyReach (s : State) (dst : Nat) : Bool := dst == s.device || (s.reachable dst && s.mayRemote)

/-- Whether a party lies where R297 lets a descriptor reach it at all, whatever its links do now (R137). -/
def State.partyClass (s : State) (dst : Nat) : Bool :=
  dst == s.device || (s.bit F.PRT_IDENT_VALID &&
    (s.sameRack dst || (s.bit F.PRT_CTRL_TOPOLOGY && s.bit F.STK_PKG_SPINE_ROLE)))

/-- Number of a descriptor as it names a berth operation. -/
def State.bop (s : State) (seq : Nat) : Option BerthOp := s.role.bops.find? (fun o => o.seq == seq)

def State.dropBop (s : State) (seq : Nat) : State :=
  s.setRole { s.role with bops := s.role.bops.filter (fun o => o.seq != seq) }

/-! ## Checkpoints (R460) -/

/-- DPA of a berth's tail (R466). -/
def State.tailAddr (s : State) (b : Nat) : Nat :=
  s.rd F.LVS_TAIL_HI_BASE_HI * 2 ^ 32 + s.rd F.LVS_TAIL_LO_BASE_LO * 4096 + 64 * b

/-- Start a checkpoint of berth `b`, or mark it due while one is in flight. Poisoned records or tail leave it unsent: it stays due
to be overdue at its limit (R215, R460). -/
def State.checkpoint (s : State) (b : Nat) : State :=
  let e := s.berth b
  if tget (fun _ => 0) s.lv.flight b ≠ 0 then { s with lv := { s.lv with due := s.lv.due.add b } }
  else
    let s1 := { s with lv := { s.lv with flight := tput (fun _ => 0) s.lv.flight b (e.tokens + 1), due := s.lv.due.del b } }
    let t := s.tailAddr b
    match s.records e.pagelist e.lvCursor (e.tokens - e.lvCursor) (List.range s.role.setup.layers) with
    | .error _ => s1
    | .ok d =>
      if s.anyBad t 64 ∨ !s.liveOk t 64 then s1
      else
        let p := s.rd F.LVS_STATUS_PARTNER
        s1.mail p 0 0 0 [[.berth p b 0 [] d []], [.berth p b 0 (s.header b e.tokens 0) [] (s.bytes t 64)]]

/-! ## Pending operations (R133, R134) -/

/-- Whether every step launch that names berth `b` and was accepted before number `op` has completed. -/
def State.stepsBefore (s : State) (b op : Nat) : Bool :=
  s.role.steps.all (fun (e : Nat × List Nat × Nat) =>
    !(e.2.1.contains b && serialEarlier (BitVec.ofNat 32 e.1) (BitVec.ofNat 32 op)))

/-- A move or PUT has failed: the berth is ACTIVE again and the descriptor completes with the status (R134). -/
def State.berthOpFail (s : State) (b seq status : Nat) : State :=
  ((s.setBerth b { s.berth b with state := 2, committed := false }).dropBop seq).finishDesc seq status 0 0

/-- Send a move: records of every layer, and once they are there the header in its own transfer; a target that cannot be reached leaves
the berth as it was (R136, R137). -/
def State.sendMove (s : State) (b seq : Nat) : State :=
  match s.desc seq with
  | none => s
  | some d =>
    let dst := d.f 0x14 2 % 1024
    let e := s.berth b
    let s0 := s.setBerth b { e with state := 4, pending := 0 }
    let s1 := s0.setRole { s0.role with bops := s.role.bops ++ [⟨seq, 1, b, dst, 0, [], [], []⟩] }
    if !s.partyReach dst then (s.setBerth b { e with pending := 0 }).finishDesc seq 0x12 0 0
    else match s.records e.pagelist 0 e.tokens (List.range s.role.setup.layers) with
      | .error c => s1.berthOpFail b seq c
      | .ok r =>
        let tb := d.f 0x12 2
        s1.mail dst 1 b seq [[.berth dst tb seq [] r []], [.berth dst tb seq (s.header b e.tokens 0) [] []]]

/-- Send a PUT: its announcement, segments 1 onward, and segment 0 last, each stage once the one before it is there; a target that
cannot be reached leaves the berth as it was (R137, R141). -/
def State.sendPut (s : State) (b seq : Nat) : State :=
  match s.desc seq with
  | none => s
  | some d =>
    let dst := d.f 0x12 2 % 1024
    let key := BitVec.ofNat 64 (d.f 0x18 8)
    let e := { s.berth b with state := 3, pending := 0, sessionKey := key }
    let s0 := s.setBerth b e
    let s1 := s0.setRole { s0.role with bops := s.role.bops ++ [⟨seq, 2, b, dst, key, [], [], []⟩] }
    let u := s.role.setup
    let n := segCount e.tokens s.tpp u.layers u.segLayers
    let msg := fun (x : Nat × List Byte) => Msg.moor dst (if x.1 = 0 then 2 else 1) seq key x.1 0 x.2
    if !s.partyReach dst then (s.setBerth b { s.berth b with pending := 0 }).finishDesc seq 0x12 0 0
    else if 65535 < n then s1.berthOpFail b seq 0x40
    else match s1.segments b e.tokens n ((List.range (n - 1)).map (· + 1) ++ [0]) with
      | .error c => s1.berthOpFail b seq c
      | .ok segs =>
        s1.mail dst 1 b seq [[.moor dst 0 seq key 0 0 []], (segs.filter (fun x => x.1 != 0)).map msg,
          (segs.filter (fun x => x.1 == 0)).map msg]

/-- A pending CLOSE, MOVE or PUT takes effect once its step boundary has come and no checkpoint of the berth is in flight; a HOLD
keeps what would be sent (R133, R134, R455, R462). -/
def State.takePending (s : State) (b : Nat) : State :=
  let e := s.berth b
  if e.pending = 0 ∨ e.state ≠ 2 ∨ !s.stepsBefore b e.opSeq ∨ tget (fun _ => 0) s.lv.flight b ≠ 0 then s
  else if e.pending = 1 then (s.freeBerth b).finishDesc e.opSeq 0 0 0
  else if s.rd F.LVS_STATUS_STATE = 3 then s
  else if e.pending = 2 then s.sendMove b e.opSeq
  else s.sendPut b e.opSeq

/-- A MOVING or DRAINING berth whose target has committed is freed once no step is in flight (R134, R358). -/
def State.settleBerth (s : State) (b : Nat) : State :=
  let e := s.berth b
  if (e.state = 3 ∨ e.state = 4) ∧ e.committed ∧ e.steps = 0 then
    (s.freeBerth b).finishDesc e.opSeq 0 0 (if e.state = 4 then e.tokens else 0)
  else s

/-! ## Steps (R132) -/

/-- Berths of a set of 768 bytes. -/
def State.berthSet (s : State) (a : Nat) : List Nat := (List.range 6144).filter (fun b => bitAt (s.num (a + b / 8) 1) (b % 8))

/-- A step launch is accepted: STEPS_IN_FLIGHT of every berth it names (R132). -/
def State.stepAccept (s : State) (seq adv : Nat) (bs : List Nat) : State :=
  let s1 := bs.foldl (fun (t : State) b => t.setBerth b { t.berth b with steps := (t.berth b).steps + 1 }) s
  s1.setRole { s1.role with steps := s1.role.steps ++ [(seq, bs, adv)] }

/-- One berth at the completion of a step launch: its advance, BERTH_AT_CAPACITY where it is cut, and a checkpoint of a paired
active where TOKEN_COUNT / 16 rises, which holds the launch's record (R132, R460). -/
def State.stepBerth (seq adv : Nat) (ok : Bool) (s : State) (b : Nat) : State :=
  let e := s.berth b
  let up := ok && e.state == 2
  let n := if up then min (e.tokens + adv) e.maxTokens else e.tokens
  let s1 := s.setBerth b { e with tokens := n, steps := e.steps - 1 }
  let s2 := if up ∧ e.maxTokens < e.tokens + adv then s1.raise 0x0903 srcPkg [(2, b)] else s1
  if e.tokens / 16 < n / 16 ∧ s.rd F.LVS_STATUS_STATE = 2 then
    ({ s2 with lv := { s2.lv with holds := s2.lv.holds ++ [(seq, b, n)] } }).checkpoint b
  else s2

/-- The step boundary of a launch: every berth of its set, in ascending number, whatever the status; then what waited for it
(R132, R133). -/
def State.stepDone (s : State) (seq status : Nat) : State :=
  match s.role.steps.find? (fun (e : Nat × List Nat × Nat) => e.1 == seq) with
  | none => s
  | some (_, bs, adv) =>
    let s1 := bs.foldl (State.stepBerth seq adv (decide (status < 2))) s
    let s2 := s1.setRole { s1.role with steps := s1.role.steps.filter (fun (e : Nat × List Nat × Nat) => e.1 != seq) }
    bs.foldl (fun (t : State) b => (t.takePending b).settleBerth b) s2

/-- A stack holding a page or the page list of a berth is retired: the berth is freed with BERTH_LOST, and its operation completes
with PATH_RESET (R134). -/
def State.loseBerths (s : State) (st : Nat) : State :=
  (s.role.berths.map (·.1)).foldl (fun (t : State) b =>
    let e := t.berth b
    if e.state ≠ 0 ∧ e.pages.any (fun p => p.1 == st) then
      let op := if e.state = 1 then e.openSeq else e.opSeq
      let busy := e.pending ≠ 0 ∨ e.state = 3 ∨ e.state = 4 ∨ (e.state = 1 ∧ e.mode = 2)
      let t1 := (t.freeBerth b).raise 0x0904 srcPkg []
      if busy then t1.finishDesc op 0x11 0 0 else t1
    else t) s

end Sys2Proof.Machine
end

