-- ==== Sys2Proof/Machine/Descriptors.lean ====
section
/-!
DEFINITION. The ring fetcher (11_host_and_command.md): which ring is served (R347, R348), the checks of a descriptor (R349, R351 to
R356, R127) and its acceptance (R343, R349, R132).
-/
namespace Sys2Proof.Machine

/-! ## Layouts -/

/-- Named body bytes of each type as (offset, size) (R353 to R356). -/
def bodyFields (t mode : Nat) : List (Nat × Nat) :=
  match t with
  | 0x01 => [(0x10, 8), (0x18, 8), (0x20, 24), (0x38, 8), (0x40, 2), (0x48, 8), (0x50, 8), (0x58, 4)]
  | 0x02 => [(0x10, 8), (0x18, 8), (0x20, 8), (0x28, 3), (0x30, 8)]
  | 0x03 => [(0x10, 4), (0x14, 8), (0x20, 8), (0x28, 8), (0x30, 8), (0x38, 8), (0x40, 8)]
  | 0x04 => [(0x10, 3), (0x14, 4), (0x18, 8)]
  | 0x05 => [(0x10, 2)]
  | 0x06 => [(0x10, 6)]
  | 0x07 => [(0x10, 4), (0x18, 8)]
  | 0x08 => [(0x10, 8), (0x18, 8)]
  | 0x09 => [(0x10, 1), (0x12, 2), (0x14, 4), (0x18, 8), (0x20, 4)]
  | 0x0A => [(0x12, 2), (0x18, 8)]
  | 0x0B => [(0x10, 1)]
  | 0x0C | 0x0D => [(0x10, 1), (0x18, 8)]
  | 0x0E => [(0x10, 10), (0x1C, 12), (0x28, 8), (0x30, 8)]
  | 0x0F => [(0x10, 8)]
  | 0x10 => [(0x10, 1), (0x18, 12 * min mode 8)]
  | _ => []

/-- Body bytes that no field names are zero (R8, R351). -/
def bodyClean (b : List Byte) (fs : List (Nat × Nat)) : Bool :=
  (List.range 112).all (fun i => fs.any (fun f => decide (f.1 ≤ 16 + i) && decide (16 + i < f.1 + f.2)) || b.getD (16 + i) 0 == 0)

/-- A DPA or HPA field without reserved bits (R351). -/
def dpaField (b : List Byte) (off : Nat) : Bool := decide (at_ b off 8 < 2 ^ 42)
def hpaField (b : List Byte) (off : Nat) : Bool := decide (at_ b off 8 < 2 ^ 48)

/-- Ranges of LAUNCH (R353). -/
def launchOk (b : List Byte) : Bool :=
  let step := bitAt (descFlags b) 3
  dpaField b 0x10 && !(descCores b).isEmpty && dpaField b 0x38 && dpaField b 0x48 && hpaField b 0x50 &&
  decide (at_ b 0x58 4 ≤ 2 ^ 24) &&
  (if step then at_ b 0x38 8 % 64 == 0 && decide (1 ≤ at_ b 0x40 2) else at_ b 0x38 8 == 0 && at_ b 0x40 2 == 0)

/-- Ranges of COPY (R354). -/
def copyOk (b : List Byte) : Bool :=
  let dir := at_ b 0x28 1
  let al := if 3 ≤ dir then 64 else 8
  decide (dir ≤ 4) && decide (1 ≤ at_ b 0x20 8) && decide (at_ b 0x20 8 ≤ 2 ^ 36) &&
  decide (at_ b 0x29 1 < 16) && decide (at_ b 0x2A 1 < 16) &&
  (if dir = 1 then hpaField b 0x10 else dpaField b 0x10) && (if dir = 2 then hpaField b 0x18 else dpaField b 0x18) &&
  at_ b 0x10 8 % al == 0 && at_ b 0x18 8 % al == 0 &&
  (if 3 ≤ dir then at_ b 0x29 1 == at_ b 0x2A 1 && decide (at_ b 0x30 8 < 2 ^ 42) && at_ b 0x20 8 % 64 == 0
   else at_ b 0x30 8 == 0)

/-- Ranges of COLLECTIVE (R109, R354). -/
def collectiveOk (b : List Byte) : Bool :=
  let m := at_ b 0x12 2
  let p := at_ b 0x20 8
  let fmt := p / 2 ^ 16 % 16
  decide (at_ b 0x10 1 ≤ 2) && decide (2 ≤ m) && decide (m ≤ 1024) && p % 2 ^ 16 == m &&
  ((at_ b 0x11 1 == 1 && decide (0xD ≤ fmt) && p / 2 ^ 20 == 0) || (at_ b 0x11 1 == 2 && p / 2 ^ 16 == 0)) &&
  decide (1 ≤ at_ b 0x28 8) && decide (at_ b 0x28 8 ≤ 2 ^ 32) && dpaField b 0x30 && dpaField b 0x38 && dpaField b 0x40

/-- The set-up a ROLE_SET body carries (R127, R355). -/
def roleSetup (b : List Byte) : RoleSetup :=
  { page := if at_ b 0x13 1 = 0 then 65536 else 262144, rec_ := at_ b 0x14 4, layers := at_ b 0x18 1, kvFmt := at_ b 0x11 1 % 16,
    segLayers := at_ b 0x19 1, poolOff := at_ b 0x20 8, poolPages := at_ b 0x1C 4, slot := at_ b 0x28 4,
    cpoolBase := at_ b 0x30 8, cpoolSlots := at_ b 0x2C 4 }

/-- Ranges of ROLE_SET; fields of another role are zero (R127, R355). -/
def State.roleSetOk (s : State) (b : List Byte) : Bool :=
  let u := roleSetup b
  let kvZero := at_ b 0x11 1 == 0 && at_ b 0x13 7 == 0 && at_ b 0x1C 4 == 0 && at_ b 0x20 8 == 0
  let cacheZero := at_ b 0x28 8 == 0 && at_ b 0x30 8 == 0
  let kv := at_ b 0x11 1 < 16 && at_ b 0x13 1 ≤ 1 && 8 ≤ u.rec_ && u.rec_ ≤ u.page && u.rec_ % 8 == 0 && 1 ≤ u.layers &&
    u.layers ≤ 127 && 1 ≤ u.segLayers && u.segLayers ≤ u.layers && u.poolOff % u.page == 0 && u.poolOff < 2 ^ 37 &&
    1 ≤ u.poolPages && u.poolPages ≤ (2 ^ 37 - u.poolOff) / u.page
  let cache := 65536 ≤ u.slot && u.slot ≤ 2 ^ 24 && u.slot % 65536 == 0 && u.cpoolBase % u.slot == 0 && 1 ≤ u.cpoolSlots &&
    u.cpoolSlots ≤ 4194304 && u.cpoolBase + u.slot * u.cpoolSlots ≤ s.rd F.MEM_MAP_N * 0x2000000000
  at_ b 0x12 1 ≤ 1 &&
  (match at_ b 0x10 1 with
   | 0 => kvZero && cacheZero
   | 1 | 2 => kv && cacheZero
   | 3 => kvZero && cache
   | _ => false)

/-- Ranges of the other types (R355, R356). A BERTH beyond the table is found by the berth operation (R359; log entry 22). -/
def otherOk (t : Nat) (b : List Byte) : Bool :=
  match t with
  | 0x04 => decide (at_ b 0x12 1 ≤ 1) && decide (1 ≤ at_ b 0x14 4) && decide (at_ b 0x14 4 < 2 ^ 24) &&
      (at_ b 0x12 1 == 0 || at_ b 0x18 8 == 0)
  | 0x06 => decide (at_ b 0x14 2 < 1024)
  | 0x07 | 0x0A => decide (at_ b 0x12 2 < 1024)
  | 0x08 => decide (at_ b 0x12 2 < 1024) && decide (1 ≤ at_ b 0x14 4) && decide (at_ b 0x14 4 < 2 ^ 24)
  | 0x09 => decide (at_ b 0x12 2 < 1024) &&
      (if at_ b 0x10 1 = 1 then decide (1 ≤ at_ b 0x14 4) && decide (at_ b 0x14 4 ≤ 4194304) && at_ b 0x18 8 == 0
       else at_ b 0x10 1 == 0 && at_ b 0x14 4 == 0 && at_ b 0x20 4 == 0)
  | 0x0B => decide (at_ b 0x10 1 ≤ 1)
  | 0x0F => decide (at_ b 0x10 1 ≤ 2) && decide (at_ b 0x11 1 ≤ 1) && (at_ b 0x10 1 == 0 || at_ b 0x11 1 == 0) &&
      decide (at_ b 0x12 2 < 1024)
  | 0x10 => decide (1 ≤ at_ b 0x10 1) && decide (at_ b 0x10 1 ≤ 8) &&
      (List.range (at_ b 0x10 1)).all (fun i => at_ b (0x18 + 12 * i) 4 % 4 == 0 && decide (at_ b (0x18 + 12 * i) 4 < 2 ^ 26))
  | _ => true

/-- Check 1 of R349: TYPE, reserved bits and bytes, and every field within its layout. -/
def State.descOk (s : State) (b : List Byte) : Bool :=
  let t := descType b
  let fl := descFlags b
  decide (b.length = 128) && decide (1 ≤ t) && decide (t ≤ 0x10) && decide (fl < 16) && (!bitAt fl 3 || t == 1) && at_ b 3 5 == 0 &&
  bodyClean b (bodyFields t (at_ b 0x10 1)) &&
  (match t with
   | 0x01 => launchOk b
   | 0x02 => copyOk b
   | 0x03 => collectiveOk b
   | 0x0E => s.roleSetOk b
   | _ => otherOk t b)

/-- Features a descriptor needs (R352), but for those of an image, which the image check judges (R80). -/
def State.featuresNeeded (s : State) (b : List Byte) : List Nat :=
  let far := fun (d : Nat) => if s.sameRack (d % 1024) then [] else [8]
  0 :: (match descType b with
   | 0x01 => if bitAt (descFlags b) 3 then [2] else []
   | 0x02 => if 3 ≤ at_ b 0x28 1 then 7 :: far (at_ b 0x30 2) else []
   | 0x03 =>
     let ms := (List.range (at_ b 0x12 2)).map (fun i => s.num (at_ b 0x40 8 + 2 * i) 2)
     [7, if at_ b 0x11 1 = 1 then 5 else 6] ++ (if ms.any (fun m => !s.sameRack (m % 1024)) then [8] else [])
   | 0x04 | 0x05 => [3]
   | 0x06 => 3 :: far (at_ b 0x14 2)
   | 0x07 | 0x08 | 0x09 | 0x0A => 4 :: far (at_ b 0x12 2)
   | 0x0F => 9 :: (if at_ b 0x10 1 = 0 then far (at_ b 0x12 2) ++ far (s.rd F.LVS_CTRL_WITNESS)
       else if s.rd F.LVS_STATUS_STATE = 0 then [] else far (s.rd F.LVS_STATUS_PARTNER) ++ far s.lv.witness)
   | 0x10 => [10]
   | _ => [])

/-! ## Service -/

/-- Whether a ring may be served: enabled, with descriptors posted, room in its completion ring for every record, no role change,
host memory within reach, no brown-out hold, and the lightvessel not in HOLD or TAKING_OVER (R348, R128, R401, R418, R455). -/
def State.eligible (s : State) (r : Nat) : Bool :=
  let c := s.rd F.RNG_CMD_CFG_CQ r
  let rolling := s.cmd.descs.any (fun d => descType d.bytes == 0x0E && d.phase == 0 && s.canStart d.seq)
  s.bit F.RNG_CMD_CFG_ENABLE r && decide (0 < s.backlog r) && decide (s.boundDescs c + s.unread c < s.cqSize c) &&
  !s.changing && !rolling && s.hostOpen && !s.bit F.PWR_FEED_BROWNOUT && s.rd F.LVS_STATUS_STATE != 3 && s.rd F.LVS_STATUS_STATE != 6

def State.class_ (s : State) (r : Nat) : Nat := s.rd F.RNG_CMD_CFG_CLASS r

/-- Rings in the order in which one class takes turns: after the one it served last (R348). -/
def turnOrder (last : Nat) : List Nat := (List.range 32).map (fun k => (last + 1 + k) % 32)

/-- The ring the fetcher serves next (R348). -/
def State.nextRing (s : State) : Option Nat :=
  match (List.range 32).find? (fun r => s.eligible r && decide (64 ≤ tget (fun _ => 0) s.cmd.starve r)) with
  | some r => some r
  | none =>
    ((List.range 4).flatMap (fun c => (turnOrder (tget (fun _ => 31) s.cmd.turn c)).filter (fun r => s.class_ r == c))).find? s.eligible

/-- Turns and waiting counts after ring `r` was served (R348). -/
def State.served (s : State) (r : Nat) (accepted : Bool) : State :=
  let c := s.class_ r
  let starve := (List.range 32).foldl (fun (t : Tbl Nat) q =>
    if q = r then tput (fun _ => 0) t q 0
    else if accepted ∧ c < s.class_ q ∧ s.eligible q then tput (fun _ => 0) t q (tget (fun _ => 0) t q + 1) else t) s.cmd.starve
  s.setCmd { s.cmd with turn := tput (fun _ => 31) s.cmd.turn c r, starve := starve }

/-! ## Acceptance -/

/-- Acceptance on both I/O dies, or on the active one alone with MIRROR_LOST (R343). -/
def State.mirror (s : State) : State :=
  let other := 1 - s.rd F.HST_CTRL_ACTIVE
  if s.portDie other ∨ s.cmd.mirrorLost then s
  else (((s.setCmd { s.cmd with mirrorLost := true }).raise 0x0548 (dieIO other) []).setCond 3 true).showReady

/-- The berth set of a step launch at its acceptance: STEPS_IN_FLIGHT, or the launch completes at once, in a role without berths with
ROLE_MISMATCH (R125, R132; log entry 97). -/
def State.acceptStep (s : State) (d : Desc) : State :=
  let a := d.f 0x38 8
  if !s.roleOk d then s.finishDesc d.seq 0x42 0 0
  else if !s.mapOk a 768 false ∨ !s.liveOk a 768 then s.finishDesc d.seq 0x20 0 s.bt
  else if s.anyBad a 768 then s.finishDesc d.seq 0x60 0 s.bt
  else s.stepAccept d.seq (d.f 0x40 2) (s.berthSet a)

/-- DESCRIPTOR_FETCH: the fetcher reads the next descriptor of the ring whose turn it is, checks it, and accepts it or completes
it with the status of the first check that fails (R347 to R349). -/
def execDescriptorFetch (r : Fin 32) (desc : List (BitVec 8)) (s : State) : Out :=
  if s.bit F.RNG_CMD_CFG_ENABLE r ∧ s.hostOpen ∧ 0 < s.backlog r ∧ s.ringBad r then .next (s.ringError r)
  else if s.nextRing ≠ some r.val then .next s
  else
    let f := s.rd F.RNG_CMD_FETCH_F r
    let s1 := s.wr F.RNG_CMD_FETCH_F r ((f + 1) % 2 ^ 32)
    let refuse := fun (st : Nat) => (s1.served r false).writeRecord r (at_ desc 8 8) 0 st (descType desc) 0 0
    if s.rd F.LVS_STATUS_STATE = 7 then .next (refuse 0x13)
    else if !s.descOk desc then .next (refuse 0x40)
    else if !(s.featuresNeeded desc).all s.feature then .next (refuse 0x41)
    else
      let d : Desc := { ring := r, seq := s.cmd.nextSeq, bytes := desc }
      let s2 := (s1.served r true).mirror
      let s3 := (s2.setCmd { s2.cmd with descs := s2.cmd.descs ++ [d], nextSeq := (s.cmd.nextSeq + 1) % 2 ^ 32 }).wr F.RNG_CMD_CFG_IDLE r 0
      .next (if descType desc = 0x01 ∧ d.step then s3.acceptStep d else s3)

end Sys2Proof.Machine
end

