-- ==== Sys2Proof/Machine/Launches.lean ====
section
/-!
DEFINITION. LAUNCH descriptors: the image check (R80, R109), distribution to the cores (R84), core reports, aborts and the
completion of a launch (R86, R132, R353).
-/
namespace Sys2Proof.Machine

/-- PARAM of a plan entry by its MODE (R109). -/
def planOk (mode param : Nat) : Bool :=
  let n := param % 2 ^ 16
  match mode with
  | 0 => decide (2 ≤ n) && decide (n ≤ 4096) && param / 2 ^ 16 == 0
  | 1 => decide (2 ≤ n) && decide (0xD ≤ param / 2 ^ 16 % 16) && param / 2 ^ 20 == 0
  | 2 => decide (2 ≤ n) && param / 2 ^ 16 == 0
  | _ => false

/-- Whether an image range lies wholly in the interleaved or in a per-stack view of HBM, mapped (R80, R202). -/
def State.inHbm (s : State) (a n : Nat) : Bool :=
  (match s.locate a with | .hbm _ _ => true | _ => false) && s.mapOk a n false && s.liveOk a n

/-- The header of an image: its fixed fields, counts and check (R78, R80). -/
def State.imgHeaderOk (s : State) (img : Nat) : Bool :=
  s.num img 4 == 0x50484C4D && s.num (img + 4) 2 == 1 && s.num (img + 6) 2 == 128 &&
  s.num (img + 0x7C) 4 == crc32c (s.bytes img 0x7C) && (s.bytes (img + 0x60) 28).all (· == 0) &&
  decide (128 ≤ s.num (img + 8) 8) && decide (1 ≤ s.num (img + 0x10) 4) && decide (s.num (img + 0x10) 4 ≤ 192) &&
  decide (s.num (img + 0x14) 4 ≤ 256) && decide (1 ≤ s.num (img + 0x34) 4) && decide (s.num (img + 0x34) 4 ≤ 1000000)

/-- The tables of an image as (offset, bytes) (R78). -/
def State.imgTables (s : State) (img : Nat) : List (Nat × Nat) :=
  [(s.num (img + 0x18) 8, 32 * s.num (img + 0x10) 4), (s.num (img + 0x20) 8, 16 * s.num (img + 0x14) 4),
   (s.num (img + 0x28) 8, 24 * s.num (img + 0x30) 4)]

/-- Entries of the core table for a logical core. -/
def State.imgEntries (s : State) (img lc : Nat) : List Nat :=
  let t := img + s.num (img + 0x18) 8
  ((List.range (s.num (img + 0x10) 4)).map (fun i => t + 32 * i)).filter (fun e => s.num e 2 == lc)

/-- A core table entry of a launched core (R79, R80). -/
def State.imgEntryOk (s : State) (total e : Nat) : Bool :=
  s.num (e + 2) 2 == 0 && (s.bytes (e + 0x18) 8).all (· == 0) && s.num (e + 4) 4 % 8 == 0 && decide (s.num (e + 4) 4 ≤ 262144) &&
  decide (s.num (e + 8) 8 + s.num (e + 4) 4 ≤ total)

/-- The plan table: fields, PARAM, and no PLAN_ID twice (R79, R80, R109). -/
def State.imgPlansOk (s : State) (img : Nat) : Bool :=
  let t := img + s.num (img + 0x20) 8
  let es := (List.range (s.num (img + 0x14) 4)).map (fun i => t + 16 * i)
  let ids := es.map (fun e => s.num e 4)
  es.all (fun e => (s.bytes (e + 5) 3).all (· == 0) && planOk (s.num (e + 4) 1) (s.num (e + 8) 8)) &&
  decide (ids.eraseDups.length = ids.length)

/-- The initialisation table: reserved fields, and the data of launched cores inside the image (R79, R80). -/
def State.imgInitsOk (s : State) (img total : Nat) (cores : List Nat) : Bool :=
  let t := img + s.num (img + 0x28) 8
  ((List.range (s.num (img + 0x30) 4)).map (fun i => t + 24 * i)).all (fun e =>
    s.num (e + 2) 2 == 0 && s.num (e + 0x0C) 4 == 0 &&
    (!cores.contains (s.num e 2) || decide (s.num (e + 0x10) 8 + s.num (e + 4) 4 ≤ total)))

/-- Feature bits of an image. -/
def State.imgFeatures (s : State) (img : Nat) : BitVec 256 := BitVec.ofNat 256 (s.num (img + 0x38) 32)

/-- The image check of R80: status, and DETAIL for an absent core (R358). -/
def State.imageCheck (s : State) (img : Nat) (cores : List Nat) : Nat × Nat :=
  if img % 4096 ≠ 0 then (0x40, 0)
  else if !s.inHbm img 128 then (0x20, 0)
  else if s.anyBad img 128 then (0x60, 0)
  else if !s.imgHeaderOk img then (0x40, 0)
  else
    let total := s.num (img + 8) 8
    if !s.inHbm img total then (0x20, 0)
    else if (s.imgTables img).any (fun t => decide (total < t.1 + t.2)) then (0x40, 0)
    else if (s.imgTables img).any (fun t => decide (0 < t.2) && s.anyBad (img + t.1) t.2) then (0x60, 0)
    else if !cores.all (fun l => decide ((s.imgEntries img l).length = 1) && (s.imgEntries img l).all (s.imgEntryOk total)) then (0x40, 0)
    else if !s.imgPlansOk img || !s.imgInitsOk img total cores then (0x40, 0)
    else if !(List.range 256).all (fun n => !(s.imgFeatures img).getLsbD n || s.feature n) then (0x41, 0)
    else match cores.find? (fun l => (s.core l).cstate == .absent) with
      | some l => (0x51, 256 * l)
      | none => if cores.any (fun l => (s.core l).cstate == .parked || s.pathReset (scratchAddr l 0)) then (0x11, 0) else (0, 0)

/-- Whether the image check of a launch has to wait: a home it reads keeps it waiting, or its path is closed (R172, R217, R218). -/
def State.imageWaits (s : State) (img : Nat) : Bool :=
  let waits := fun (a n : Nat) => s.inHbm a n && (s.areaBusy a n || !s.areaOpen 12 a n)
  img % 4096 == 0 && (waits img 128 || (s.inHbm img 128 && (s.imgTables img).any (fun t => decide (0 < t.2) && waits (img + t.1) t.2)))

/-- Endpoints a launch goes to: those of the dies with cores of the launch (R34). -/
def launchDies (cores : List Nat) : List Nat := (List.range 12).filter (fun n => cores.any (fun c => c / 16 == n))

/-- Whether a launch covers the three dies of a column whole (R34, R166). -/
def wholeColumn (cores : List Nat) (q : Nat) : Bool := (List.range 48).all (fun i => cores.contains (48 * q + i))

/-- The message of a launch to an endpoint. -/
def launchNote (seq dst : Nat) : Note := { kind := 1, src := 12, dst := dst, vc := 0, line := 0, body := leBytes 4 seq }

/-- IO0 sends a launch over the fabric: by column multicast where it covers the dies of a column whole, else to each endpoint (R34). -/
def State.sendLaunch (s : State) (l : Launch) : State :=
  (List.range 4).foldl (fun (t : State) q =>
    if wholeColumn l.cores q then t.onGroup 12 (3 + q) 0 (packetFlits 0 (launchNote l.seq (3 * q)).bytes)
    else ((launchDies l.cores).filter (fun n => n / 3 == q)).foldl (fun (u : State) n => u.post (launchNote l.seq n)) t) s

/-- Start a launch: its image is checked; it completes without starting a core, or goes out to the cores (R34, R80, R84, R254,
R353). -/
def State.startLaunch (s : State) (d : Desc) : State :=
  let img := d.f 0x10 8
  let cores := descCores d.bytes
  let v := s.imageCheck img cores
  if v.1 ≠ 0 then (s.stepDone d.seq v.1).finishDesc d.seq v.1 v.2 s.bt
  else
    let l : Launch :=
      { seq := d.seq, tag := d.seq % 65536, cores := cores, todo := cores, left := cores, image := img
        arg := BitVec.ofNat 64 (d.f 0x18 8), features := s.imgFeatures img, buildId := BitVec.ofNat 64 (s.num (img + 0x58) 8)
        waitLimit := s.num (img + 0x34) 4, fault := none, aborts := [], step := d.step
        result := (d.f 0x48 8, d.f 0x50 8, d.f 0x58 4), forced := none, lost := none }
    { s with launches := s.launches ++ [l] }.sendLaunch l

/-- Whether a descriptor is a LAUNCH whose image check waits. -/
def State.launchWaits (s : State) (seq : Nat) : Bool :=
  match s.desc seq with
  | some d => descType d.bytes == 1 && s.imageWaits (d.f 0x10 8)
  | none => false

/-- LAUNCH: a LAUNCH without STEP starts (R80, R350). -/
def execLaunch (seq : BitVec 32) (s : State) : Out :=
  if s.launchWaits seq.toNat then .next s
  else .next (s.startDesc seq (fun d => descType d.bytes == 1 && !d.step) State.startLaunch)

/-- STEP_LAUNCH: a LAUNCH with STEP starts; its berths were counted at its acceptance, and a launch that the role refuses releases
them (R125, R132, R350). -/
def execStepLaunch (seq : BitVec 32) (s : State) : Out :=
  if s.launchWaits seq.toNat then .next s
  else
    let s1 := s.startDesc seq (fun d => descType d.bytes == 1 && d.step) State.startLaunch
    match s1.desc seq.toNat with
    | some d => if d.phase = 2 then .next (s1.stepDone d.seq d.status) else .next s1
    | none => .next s1

/-- The fault that counts: detected first in beacon time, then of the lowest core (R86). -/
def earlierFault (a : Option (Nat × Nat × Nat × Nat)) (b : Nat × Nat × Nat × Nat) : Nat × Nat × Nat × Nat :=
  match a with
  | none => b
  | some f => if b.1 < f.1 ∨ (b.1 = f.1 ∧ b.2.1 < f.2.1) then b else f

/-- The message of an abort to a core. -/
def abortNote (seq c : Nat) : Note :=
  { kind := 4, src := 12, dst := 16 + c / 16, vc := 0, line := c, body := leBytes 4 seq ++ leBytes 1 c }

/-- Aborts go to every core of a launch that has not reported, but for those already aborted (R86). -/
def State.abortOthers (s : State) (l : Launch) : State × Launch :=
  let to_ := l.left.filter (fun c => !l.aborts.contains c)
  (to_.foldl (fun (t : State) c => t.post (abortNote l.seq c)) s, { l with aborts := to_.foldl NSet.add l.aborts })

/-- A launch whose cores have all reported completes: the step boundary, then its result copy, which a HOLD keeps for later
(R86, R132, R353, R455). -/
def State.endLaunch (s : State) (l : Launch) : State :=
  let st := match l.forced with
    | some f => f
    | none => (l.fault.map (fun f => f.2.2.2)).getD 0
  let detail := match l.forced, l.fault with
    | some _, _ => 0
    | none, some f => if f.2.2.1 ≠ 0 then f.2.2.1 + 256 * f.2.1 else if st = 0x51 then 256 * l.lost.getD f.2.1 else 0
    | none, none => 0
  let s1 := { s with launches := s.launches.filter (fun m => m.seq != l.seq) }
  let s2 := (if l.step then s1.stepDone l.seq st else s1).finishDesc l.seq st detail s.bt
  match s2.desc l.seq with
  | none => s2
  | some d =>
    if st ≠ 0 ∨ d.f 0x58 4 = 0 then s2
    else if s2.rd F.LVS_STATUS_STATE = 3 then s2.setDesc { d with copy := true }
    else let c := s2.resultCopy d; c.1.setDesc c.2

/-- CORE_REPORT_RECEIVE: the I/O die receives a core's report, over the fabric or from the watch room: after a fault the others are
aborted, and with the last report the launch completes (R84, R86, R132, R353). -/
def execCoreReportReceive (lc : Fin 192) (s : State) : Out :=
  match s.reports.find? (fun r => r.lc == lc.val && (r.direct || s.pathOpen (16 + lc / 16) 12)) with
  | none => .next s
  | some r =>
    let s1 := { s with reports := s.reports.erase r }
    match s1.launches.find? (fun l => l.seq == r.seq) with
    | none => .next s1
    | some l =>
      let l1 : Launch := { l with left := l.left.del lc, todo := l.todo.del lc }
      let l2 : Launch := if r.kind = 2 then
          { l1 with fault := some (earlierFault l1.fault (r.bt, lc, r.cause, r.status)),
                    lost := if r.status = 0x51 ∧ r.cause = 0 then some (min lc.val (l1.lost.getD lc)) else l1.lost }
        else l1
      let a := if r.kind = 2 then s1.abortOthers l2 else (s1, l2)
      if a.2.left = [] then .next (a.1.endLaunch a.2)
      else .next { a.1 with launches := a.1.launches.map (fun m => if m.seq = l.seq then a.2 else m) }

end Sys2Proof.Machine
end

