-- ==== Sys2Proof/Machine/LvOps.lean ====
section
/-!
DEFINITION. The lightvessel, shared operations (15_reliability.md): fence entries (R451), packets (R452), the state and what each
state implies (R455, R458), and what a HOLD held (R455).
-/
namespace Sys2Proof.Machine

/-- The lightvessel state as LVS_STATUS shows it (R465). -/
def State.lvState (s : State) : Nat := s.rd F.LVS_STATUS_STATE
def State.partner (s : State) : Nat := s.rd F.LVS_STATUS_PARTNER
def State.epoch (s : State) : Nat := s.rd F.LVS_STATUS_EPOCH

/-- Serial-number comparison of two epochs (R451, R541). -/
def epochBelow (a b : Nat) : Bool := serialEarlier (BitVec.ofNat 16 a) (BitVec.ofNat 16 b)

/-- A lightvessel event: the pair and the partner first (R464). -/
def State.lvEvent (s : State) (code : Nat) (data : List (Nat × Nat)) : State :=
  s.raise code srcPkg ([(4, s.lv.pairId), (2, s.partner)] ++ data)

/-- FENCE of a device. -/
def State.fenceOf (s : State) (d : Nat) : Nat := tget (fun _ => 0) s.rack.fence d

/-- Raise a fence entry; one that would be lowered stays (R451). -/
def State.raiseFence (s : State) (d n : Nat) : State :=
  if n ≠ 0 ∧ (s.fenceOf d = 0 ∨ epochBelow (s.fenceOf d) n) then
    { s with rack := { s.rack with fence := tput (fun _ => 0) s.rack.fence d n } }
  else s

/-- Condition 11 of R448: EXPOSED, or an ACTIVE with an overdue checkpoint (R455). -/
def State.lvCond (s : State) : State :=
  s.setCond 11 (s.lvState == 4 || (s.lvState == 2 && !s.lv.overdue.isEmpty))

/-- Enter a lightvessel state; in SOLO the epoch is 0 (R451, R455). -/
def State.lvTo (s : State) (st : Nat) : State :=
  let s1 := s.wr F.LVS_STATUS_STATE 0 st
  (if st = 0 then (s1.wr F.LVS_STATUS_EPOCH 0 0).wr F.LVS_STATUS_PARTNER 0 0 else s1).lvCond

/-- Everything that HOLD kept may go: requests, and operations of berths that wait (R455). -/
def State.lvRelease (s : State) : State :=
  let s1 := (s.rack.pairs.map (·.1)).foldl (fun (t : State) k => t.pumpAll (k / 1024) (k % 1024)) s
  (s1.role.berths.map (·.1)).foldl (fun (t : State) b => t.takePending b) s1

/-- Abandon every checkpoint: nothing is held for one any more (R460, R462). A PAIR that waits for its first checkpoints completes
with TARGET_UNREACHABLE (log entry 30). -/
def State.dropCheckpoints (s : State) : State :=
  let s1 := { s with lv := { s.lv with flight := [], due := [], holds := [], overdue := [], first := [], pairSeq := none } }
  let s2 := match s.lv.pairSeq with | some q => s1.finishDesc q 0x12 0 0 | none => s1
  ((s2.role.berths.map (·.1)).foldl (fun (t : State) b => t.takePending b) s2).lvCond

/-- Close the mirrors of a standby (R134, R455). -/
def State.closeMirrors (s : State) : State :=
  let s1 := s.lv.mirrors.foldl (fun (t : State) b => if (t.berth b).state = 1 then t.freeBerth b else t) s
  { s1 with lv := { s1.lv with mirrors := [], heads := [] } }

/-- FENCED: launches in flight are aborted with FENCED, and every accepted descriptor completes with it (R458). The trigger is the
position of its condition among those R455 lists (log entry 31). -/
def State.lvFence (s : State) (trigger : Nat) : State :=
  let s1 := (s.lvEvent 0x0A03 [(1, trigger)]).lvTo 7
  let s2 := { s1 with lv := { s1.lv with pairSeq := none, takeSeq := none, holds := [] } }
  let s3 := s2.launches.foldl (fun (t : State) l =>
    let a := t.abortOthers { l with forced := some 0x13 }
    { a.1 with launches := a.1.launches.map (fun m => if m.seq = l.seq then a.2 else m) }) s2
  let run := s3.launches.map (·.seq)
  (s3.cmd.descs.filter (fun d => !run.contains d.seq)).foldl (fun (t : State) d =>
    let t1 := t.finishDesc d.seq 0x13 0 0
    if descType d.bytes = 1 ∧ d.step then t1.stepDone d.seq 0x13 else t1) s3

/-- The PAIR of an active completes when every berth that was ACTIVE at pairing has had a checkpoint acknowledged (R450). -/
def State.pairDone (s : State) : State :=
  match s.lv.pairSeq with
  | some q => if s.lvState = 2 ∧ s.lv.first = [] then ({ s with lv := { s.lv with pairSeq := none } } : State).finishDesc q 0 0 0 else s
  | none => s

/-! ## Packets -/

/-- The 32 payload bytes of a lightvessel packet (R452). -/
def lvPayload (pair side flags epoch subject fence token : Nat) : List Byte :=
  leBytes 4 pair ++ leBytes 1 side ++ leBytes 1 flags ++ leBytes 2 epoch ++ leBytes 2 subject ++ leBytes 2 fence ++
  leBytes 4 token ++ List.replicate 16 0

/-- A lightvessel packet of this device: the request header of R303 on the gateway's stream with SEQ 0, which no request of R306 uses
first, and the pair as TAG (log entry 29). -/
def State.lvPkt (s : State) (op dst : Nat) (data : List Byte) : Pkt :=
  let q := s.dieFrom 0 dst
  { op := op, source := s.device, e := 16 * q + 15, target := dst, epoch := s.epoch, bootId := s.rd F.PRT_IDENT_BOOT_ID,
    len := data.length, tag := at_ data 0 4, data := data }

/-- Send a lightvessel packet where its target can be reached (R277, R297, R452). -/
def State.lvIssue (s : State) (p : Pkt) : State :=
  if s.reachable p.target then
    let q := s.dieFrom 0 p.target
    s.issuePkt q ⟨s.hop p.target, 0, 0, none, 12 + q, p.bytes⟩
  else s

/-- FLAGS that the state implies: TAKEN, FENCED, HOLD (R455). -/
def State.beatFlags (s : State) : Nat :=
  if s.lvState = 4 ∧ s.lv.lease = 2 then 1 else if s.lvState = 7 then 2 else if s.lvState = 3 then 4 else 0

/-- Send a beat to the partner, with further flags; the TOKEN summary of an active is a free value, since no rule says what it sums
up (R452; log entry 32). -/
def State.sendBeat (s : State) (flags : Nat) : State :=
  let tok := if s.lv.side = 0 then s.freeVal.toNat % 2 ^ 32 else 0
  s.drawn.lvIssue (s.lvPkt 0x0A s.partner (lvPayload s.lv.pairId s.lv.side (s.beatFlags + flags) s.epoch s.device 0 tok))

/-- Ask the witness: TAKEOVER in TAKING_OVER, CONTINUE in HOLD, a renewal in EXPOSED (R452, R454, R455). -/
def State.lvAsk (s : State) : State :=
  let st := s.lvState
  let e1 := (s.epoch + 1) % 65536
  let d := if st = 6 then lvPayload s.lv.pairId 1 0 e1 s.partner e1 0
    else if st = 3 then lvPayload s.lv.pairId 0 4 s.epoch s.device 0 0
    else if s.lv.lease = 2 then lvPayload s.lv.pairId 0 33 s.epoch s.partner s.epoch 0
    else lvPayload s.lv.pairId 0 32 s.epoch s.device 0 0
  s.lvIssue (s.lvPkt 0x0C s.lv.witness d)

/-- An ACK may acknowledge a notice: the device that answers, the sender of the notice and the pair agree (R457). -/
def State.noticeAck (s : State) (r : Rsp) : State :=
  if r.op = 0x81 ∧ r.seq = 0 then
    { s with lv := { s.lv with notices := s.lv.notices.filter (fun (n : Nat × Pkt) =>
        !(n.1 == r.responder && n.2.source == r.source && n.2.tag == r.tag)) } }
  else s

/-- A NAK FENCED of the witness refuses a CONTINUE or a renewal (R310 step 1, R452, R455; log entry 33). -/
def State.askNak (s : State) (r : Rsp) : State :=
  if r.op = 0x8F ∧ r.status = 0x13 ∧ r.seq = 0 ∧ r.tag = s.lv.pairId ∧ r.responder = s.lv.witness then
    if s.lvState = 3 then s.lvFence 1 else if s.lvState = 4 ∧ s.lv.lease ≠ 0 then s.lvFence 2 else s
  else s

end Sys2Proof.Machine
end

