-- ==== Sys2Proof/Machine/Roles.lean ====
section
/-!
DEFINITION. Roles and berths (04_phase_roles.md R124 to R137, R147, R148): opening, closing and moving a berth, the target of a
move or a checkpoint, and changing the role.
-/
namespace Sys2Proof.Machine

/-- An ACTIVE berth whose count has risen while its steps in flight are zero is at a step boundary: a paired active starts a
checkpoint (R132, R460). -/
def State.boundary (s : State) (b : Nat) : State :=
  if s.rd F.LVS_STATUS_STATE = 2 ∧ 16 ≤ (s.berth b).tokens then s.checkpoint b else s

/-- Open a FREE berth with a capacity, or complete with ADDRESS_FAULT: POOL_EXHAUSTED where pages lack (R131, R133). -/
def State.openBerth (s : State) (seq b max : Nat) (then_ : State → State) : State :=
  if 6144 ≤ b ∨ (s.berth b).state ≠ 0 then s.finishDesc seq 0x20 0 0
  else match s.allocate b max with
    | .error st => (s.raise 0x0905 (dieSD st) [(1, st)]).finishDesc seq 0x20 0 0
    | .ok s1 => then_ s1

/-- BERTH_OPEN_LOCAL: pages are allocated and the berth is ACTIVE with no tokens (R131, R134). -/
def execBerthOpenLocal (seq : BitVec 32) (s : State) : Out :=
  .next (s.startDesc seq (fun d => descType d.bytes == 4 && d.f 0x12 1 == 0) fun t d =>
    let b := d.f 0x10 2
    t.openBerth d.seq b (d.f 0x14 4) fun t1 =>
      (t1.setBerth b { t1.berth b with state := 2, samplingKey := BitVec.ofNat 64 (d.f 0x18 8), kvFmt := t1.role.setup.kvFmt }).finishDesc
        d.seq 0 0 0)

/-- BERTH_OPEN_RECEIVE: pages are allocated and the berth awaits an inbound move (R131, R134). -/
def execBerthOpenReceive (seq : BitVec 32) (s : State) : Out :=
  .next (s.startDesc seq (fun d => descType d.bytes == 4 && d.f 0x12 1 == 1) fun t d =>
    let b := d.f 0x10 2
    t.openBerth d.seq b (d.f 0x14 4) fun t1 =>
      (t1.setBerth b { t1.berth b with state := 1, mode := 1, kvFmt := t1.role.setup.kvFmt }).finishDesc d.seq 0 0 0)

/-- Record a pending operation of an ACTIVE berth toward a device; it takes effect at once where no earlier step is in flight (R133). A
party that cannot be reached completes it with no other effect (R137). -/
def State.pend (s : State) (seq b kind dst : Nat) : State :=
  let e := s.berth b
  if 6144 ≤ b ∨ e.state ≠ 2 ∨ e.pending ≠ 0 then s.finishDesc seq 0x20 0 0
  else if !s.partyClass dst then s.finishDesc seq 0x12 0 0
  else (s.setBerth b { e with pending := kind, opSeq := seq }).takePending b

/-- The session home learns that a GET has ended at its requester (R134, R143). -/
def State.getEnded (s : State) (o : BerthOp) : State := s.tell o.device (.moor o.device 7 o.seq o.key 0 0 [])

/-- BERTH_CLOSE: a FREE berth stays so, an OPENING one is freed and a GET that opened it ends, an ACTIVE one waits for its step
boundary (R133, R134). -/
def execBerthClose (seq : BitVec 32) (s : State) : Out :=
  .next (s.startDesc seq (fun d => descType d.bytes == 5) fun t d =>
    let b := d.f 0x10 2
    let e := t.berth b
    if 6144 ≤ b then t.finishDesc d.seq 0x20 0 0
    else if e.state = 0 then t.finishDesc d.seq 0 0 0
    else if e.state = 1 then
      let t1 := t.freeBerth b
      let t2 := if e.mode = 2 then
          (match t.bop e.openSeq with | some o => t1.getEnded o | none => t1).finishDesc e.openSeq 0x20 0 0 else t1
      t2.finishDesc d.seq 0 0 0
    else t.pend d.seq b 1 t.device)

/-- BERTH_MOVE: a pending MOVE of an ACTIVE berth (R133, R136). -/
def execBerthMove (seq : BitVec 32) (s : State) : Out :=
  .next (s.startDesc seq (fun d => descType d.bytes == 6) fun t d => t.pend d.seq (d.f 0x10 2) 2 (d.f 0x14 2 % 1024))

/-- Write the records of an inbound berth image: tokens from `t0` of every layer (R75, R136). -/
def State.placeImage (s : State) (b t0 n : Nat) (recs : List Byte) : State :=
  State.putRecords (s.berth b).pagelist t0 n (List.range s.role.setup.layers) recs s

/-- A checkpoint of a mirror: records are written and its header and tail kept; it is acknowledged (R460). -/
def State.takeCheckpoint (s : State) (src b : Nat) (hdr recs tail : List Byte) : State :=
  let u := s.role.setup
  let per := u.rec_ * u.layers
  let n := if per = 0 then 0 else recs.length / per
  if s.rd F.LVS_STATUS_STATE ≠ 5 ∨ src ≠ s.rd F.LVS_STATUS_PARTNER ∨ (s.berth b).state ≠ 1 ∨ s.headerCheck b hdr ≠ 0 then s
  else
    let s1 := s.placeImage b (at_ hdr 8 4 - n) n recs
    ({ s1 with lv := { s1.lv with heads := tput (fun _ => ([], [])) s1.lv.heads b (hdr, tail) } } : State).tell src (.checkpointAck src b)

/-- BERTH_HEADER_RECEIVE: the header of a berth image reaches the target. A move is committed with its records or refused with
the status R136 gives; a checkpoint, which carries a tail, is kept for the mirror (R126, R136, R456, R460). -/
def execBerthHeaderReceive (src : Fin 1024) (b : Fin 6144) (op : BitVec 32) (hdr recs tail : List (BitVec 8)) (s : State) : Out :=
  if tail ≠ [] then .next (s.takeCheckpoint src b hdr recs tail)
  else
    let e := s.berth b
    let v := if !s.berthRole ∨ s.changing ∨ s.rd F.LVS_STATUS_STATE = 5 then 0x42
      else if e.state ≠ 1 ∨ e.mode ≠ 1 then 0x20
      else s.headerCheck b hdr
    if v ≠ 0 then .next (s.tell src (.berthAck src op.toNat v))
    else
      let s1 := s.placeImage b 0 (at_ hdr 8 4) recs
      .next (((s1.commitBerth b hdr).boundary b).tell src (.berthAck src op.toNat 0))

/-- BERTH_MOVE_COMMIT_ACK: the target's answer: the berth is freed once no step of it is in flight, or ACTIVE again
(R134, R136). -/
def execBerthMoveCommitAck (seq : BitVec 32) (status : BitVec 8) (s : State) : Out :=
  match s.bop seq.toNat with
  | none => .next s
  | some o =>
    if o.kind ≠ 1 then .next s
    else if status = 0 then
      .next ((s.setBerth o.berth { s.berth o.berth with committed := true }).settleBerth o.berth)
    else .next (s.berthOpFail o.berth o.seq status.toNat)

/-! ## Role change -/

/-- Whether any mooring entry is valid (R128). -/
def State.moored (s : State) : Bool := !s.role.moor.isEmpty

/-- ROLE_SET, taken where it starts (log entry 97): CHANGING, or refused with ROLE_SET_REFUSED where a berth or a mooring entry is in
use; ROLE_MISMATCH outside SOLO (R128, R462). -/
def execRoleSet (seq : BitVec 32) (s : State) : Out :=
  .next (s.startDesc seq (fun d => descType d.bytes == 0x0E) fun t d =>
    let discard := d.f 0x12 1 == 1
    if t.rd F.LVS_STATUS_STATE ≠ 0 then t.finishDesc d.seq 0x42 0 0
    else if t.role.berths.any (fun (e : Nat × Berth) => e.2.state != 0) || (t.roleCode == 3 && t.moored && !discard) then
      (t.raise 0x0902 srcPkg [(1, d.f 0x10 1)]).finishDesc d.seq 0x42 0 0
    else (t.setRole { t.role with change := some (d.seq, d.f 0x10 1, roleSetup d.bytes, discard) }).wr F.BRT_ROLE_CHANGING 0 1)

/-- Session operations that are not over, once GETs whose requesters have everything are taken out (R143). -/
def sessLeft (l : List SessOp) (ended : List (Fin 1024 × BitVec 32)) : List SessOp :=
  l.filter (fun o => !(o.kind == 1 && ended.any (fun (e : Fin 1024 × BitVec 32) => e.1.val == o.src && e.2.toNat == o.op)))

/-- ROLE_SETTLE, after which a PUT that CHANGING met has committed and, where DISCARD is 0, its entries stay beside the new free list (log
entry 98): once every launch accepted before the ROLE_SET has completed and every mooring operation served here has ended,
the new role is in force: free lists built, ROLE_CHANGED, DONE (R128, R130, R145). -/
def execRoleSettle (ended : List (Fin 1024 × BitVec 32)) (s : State) : Out :=
  match s.role.change with
  | none => .next s
  | some (seq, role, setup, discard) =>
    let sess := sessLeft s.role.sess ended
    let before := s.cmd.descs.takeWhile (fun d => d.seq != seq)
    if before.any (fun d => descType d.bytes == 1 && d.phase != 2) || !sess.isEmpty || !s.launches.isEmpty then
      .next (s.setRole { s.role with sess := sess })
    else
      let old := s.roleCode
      let drop := discard || old != 3
      let keep := s.role
      let s1 := s.setRole { setup := setup, steps := keep.steps, berths := keep.berths, bops := keep.bops,
                            moor := if drop then [] else keep.moor }
      let s1a := (List.range 16).foldl (fun (t : State) i => t.wr F.MOR_AGE_HIST_SESSIONS i 0) s1
      let s2 := ((s1a.wr F.BRT_ROLE_ROLE 0 role).wr F.BRT_ROLE_CHANGING 0 0).wr F.MOR_REFUSED_COUNT 0 0
      .next ((s2.raise 0x0901 srcPkg [(1, old), (1, role)]).finishDesc seq 0 0 0)

end Sys2Proof.Machine
end

