-- ==== Sys2Proof/Machine/Mooring.lean ====
section
/-!
DEFINITION. The mooring table (04_phase_roles.md R138 to R147): hashing, insertion, commits, the order of the operations on a
session, and the descriptors and messages of PUT, GET, DROP and TOUCH.
-/
namespace Sys2Proof.Machine

/-! ## The table -/

/-- Home, primary set and alternate set of a key (R140). -/
def moorHash (key : W64) (seg : Nat) : Nat × Nat × Nat :=
  let w := gen key (BitVec.ofNat 64 (0x4D4F4F5200000000 + seg))
  (w.1.toNat % 4, w.1.toNat / 4 % 2 ^ 18, w.2.1.toNat % 2 ^ 18)

/-- Numbers of the candidate ways of a key, in the order of a lookup (R140). -/
def moorWays (key : W64) (seg : Nat) : List Nat :=
  let h := moorHash key seg
  let set := fun (k : Nat) => (List.range 4).map (fun w => h.1 * 1048576 + 4 * k + w)
  set h.2.1 ++ (if h.2.2 = h.2.1 then [] else set h.2.2)

def State.setMoor (s : State) (i : Nat) (e : MoorEnt) : State :=
  s.setRole { s.role with moor := tput (fun _ => {}) s.role.moor i e }

/-- The entry of a key in a given state, and of a generation where one is given (R140). -/
def State.moorFind (s : State) (key : W64) (seg state : Nat) (gen : Option Nat) : Option Nat :=
  (moorWays key seg).find? (fun i =>
    let e := s.moorAt i
    e.state == state && e.key == key && e.seg == seg && !s.role.reclaim.contains i && gen.all (· == e.gen))

/-- The committed generation of a session. -/
def State.committed (s : State) (key : W64) : Option Nat := (s.moorFind key 0 2 none).map (fun i => (s.moorAt i).gen)

/-- DPA of a slot (R139). -/
def State.slotAddr (s : State) (k : Nat) : Nat := s.role.setup.cpoolBase + k * s.role.setup.slot
def State.slotOf (s : State) (e : MoorEnt) : Nat := (e.location % 2 ^ 42 - s.role.setup.cpoolBase) / max s.role.setup.slot 1

/-- MOOR_PRESSURE, armed again once both figures have fallen below 85 % (R146). -/
def State.pressure (s : State) : State :=
  let v := s.moorValid
  let u := s.role.slots.length
  let n := s.role.setup.cpoolSlots
  if !s.role.pressure && (decide (9 * 4194304 < 10 * v) || decide (9 * n < 10 * u)) then
    (s.setRole { s.role with pressure := true }).raise 0x0907 srcPkg [(3, v), (3, u)]
  else if s.role.pressure && decide (100 * v < 85 * 4194304) && decide (100 * u < 85 * n) then
    s.setRole { s.role with pressure := false }
  else s

/-- Make an entry EMPTY and return its slot. -/
def State.moorFree (s : State) (i : Nat) : State :=
  let e := s.moorAt i
  let s1 := s.setMoor i {}
  s1.setRole { s1.role with slots := s1.role.slots.del (s.slotOf e), reclaim := s1.role.reclaim.del i }

def State.moorFreeAll (s : State) (is : List Nat) : State := (is.foldl State.moorFree s).pressure

/-- Numbers of the entries that meet a condition. -/
def State.moorWhere (s : State) (p : MoorEnt → Bool) : List Nat :=
  (s.role.moor.filter (fun (e : Nat × MoorEnt) => p e.2 && !s.role.reclaim.contains e.1)).map (·.1)

/-- Insert a FILLING entry in the lowest EMPTY way, with a free slot of the pool and its bytes; none where it is refused. Which
free slot is a free value (R140, R141; log entry 4). -/
def State.moorInsert (s : State) (key : W64) (seg fmt gen : Nat) (data : List Byte) : Option State :=
  let n := s.role.setup.cpoolSlots - s.role.slots.length
  match (moorWays key seg).find? (fun i => (s.moorAt i).state == 0) with
  | none => none
  | some i =>
    if n = 0 then none
    else
      let k := kthFree s.role.slots (s.freeVal.toNat % n)
      let a := s.slotAddr k
      let e : MoorEnt := { key := key, seg := seg, state := 1, format := fmt, length := data.length, location := a + s.device * 2 ^ 42,
                           stamp := 0, gen := gen }
      let s1 := s.drawn.setMoor i e
      some ((s1.setRole { s1.role with slots := s1.role.slots.add k }).store a data).pressure

/-! ## Order of operations -/

/-- The result of an operation goes to the device that posted it. -/
def State.moorResult (s : State) (dst op : Nat) (key : W64) (status : Nat) : State := s.tell dst (.moor dst 6 op key 0 status [])

/-- An operation loses: MOOR_RACE_LOST, NOT_MOORED, and a PUT's FILLING entries are made EMPTY (R143). -/
def State.loseOp (s : State) (o : SessOp) : State :=
  let s1 := s.setRole { s.role with sess := s.role.sess.filter (fun x => !(x.src == o.src && x.op == o.op)) }
  let s2 := if o.kind = 0 then s1.moorFreeAll (s1.moorWhere (fun e => e.state == 1 && e.key == o.key && e.gen == o.gen)) else s1
  (s2.raise 0x0908 srcPkg [(4, o.op)]).moorResult o.src o.op o.key 0x14

/-- The operations in flight on a session that a later one defeats: all, or for a GET the PUTs (R143). -/
def State.defeat (s : State) (key : W64) (get : Bool) : State :=
  (s.role.sess.filter (fun o => o.key == key && !(get && o.kind == 1))).foldl State.loseOp s

/-- Take out GETs whose requesters have received every segment (R143). -/
def State.dropEnded (s : State) (ended : List (Fin 1024 × BitVec 32)) : State :=
  s.setRole { s.role with sess := sessLeft s.role.sess ended }

/-- A request to the mooring table is refused outside the CACHE role and while the role changes (R126). -/
def State.cacheRole (s : State) : Bool := s.roleCode == 3 && !s.changing

/-! ## PUT -/

/-- MOOR_PUT: a pending PUT of an ACTIVE berth (R133, R141). -/
def execMoorPut (seq : BitVec 32) (s : State) : Out :=
  .next (s.startDesc seq (fun d => descType d.bytes == 7) fun t d => t.pend d.seq (d.f 0x10 2) 3 (d.f 0x12 2 % 1024))

/-- MOOR_ANNOUNCE: a PUT reaches the session home, which orders it and gives it the next GEN (R141, R143). -/
def execMoorAnnounce (src : Fin 1024) (op : BitVec 32) (key : BitVec 64) (ended : List (Fin 1024 × BitVec 32)) (s : State) : Out :=
  if !s.cacheRole then .next (s.moorResult src op.toNat key 0x42)
  else
    let s1 := (s.dropEnded ended).defeat key false
    let g := match s1.committed key with | some g => (g + 1) % 65536 | none => 0
    .next (s1.setRole { s1.role with sess := s1.role.sess ++ [⟨0, key, src, op.toNat, g⟩] })

/-- The PUT of a device that is in flight here. -/
def State.putOf (s : State) (src op : Nat) : Option SessOp := s.role.sess.find? (fun o => o.kind == 0 && o.src == src && o.op == op)

/-- A refused PUT: its FILLING entries are made EMPTY, MOOR_REFUSED, NOT_MOORED (R141, R145). -/
def State.refusePut (s : State) (o : SessOp) (seg : Nat) (count : Bool) : State :=
  let h := moorHash o.key seg
  let s1 := s.setRole { s.role with sess := s.role.sess.filter (fun x => !(x.src == o.src && x.op == o.op)) }
  let s2 := s1.moorFreeAll (s1.moorWhere (fun e => e.state == 1 && e.key == o.key && e.gen == o.gen))
  let s3 := if count then s2.bump F.MOR_REFUSED_COUNT 0 1 else s2
  (s3.raise 0x0906 (dieIO h.1) [(1, h.1), (3, h.2.1)]).moorResult o.src o.op o.key 0x14

/-- Commit a PUT: FILLING entries of its GEN are MOORED, those of the previous GEN EMPTY, STAMP set in segment 0 (R141). -/
def State.commitPut (s : State) (o : SessOp) : State :=
  let old := s.moorWhere (fun e => e.state == 2 && e.key == o.key && e.gen != o.gen)
  let new := s.moorWhere (fun e => e.state == 1 && e.key == o.key && e.gen == o.gen)
  let s1 := new.foldl (fun (t : State) i =>
    let e := t.moorAt i
    t.setMoor i { e with state := 2, stamp := if e.seg = 0 then s.bt / 2 ^ 32 else e.stamp }) s
  let s2 := s1.moorFreeAll old
  (s2.setRole { s2.role with sess := s2.role.sess.filter (fun x => !(x.src == o.src && x.op == o.op)) }).moorResult o.src o.op o.key 0

/-- Whether the table has recorded segment 0 of a PUT and every other segment that its header counts (R35, R141). -/
def State.putWhole (s : State) (o : SessOp) : Bool :=
  match s.moorFind o.key 0 1 (some o.gen) with
  | none => false
  | some i => (List.range (s.num ((s.moorAt i).location % 2 ^ 42 + 0x16) 2 - 1)).all (fun x =>
      (s.moorFind o.key (x + 1) 1 (some o.gen)).isSome)

/-- A PUT commits once every segment is recorded (R35, R141). -/
def State.settlePut (s : State) (o : SessOp) : State := if s.putWhole o then s.commitPut o else s

/-- A segment of a PUT reaches its home, which inserts a FILLING entry and writes its slot, or refuses and ends the PUT (R141). -/
def State.takeSegment (s : State) (o : SessOp) (seg fmt : Nat) (data : List Byte) : State :=
  if s.role.setup.slot < data.length then s.refusePut o seg false
  else match s.moorInsert o.key seg fmt o.gen data with
    | none => s.refusePut o seg true
    | some s1 => s1.settlePut o

/-- MOOR_SEGMENT_RECEIVE: a segment reaches its home (R141). -/
def execMoorSegmentReceive (src : Fin 1024) (op : BitVec 32) (seg : BitVec 16) (fmt : BitVec 4) (data : List (BitVec 8)) (s : State) : Out :=
  match s.putOf src op.toNat with
  | none => .next s
  | some o => .next (s.takeSegment o seg.toNat fmt.toNat data)

/-- MOOR_SEGMENT0_COMMIT: segment 0 reaches the session home, which inserts it and, with every segment recorded, commits and acknowledges
(R35, R141). -/
def execMoorSegment0Commit (src : Fin 1024) (op : BitVec 32) (data : List (BitVec 8)) (s : State) : Out :=
  match s.putOf src op.toNat with
  | none => .next s
  | some o => .next (s.takeSegment o 0 (at_ data 6 1 % 16) data)

/-- MOOR_COMMIT_ACK: the result of a PUT frees or restores its berth; that of a DROP or TOUCH completes it (R134, R143). -/
def execMoorCommitAck (seq : BitVec 32) (status : BitVec 8) (s : State) : Out :=
  match s.bop seq.toNat with
  | some o =>
    if o.kind ≠ 2 then .next s
    else if status = 0 then
      .next ((s.setBerth o.berth { s.berth o.berth with committed := true }).settleBerth o.berth)
    else .next (s.berthOpFail o.berth o.seq status.toNat)
  | none =>
    match s.desc seq.toNat with
    | none => .next s
    | some d =>
      if (descType d.bytes = 9 ∨ descType d.bytes = 0x0A) ∧ d.phase = 1 then .next (s.finishDesc d.seq status.toNat 0 0) else .next s

/-! ## GET -/

/-- MOOR_GET: the berth opens and the session is requested (R134, R142). -/
def execMoorGet (seq : BitVec 32) (s : State) : Out :=
  .next (s.startDesc seq (fun d => descType d.bytes == 8) fun t d =>
    let b := d.f 0x10 2
    let dst := d.f 0x12 2 % 1024
    let key := BitVec.ofNat 64 (d.f 0x18 8)
    if b < 6144 ∧ (t.berth b).state = 0 ∧ !t.partyReach dst then t.finishDesc d.seq 0x12 0 0
    else t.openBerth d.seq b (d.f 0x14 4) fun t1 =>
      let t2 := t1.setBerth b { t1.berth b with state := 1, mode := 2, openSeq := d.seq, kvFmt := t1.role.setup.kvFmt }
      (t2.setRole { t2.role with bops := t2.role.bops ++ [⟨d.seq, 3, b, dst, key, [], [], []⟩] }).mail dst 2 b d.seq
        [[.moor dst 3 d.seq key 0 0 []]])

/-- Why the segments of a session cannot be sent: poisoned data, or a slot on a retired stack (R206, R215). -/
def State.sessStop (s : State) (is : List Nat) : Nat :=
  if is.any (fun i => let e := s.moorAt i; !s.liveOk (e.location % 2 ^ 42) (max e.length 1)) then 0x11
  else if is.any (fun i => let e := s.moorAt i; s.anyBad (e.location % 2 ^ 42) e.length) then 0x60
  else 0

/-- MOOR_GET_REQUEST: the session home looks up segment 0, takes the GET into home order, and sends segment 0 and every segment of
the committed GEN (R142, R143). A GET that finds no session conflicts with nothing. -/
def execMoorGetRequest (src : Fin 1024) (op : BitVec 32) (key : BitVec 64) (s : State) : Out :=
  if !s.cacheRole then .next (s.moorResult src op.toNat key 0x42)
  else match s.moorFind key 0 2 none with
    | none => .next (s.moorResult src op.toNat key 0x14)
    | some i0 =>
      let s1 := s.defeat key true
      let e0 := s1.moorAt i0
      let n := s1.num (e0.location % 2 ^ 42 + 0x16) 2
      let is := i0 :: ((List.range (n - 1)).filterMap (fun x => s1.moorFind key (x + 1) 2 (some e0.gen)))
      let v := s1.sessStop is
      if v ≠ 0 then .next (s1.moorResult src op.toNat key v)
      else
        let s2 := s1.setRole { s1.role with sess := s1.role.sess ++ [⟨1, key, src, op.toNat, e0.gen⟩] }
        .next (s2.mail src 4 0 op.toNat [is.map (fun i =>
          let e := s2.moorAt i
          Msg.moorSeg src op.toNat e.seg (s2.bytes (e.location % 2 ^ 42) e.length))])

/-- A GET ends without its session: the berth is FREE and the descriptor completes with the status (R134, R142). -/
def State.getFail (s : State) (o : BerthOp) (status : Nat) : State := ((s.freeBerth o.berth).getEnded o).finishDesc o.seq status 0 0

/-- Place one segment of a session by its header (R75, R138, R142). -/
def State.placeSeg (s : State) (o : BerthOp) (h : List Byte) (seg : Nat) (data : List Byte) : State :=
  let sp := segSpan (at_ h 8 4) (at_ h 0x10 4) (at_ h 0xE 2) (at_ h 0x14 2) seg
  State.putRecords (s.berth o.berth).pagelist sp.1 sp.2.1 sp.2.2 (if seg = 0 then data.drop 64 else data) s

/-- The GET commits once every segment has arrived (R134, R142). -/
def State.getSettle (s : State) (o : BerthOp) : State :=
  if o.header ≠ [] ∧ at_ o.header 0x16 2 ≤ o.arrived.length then
    ((((s.commitBerth o.berth o.header).dropBop o.seq).boundary o.berth).getEnded o).finishDesc o.seq 0 0 (at_ o.header 8 4)
  else s.setRole { s.role with bops := s.role.bops.map (fun x => if x.seq = o.seq then o else x) }

/-- MOOR_GET_SEGMENT_ARRIVE: a segment, or the failure of the GET, reaches the requester. Segments that come before the header wait
for it (R142). -/
def execMoorGetSegmentArrive (seq : BitVec 32) (status : BitVec 8) (seg : BitVec 16) (data : List (BitVec 8)) (s : State) : Out :=
  match s.bop seq.toNat with
  | none => .next s
  | some o =>
    if o.kind ≠ 3 then .next s
    else if status ≠ 0 then .next (s.getFail o status.toNat)
    else if seg = 0 then
      let v := s.headerCheck o.berth data
      if v ≠ 0 then .next (s.getFail o v)
      else
        let h := data.take 64
        let s1 := (o.held.foldl (fun (t : State) (x : Nat × List Byte) => t.placeSeg o h x.1 x.2) (s.placeSeg o h 0 data))
        .next (s1.getSettle { o with header := h, held := [], arrived := o.arrived.add 0 })
    else
      let o1 : BerthOp := { o with arrived := o.arrived.add seg.toNat }
      if o.header = [] then .next (s.getSettle { o1 with held := o.held ++ [(seg.toNat, data)] })
      else .next ((s.placeSeg o o.header seg.toNat data).getSettle o1)

/-! ## DROP and TOUCH -/

/-- Drop a session: operations in flight lose, segment 0 is EMPTY at once, the other segments are to be reclaimed; whether one was
committed (R143). -/
def State.dropSession (s : State) (key : W64) : State × Bool :=
  let s1 := s.defeat key false
  match s1.moorFind key 0 2 none with
  | none => (s1, false)
  | some i =>
    let g := (s1.moorAt i).gen
    let s2 := s1.moorFreeAll [i]
    let rest := s2.moorWhere (fun e => e.state == 2 && e.key == key && e.gen == g)
    (s2.setRole { s2.role with reclaim := rest.foldl NSet.add s2.role.reclaim }, true)

/-- A DROP or TOUCH goes to the session home, or completes with TARGET_UNREACHABLE (R137, R144). -/
def State.moorAsk (s : State) (d : Desc) (kind : Nat) : State :=
  let dst := d.f 0x12 2 % 1024
  if !s.partyReach dst then s.finishDesc d.seq 0x12 0 0
  else s.mail dst 3 0 d.seq [[.moor dst kind d.seq (BitVec.ofNat 64 (d.f 0x18 8)) 0 0 []]]

/-- MOOR_DROP_KEY: a DROP of one session goes to its home (R144). -/
def execMoorDropKey (seq : BitVec 32) (s : State) : Out :=
  .next (s.startDesc seq (fun d => descType d.bytes == 9 && d.f 0x10 1 == 0) fun t d => t.moorAsk d 4)

/-- MOOR_TOUCH: a TOUCH goes to the session home (R143). -/
def execMoorTouch (seq : BitVec 32) (s : State) : Out :=
  .next (s.startDesc seq (fun d => descType d.bytes == 0x0A) fun t d => t.moorAsk d 5)

/-- Evict the sessions of a list of entries in scan order, at most a number of them. -/
def State.evict : List Nat → Nat → State → State
  | [], _, s => s
  | _, 0, s => s
  | i :: r, n + 1, s => State.evict r n (s.dropSession (s.moorAt i).key).1

/-- MOOR_DROP_AGE: on the CACHE device itself, the sessions whose STAMP is old enough are evicted in scan order, and their number
reported; elsewhere ROLE_MISMATCH (R144). -/
def execMoorDropAge (seq : BitVec 32) (ended : List (Fin 1024 × BitVec 32)) (s : State) : Out :=
  .next (s.startDesc seq (fun d => descType d.bytes == 9 && d.f 0x10 1 == 1) fun t0 d =>
    if !t0.cacheRole ∨ d.f 0x12 2 % 1024 ≠ t0.device then t0.finishDesc d.seq 0x42 0 0
    else
      let t := t0.dropEnded ended
      let now := t.bt / 2 ^ 32
      let old := t.moorWhere (fun e => e.state == 2 && e.seg == 0 && decide (e.stamp + d.f 0x20 4 ≤ now))
      let n := min old.length (d.f 0x14 4)
      (State.evict old n t).finishDesc d.seq 0 0 n)

/-- MOOR_DROP_ARRIVE: a DROP reaches the session home: it beats a PUT or GET in flight, and the session is gone at once
(R143). -/
def execMoorDropArrive (src : Fin 1024) (op : BitVec 32) (key : BitVec 64) (ended : List (Fin 1024 × BitVec 32)) (s : State) : Out :=
  if !s.cacheRole then .next (s.moorResult src op.toNat key 0x42)
  else
    let t := (s.dropEnded ended).dropSession key
    .next (t.1.moorResult src op.toNat key (if t.2 then 0 else 0x14))

/-- MOOR_TOUCH_ARRIVE: a TOUCH sets STAMP to the current beacon time (R143). -/
def execMoorTouchArrive (src : Fin 1024) (op : BitVec 32) (key : BitVec 64) (s : State) : Out :=
  if !s.cacheRole then .next (s.moorResult src op.toNat key 0x42)
  else match s.moorFind key 0 2 none with
    | none => .next (s.moorResult src op.toNat key 0x14)
    | some i => .next ((s.setMoor i { s.moorAt i with stamp := s.bt / 2 ^ 32 }).moorResult src op.toNat key 0)

/-- MOOR_SEGMENT_RECLAIM: the other segments of a dropped session become EMPTY and their slots return (R143). -/
def execMoorSegmentReclaim (key : BitVec 64) (s : State) : Out :=
  .next (s.moorFreeAll (s.role.reclaim.filter (fun i => (s.moorAt i).key == key)))

/-- Index of the age class of a session (R145). -/
def ageClass (age : Nat) : Nat := if age < 2 then 0 else min 15 (Nat.log2 age)

/-- MOR_AGE_HIST_REFRESH: the histogram counts the committed sessions by age in units of 2^32 ns; a read shows what the last refresh
counted (R145). -/
def execMorAgeHistRefresh (s : State) : Out :=
  let ages := (s.moorWhere (fun e => e.state == 2 && e.seg == 0)).map (fun i => ageClass ((s.bt / 2 ^ 32 + 2 ^ 32 - (s.moorAt i).stamp) % 2 ^ 32))
  .next ((List.range 16).foldl (fun (t : State) i => t.wr F.MOR_AGE_HIST_SESSIONS i (if s.roleCode = 3 then ages.count i else 0)) s)

end Sys2Proof.Machine
end

