-- ==== Sys2Proof/Machine/RackHome.lean ====
section
/-!
DEFINITION. Rack memory, receiving side: applying a request once (R309, R310), forwards to a home (R311), line queues and hot
lines (R312, R313), parcels at the target (R318), relays (R319, R320), answers at the source (R308) and re-sends (R307).
-/
namespace Sys2Proof.Machine

/-! ## Answers -/

/-- Where a response leaves toward: the source in the rack or at the own slot, else the relay at the source's slot (R320). -/
def State.rspHop (s : State) (src : Nat) : Nat :=
  if s.sameRack src ∨ src % 32 = s.rd F.PRT_IDENT_SLOT then src else 32 * s.rd F.PRT_IDENT_RACK + src % 32

/-- Send a response through the landing die (R305, R320). -/
def State.respond (s : State) (q : Nat) (p : Pkt) (r : Rsp) : State :=
  let r1 := { r with source := p.source, e := p.e, seq := p.seq, bootId := p.bootId, responder := s.device, tag := p.tag,
                     len := r.data.length }
  s.issuePkt q ⟨s.rspHop p.source, if r.op = 0x84 then 2 else 1, 0, none, 12 + q, r1.bytes⟩

/-- The answer to a request from what its home applied: NAK for a failure, else the kind R304 gives. -/
def State.answer (s : State) (q : Nat) (p : Pkt) (a : Applied) : State :=
  let data := if p.op = 1 then 0x82 else 0x84
  if p.op = 6 then
    let s1 := a.reads.foldl (fun (t : State) (r : Nat × List Byte) => t.respond q p { op := 0x84, offset := r.1, data := r.2 }) s
    if p.atomic then s1.respond q p { op := 0x83, status := a.status, value := a.value, failRec := a.failRec }
    else s1.respond q p { op := 0x81, status := a.status, failRec := a.failRec }
  else if a.status ≠ 0 then s.respond q p { op := 0x8F, status := a.status }
  else if p.op = 1 ∨ p.op = 5 then
    a.reads.foldl (fun (t : State) (r : Nat × List Byte) => t.respond q p { op := data, offset := r.1, data := r.2 }) s
  else if p.op = 3 then s.respond q p { op := 0x83, value := a.value }
  else s.respond q p { op := 0x81 }

/-! ## Application at a home -/

/-- Window permission an operation needs (R299). -/
def permOf (op : Nat) : Nat := if op = 1 ∨ op = 5 then 0 else if op = 3 then 2 else 1

/-- The check of R310 step 6 on one access: window, poison, lower-die state; WINDOW_FAULT is raised apart. -/
def State.accessCheck (s : State) (w key perm addr n : Nat) : Nat :=
  let v := s.winCheck w key perm addr n
  if v = 0x21 then v
  else if s.areaReset addr n then 0x11
  else if v ≠ 0 then v
  else if perm ≠ 1 ∧ s.anyBad addr n then 0x60
  else 0

/-- One atomic at its home: the old word is returned (R296). -/
def State.applyAtomic (s : State) (code addr : Nat) (data : List Byte) : State × Nat :=
  let m := s.num addr 8
  (s.store addr (leBytes 8 (atomicOp code m (at_ data 0 8) (at_ data 8 8))), m)

/-- The aligned 4 KiB blocks a READ record returns, zero outside the record's window (R317), and zero for a poisoned byte, which only
bytes that were not asked for can be: poison does not leave (R215; log entry 90). -/
def State.readBlocks (s : State) (r : Rec) : List (Nat × List Byte) :=
  let b0 := r.addr / 4096
  let nb := (r.addr % 4096 + r.len + 4095) / 4096
  let lo := s.winBase r.window
  let hi := lo + s.winSize r.window
  (List.range nb).map (fun k =>
    (4096 * k, (List.range 4096).map (fun i =>
      let a := (b0 + k) * 4096 + i
      if lo ≤ a ∧ a < hi ∧ !s.bad a then s.byteAt a else 0)))

/-- Whether a record acts on memory: its KIND is one R316 lists, a record of a reserved KIND being passed over (R8, R316), and it
carries no message of chapter 4 (R137; log entry 96). -/
def Rec.known (r : Rec) : Bool := decide (1 ≤ r.kind) && decide (r.kind ≤ 5) && !(r.kind == 5 && r.atom == mailAtom)

/-- The area a record reads or writes, and the permission it needs (R299, R316). -/
def Rec.area (r : Rec) : Nat × Nat := (r.addr, if r.kind = 3 then 8 else if r.kind = 4 then r.len else r.data.length)
def Rec.perm (r : Rec) : Nat := if r.kind = 3 then 2 else if r.kind = 4 then 0 else 1

/-- The check of step 6 on a record (R310, R318). -/
def State.recCheck (s : State) (r : Rec) : Nat := if r.known then s.accessCheck r.window r.key r.perm r.addr r.area.2 else 0

/-- What the records of a packet that changes nothing any more answer: the first that fails its check, and what they read (R310 step 4,
R318). -/
def State.checkRecs (s : State) : List Rec → Nat → Applied → Applied
  | [], _, a => a
  | r :: rest, i, a =>
    if s.recCheck r ≠ 0 then { a with status := s.recCheck r, failRec := i }
    else s.checkRecs rest (i + 1) (if r.kind = 4 then { a with reads := a.reads ++ s.readBlocks r } else a)

/-- Apply the records of a packet in order, each under its own check; the first that fails stops them (R318). -/
def State.applyRecs : List Rec → Nat → Applied → State → State × Applied
  | [], _, a, s => (s, a)
  | r :: rest, i, a, s =>
    if s.recCheck r ≠ 0 then (s, { a with status := s.recCheck r, failRec := i })
    else if !r.known then State.applyRecs rest (i + 1) a s
    else if r.kind = 3 then
      let t := s.applyAtomic r.atom r.addr r.data
      State.applyRecs rest (i + 1) { a with value := t.2 } t.1
    else if r.kind = 4 then State.applyRecs rest (i + 1) { a with reads := a.reads ++ s.readBlocks r } s
    else State.applyRecs rest (i + 1) a (s.store r.addr r.data)

/-- What a home does with a forwarded request (R310 step 7, R312, R318). -/
def State.applyPkt (s : State) (p : Pkt) : State × Applied :=
  match p.op with
  | 1 | 5 => (s, { reads := [(0, s.bytes p.addr p.len)] })
  | 3 => let t := s.applyAtomic p.atom p.addr p.data; (t.1, { value := t.2 })
  | 6 => State.applyRecs (pktRecs p) 0 {} s
  | _ => (s.store p.addr p.data, {})

/-! ## Source table -/

def State.srcEnt (s : State) (k : Nat) : SrcEnt := tget (fun _ => {}) s.rack.src k

def State.setSrc (s : State) (k : Nat) (e : SrcEnt) : State :=
  { s with rack := { s.rack with src := tput (fun _ => {}) s.rack.src k e } }

def setBit64 (v : BitVec 64) (i : Nat) (b : Bool) : BitVec 64 :=
  if b then v ||| (1#64 <<< i) else v &&& ~~~(1#64 <<< i)

/-- Whether a request of device `d` with an epoch is superseded (R451). -/
def State.superseded (s : State) (d epoch : Nat) : Bool :=
  epoch != 0 && serialEarlier (BitVec.ofNat 16 epoch) (BitVec.ofNat 16 (tget (fun _ => 0) s.rack.fence d)) &&
  tget (fun _ => 0) s.rack.fence d != 0

/-- Advance LCA over contiguous DONE bits (R310 step 8). -/
def advance : Nat → SrcEnt → SrcEnt
  | 0, e => e
  | n + 1, e =>
    if e.done.getLsbD 0 then
      advance n { e with lca := (e.lca + 1) % 2 ^ 32, done := e.done >>> 1, inflight := e.inflight >>> 1 }
    else e

def SrcEnt.advance (e : SrcEnt) : SrcEnt := Sys2Proof.Machine.advance 64 e

/-- Record an atomic's result in the reply slot of the lowest SEQ (R309, R310 step 8). -/
def SrcEnt.remember (e : SrcEnt) (r : Reply) : SrcEnt :=
  if e.reply.length < 4 then { e with reply := e.reply ++ [r] }
  else
    let old := e.reply.foldl (fun (m : Reply) x => if serialEarlier (BitVec.ofNat 32 x.seq) (BitVec.ofNat 32 m.seq) then x else m)
      (e.reply.headD r)
    { e with reply := (e.reply.erase old) ++ [r] }

/-- WINDOW_FAULT, at most once per source per second (R299, R327). -/
def State.windowFault (s : State) (q src w st : Nat) : State :=
  let last := tget (fun _ => 0) s.rack.winFault src
  if st ≠ 0x20 ∧ st ≠ 0x21 then s
  else if last ≠ 0 ∧ s.now + 1 < last + nsSec then s
  else { s with rack := { s.rack with winFault := tput (fun _ => 0) s.rack.winFault src (s.now + 1) } }.raise 0x0522 (dieIO q)
    [(2, src), (1, w), (1, st)]

/-- Whether a packet carries part of a message of chapter 4 (log entry 96). -/
def Pkt.isMail (p : Pkt) : Bool := p.op == 4 && p.atom == mailAtom

/-- The check of R310 step 6 for a request packet; a parcel's records are checked one by one as they are applied (R318). -/
def State.reqCheck (s : State) (p : Pkt) : Nat :=
  if 7 ≤ p.op then s.collCheck p
  else if p.op = 6 ∨ p.isMail then 0
  else s.accessCheck p.window p.key (permOf p.op) p.addr (if p.op = 3 then 8 else p.len)

/-- Answer a duplicate (R310 step 4). -/
def State.duplicate (s : State) (q : Nat) (p : Pkt) (e : SrcEnt) : State :=
  let s1 := s.bump F.PRT_RM_CNT_A_DUPLICATE q 1
  if p.atomic then
    match e.reply.find? (fun r => r.seq == p.seq) with
    | some r => if p.op = 3 ∧ r.status ≠ 0 then s1.respond q p { op := 0x8F, status := r.status }
                else if r.status ≠ 0 then s1.respond q p { op := 0x83, status := r.status, failRec := r.value }
                else s1.respond q p { op := 0x83, value := r.value }
    | none => s1
  else if p.op = 1 ∨ p.op = 5 then
    let st := s1.reqCheck p
    if st ≠ 0 then (s1.windowFault q p.source p.window st).respond q p { op := 0x8F, status := st }
    else s1.answer q p (s1.applyPkt p).2
  else if p.op = 6 then
    s1.answer q p (s1.checkRecs (pktRecs p) 0 {})
  else
    let st := s1.reqCheck p
    if st ≠ 0 then (s1.windowFault q p.source p.window st).respond q p { op := 0x8F, status := st } else s1.respond q p { op := 0x81 }

/-- The areas a request touches at their homes. -/
def Pkt.areas (p : Pkt) : List (Nat × Nat) :=
  if p.op = 6 then ((pktRecs p).filter Rec.known).map Rec.area else [(p.addr, if p.op = 3 then 8 else p.len)]

/-- The places of the homes a request goes to. -/
def State.fwdPlaces (s : State) (p : Pkt) : List Nat := (p.areas.map (fun a => (s.locate a.1).place)).eraseDups

/-- A forward crosses the fabric from its landing die to each home it is for (R311). -/
def State.postFwd (s : State) (q : Nat) (p : Pkt) : State :=
  (s.fwdPlaces p).foldl (fun (t : State) h =>
    t.post { kind := 9, src := 12 + q, dst := h, vc := 0, line := (p.areas.headD (0, 0)).1 / 256, body := p.bytes }) s

/-- Forward a request to its home under a new tag (R310 step 7, R311). -/
def State.forward (s0 : State) (q : Nat) (p : Pkt) : State :=
  let s := s0.postFwd q p
  let t := tget (fun _ => 0) s.rack.nextTag q
  { s with rack := { s.rack with fwds := tput (fun _ => []) s.rack.fwds q (tget (fun _ => []) s.rack.fwds q ++ [⟨t, p, 0, 1, {}⟩]),
                                 nextTag := tput (fun _ => 0) s.rack.nextTag q (t + 1) } }

/-- A contribution to a collective that runs here is taken, or found not to match, and answered (R310 step 8, R325). -/
def State.contribute (s : State) (q : Nat) (p : Pkt) : State :=
  let k := p.source * 64 + p.e
  let e := s.srcEnt k
  let d := (p.seq + 2 ^ 33 - e.lca - 1) % 2 ^ 32
  let e1 : SrcEnt := { e with inflight := setBit64 e.inflight d false, done := setBit64 e.done d true }
  let s1 := if e.bootId = p.bootId ∧ d < 64 then s.setSrc k e1.advance else s
  if s.collCheck p ≠ 0 then (s1.collBad p.tag).respond q p { op := 0x8F, status := 0x40 }
  else (s1.collTake p.tag p.op (at_ p.data 14 2) p.addr (p.data.drop 16)).respond q p { op := 0x81 }

/-- Steps 3 to 7 of R310 on an entry that matches the source's life. -/
def State.allow (s : State) (q : Nat) (p : Pkt) (k : Nat) : State :=
  let e := s.srcEnt k
  let d := (p.seq + 2 ^ 33 - e.lca - 1) % 2 ^ 32
  if 2 ^ 31 ≤ d then s.duplicate q p e
  else if 64 ≤ d then s
  else if e.done.getLsbD d then s.duplicate q p e
  else if e.inflight.getLsbD d then s.bump F.PRT_RM_CNT_A_DUPLICATE q 1
  else if p.pred ≠ 0 ∧ decide (p.pred ≤ d) ∧ !e.done.getLsbD (d - p.pred) then s.bump F.PRT_RM_CNT_B_ORDER_HOLD q 1
  else
    let st := if 7 ≤ p.op then 0 else s.reqCheck p
    if st ≠ 0 then
      let e1 := if p.atomic then e.remember ⟨p.seq, st, 0⟩ else e
      ((s.windowFault q p.source p.window st).setSrc k { e1 with done := setBit64 e1.done d true }.advance).respond q p
        { op := 0x8F, status := st }
    else if 7 ≤ p.op then
      let s1 := s.setSrc k { e with inflight := setBit64 e.inflight d true }
      if (s.coll p.tag).isSome then s1.contribute q p else { s1 with rack := { s1.rack with held := s1.rack.held ++ [(p.tag, q, p)] } }
    else if p.isMail then (s.setSrc k { e with done := setBit64 e.done d true }.advance).respond q p { op := 0x81 }
    else (s.setSrc k { e with inflight := setBit64 e.inflight d true }).forward q p

/-- Step 1 of R310: a FENCED device, and one that finds the epoch superseded, answer NAK FENCED; any other request goes on
(R451, R458). -/
def State.landFence (s : State) (q : Nat) (p : Pkt) (pass : State) : State :=
  let k := p.source * 64 + p.e
  let e := s.srcEnt k
  if s.rd F.LVS_STATUS_STATE = 7 then s.respond q p { op := 0x8F, status := 0x13 }
  else if s.superseded p.source p.epoch ∨ (e.fenced ∧ e.epoch = p.epoch ∧ p.epoch ≠ 0) then
    let s1 := s.bump F.PRT_RM_CNT_B_FENCED q 1
    let s2 := if e.fenced ∧ e.epoch = p.epoch then s1
      else (s1.setSrc k { e with fenced := true, epoch := p.epoch }).raise 0x0523 (dieIO q) [(2, p.source), (2, p.epoch)]
    s2.respond q p { op := 0x8F, status := 0x13 }
  else pass

/-- R310 from step 1: the epoch fence, the life of the source, then the rest. -/
def State.landRequest (s : State) (q : Nat) (p : Pkt) : State :=
  let k := p.source * 64 + p.e
  let e := s.srcEnt k
  s.landFence q p <| if e.valid ∧ e.bootId = p.bootId then s.allow q p k
  else if p.seq < 64 then
    ((s.setSrc k { bootId := p.bootId, valid := true }).raise 0x0524 (dieIO q) [(2, p.source), (2, p.bootId)]).allow q p k
  else s

/-- A request of a given kind at the head of a commit FIFO, for this device: it leaves the FIFO and goes through R310. -/
def State.takeRequest (s : State) (op : Nat) (p : Fin 24) (vc : Fin 3) : State :=
  match s.headPkt p vc with
  | none => s
  | some (_, b) =>
    let k := parsePkt b
    if k.op = op ∧ k.target = s.device then (s.popPkt p vc).landRequest (p / 6) k else s

/-- LOAD: a LOAD request is checked and forwarded to its home (R310). -/
def execLoad (p : Fin 24) (vc : Fin 3) (s : State) : Out := .next (s.takeRequest 1 p vc)

/-- STORE: a STORE request is checked, de-duplicated and forwarded to its home (R310). -/
def execStore (p : Fin 24) (vc : Fin 3) (s : State) : Out := .next (s.takeRequest 2 p vc)

/-- ATOMIC: an ATOMIC request is checked, de-duplicated and forwarded to its home (R296, R310). -/
def execAtomic (p : Fin 24) (vc : Fin 3) (s : State) : Out := .next (s.takeRequest 3 p vc)

/-- BULK_WRITE: a bulk write packet is checked, de-duplicated and forwarded (R310). -/
def execBulkWrite (p : Fin 24) (vc : Fin 3) (s : State) : Out := .next (s.takeRequest 4 p vc)

/-- BULK_READ: a bulk read request is checked and forwarded (R310). -/
def execBulkRead (p : Fin 24) (vc : Fin 3) (s : State) : Out := .next (s.takeRequest 5 p vc)

/-- PARCEL: a parcel packet is de-duplicated and forwarded; its records are applied in order, stopping at a failure (R318). -/
def execParcel (p : Fin 24) (vc : Fin 3) (s : State) : Out := .next (s.takeRequest 6 p vc)

/-! ## Homes -/

/-- Number of the home of an address: the part that holds it (R209). -/
def Loc.home : Loc → Nat
  | .hbm st _ => st
  | .sram n _ => n
  | .scratch lc _ => 12 + lc
  | .ioSram q _ | .berth q _ | .moor q _ => 204 + q
  | _ => 208

/-- The home's number as an event carries it: the stack of a memory home, 0xFF of another (log entry 16). -/
def homeByte (h : Nat) : Nat := if h < 12 then h else 0xFF

def State.fwdList (s : State) (q : Nat) : List Fwd := tget (fun _ => []) s.rack.fwds q

def State.setFwd (s : State) (q : Nat) (f : Fwd) : State :=
  { s with rack := { s.rack with fwds := tput (fun _ => []) s.rack.fwds q ((s.fwdList q).map (fun x => if x.tag = f.tag then f else x)) } }

/-- The forward a line's queue names. -/
def State.fwdAt (s : State) (o : Nat × Nat) : Option Fwd := (s.fwdList o.1).find? (fun f => f.tag == o.2)

/-- The lines a request touches. -/
def State.fwdLines (s : State) (p : Pkt) : List Nat := (p.areas.flatMap (fun a => s.linesOf a.1 a.2)).eraseDups

/-- The home of a request: that of its first byte. -/
def State.fwdHome (s : State) (p : Pkt) : Nat := (s.locate (p.areas.headD (0, 0)).1).home

/-- Keep a result for a repeated tag: the last 256 a home applied for each I/O die (R311). -/
def State.logApplied (s : State) (home q tag : Nat) (a : Applied) : State :=
  let l := tget (fun _ => []) s.rack.homeLog (home * 4 + q) ++ [(tag, a)]
  { s with rack := { s.rack with homeLog := tput (fun _ => []) s.rack.homeLog (home * 4 + q) (l.drop (l.length - 256)) } }

/-- The home applies one forward and confirms it over the fabric (R310 step 8, R311). -/
def State.applyFwd (s : State) (q : Nat) (f : Fwd) : State :=
  let t := s.applyPkt f.pkt
  let s1 := (t.1.setFwd q { f with phase := 2, result := t.2 }).logApplied (s.fwdHome f.pkt) q f.tag t.2
  (s.fwdPlaces f.pkt).foldl (fun (u : State) h =>
    u.post { kind := 10, src := h, dst := 12 + q, vc := 1, line := (f.pkt.areas.headD (0, 0)).1 / 256, body := leBytes 4 f.tag }) s1

/-- Sources with an operation in a line's queue, as landing die × 1,024 + device. -/
def State.lineSources (s : State) (l : LineQ) : List Nat :=
  (l.ops.filterMap (fun (o : Nat × Nat) => (s.fwdAt o).map (fun f => o.1 * 1024 + f.pkt.source))).eraseDups

/-- Hot lines a home tracks (R313). -/
def State.hotLines (s : State) (home : Nat) : Nat :=
  (s.rack.lines.filter (fun (e : Nat × LineQ) => e.2.hot && (s.locate (e.1 * 64)).home == home)).length

/-- An operation joins the queue of a line; at 256 the line becomes hot: HOT_LINE, and the landing dies pause the sources that
have an operation in the queue (R312, R313). -/
def State.joinLine (s : State) (q : Nat) (f : Fwd) (k : Nat) : State :=
  let l := s.line k
  let l1 := { l with ops := l.ops ++ [(q, f.tag)] }
  let s1 := s.setLine k l1
  let home := (s.locate (k * 64)).home
  if l.hot then
    { s1 with rack := { s1.rack with paused := s1.rack.paused.add (q * 1024 + f.pkt.source) } }
  else if 256 ≤ l1.ops.length ∧ s.hotLines home < 16 then
    let src := s1.lineSources l1
    let dies := (src.map (· / 1024)).eraseDups
    let s2 := (s1.setLine k { l1 with hot := true }).raise 0x0525 (dieIO q) [(1, homeByte home), (5, k)]
    let s3 := { s2 with rack := { s2.rack with paused := src.foldl NSet.add s2.rack.paused } }
    dies.foldl (fun (a : State) d => a.bump F.PRT_RM_CNT_C_HOT_PAUSE d 1) s3
  else s1

/-- An operation joins the queue of every line it touches, so that each line sees what arrived in the order of arrival (R302, R312). -/
def State.enqueueLine (s : State) (q : Nat) (f : Fwd) : State :=
  (s.fwdLines f.pkt).foldl (fun (t : State) k => t.joinLine q f k) (s.setFwd q { f with phase := 1 })

/-- HOME_FORWARD_RECEIVE: a forward that has a path reaches its home. A tag the home has applied is answered from its record; any other
operation joins the queues of its lines, or is applied where it touches none (R172, R302, R311, R312). -/
def execHomeForwardReceive (q : Fin 4) (tag : Nat) (s : State) : Out :=
  match s.fwdAt (q, tag) with
  | none => .next s
  | some f =>
    if f.phase ≠ 0 ∨ !(s.fwdPlaces f.pkt).all (fun h => s.pathOpen (12 + q) h) then .next s
    else
      match (tget (fun _ => []) s.rack.homeLog (s.fwdHome f.pkt * 4 + q)).find? (fun (e : Nat × Applied) => e.1 == tag) with
      | some e => .next (s.setFwd q { f with phase := 2, result := e.2 })
      | none => .next (if s.fwdLines f.pkt = [] then s.applyFwd q f else s.enqueueLine q f)

/-- Whether a queued operation may be applied: it stands first on every line it touches, its homes take accesses, and no access that
arrived before it waits there (R210, R217, R218, R312). -/
def State.fwdMay (s : State) (o : Nat × Nat) (p : Pkt) : Bool :=
  (s.fwdLines p).all (fun k => (s.line k).ops.head? == some o) &&
  p.areas.all (fun a => !s.areaBusy a.1 a.2 && s.mem.waiting.all (fun w => w.behind.contains o || !s.sameLine a.1 a.2 w.addr (homeLen w.op)))

/-- Whether a queued operation is one atomic on a line: a packet or a record of its own. -/
def State.lineAtomic (s : State) (k : Nat) (o : Nat × Nat) : Bool :=
  (s.fwdAt o).any (fun f => f.pkt.atomic && s.fwdLines f.pkt == [k])

/-- The operations a home takes from a line's queue at once: one, or a batch of up to 64 atomics (R312). -/
def State.batch (s : State) (k : Nat) : List (Nat × Nat) :=
  let l := s.line k
  let b := (l.ops.takeWhile (s.lineAtomic k)).take 64
  if b = [] then l.ops.take 1 else b

/-- The queue fell below 64: the pause ends and HOT_LINE_CLEAR is raised (R313). -/
def State.coolLine (s : State) (k q : Nat) : State :=
  let l := s.line k
  if l.hot ∧ l.ops.length < 64 then
    let s1 := s.setLine k { l with hot := false }
    let keep := (s1.rack.lines.filter (fun (e : Nat × LineQ) => e.2.hot)).flatMap (fun (e : Nat × LineQ) => s1.lineSources e.2)
    { s1 with rack := { s1.rack with paused := s1.rack.paused.filter keep.contains } }.raise 0x0526 (dieIO q) []
  else s

/-- An operation leaves the queues of its lines, which may cool. -/
def State.leaveLines (s : State) (o : Nat × Nat) (lines : List Nat) : State :=
  lines.foldl (fun (t : State) k =>
    (t.setLine k { t.line k with ops := (t.line k).ops.filter (· != o) }).coolLine k o.1) s

/-- The home applies a queued operation. -/
def State.applyQueued (s : State) (o : Nat × Nat) : State :=
  match s.fwdAt o with
  | none => s
  | some f => (s.leaveLines o (s.fwdLines f.pkt)).applyFwd o.1 f

/-- HOME_LINE_APPLY: the home applies the next operation of a line's queue, or its next batch of atomics in arrival order, each
atomic returning the old value it would have returned alone; what waited behind goes on (R210, R312). -/
def execHomeLineApply (line : BitVec 36) (s : State) : Out :=
  let k := line.toNat
  match (s.line k).ops.head?.bind (fun o => (s.fwdAt o).map (fun f => (o, f.pkt))) with
  | none => .next s
  | some h => if s.fwdMay h.1 h.2 then .next ((s.batch k).foldl State.applyQueued s).resumeWaiting else .next s

/-- Forwards that are lost: their source entries forget that they were forwarded, so that a re-send meets the checks again (R206, R251,
R254, R310). -/
def State.dropFwds (s : State) (lost : Nat → Fwd → Bool) : State :=
  ((List.range 4).flatMap (fun q => ((s.fwdList q).filter (lost q)).map (fun f => (q, f)))).foldl (fun (t : State) (e : Nat × Fwd) =>
    let p := e.2.pkt
    let k := p.source * 64 + p.e
    let n := t.srcEnt k
    let d := (p.seq + 2 ^ 33 - n.lca - 1) % 2 ^ 32
    let t1 := if n.bootId = p.bootId ∧ d < 64 then t.setSrc k { n with inflight := setBit64 n.inflight d false } else t
    let t2 := t1.leaveLines (e.1, e.2.tag) (t1.fwdLines p)
    { t2 with rack := { t2.rack with fwds := tput (fun _ => []) t2.rack.fwds e.1 ((t2.fwdList e.1).filter (fun f => f.tag != e.2.tag)) } }) s

/-- Whether a forward that is not applied yet needs one of some lower dies: at its landing die or at a home (R250, R251). -/
def State.fwdNeeds (s : State) (dies : List Nat) (q : Nat) (f : Fwd) : Bool :=
  decide (f.phase < 2) && (dies.contains (12 + q) || f.pkt.areas.any (fun a => (s.locate a.1).lowerDies.any dies.contains))

/-- Accesses that wait at homes behind some lower dies are lost with the forwards (R251). -/
def State.dropHomes (s : State) (dies : List Nat) : State :=
  let s1 := s.dropFwds (s.fwdNeeds dies)
  { s1 with mem := { s1.mem with waiting := s1.mem.waiting.filter (fun w => !(s.locate w.addr).lowerDies.any dies.contains) } }

/-- HBs alone is retired: what was on its way to its home stays unanswered (R206, R254). -/
def State.dropStackHome (s : State) (st : Nat) : State :=
  let hb := fun (a : Nat) => match s.locate a with | .hbm n _ => n == st | _ => false
  let s1 := s.dropFwds (fun _ f => decide (f.phase < 2) && f.pkt.areas.any (fun a => hb a.1))
  { s1 with mem := { s1.mem with waiting := s1.mem.waiting.filter (fun w => !hb w.addr) } }

/-- HOME_CONFIRM: the home's confirmation has a path and reaches the landing die: INFLIGHT cleared, DONE set, LCA advanced, an atomic's
result recorded, with the failed record's index in place of an old value that a failure has not (log entry 91), and the answer sent (R172,
R310 step 8). -/
def execHomeConfirm (q : Fin 4) (tag : Nat) (s : State) : Out :=
  match s.fwdAt (q, tag) with
  | none => .next s
  | some f =>
    if f.phase ≠ 2 ∨ !(s.fwdPlaces f.pkt).all (fun h => s.pathOpen h (12 + q)) then .next s
    else
      let p := f.pkt
      let s1 := { s with rack := { s.rack with fwds := tput (fun _ => []) s.rack.fwds q ((s.fwdList q).filter (fun x => x.tag != tag)) } }
      let k := p.source * 64 + p.e
      let e := s1.srcEnt k
      let d := (p.seq + 2 ^ 33 - e.lca - 1) % 2 ^ 32
      if e.bootId = p.bootId ∧ d < 64 then
        let v := if f.result.status = 0 then f.result.value else f.result.failRec
        let e1 := if p.atomic then e.remember ⟨p.seq, f.result.status, v⟩ else e
        let e2 : SrcEnt := { e1 with inflight := setBit64 e1.inflight d false, done := setBit64 e1.done d true }
        let s2 := s1.setSrc k e2.advance
        let s3 := if p.op = 6 ∧ f.result.failRec ≠ 0xFFFF then
            s2.windowFault q p.source (((pktRecs p)[f.result.failRec]?.map (·.window)).getD 0) f.result.status else s2
        .next (s3.answer q p f.result)
      else .next s1

/-- FORWARD_RESEND_TIMER: no confirmation within 2 µs: the forward is sent again with the same tag (R311). -/
def execForwardResendTimer (q : Fin 4) (tag : Nat) (s : State) : Out :=
  match s.fwdAt (q, tag) with
  | none => .next s
  | some f => .next ((s.setFwd q { f with sends := f.sends + 1 }).postFwd q f.pkt)

/-! ## Relay -/

/-- The device a packet is for: the source of a request for a response, else the request's target; an LV_ANSWER has the header of a
request (R452). -/
def relayTarget (b : List Byte) : Nat := if 0x80 ≤ at_ b 0 1 ∧ at_ b 0 1 ≠ 0x8C then at_ b 2 2 % 1024 else at_ b 8 8 / 2 ^ 50 % 1024

/-- What a relay carries: parcels, bulk requests, collective packets, lightvessel packets and one-flit responses (R319). -/
def relayCarries (b : List Byte) : Bool :=
  let op := at_ b 0 1
  (4 ≤ op && op ≤ 12) || op == 0x84 || (0x80 ≤ op && b.length ≤ 240)

/-- RELAY_FORWARD: a relay forwards a committed packet for another device, through its own links to it or those of another
I/O die, with STREAM 0x10; a packet it cannot forward is dropped and counted, with RELAY_DROP (R319, R320). -/
def execRelayForward (p : Fin 24) (vc : Fin 3) (s : State) : Out :=
  match s.headPkt p vc with
  | none => .next s
  | some (_, b) =>
    let t := relayTarget b
    if t = s.device then .next s
    else
      let q := p.val / 6
      let s1 := (s.popPkt p vc).noticeAck (parseRsp b)
      match ([0, 1, 2, 3].map (fun k => (q + k) % 4)).find? (fun k => !(s.activeLinks k t).isEmpty) with
      | some k =>
        if relayCarries b ∧ s.bit F.STK_PKG_SPINE_ROLE then .next (s1.issuePkt k ⟨t, vc, 0x10, none, 12 + q, b⟩)
        else .next ((s1.bump F.PRT_RM_CNT_C_RELAY_DROP q 1).raise 0x0527 (dieIO q) [(2, t)])
      | none => .next ((s1.bump F.PRT_RM_CNT_C_RELAY_DROP q 1).raise 0x0527 (dieIO q) [(2, t)])

/-! ## Answers at the source -/

/-- The unacknowledged request a response answers: the same E, SEQ and BOOT_ID, toward the device that responds (R308). -/
def State.answered (s : State) (r : Rsp) : Option Req :=
  if r.source = s.device then
    (s.pair r.e r.responder).sent.find? (fun q => q.pkt.seq == r.seq && q.pkt.bootId == r.bootId)
  else none

def State.setReq (s : State) (e dst : Nat) (r : Req) : State :=
  let p := s.pair e dst
  s.setPair e dst { p with sent := p.sent.map (fun x => if x.pkt.seq = r.pkt.seq then r else x) }

/-- An acknowledged parcel packet: records before the failed one are done, it fails, and those that followed go into a new
packet (R318). -/
def State.parcelAck (s : State) (q : Req) (r : Rsp) : State :=
  let s1 := s.closeReq r.e r.responder r.seq
  if r.failRec = 0xFFFF ∨ r.status = 0 then
    q.owns.foldl (fun (a : State) o => if o.kind = 1 ∧ o.n ≠ 0 ∨ o.kind = 4 then a else a.ownDone o 0 r.value []) s1
  else
    let s2 := (q.owns.take r.failRec).foldl (fun (a : State) o => a.ownDone o 0 r.value []) s1
    let s3 := (q.owns[r.failRec]?.map (fun o => s2.ownDone o r.status 0 [])).getD s2
    let rest := q.recs.drop (r.failRec + 1)
    if rest = [] then s3 else s3.rackSend r.e (recsReq q.q q.pkt.tag (q.pkt.flags / 2 % 2 = 1) rest)

/-- What the failure of a message ends: the MOVE, PUT or GET it belongs to, the DROP or TOUCH, the GET it served (R134, R142, R143). -/
def State.mailFailed (s : State) (m : Mail) : State :=
  match m.job with
  | 1 => if (s.bop m.seq).isSome then s.berthOpFail m.a m.seq m.status else s
  | 2 => match s.bop m.seq with
    | some o => s.getFail o m.status
    | none => s
  | 3 => s.finishDesc m.seq m.status 0 0
  | 4 => s.setRole { s.role with sess := s.role.sess.filter (fun o => !(o.kind == 1 && o.src == m.dst && o.op == m.seq)) }
  | _ => s

/-- A message whose packets are all answered: it failed, or its next stage goes out where what it belongs to goes on (R136, R141). -/
def State.settleMail (s : State) (id : Nat) : State :=
  let m := s.mailAt id
  if 0 < m.left then s
  else if m.status ≠ 0 then (s.setMail id {}).mailFailed m
  else if m.job = 1 ∧ (s.bop m.seq).isNone then s.setMail id {}
  else s.nextStage id m

/-- Messages whose packets a response has answered go on. -/
def State.settleMails (s : State) : State := (s.rack.mails.map (·.1)).foldl State.settleMail s

/-- Take a response of a given kind from the head of a commit FIFO; one that answers no request of R306 is for the lightvessel unit
or is discarded (R308, R452). -/
def State.takeResponse (s : State) (op : Nat) (p : Fin 24) (vc : Fin 3) (act : State → Req → Rsp → State) : State :=
  match s.headPkt p vc with
  | none => s
  | some (_, b) =>
    let r := parseRsp b
    if r.op = op ∧ r.source = s.device then
      let s1 := s.popPkt p vc
      match s1.answered r with
      | some q => (act s1 q r).settleMails
      | none => (s1.noticeAck r).askNak r
    else s

/-- ACK: it completes its request, or a parcel packet record by record (R308, R318). -/
def execAck (p : Fin 24) (vc : Fin 3) (s : State) : Out :=
  .next (s.takeResponse 0x81 p vc fun s1 q r =>
    if q.pkt.op = 6 then
      if q.owns.any (fun o => (o.kind == 1 && o.n != 0) || o.kind == 4) && !q.data && r.failRec == 0xFFFF then
        s1.setReq r.e r.responder { q with acked := true }
      else s1.parcelAck q r
    else (s1.closeReq r.e r.responder r.seq).doneAll q.owns r.status)

/-- LOAD_DATA: the bytes are written at the local destination and the request completes (R43, R308). -/
def execLoadData (p : Fin 24) (vc : Fin 3) (s : State) : Out :=
  .next (s.takeResponse 0x82 p vc fun s1 q r =>
    q.owns.foldl (fun (a : State) o => a.ownDone o 0 0 r.data) (s1.closeReq r.e r.responder r.seq))

/-- ATOMIC_DATA: the old value is written at AS + 16 and the request completes (R70, R308). -/
def execAtomicData (p : Fin 24) (vc : Fin 3) (s : State) : Out :=
  .next (s.takeResponse 0x83 p vc fun s1 q r =>
    if q.pkt.op = 6 then s1.parcelAck q r
    else q.owns.foldl (fun (a : State) o => a.ownDone o r.status r.value []) (s1.closeReq r.e r.responder r.seq))

/-- BULK_DATA: the bytes are written locally; of a READ record only those that were requested (R308, R317). A bulk read request
completes with it, a parcel packet once it is acknowledged too. -/
def execBulkData (p : Fin 24) (vc : Fin 3) (s : State) : Out :=
  .next (s.takeResponse 0x84 p vc fun s1 q r =>
    let reads := q.owns.filter (fun o => (o.kind == 1 && o.n != 0) || o.kind == 4)
    if q.pkt.op = 6 then
      if q.data then s1
      else
        let s2 := reads.foldl (fun (a : State) o => a.ownDone o 0 0 r.data) (s1.setReq r.e r.responder { q with data := true })
        if q.acked then s2.parcelAck { q with data := true } { r with failRec := 0xFFFF, status := 0 } else s2
    else q.owns.foldl (fun (a : State) o => a.ownDone o 0 0 r.data) (s1.closeReq r.e r.responder r.seq))

/-- NAK: the request completes with the failure status it holds (R308). -/
def execNak (p : Fin 24) (vc : Fin 3) (s : State) : Out :=
  .next (s.takeResponse 0x8F p vc fun s1 q r => (s1.closeReq r.e r.responder r.seq).doneAll q.owns r.status)

/-! ## Timers -/

/-- The link of a re-send: the named one while it is ACTIVE, else the next ACTIVE link of that die (R307). -/
def State.resendLink (s : State) (r : Req) : Option Nat :=
  match r.link with
  | none => none
  | some x =>
    let l := s.activeLinks r.q (s.hop r.pkt.target)
    if l.contains x then some x else match l.find? (fun y => decide (x < y)) with
      | some y => some y
      | none => l.head?

/-- Whether a copy of a request still waits to leave its I/O die. -/
def State.waitsToLeave (s : State) (r : Req) : Bool :=
  let b := r.pkt.bytes
  (s.issuedTo r.q).any (fun p => p.bytes == b) || (s.egress r.q (s.hop r.pkt.target) (reqVc r.pkt.op)).any (fun p => p.bytes == b)

/-- Lower dies on a request's way out of the device: those of the unit that sends it and of its I/O die (R36, R250). -/
def Req.dies (r : Req) : List Nat := (if r.ep < 12 then [r.ep, 12 + r.ep / 3] else []) ++ [12 + r.q]

/-- E2E_RESEND_TIMER: a request's timer expires: it is sent again as it was, waiting in its die's egress queue while the die has no path,
or after RETRIES re-sends its operation completes with E2E_RETRY_EXHAUSTED, or PATH_RESET where a lower die on its way is in reset (R254,
R307). -/
def execE2eResendTimer (e : Fin 64) (dst : Fin 1024) (n : BitVec 32) (s : State) : Out :=
  match (s.pair e dst).sent.find? (fun r => r.pkt.seq == n.toNat) with
  | none => .next s
  | some r =>
    if r.tries < s.rd F.PRT_E2E_CTRL_RETRIES then
      let s1 := s.setReq e dst { r with tries := r.tries + 1 }
      if s.mayRemote ∧ (s.hasPath r.q dst ∨ !s.waitsToLeave r) then
        let old : Rate := tget (fun _ => {}) s.rack.resend r.q
        let new := old.add nsSec s.now 1
        let s2 := { s1 with rack := { s1.rack with resend := tput (fun _ => {}) s1.rack.resend r.q new } }
        let s3 := (s2.launchReq { r with link := s.resendLink r }).bump F.PRT_RM_CNT_A_RESENT r.q 1
        .next (if new.n = 1001 then s3.raise 0x0521 (dieIO r.q) [] else s3)
      else .next s1
    else
      let reset := r.dies.any (fun n => let v := s.rd F.STK_DIE_STATE n; decide (1 ≤ v) && decide (v ≤ 3))
      let st := if reset then 0x11 else 0x10
      let s1 := if reset then s else s.raise 0x0520 (dieIO r.q) [(1, e), (2, dst), (4, n.toNat)]
      .next ((s1.closeReq e dst n.toNat).doneAll r.owns st).settleMails

/-- PARCEL_FLUSH_TIMER: FLUSH_US after its first record an open parcel is flushed (R317). -/
def execParcelFlushTimer (q : Fin 4) (rack : Fin 32) (s : State) : Out := .next (s.flushParcel q rack)

end Sys2Proof.Machine
end

