-- ==== Sys2Proof/Machine/Collectives.lean ====
section
/-!
DEFINITION. COLLECTIVE descriptors and packets (10_rack_memory.md R321 to R325, R445; 11_host_and_command.md R354).
-/
namespace Sys2Proof.Machine

/-- The collective a descriptor names (R354). -/
def State.collOf (s : State) (d : Desc) : Coll :=
  let m := d.f 0x12 2
  let ms := (List.range m).map (fun i => s.num (d.f 0x40 8 + 2 * i) 2 % 1024)
  { id := d.f 0x14 4, seq := d.seq, op := d.f 0x10 1, mode := d.f 0x11 1, outFmt := d.f 0x20 8 / 2 ^ 16 % 16,
    plan := leBytes 4 (d.f 0x18 4) ++ leBytes 8 (d.f 0x28 8) ++ leBytes 2 m, members := ms,
    me := (ms.findIdx? (· == s.device)).getD 0, count := d.f 0x28 8, src := d.f 0x30 8, dst := d.f 0x38 8 }

/-- Why a collective cannot begin: its list, source or destination unmapped or poisoned, a list whose members are not distinct or
do not hold this device once, or a member without a path (R215, R297, R321, R354). -/
def State.collRefuse (s : State) (d : Desc) (c : Coll) : Nat :=
  let area := fun (a n : Nat) (w : Bool) => s.mapOk a n w && s.liveOk a n
  let list := d.f 0x40 8
  if !area list (2 * c.members.length) false then 0x20
  else if s.anyBad list (2 * c.members.length) then 0x60
  else if c.members.eraseDups.length ≠ c.members.length ∨ !c.members.contains s.device then 0x40
  else if !area c.src (4 * c.count) false || !area c.dst (c.width * c.count) true then 0x20
  else if s.anyBad c.src (4 * c.count) then 0x60
  else if c.others.any (fun m => !s.reachable (c.members.getD m 0)) then 0x12
  else 0

/-- A collective starts: exponent bytes or elements to the owners, or its slice to every member; what it owes itself it keeps, and
contributions held for it are taken (R322 to R325). -/
def State.collBegin (s : State) (c : Coll) : State :=
  let own := c.slice c.me
  let s0 := { s with rack := { s.rack with colls := s.rack.colls ++ [c] } }
  let s1 :=
    if c.op = 1 then
      let s2 := (own.foldl (fun (t : State) b => (t.collWrite c b (t.collWords c b)).1) s0)
      c.others.foldl (fun (t : State) m => t.collSendRuns c.id m 9 32 own (fun b => (t.collWords c b).take (4 * c.elems b))) s2
    else if c.mode = 2 then
      let s2 := c.others.foldl (fun (t : State) m => t.collSendRuns c.id m 9 32 (c.slice m) (t.collWords c)) s0
      match s2.coll c.id with
      | none => s2
      | some x => (State.collFinish c.id own
          (s2.setColl (own.foldl (fun (a : Coll) b => a.add ⟨c.me, b, 2, s.collWords c b⟩) x))).collGather c.id
    else
      let s2 := c.others.foldl (fun (t : State) m => t.collSendRuns c.id m 7 4096 (c.slice m) (fun b => leBytes 1 (t.collExp c b))) s0
      match s2.coll c.id with
      | none => s2
      | some x => (s2.setColl (own.foldl (fun (a : Coll) b => a.add ⟨c.me, b, 1, leBytes 1 (s.collExp c b)⟩) x)).collGather c.id
  let mine := s1.rack.held.filter (fun (h : Nat × Nat × Pkt) => h.1 == c.id)
  mine.foldl (fun (t : State) (h : Nat × Nat × Pkt) => t.contribute h.2.1 h.2.2)
    { s1 with rack := { s1.rack with held := s1.rack.held.filter (fun (h : Nat × Nat × Pkt) => h.1 != c.id) } }

/-- A COLLECTIVE of one operation starts, or waits while sixteen run (R325). -/
def State.startColl (s : State) (seq : BitVec 32) (op : Nat) : State :=
  s.startDesc seq (fun d => descType d.bytes == 3 && d.f 0x10 1 == op) fun t d =>
    let c := t.collOf d
    let v := t.collRefuse d c
    if v ≠ 0 then t.finishDesc d.seq v 0 0
    else if t.rack.colls.length < 16 then t.collBegin c
    else { t with rack := { t.rack with collWait := t.rack.collWait ++ [c] } }

/-- COLLECTIVE_REDUCE_SCATTER: a REDUCE_SCATTER starts (R322, R323). -/
def execCollectiveReduceScatter (seq : BitVec 32) (s : State) : Out := .next (s.startColl seq 0)

/-- COLLECTIVE_ALL_GATHER: an ALL_GATHER sends its slice to every other member (R324). -/
def execCollectiveAllGather (seq : BitVec 32) (s : State) : Out := .next (s.startColl seq 1)

/-- COLLECTIVE_ALL_REDUCE: a REDUCE_SCATTER into the destination, then an ALL_GATHER of its slices (R324). -/
def execCollectiveAllReduce (seq : BitVec 32) (s : State) : Out := .next (s.startColl seq 2)

/-- Collectives that have ended finish their descriptors, and those that wait take their places in acceptance order (R324, R325). -/
def State.collSettle : Nat → State → State
  | 0, s => s
  | fuel + 1, s =>
    match s.rack.colls.find? (·.done) with
    | none => s
    | some c =>
      let s1 := { s with rack := { s.rack with colls := s.rack.colls.filter (fun x => x.seq != c.seq) } }
      let s2 := s1.finishDesc c.seq c.status 0 (if c.status = 0x30 then c.overs else 0)
      match s2.rack.collWait with
      | [] => State.collSettle fuel s2
      | w :: r => State.collSettle fuel (({ s2 with rack := { s2.rack with collWait := r } } : State).collBegin w)

/-- End what has ended. -/
def State.collEnd (s : State) : State := State.collSettle (s.rack.colls.length + s.rack.collWait.length) s

/-- COLL_EXP: exponent bytes reach the owner of a slice; a block with all of them gets its B (R322). -/
def execCollExp (p : Fin 24) (vc : Fin 3) (s : State) : Out := .next (s.takeRequest 7 p vc).collEnd

/-- COLL_B: a member receives B of blocks and sends their window integers (R322). -/
def execCollB (p : Fin 24) (vc : Fin 3) (s : State) : Out := .next (s.takeRequest 8 p vc).collEnd

/-- The reduction unit that serves block `b`: that of IO(b mod 4), or the next in service (R321, R445). -/
def State.unitOf (s : State) (b : Nat) : Nat :=
  ([0, 1, 2, 3].map (fun k => (b + k) % 4)).find? (fun q => !s.rack.deadUnits.contains q) |>.getD (b % 4)

/-- COLL_DATA: window integers, elements or a gathered slice arrive; complete blocks are reduced and written (R322 to R324). With
two residue mismatches on one block its unit is taken out of service and the next completes it; the result is the same (R445). -/
def execCollData (p : Fin 24) (vc : Fin 3) (mismatch : Fin 3) (s : State) : Out :=
  let b := ((s.headPkt p vc).map (fun h => (parsePkt h.2).addr)).getD 0
  let s1 := (s.takeRequest 9 p vc).collEnd
  if mismatch = 2 then .next { s1 with rack := { s1.rack with deadUnits := s1.rack.deadUnits.add (s.unitOf b) } } else .next s1

/-- COLL_TIMER_EXPIRE: COLL_MS after acceptance a block still lacks a contribution: TARGET_UNREACHABLE and COLLECTIVE_TIMEOUT;
complete blocks are written already (R325, R327). -/
def execCollTimerExpire (id : BitVec 32) (s : State) : Out :=
  match s.coll id.toNat with
  | none => .next s
  | some c =>
    match c.missing with
    | [] => .next s
    | m :: r =>
      let b := ((c.slice c.me).find? (fun b => !c.written.contains b)).getD 0
      .next ((s.setColl { c with status := worse c.status 0x12 }).raise 0x0528 (dieIO (b % 4)) [(4, c.id), (2, r.length + 1), (2, m)]).collEnd

/-- COLL_HOLD_EXPIRE: contributions held for a descriptor that did not come are dropped, so that a re-send is taken anew
(R325). -/
def execCollHoldExpire (id : BitVec 32) (s : State) : Out :=
  let mine := s.rack.held.filter (fun (h : Nat × Nat × Pkt) => h.1 == id.toNat)
  .next (mine.foldl (fun (t : State) (h : Nat × Nat × Pkt) =>
      let k := h.2.2.source * 64 + h.2.2.e
      let e := t.srcEnt k
      let d := (h.2.2.seq + 2 ^ 33 - e.lca - 1) % 2 ^ 32
      t.setSrc k { e with inflight := setBit64 e.inflight d false })
    { s with rack := { s.rack with held := s.rack.held.filter (fun (h : Nat × Nat × Pkt) => h.1 != id.toNat) } })

end Sys2Proof.Machine
end

