-- ==== Sys2Proof/Machine/TransferRun.lean ====
section
/-!
DEFINITION. Start and completion of transfer engine operations (02_cores_and_engines.md R43, R69 to R77): local copies, page walks
and what is sent to another device (R297, R298, R315 to R317).
-/
namespace Sys2Proof.Machine

/-- An operation that failed when it executed leaves its queue and faults the core with a cause and a status (R42, R70, R84). -/
def State.opFaultWith (s : State) (lc q : Nat) (op : EngOp) (rest : List EngOp) (cause status : Nat) : State :=
  (s.setCore lc ((s.core lc).setQueue q rest)).faultWith lc cause op.idx op.word status

/-- Cause and status of what stopped a movement when it started: unmapped memory is DPA_RANGE (R203). -/
def Stop.atStart : Stop → Nat × Nat
  | .cause n => (n, faultStatus n)
  | .gone => (6, faultStatus 6)
  | _ => (0x10, 0x11)

/-- Cause and status of what stopped a movement under way: memory lost meanwhile is PATH_RESET (R206, R254, R359). -/
def Stop.inFlight : Stop → Nat × Nat
  | .cause n => (n, faultStatus n)
  | _ => (0x10, 0x11)

/-! ## Local operations -/

/-- Berth, layer and first token of a KVWALK or KVPUT (R69). -/
def kvBerth (op : EngOp) : Nat := fld op.y 12 0
def kvLayer (op : EngOp) : Nat := fld op.y 19 13
def kvFirst (op : EngOp) : Nat := fld op.y 51 20
def isPut (op : EngOp) : Bool := xfOp op.word == 5

/-- Address form of the contiguous area of a KVWALK or KVPUT. -/
def kvArea (op : EngOp) : XAddr := if isPut op then xaddr op.b else xaddr op.a

/-- The checks of a KVWALK or KVPUT against the role and the berth's snapshot, before any record moves (R71, R74, R77). -/
def State.kvCheck (s : State) (op : EngOp) : Option Nat :=
  let e := s.berth (kvBerth op)
  let u := s.role.setup
  let put := isPut op
  let n := op.x.toNat
  firstFault [(!s.berthRole, 0x0E), (e.state == 0 || e.state == 1, 0x0B),
    (!kvConvOk (xfIn op.word) (xfOut op.word) u.rec_ put, 7),
    (!s.areaOk (kvArea op) (n * kvAreaLen (xfIn op.word) (xfOut op.word) u.rec_ put) (!put), (kvArea op).cause),
    (decide (u.layers ≤ kvLayer op) || decide ((if put then e.maxTokens else e.tokens) < kvFirst op + n), 0x0C)]

/-- The snapshot an operation keeps: PAGE, REC, LAYERS and the page list of its berth (R74). -/
def State.kvSnap (s : State) (op : EngOp) : List Nat :=
  if xfOp op.word = 4 ∨ xfOp op.word = 5 then
    [s.role.setup.page, s.role.setup.rec_, s.role.setup.layers, (s.berth (kvBerth op)).pagelist]
  else []

/-- What a local operation moves (R69, R75, R76). -/
def State.moveLocal (s : State) (lc : Nat) (op : EngOp) (snap : List Nat) : Moved :=
  let w := op.word
  let p := 16 + lc / 16
  match xfOp w with
  | 0 | 1 => State.copyRows p (xfIn w) (xfOut w) (copyPlan lc op) s
  | 2 => State.indexRows lc (xaddr op.b) (xaddr op.a) (fld op.y 47 32) (fld op.y 22 0) true op.x.toNat 0 s
  | 3 => State.indexRows lc (xaddr op.a) (xaddr op.b) (fld op.y 47 32) (fld op.y 22 0) false op.x.toNat 0 s
  | _ => State.kvRows p (snap.getD 0 0) (snap.getD 1 1) (snap.getD 2 0) (snap.getD 3 0) (kvLayer op) (xfIn w) (xfOut w) (isPut op)
      op.x.toNat (kvFirst op) ((kvArea op).dpaOf lc) s

/-- The areas whose homes a local operation asks (R20, R69, R75): its rows, or its index or page list and its contiguous area. -/
def localAreas (lc : Nat) (op : EngOp) (snap : List Nat) : List (Nat × Nat) :=
  let n := op.x.toNat
  match xfOp op.word with
  | 0 | 1 => (copyPlan lc op).flatMap (fun r => [(r.1, r.2.2), (r.2.1, xferOutLen (xfIn op.word) (xfOut op.word) r.2.2)])
  | 2 => [((xaddr op.a).dpaOf lc, n * fld op.y 47 32)]
  | 3 => [((xaddr op.b).dpaOf lc, n * fld op.y 47 32)]
  | _ => [(snap.getD 3 0, 8), ((kvArea op).dpaOf lc, n * kvAreaLen (xfIn op.word) (xfOut op.word) (snap.getD 1 1) (isPut op))]

/-- Own scratchpad bytes a transfer reads at its source (R41, R69). -/
def ownSource (op : EngOp) : List (Nat × Nat) :=
  let n := op.x.toNat
  let own := fun (a : XAddr) (k : Nat) => match a with | .own b => [(b, k)] | _ => []
  match xfOp op.word with
  | 0 => own (xaddr op.b) n
  | 1 =>
    let r := xferRows op.word op
    (List.range r.1).flatMap (fun i => match xaddr op.b with | .own b => [(b + i * r.2.1, n)] | _ => [])
  | 2 => [(fld op.y 22 0, 4 * n)]
  | 3 => (fld op.y 22 0, 4 * n) :: own (xaddr op.b) (n * fld op.y 47 32)
  | 7 | 9 => own (xaddr op.b) n
  | 8 => own (xaddr op.b) (if xfIn op.word = 7 then 16 else 8)
  | _ => []

/-- Whether a core reaches the quarter of the berth table that a page walk asks (R20, R74, R129). -/
def State.berthOpen (s : State) (lc : Nat) (op : EngOp) : Bool :=
  !(xfOp op.word == 4 || xfOp op.word == 5) || s.bothOpen (16 + lc / 16) (12 + kvBerth op / 1536)

/-- A local operation starts once no local operation of its stream runs; what the core cannot see from its registers is checked
now (R42, R69, R74, R203). -/
def State.startLocal (s : State) (lc q : Nat) (op : EngOp) (rest : List EngOp) : State :=
  let c := s.core lc
  let kv := if xfOp op.word = 4 ∨ xfOp op.word = 5 then s.kvCheck op else none
  if (c.running q).any (fun r => !r.remote) || !s.berthOpen lc op then s
  else match kv with
    | some n => s.opFault lc q op rest n
    | none =>
      match (s.moveLocal lc op (s.kvSnap op)).fault with
      | some .gone => s.opFaultWith lc q op rest Stop.gone.atStart.1 Stop.gone.atStart.2
      | some .reset => s.opFaultWith lc q op rest Stop.reset.atStart.1 Stop.reset.atStart.2
      | _ => ((s.setCore lc (c.begin q op rest (s.kvSnap op) false)).wake lc).askHomes (16 + lc / 16) (localAreas lc op (s.kvSnap op))

/-! ## Remote operations -/

/-- What stops a remote operation at its local area: unmapped memory, a die in reset, or poisoned data (R70, R203, R215, R254). -/
def State.remoteStop (s : State) (lc : Nat) (op : EngOp) : Option (Nat × Nat) :=
  let l := remoteLocal op
  let a := l.1.dpaOf lc
  let o := xfOp op.word
  let poisoned := isRemoteStore o && s.anyBad a l.2
  if s.areaReset a l.2 then some (0x10, 0x11)
  else if !s.liveOk a l.2 || (o = 8 && !s.liveOk (a + 16) 8) then some (6, faultStatus 6)
  else if poisoned && (o == 8 || xfIn op.word != xfOut op.word) then some (0x0F, faultStatus 0x0F)
  else if poisoned then some (0x10, 0x60)
  else none

/-- An RLOAD waits while a line it covers has an unacknowledged store or atomic of its stream on another die (R298). -/
def State.loadWaits (s : State) (lc q : Nat) (op : EngOp) : Bool :=
  let dst := sxDevice op.y
  let a := remoteAddr op
  let die := s.placeLine lc q dst a
  let ls := (List.range (op.x.toNat / 64)).map (fun i => a / 64 + i)
  (s.streamLines lc q dst).any (fun (r : Nat × List Nat × Bool) => r.2.2 && r.1 != die && r.2.1.any ls.contains)

/-- A remote operation whose target is the own device is carried out locally with the same checks: the state after it and the
status (R70, R215, R297). -/
def State.ownTarget (s : State) (lc : Nat) (op : EngOp) : State × Nat :=
  let l := remoteLocal op
  let la := l.1.dpaOf lc
  let a := remoteAddr op
  let o := xfOp op.word
  let d := s.remoteData lc op
  if o = 6 ∨ o = 10 then
    let v := s.accessCheck (sxWindow op.y) (sxKey op.y) 0 a l.2
    if v ≠ 0 then (s, v) else (s.store la (s.bytes a l.2), 0)
  else if o = 8 then
    let v := s.accessCheck (sxWindow op.y) (sxKey op.y) 2 a 8
    if v ≠ 0 then (s, v) else
      let t := s.applyAtomic (xfIn op.word) a d
      (t.1.store (la + 16) (leBytes 8 t.2), 0)
  else
    let v := s.accessCheck (sxWindow op.y) (sxKey op.y) 1 a d.length
    if v ≠ 0 then (s, v) else (s.store a d, 0)

/-- A daymark store is held until every earlier remote store of its stream is acknowledged (R73, R308). -/
def Core.daymarkHeld (c : Core) (q : Nat) : Bool :=
  (c.running q).any (fun r => isRemoteStore (xfOp r.op.word) && (decide (0 < r.waiting) || r.failed.isSome))

/-- Record a started remote operation's status, the tag of its transfer and the pieces it has to send. -/
def State.noteRemote (s : State) (lc q id : Nat) (failed : Option Nat) (tag : Nat) (ps : List (Nat × Nat)) : State :=
  let c := s.core lc
  s.setCore lc (c.setRunning q ((c.running q).map (fun r =>
    if r.id = id then { r with waiting := ps.length, failed := failed, todo := ps, tag := tag } else r)))

/-- A remote operation starts: it waits for its daymark, for the engine's limit of requests, for its lines and for its local area's homes;
else its requests go out, as many at once as the limit allows, or it is carried out here, or it fails without sending (R70, R72, R73,
R297, R298; log entry 58). -/
def State.startRemote (s : State) (lc st : Nat) (op : EngOp) (rest : List EngOp) : State :=
  let q := 5 + st
  let c := s.core lc
  let dst := sxDevice op.y
  let here := dst == s.device
  let data := if isRemoteStore (xfOp op.word) then s.remoteData lc op else []
  let ps := s.remotePieces dst op (if isRemoteStore (xfOp op.word) then data.length else op.x.toNat)
  if xfDm op.word ∧ c.daymarkHeld q then s.flushStream lc st
  else if !here ∧ ((c.running q).any (fun r => !r.todo.isEmpty) ∨ 0 < c.remote ∧ teRequests < c.remote + ps.length) then s
  else if !here ∧ xfOp op.word = 6 ∧ s.loadWaits lc q op then s
  else if s.areaBusy ((remoteLocal op).1.dpaOf lc) (remoteLocal op).2 ∨
      !s.areaOpen (16 + lc / 16) ((remoteLocal op).1.dpaOf lc) (remoteLocal op).2 then s
  else if here ∧ (s.areaBusy (remoteAddr op) (max op.x.toNat 8) ∨ s.areaQueued (remoteAddr op) (max op.x.toNat 8) ∨
      !s.areaOpen (16 + lc / 16) (remoteAddr op) (max op.x.toNat 8)) then s
  else match s.remoteStop lc op with
    | some f => s.opFaultWith lc q op rest f.1 f.2
    | none =>
      let s1 := (s.setCore lc (c.begin q op rest [] true)).wake lc
      if here then
        let t := s1.ownTarget lc op
        t.1.noteRemote lc q c.nextId (if t.2 = 0 then none else some t.2) 0 []
      else if !s.reachable dst then s.opFaultWith lc q op rest 0x10 0x12
      else
        let tag := s1.rack.parcelTag
        let s2 := { s1 with rack := { s1.rack with parcelTag := (tag + 1) % 2 ^ 32 } }
        (s2.noteRemote lc q c.nextId none tag ps).sendOn lc

/-- TRANSFER_OP_START: the operation at the head of a stream's queue starts (R72); the errors of the scratchpad words it reads are
corrected or poison their units (R41). -/
def execTransferOpStart (lc : Fin 192) (st : Fin 8) (errs : List ScratchErr) (s0 : State) : Out :=
  let s := match (s0.core lc).queue (5 + st), (s0.core lc).cstate with
    | op :: _, .running => s0.scratchErrs lc (ownSource op) errs
    | _, _ => s0
  let c := s.core lc
  match c.queue (5 + st) with
  | [] => .next s
  | op :: rest =>
    if c.cstate ≠ .running then .next s
    else if xfOp op.word < 6 then .next (s.startLocal lc (5 + st) op rest)
    else .next (s.startRemote lc st op rest)

/-! ## Completion -/

/-- SIG and SEM of an XFER (R68). -/
def xfSig (w : W64) : Bool := fld w 21 21 == 1
def xfSem (w : W64) : Nat := fld w 20 15

/-- End of an operation that failed: it leaves its engine, and the core faults without a signal (R42, R43). -/
def State.failOp (s : State) (lc q : Nat) (r : RunOp) (cause status : Nat) : State :=
  let c := s.core lc
  ((s.setCore lc (c.setRunning q ((c.running q).filter (fun o => o.id != r.id)))).faultWith lc cause r.op.idx r.op.word status).wake lc

/-- End of the oldest local operation of a stream: its bytes move, unless a home keeps it waiting (R43, R217, R218). -/
def State.endLocal (s : State) (lc q : Nat) (r : RunOp) : State :=
  match s.moveLocal lc r.op r.berth with
  | ⟨s1, none⟩ => s1.finishOp lc q r (xfSig r.op.word) (xfSem r.op.word)
  | ⟨_, some .busy⟩ => s
  | ⟨s1, some f⟩ => s1.failOp lc q r f.inFlight.1 f.inFlight.2

/-- End of a remote operation whose requests have all been answered (R43, R70). -/
def State.endRemote (s : State) (lc q : Nat) (r : RunOp) : State :=
  match r.failed with
  | some st => s.failOp lc q r 0x10 st
  | none => s.finishOp lc q r (xfSig r.op.word) (xfSem r.op.word)

/-- TRANSFER_OP_COMPLETE: the first operation of a stream that can complete does: a local one in queue order, a remote one when
its last answer has come (R43, R69, R70). -/
def execTransferOpComplete (lc : Fin 192) (st : Fin 8) (s : State) : Out :=
  match ((s.core lc).running (5 + st)).find? (fun r => !r.remote || r.waiting == 0) with
  | none => .next s
  | some r => .next (if r.remote then s.endRemote lc (5 + st) r else s.endLocal lc (5 + st) r)

end Sys2Proof.Machine
end

