-- ==== Sys2Proof/Machine/Copies.lean ====
section
/-!
DEFINITION. COPY descriptors (11_host_and_command.md R354; R71, R215, R297, R298, R336, R339, R358).
-/
namespace Sys2Proof.Machine

/-- Formats and length of a COPY, and whether they break the rules on whole elements and blocks (R71, R354). -/
def copyIn (d : Desc) : Nat := d.f 0x29 1 % 16
def copyOut (d : Desc) : Nat := d.f 0x2A 1 % 16
def copyLen (d : Desc) : Nat := d.f 0x20 8
def copyBad (d : Desc) : Bool := copyIn d != copyOut d && (convCount (copyIn d) (copyOut d) (copyLen d)).isNone

/-- Bytes a COPY writes. -/
def copyOutLen (d : Desc) : Nat := xferOutLen (copyIn d) (copyOut d) (copyLen d)

/-- ADDRESS_FAULT or PATH_RESET of a device area, or 0 (R203, R254, R359). -/
def State.areaFault (s : State) (a n : Nat) (write : Bool) : Nat :=
  if !s.mapOk a n write then 0x20 else if s.areaReset a n then 0x11 else if !s.liveOk a n then 0x20 else 0

/-- Place from which the command path copies: the I/O die of the active command port (R20, R341). -/
def State.cmdPlace (s : State) : Nat := 12 + s.rd F.HST_CTRL_ACTIVE

/-- Whether a copy waits for the home of an area: it takes no access, is out of reach, or, where the copy writes, earlier writes wait
there (R20, R172, R210, R217, R218). -/
def State.copyWaits (s : State) (a n : Nat) (write : Bool) : Bool :=
  s.areaBusy a n || (write && s.areaQueued a n) || (s.mapOk a n write && !s.areaOpen s.cmdPlace a n)

def firstStatus : List Nat → Nat
  | [] => 0
  | a :: r => if a = 0 then firstStatus r else a

/-- COPY_DEVICE_TO_DEVICE: the bytes move, converted or with their poison marks; a home where accesses wait keeps it (R215, R354). -/
def execCopyDeviceToDevice (seq : BitVec 32) (s : State) : Out :=
  match s.desc seq.toNat with
  | none => .next s
  | some d =>
    if s.copyWaits (d.f 0x10 8) (copyLen d) false || s.copyWaits (d.f 0x18 8) (copyOutLen d) true then .next s
    else .next (s.startDesc seq (fun d => descType d.bytes == 2 && d.f 0x28 1 == 0) fun t d =>
      let src := d.f 0x10 8
      let dst := d.f 0x18 8
      let v := firstStatus [if copyBad d then 0x40 else 0, t.areaFault src (copyLen d) false, t.areaFault dst (copyOutLen d) true]
      if v ≠ 0 then t.finishDesc d.seq v 0 0
      else match State.copyRow t.cmdPlace (t.askHomes t.cmdPlace [(src, copyLen d), (dst, copyOutLen d)]) src dst (copyLen d) (copyIn d)
          (copyOut d) with
        | ⟨t1, none⟩ => t1.finishDesc d.seq 0 0 0
        | ⟨t1, some _⟩ => t1.finishDesc d.seq 0x60 0 0)

/-- COPY_HOST_TO_DEVICE: the bytes read from host memory, which waits while no command port reaches it, are written, converted where the
descriptor says so (R339, R354). -/
def execCopyHostToDevice (seq : BitVec 32) (data : List (BitVec 8)) (s : State) : Out :=
  match s.desc seq.toNat with
  | none => .next s
  | some d =>
    if !s.portOpen || s.copyWaits (d.f 0x18 8) (copyOutLen d) true then .next s
    else .next (s.startDesc seq (fun d => descType d.bytes == 2 && d.f 0x28 1 == 1) fun t d =>
      let src := d.f 0x10 8
      let dst := d.f 0x18 8
      let n := copyLen d
      let v := firstStatus [if copyBad d then 0x40 else 0, t.areaFault dst (copyOutLen d) true]
      if !t.ddrOk src n then t.finishDesc d.seq 0x20 0 (max src t.cmd.ddr)
      else if v ≠ 0 then t.finishDesc d.seq v 0 0
      else if copyIn d = copyOut d then (t.store dst (data.take n)).finishDesc d.seq 0 0 0
      else
        let k := (convCount (copyIn d) (copyOut d) n).getD 0
        (storePieces dst (convPieces (fun i => data.getD i 0) 0 (copyIn d) (copyOut d) k k) t).finishDesc d.seq 0 0 0)

/-- A converting copy to the host: it stops at poisoned data, or at an address outside DDR5 before anything is written
(R215, R339, R354). -/
def State.convToHost (s : State) (d : Desc) : State :=
  let src := d.f 0x10 8
  let dst := d.f 0x18 8
  let n := (convCount (copyIn d) (copyOut d) (copyLen d)).getD 0
  let k := s.cleanCount (copyIn d) (copyOut d) n src
  let ps := convPieces (fun off => s.byteAt off) src (copyIn d) (copyOut d) n k
  if s.absent then (s.discardHost 1).finishDesc d.seq 0 0 0
  else if !s.ddrOk dst (copyOutLen d) then s.finishDesc d.seq 0x20 0 (max dst s.cmd.ddr)
  else
    let s1 := ps.foldl (fun (t : State) (p : Nat × List Byte) => t.hostStore (dst + p.1) p.2) s
    s1.finishDesc d.seq (if k = n then 0 else 0x60) 0 0

/-- COPY_DEVICE_TO_HOST: device bytes are written to host memory; poisoned data never leaves (R215, R336, R354). -/
def execCopyDeviceToHost (seq : BitVec 32) (s : State) : Out :=
  match s.desc seq.toNat with
  | none => .next s
  | some d =>
    if (!s.absent && !s.hostOpen) || s.copyWaits (d.f 0x10 8) (copyLen d) false then .next s
    else .next (s.startDesc seq (fun d => descType d.bytes == 2 && d.f 0x28 1 == 2) fun t d =>
      let src := d.f 0x10 8
      let v := firstStatus [if copyBad d then 0x40 else 0, t.areaFault src (copyLen d) false]
      if v ≠ 0 then t.finishDesc d.seq v 0 0
      else if copyIn d = copyOut d then
        let r := t.toHost src (d.f 0x18 8) (copyLen d)
        r.1.finishDesc d.seq r.2.2.1 0 r.2.2.2
      else t.convToHost d)

/-! ## Remote copies -/

/-- Send the pieces of a remote copy, over the dies with a path in rotation (R298, R354). -/
def State.sendCopy (seq x raddr laddr : Nat) (write : Bool) : Nat → List (Nat × Nat × Bool) → State → State
  | _, [], s => s
  | i, (off, n, last) :: r, s =>
    let dst := x % 1024
    let far := !s.sameRack dst
    let q0 := lineHash raddr % 4
    let dies := s.bulkDies q0 dst
    let q := dies.getD (i % max dies.length 1) q0
    let pk : Pkt := { op := if write then 4 else 5, flags := 2 * b2n last, addr := raddr + off, window := x / 2 ^ 10 % 256, target := dst,
                      key := x / 2 ^ 18 % 2 ^ 24, len := n, tag := seq, data := if write then s.bytes (laddr + off) n else [] }
    let own : Own := ⟨if write then 2 else 4, seq, 0, 0, off, n, if far && !write then (raddr + off) % 4096 else 0⟩
    State.sendCopy seq x raddr laddr write (i + 1) r (s.place1 q (16 * q) (if write then 5 else 4) false (12 + q) pk own)

/-- A remote copy starts: an own-device target is carried out here, an unreachable one fails, else its packets go out
(R70, R215, R297, R354, R358). -/
def State.startCopy (s : State) (d : Desc) (write : Bool) : State :=
  let n := copyLen d
  let x := d.f 0x30 8
  let dst := x % 1024
  let laddr := if write then d.f 0x10 8 else d.f 0x18 8
  let raddr := if write then d.f 0x18 8 else d.f 0x10 8
  let v := s.areaFault laddr n (!write)
  if v ≠ 0 then s.finishDesc d.seq v 0 0
  else if write ∧ s.anyBad laddr n then s.finishDesc d.seq 0x60 0 0
  else if dst = s.device then
    let w := s.accessCheck (x / 2 ^ 10 % 256) (x / 2 ^ 18 % 2 ^ 24) (if write then 1 else 0) raddr n
    if w ≠ 0 then s.finishDesc d.seq w dst 0
    else (if write then s.store raddr (s.bytes laddr n) else s.store laddr (s.bytes raddr n)).finishDesc d.seq 0 0 0
  else if !s.reachable dst then s.finishDesc d.seq 0x12 dst 0
  else
    let ps := s.copyPieces dst raddr n write
    let o : DescOp := ⟨ps.length, 0, 0, laddr⟩
    State.sendCopy d.seq x raddr laddr write 0 ps
      { s with rack := { s.rack with descOps := tput (fun _ => ⟨0, 0, 0, 0⟩) s.rack.descOps d.seq o } }

/-- Whether a remote copy waits for the homes of its areas on this device (R217, R218). -/
def State.remoteWaits (s : State) (seq : Nat) (write : Bool) : Bool :=
  match s.desc seq with
  | none => false
  | some d =>
    let laddr := if write then d.f 0x10 8 else d.f 0x18 8
    let raddr := if write then d.f 0x18 8 else d.f 0x10 8
    s.copyWaits laddr (copyLen d) (!write) || (d.f 0x30 8 % 1024 == s.device && s.copyWaits raddr (copyLen d) write)

/-- COPY_TO_REMOTE: device memory to a window of another device (R354). -/
def execCopyToRemote (seq : BitVec 32) (s : State) : Out :=
  if s.remoteWaits seq.toNat true then .next s
  else .next (s.startDesc seq (fun d => descType d.bytes == 2 && d.f 0x28 1 == 3) fun t d => t.startCopy d true)

/-- COPY_FROM_REMOTE: a window of another device to device memory (R354). -/
def execCopyFromRemote (seq : BitVec 32) (s : State) : Out :=
  if s.remoteWaits seq.toNat false then .next s
  else .next (s.startDesc seq (fun d => descType d.bytes == 2 && d.f 0x28 1 == 4) fun t d => t.startCopy d false)

end Sys2Proof.Machine
end

