-- ==== Sys2Proof/Machine/Complete.lean ====
section
/-!
DEFINITION. Completion of descriptors (11_host_and_command.md R357; R253, R351, R448, R455, R460).
-/
namespace Sys2Proof.Machine

/-- What a remote copy, a collective or a PAIR ends in once its last packet or checkpoint is answered (R324, R354, R358, R450). -/
def State.settleDesc (s : State) (seq : Nat) : State :=
  let s1 := s.collEnd.pairDone
  match s1.desc seq with
  | none => s1
  | some d =>
    let o : DescOp := tget (fun _ => ⟨0, 0, 0, 0⟩) s1.rack.descOps seq
    if d.phase = 1 ∧ descType d.bytes = 2 ∧ 3 ≤ d.f 0x28 1 ∧ o.left = 0 then
      let s2 := { s1 with rack := { s1.rack with descOps := tput (fun _ => ⟨0, 0, 0, 0⟩) s1.rack.descOps seq ⟨0, 0, 0, 0⟩ } }
      if o.status = 0 then s2.finishDesc seq 0 0 0 else s2.finishDesc seq o.status (d.f 0x30 2 % 1024) o.moved
    else s1

/-- DESCRIPTOR_COMPLETE: a descriptor whose operation has ended completes: counter DONE_CTR, its record unless QUIET and DONE, and IDLE
of its ring. A HOLD keeps it, a result copy waits for the command port, a step launch waits for its checkpoints, and a device out of
service completes nothing with DONE (R253, R351, R357, R409, R448, R455, R460). -/
def execDescriptorComplete (seq : BitVec 32) (s : State) : Out :=
  match (s.settleDesc seq.toNat).desc seq.toNat with
  | none => .next s
  | some d0 =>
    let s := s.settleDesc seq.toNat
    let stuck := s.rd F.LVS_STATUS_STATE == 3 || s.lv.holds.any (fun (h : Nat × Nat × Nat) => h.1 == d0.seq) ||
      (s.noService && s.rd F.LVS_STATUS_STATE != 7) || !s.pwr.ioHalt.isEmpty || (d0.copy && !s.absent && !s.hostOpen)
    if d0.phase ≠ 2 ∨ stuck then .next s
    else
      let c := if d0.copy then s.resultCopy d0 else (s, d0)
      let s := c.1
      let d := c.2
      let st := if s.rd F.LVS_STATUS_STATE = 7 ∧ d.status < 2 then 0x13 else d.status
      let s1 := s.setCmd { s.cmd with descs := s.cmd.descs.filter (fun e => e.seq != d.seq) }
      let s2 := if s1.cmd.descs.any (fun e => e.ring == d.ring) then s1 else s1.wr F.RNG_CMD_CFG_IDLE d.ring 1
      let s3 := if bitAt (descFlags d.bytes) 2 then
          s2.setCounter (d.f 2 1) ((s2.counter (d.f 2 1) + 1) % 2 ^ 64) else s2
      if d.quiet ∧ st = 0 then .next s3
      else .next (s3.writeRecord d.ring (d.f 8 8) d.seq st (descType d.bytes) d.detail d.value)

end Sys2Proof.Machine
end

