-- ==== Sys2Proof/Machine/Control.lean ====
section
/-!
DEFINITION. Branches, calls and hardware loops of the sequencer (02_cores_and_engines.md R50, R52, R53).
-/
namespace Sys2Proof.Machine

/-- A conditional branch on RS1 and RS2 (R50, R52). -/
def issueBR (opc : Nat) (cond : W64 → W64 → Bool) (lc : Fin 192) (w : W64) (s : State) : Out :=
  issue s lc w (opcodeOf w == opc) fun c =>
    if brReserved w then s.coreFault lc 2 c.pc w
    else if cond (c.s (fld w 55 51)) (c.s (fld w 50 46)) then s.branchTo lc c (c.pc + soff w)
    else s.nextPc lc c

/-- BEQ (R50): branch if RS1 = RS2. -/
def execBeq (lc : Fin 192) (w : W64) (s : State) : Out := issueBR 0x30 (fun x y => x == y) lc w s

/-- BNE (R50): branch if RS1 ≠ RS2. -/
def execBne (lc : Fin 192) (w : W64) (s : State) : Out := issueBR 0x31 (fun x y => x != y) lc w s

/-- BLT (R50): branch if RS1 < RS2 signed. -/
def execBlt (lc : Fin 192) (w : W64) (s : State) : Out := issueBR 0x32 (fun x y => decide (x.toInt < y.toInt)) lc w s

/-- BGE (R50): branch if RS1 ≥ RS2 signed. -/
def execBge (lc : Fin 192) (w : W64) (s : State) : Out := issueBR 0x33 (fun x y => decide (y.toInt ≤ x.toInt)) lc w s

/-- BLTU (R50): branch if RS1 < RS2 unsigned. -/
def execBltu (lc : Fin 192) (w : W64) (s : State) : Out := issueBR 0x34 (fun x y => decide (x.toNat < y.toNat)) lc w s

/-- BGEU (R50): branch if RS1 ≥ RS2 unsigned. -/
def execBgeu (lc : Fin 192) (w : W64) (s : State) : Out := issueBR 0x35 (fun x y => decide (y.toNat ≤ x.toNat)) lc w s

/-- JMP (R50): branch always; RS1 and RS2 are reserved. -/
def execJmp (lc : Fin 192) (w : W64) (s : State) : Out :=
  issue s lc w (opcodeOf w == 0x36) fun c =>
    if fld w 55 32 != 0 then s.coreFault lc 2 c.pc w else s.branchTo lc c (c.pc + soff w)

/-- CALL (R50, R53): s31 = index of the next instruction, then branch; LOOP_VIOLATION inside a loop body. -/
def execCall (lc : Fin 192) (w : W64) (s : State) : Out :=
  issue s lc w (opcodeOf w == 0x37) fun c =>
    if fld w 55 32 != 0 then s.coreFault lc 2 c.pc w
    else if c.loops ≠ [] then s.coreFault lc 4 c.pc w
    else s.branchTo lc (c.setS 31 (BitVec.ofNat 64 (c.pc + 1))) (c.pc + soff w)

/-- RET (R50, R53): continue at instruction index s31[31:0]; LOOP_VIOLATION inside a loop body. -/
def execRet (lc : Fin 192) (w : W64) (s : State) : Out :=
  issue s lc w (opcodeOf w == 0x38) fun c =>
    if fld w 55 0 != 0 then s.coreFault lc 2 c.pc w
    else if c.loops ≠ [] then s.coreFault lc 4 c.pc w
    else s.branchTo lc c ((c.s 31).toNat % 2 ^ 32 : Nat)

/-- Conditions that make a LOOP raise LOOP_VIOLATION (R53): no body, a fifth level, a body past its enclosing one. -/
def loopBad (c : Core) (body : Nat) : Bool :=
  body == 0 || decide (4 ≤ c.loops.length) || c.loops.any (fun l => decide (l.stop < c.pc + 1 + body))

/-- LOOP (R53): run the next BODY instructions N times; N is RS[31:0], or CNT when RS is s0; N = 0 skips the body. -/
def execLoop (lc : Fin 192) (w : W64) (s : State) : Out :=
  issue s lc w (opcodeOf w == 0x39) fun c =>
    let rs := fld w 55 51
    let n := if rs = 0 then fld w 47 32 else (c.s rs).toNat % 2 ^ 32
    let body := fld w 15 0
    if fld w 50 48 != 0 || fld w 31 16 != 0 then s.coreFault lc 2 c.pc w
    else if loopBad c body then s.coreFault lc 4 c.pc w
    else if n = 0 then s.fallTo lc c (c.pc + 1 + body)
    else s.nextPc lc { c with loops := ⟨c.pc + 1, c.pc + 1 + body, n⟩ :: c.loops }

end Sys2Proof.Machine
end

