-- ==== Sys2Proof/Machine/Reset.lean ====
section
/-!
DEFINITION. Cold and warm resets of the package: what each clears and keeps, and resets that meet (14_startup_and_calibration.md R431,
R432, R434, R507).
-/
namespace Sys2Proof.Machine

/-- Copy the first `n` instances of a field from one state to another. -/
def State.keepField (old new : State) (f : Fld) (n : Nat) : State :=
  (List.range n).foldl (fun (t : State) i => t.wr f i (old.rd f i)) new

/-- Feeds and rails are the board's: their status stands across every reset (log entry 40). -/
def supplyFields : List (Fld × Nat) :=
  [(F.PWR_FEED_HBM_OK, 1), (F.PWR_FEED_VHOST_B_OK, 1), (F.PWR_FEED_VHOST_A_OK, 1), (F.PWR_FEED_VPH_B_OK, 1),
   (F.PWR_FEED_VPH_A_OK, 1), (F.PWR_FEED_VIN_B_OK, 1), (F.PWR_FEED_VIN_A_OK, 1)]

/-- The status fields that show what a warm reset keeps (R432): strap words and retired dies, core map, vertical lanes, spares and
reserve slots, broken sensors and phases, remapped pages. -/
def warmFields : List (Fld × Nat) :=
  [(F.GLB_INV_STATE, 33), (F.GLB_INV_STRAP_OK, 33), (F.GLB_INV_CAUSE, 33), (F.GLB_INV_STRAP, 33), (F.STK_LCMAP_PRESENT, 192),
   (F.STK_LCMAP_PC, 192), (F.STK_PCORE_GOOD, 12), (F.STK_VB_BUNDLE_STATE, 1536), (F.STK_VB_BUNDLE_HALF_SEL, 1536),
   (F.STK_VB_BUNDLE_SBS_USED, 1536), (F.STK_VB_BUNDLE_SPARES, 1536), (F.STK_VB_STACK_CUT, 12), (F.FAB_PAIR_SHORT, 256),
   (F.FAB_SPARE_TX_USED, 16),
   (F.FAB_SPARE_RX_USED, 16), (F.FAB_PAIR_RESERVE_USED, 256), (F.PRT_PORT_SPARE_TX, 24), (F.PRT_PORT_SPARE_RX, 24),
   (F.LSR_P0_A_P0, 12), (F.LSR_P0_B_P0, 12), (F.LSR_MOD_PRESENT, 12), (F.THM_BROKEN_PAIRS, 32), (F.THM_DIE_BROKEN, 32),
   (F.PWR_DIE_PHASES, 12), (F.MEM_HBM_RETIRED, 12), (F.MEM_HBM_RETIRED_PAGES, 12)]

/-- What of watch rooms and flash outlives a reset: the flashes, the fuses, the attestation bucket (R432, R476, R482, R485). -/
def FwSt.afterReset (f : FwSt) (due : Nat) : FwSt :=
  { due := due, refHeld := f.refHeld, refLost := f.refLost, slots := f.slots, bootIds := f.bootIds, schemas := f.schemas,
    stored := f.stored, policy := f.policy, fuse0 := f.fuse0, fuse1 := f.fuse1, persisted := f.persisted, leavesLow := f.leavesLow,
    bucket := f.bucket, bucketAt := f.bucketAt, busyAt := f.busyAt }

/-- Cold reset of the whole package: every register at its reset value, every memory and queue empty; what flash and fuses keep
stays, and a cold start is due (R431, R432, R507). The command queue, local time, the host's memory and what has been sent are
not the package's. -/
def State.coldReset (s : State) (cause : Nat) : State :=
  let z : State := { pending := s.pending, free := s.free, now := s.now, hmem := s.hmem, out := s.out,
                     fw := s.fw.afterReset 1, mem := { flashRows := s.mem.flashRows },
                     stack := { wornFlash := s.stack.wornFlash, gone := s.stack.gone }, pwr := { hbmBad := s.pwr.hbmBad },
                     cmd := { ddr := s.cmd.ddr } }
  let z1 := supplyFields.foldl (fun (t : State) f => s.keepField t f.1 f.2) z
  (z1.wr F.GLB_RESET_CAUSE 0 cause).wr F.GLB_START_STEP 0 1

/-- A ring across a warm reset: retired rings stay so and spares keep their channels (R165, R432). -/
def RingSt.kept (r : RingSt) : RingSt :=
  if r.st = 4 then { st := 4 } else { chan := r.chan }

/-- Warm reset of the whole package: as a cold reset, but HBM contents in self-refresh, page remap, core map, repairs, broken sensors
and laser P0 stay, and a FAILED lower die stays so (R251); a warm start is due (R431 to R433). -/
def State.warmReset (s : State) (cause : Nat) : State :=
  let c0 := warmFields.foldl (fun (t : State) f => s.keepField t f.1 f.2) (s.coldReset cause)
  let c := ((List.range 16).filter (fun n => s.rd F.STK_DIE_STATE n == 4)).foldl (fun (t : State) n => t.wr F.STK_DIE_STATE n 4) c0
  let hbm := 0x38000000000
  let c1 : State := { c with
    dmem := s.dmem.filter (fun e => e.1 < hbm),
    poison := s.poison.filter (fun u => u < hbm / 32),
    mem := { c.mem with remap := s.mem.remap, full := s.mem.full },
    fab := { rings := tmap (fun _ => {}) (fun _ r => r.kept) s.fab.rings, codes := s.fab.codes, steer := s.fab.steer,
             noSlot := s.fab.noSlot, out := s.fab.out },
    light := { mods := tmap (fun _ => {}) (fun _ l => { a := { p0 := l.a.p0 }, b := { p0 := l.b.p0 } }) s.light.mods },
    stack := { c.stack with bundles := tmap (fun _ => {}) (fun _ b => { bad := b.bad, bind := b.bind, side := b.side }) s.stack.bundles,
                            narrow := s.stack.narrow },
    pwr := { c.pwr with sensors := s.pwr.sensors, phases := s.pwr.phases,
                        src := s.pwr.src.filter (fun e => e.1 % 16 == 10 && decide (e.1 < 192)) },
    fw := { c.fw with due := 2 } }
  (c1.wr F.GLB_START_STEP 0 0).wr F.GLB_START_WARM 0 1

/-- A reset is asked for (R431, R434): cold acts at once; a warm one asked for before step 12 of a cold start is carried out as cold,
and one during a warm start begins it again. A failed warm start is left only by a cold reset (R429). -/
def State.askReset (s : State) (cold : Bool) (cause : Nat) : State :=
  if cold then s.coldReset cause
  else if s.bit F.GLB_START_DONE ∨ s.fw.due = 2 then s.warmReset cause
  else if s.bit F.GLB_START_WARM then s
  else s.coldReset cause

end Sys2Proof.Machine
end

