-- ==== Sys2Proof/Machine/Sha.lean ====
section
/-!
DEFINITION. SHA-256 as the standard FIPS 180-4 defines it, which the manual names for image digests, measurements and the repair
digest (R474, R475, R487; log entry 6).
-/
namespace Sys2Proof.Machine

/-- The first 32 bits of the fractional part of the k-th root of `p`. -/
def rootFrac (k p : Nat) : Word := BitVec.ofNat 32 (rootBelow k (p * 2 ^ (32 * k)) 40 0)

/-- The first 64 primes. -/
def primes64 : List Nat :=
  (List.range 312).filter (fun n => 2 ≤ n && ((List.range 18).drop 2).all (fun d => n ≤ d || n % d != 0))

/-- Round constants: the fractions of the cube roots of the first 64 primes. -/
def shaK : List Word := primes64.map (rootFrac 3)

/-- The initial hash value: the fractions of the square roots of the first eight primes. -/
def shaInit : List Word := (primes64.take 8).map (rootFrac 2)

/-- The exclusive or of three right rotations of a word. -/
def rot3 (i j k : Nat) (x : Word) : Word := x.rotateRight i ^^^ x.rotateRight j ^^^ x.rotateRight k

/-- Two right rotations and a right shift of a word, combined by exclusive or. -/
def mix3 (i j k : Nat) (x : Word) : Word := x.rotateRight i ^^^ x.rotateRight j ^^^ (x >>> k)

/-- The message schedule: `n` words are appended, each from those 2, 7, 15 and 16 places before it. The list holds the words newest
first. -/
def shaSchedule : Nat → List Word → List Word
  | 0, w => w
  | n + 1, w => shaSchedule n ((mix3 17 19 10 (w.getD 1 0) + w.getD 6 0 + mix3 7 18 3 (w.getD 14 0) + w.getD 15 0) :: w)

/-- One round on the eight working words, with the sum of its round constant and its word of the schedule. -/
def shaStep (v : List Word) (kw : Word) : List Word :=
  match v with
  | [a, b, c, d, e, f, g, h] =>
    let pick := (e &&& f) ||| (~~~e &&& g)
    let most := (a &&& (b ||| c)) ||| (b &&& c)
    let t := h + rot3 6 11 25 e + pick + kw
    [t + rot3 2 13 22 a + most, a, b, c, d + t, e, f, g]
  | _ => v

/-- One block of sixteen words added to the hash value. -/
def shaBlock (hash block : List Word) : List Word :=
  let w := (shaSchedule 48 block.reverse).reverse
  List.zipWith (· + ·) hash ((List.zipWith (· + ·) shaK w).foldl shaStep hash)

/-- The words of a byte string, high byte first; the fuel bounds their number. -/
def beWords : Nat → List Byte → List Word
  | 0, _ => []
  | n + 1, m => BitVec.ofNat 32 ((m.take 4).foldl (fun a b => 256 * a + b.toNat) 0) :: beWords n (m.drop 4)

/-- The hash value after `n` blocks. -/
def shaBlocks : Nat → List Word → List Word → List Word
  | 0, _, hash => hash
  | n + 1, w, hash => shaBlocks n (w.drop 16) (shaBlock hash (w.take 16))

/-- Bytes of a number, high byte first. -/
def beBytes (n v : Nat) : List Byte := (List.range n).reverse.map (fun i => BitVec.ofNat 8 (v / 256 ^ i))

/-- The message, a one bit, zeros and its length in bits, in whole blocks of 64 bytes. -/
def shaPad (m : List Byte) : List Byte :=
  m ++ [0x80] ++ List.replicate ((119 - m.length % 64) % 64) 0 ++ beBytes 8 (8 * m.length)

/-- The 32 bytes of the digest of a byte string. -/
def sha256 (m : List Byte) : List Byte :=
  let p := shaPad m
  (shaBlocks (p.length / 64) (beWords (p.length / 4) p) shaInit).flatMap (fun w => beBytes 4 w.toNat)

end Sys2Proof.Machine
end

