-- ==== Sys2Proof/Machine/Firmware.lean ====
section
/-!
DEFINITION. Watch rooms, images and the tender (16_firmware_and_security.md R468 to R483, R485, R490 to R497). Verdicts of the
security engine and what the flashes and fuses do come with the commands (log entry 6).
-/
namespace Sys2Proof.Machine

/-! ## Image headers (R474) -/

/-- The 16 bytes of the unit serial. -/
def serial : List Byte := (List.range 16).map Config.serialByte

def hdrHw (h : List Byte) : Nat := at_ h 8 4
def hdrVersion (h : List Byte) : Nat := at_ h 0x20 8
def hdrSvn (h : List Byte) : Nat := at_ h 0x28 1
def hdrPieces (h : List Byte) : Nat := at_ h 0x2C 4
def hdrLength (h : List Byte) : Nat := at_ h 0x30 8
def hdrHoMin (h : List Byte) : Nat := at_ h 0x3C 2
def hdrHoVer (h : List Byte) : Nat := at_ h 0x3E 2
def hdrDigest (h : List Byte) : List Byte := (h.drop 0x40).take 32
def hdrSchema (h : List Byte) (g : Nat) : Nat := at_ h (0x60 + 2 * g) 2
def hdrMigrateMin (h : List Byte) (g : Nat) : Nat := at_ h (0x70 + 2 * g) 2

/-! ## What the watch rooms show -/

/-- SOURCE of what the active watch room reports (R544). -/
def State.fwSource (s : State) : Nat := dieIO (s.activeRoom.getD 0)

/-- Header of the running image: that of the active watch room. -/
def State.running (s : State) : List Byte := (s.room (s.activeRoom.getD 0)).hdr

/-- Fused security version: the higher of the two (log entry 41). -/
def State.svnFuse (s : State) : Nat := max s.fw.fuse0 s.fw.fuse1

/-- Identity leaves left (R485, R497). -/
def State.leavesLeft (s : State) : Nat := 2 ^ 20 - s.fw.leaf

/-- Bring the registers that show the watch rooms up to date, with the UART that drives MON_TX and condition 2 (R448, R469, R471,
R496, R497, R516). -/
def State.fwShow (s : State) : State :=
  let a := s.activeRoom.getD 0
  let uart := if a ≤ 1 then a else b2n (!s.inService (dieIO 0))
  let s1 := ((s.wr F.FWU_STATUS_ACTIVE_WR 0 a).wr F.FWU_STATUS_STANDBY_WR 0 (s.standbyRoom.getD 0)).wr F.FWU_STATUS_STANDBY_OK 0
    (b2n s.standbyRoom.isSome)
  let s2 := (s1.wr F.FWU_IMAGE_LO_VERSION_LO 0 (hdrVersion s.running % 2 ^ 32)).wr F.FWU_IMAGE_HI_VERSION_HI 0
    (hdrVersion s.running / 2 ^ 32)
  let s3 := (s2.wr F.SEC_STATUS_SVN 0 s.svnFuse).wr F.SEC_STATUS_LEAVES 0 s.leavesLeft
  (s3.wr F.MON_STATUS_UART 0 uart).setCond 2 s.standbyRoom.isNone

/-- The checks of R475 that need no signature and no digest. -/
def State.headerGood (s : State) (h : List Byte) : Bool :=
  at_ h 0 4 == 0x46574D4C && at_ h 4 2 == 1 && hdrHw h == deviceId &&
  (!bitAt (at_ h 0x0C 4) 0 || (h.drop 0x10).take 16 == serial) && decide (s.svnFuse ≤ hdrSvn h)

/-- A watch room loads an image (R469). -/
def State.loadRoom (s : State) (q : Nat) (hdr : List Byte) : State :=
  s.setRoom q { s.room q with role := 1, hdr := hdr, verified := false }

/-- Without a standby the active watch room chooses one in the order IO1, IO0, IO2, IO3, after step 12 (R469). -/
def State.fwSettle (s : State) : State :=
  let next := [1, 0, 2, 3].find? (fun q => (s.room q).role == 0 && s.inService (dieIO q))
  match s.activeRoom, s.standbyRoom, s.roomIn 1, next with
  | some _, none, none, some q => if s.bit F.GLB_START_DONE then (s.loadRoom q s.running).fwShow else s.fwShow
  | _, _, _, _ => s.fwShow

/-- A watch room fails (R469). -/
def State.failRoom (s : State) (q : Nat) : State :=
  let w := s.room q
  s.setRoom q { w with role := 4, verified := false, failPrev := w.failAt, failAt := s.now + 1 }

/-- LEAVES_LOW, once, when fewer than 65,536 leaves remain (R485). -/
def State.checkLeaves (s : State) : State :=
  if s.leavesLeft < 65536 ∧ !s.fw.leavesLow then
    let s1 := s.raise 0x0C05 s.fwSource []
    s1.setFw { s1.fw with leavesLow := true }
  else s

/-- A new batch of identity leaves begins at the highest persisted index (R485). -/
def State.newBatch (s : State) : State := (s.setFw { s.fw with leaf := s.fw.persisted, batch := s.fw.persisted }).checkLeaves

/-- The monitor session ends, with MON_LOCKED; the reason is its position in R523: 0 LOCK, 1 minutes, 2 idle, 3 LOCKOUT, 4 handover or
failover. An unlock that reads its signature is given up. -/
def State.monLock (s : State) (reason : Nat) : State :=
  let s1 : State := { s with mon := { s.mon with unlock := none, scope := 0 } }
  if s.mon.scope = 0 then s1 else (s1.wr F.MON_STATUS_SESSION 0 0).raise 0x0C22 s.fwSource [(1, reason)]

/-! ## Slots (R476) -/

def State.slot (s : State) (f k : Nat) : Slot := tget (fun _ => {}) s.fw.slots (2 * f + k)

def State.setSlot (s : State) (f k : Nat) (x : Slot) : State :=
  s.setFw { s.fw with slots := tput (fun _ => {}) s.fw.slots (2 * f + k) x }

/-- A flash answers: `ok` of FLASH0 and FLASH1. -/
def flashOk (e : FwEnv) (f : Nat) : Bool := if f = 0 then e.flash0 else e.flash1

/-- Offset of slot `k` within a flash. -/
def slotOffset (k : Nat) : Nat := k * 0x1800000

/-- Change slot `k` on every flash that takes the write; FLASH_FAULT of one that does not (R477). -/
def State.writeSlots (s : State) (env : FwEnv) (k : Nat) (f : Slot → Slot) : State :=
  [0, 1].foldl (fun (t : State) x =>
    if flashOk env x then t.setSlot x k (f (t.slot x k))
    else ({ t with fw := { t.fw with flashBad := t.fw.flashBad.add x } } : State).raise 0x0B05 (dieIO x) [(1, x), (4, slotOffset k)]) s

/-- The flash in use: FLASH0, or FLASH1 once FLASH0 has failed or where its image was started instead (R477). -/
def State.goodFlash (s : State) : Nat :=
  if s.fw.flashBad.contains 0 || ((s.slot 0 0).state != 3 && (s.slot 0 1).state != 3) then 1 else 0

/-- The inactive slot, which the tender fills: the one that is not ACTIVE on the flash in use. -/
def State.spareSlot (s : State) : Nat := if (s.slot s.goodFlash 0).state = 3 then 1 else 0

/-- The image that arrives or is ready. -/
def State.newSlot (s : State) : Slot := s.slot s.goodFlash s.spareSlot

/-! ## The tender (R478) -/

def State.tender (s : State) : Nat := s.rd F.FWU_STATUS_TENDER

def State.setTender (s : State) (t : Nat) : State := s.wr F.FWU_STATUS_TENDER 0 t

/-- Show the pieces that have arrived. -/
def State.showPieces (s : State) : State :=
  (s.wr F.FWU_STATUS_DONE 0 s.newSlot.have_.length).wr F.FWU_STATUS_PIECES 0 (hdrPieces s.newSlot.hdr)

/-- The tender returns to IDLE with the new slot EMPTY (R478). -/
def State.dropImage (s : State) (env : FwEnv) : State :=
  let s1 := s.writeSlots env s.spareSlot (fun _ => {})
  (({ s1 with fw := { s1.fw with src := 2, part := [], asked := false, bad := [] } } : State).setTender 0).showPieces

/-- Reason to refuse an offer (R490), or 0: the lowest that applies. -/
def State.offerRefusal (s : State) (h m : List Byte) (sig : Bool) : Nat :=
  let t := s.tender
  if !sig then 1
  else if at_ h 0 4 ≠ 0x46574D4C ∨ at_ h 4 2 ≠ 1 ∨ hdrHw h ≠ deviceId then 2
  else if bitAt (at_ h 0x0C 4) 0 ∧ (h.drop 0x10).take 16 ≠ (List.range 16).map Config.serialByte then 3
  else if hdrSvn h < s.svnFuse then 4
  else if hdrPieces h = 0 ∨ 383 < hdrPieces h ∨ 65536 * hdrPieces h < hdrLength h then 5
  else if m.length ≠ 32 * hdrPieces h ∨ sha256 m ≠ hdrDigest h then 6
  else if 2 ≤ t ∨ (t = 1 ∧ hdrDigest s.newSlot.hdr ≠ hdrDigest h) then 7
  else if hdrHoVer s.running < hdrHoMin h ∨ hdrHoVer h < hdrHoVer s.running then 8
  else 0

/-- An offer of an image from a source: 0 device memory at `addr`, 1 the BMC. It is refused with FW_REFUSED, arrives, or goes on from
the bitmap where it is the image that was arriving (R478). -/
def State.offer (s : State) (env : FwEnv) (src addr : Nat) (h m : List Byte) : State × Nat :=
  let r := s.offerRefusal h m env.sig
  if r ≠ 0 then ((s.wr F.FWU_STATUS_REASON 0 r).raise 0x0B07 s.fwSource [(1, r)], r)
  else
    let f : FwSt := { s.fw with src := src, addr := addr, part := [], asked := false, bad := [] }
    if s.tender = 1 then (s.setFw f, 0)
    else (((s.setFw f).writeSlots env s.spareSlot (fun _ => { state := 1, hdr := h, manifest := m })).setTender 1 |>.showPieces, 0)

/-- OFFER from FWU_SRC: header, manifest and payload in device memory (R478, R495). -/
def State.offerMem (s : State) (env : FwEnv) : State × Nat :=
  let a := s.rd F.FWU_SRC_HI_SRC_HI * 2 ^ 32 + s.rd F.FWU_SRC_LO_SRC_LO * 4096
  let h := s.bytes a 5332
  s.offer { env with sig := env.sig && s.liveOk a 5332 && !s.anyBad a 5332 } 0 a h (s.bytes (a + 5332) (32 * min (hdrPieces h) 383))

/-- CANCEL (R478). -/
def State.cancelImage (s : State) (env : FwEnv) : State :=
  if 1 ≤ s.tender ∧ s.tender ≤ 3 then s.dropImage env else s

/-- T of FWU_ACT (R479). -/
def State.actTime (s : State) : Nat := s.rd F.FWU_ACT_HI_T_HI * 2 ^ 32 + s.rd F.FWU_ACT_LO_T_LO

/-- ARM: READY, and T at least STAGE_S + 1 s away (R478, R479). -/
def State.arm (s : State) : State :=
  if s.tender = 2 ∧ s.bt + (s.rd F.FWU_ACT_CFG_STAGE_S + 1) * nsSec ≤ s.actTime then
    (s.setTender 3).raise 0x0B09 s.fwSource [(8, s.actTime)]
  else s

/-- DISARM (R478). -/
def State.disarm (s : State) : State := if s.tender = 3 then s.setTender 2 else s

/-- COMMIT_SVN: the fuses of IO0 and IO1 are burned to the running image's SVN and slots below it are BAD; FUSE_FAULT of a fuse that does
not burn (R482). -/
def State.commitSvn (s : State) (env : FwEnv) : State × Bool :=
  let v := hdrSvn s.running
  if s.tender ≠ 0 ∨ v ≤ s.svnFuse then (s, false)
  else
    let s1 := s.setFw { s.fw with fuse0 := if env.burn0 then v else s.fw.fuse0, fuse1 := if env.burn1 then v else s.fw.fuse1 }
    let s2 := if env.burn0 then s1 else s1.raise 0x0C03 (dieIO 0) [(1, dieIO 0)]
    let s3 := if env.burn1 then s2 else s2.raise 0x0C03 (dieIO 1) [(1, dieIO 1)]
    let s4 := if env.burn0 ∧ env.burn1 then s3.raise 0x0C02 s.fwSource [(1, v)] else s3
    let bad : FwSt := { s4.fw with slots := tmap (fun _ => ({} : Slot)) (fun _ x =>
      if x.hdr ≠ [] ∧ hdrSvn x.hdr < s4.svnFuse then { x with state := 5 } else x) s4.fw.slots }
    ((s4.setFw bad).fwShow, env.burn0 && env.burn1)

/-! ## Settings (R483) -/

/-- Bits of a register word that a settings group holds: 0 IDENT, 1 TIME, 2 PRESETS, 3 EXPERT, 4 PLACEMENT. -/
def groupMask (g off : Nat) : Word :=
  let of := fun (f : Fld) (n : Nat) =>
    if f.base ≤ off ∧ off < f.base + f.stride * n ∧ (off - f.base) % f.stride = 0 then bitsSet 0 f.hi f.lo (2 ^ f.width - 1) else 0
  let all := fun (l : List (Fld × Nat)) => l.foldl (fun (w : Word) e => w ||| of e.1 e.2) 0
  match g with
  | 0 => all [(F.PRT_IDENT_RACK, 1), (F.PRT_IDENT_SLOT, 1), (F.PRT_IDENT_VALID, 1), (F.PRT_CTRL_TOPOLOGY, 1)]
  | 1 => all [(F.CLK_BT_CTRL_ROOT, 1), (F.CLK_BT_CTRL_ROOT2, 1), (F.CLK_BT_CTRL_PPS_EN, 1)]
  | 2 => all [(F.GLB_CAL_CTRL_PRESET, 1), (F.CLK_CTRL_PRESET, 1), (F.PWR_CTRL_PRESET, 1), (F.THM_CTRL_PRESET, 1),
              (F.FAB_CTRL_LOCK_PRESET, 1), (F.LSR_CTRL_PRESET, 1), (F.PRT_CTRL_PRESET, 1), (F.PRT_E2E_CTRL_PRESET, 1),
              (F.MEM_CTRL_PRESET, 1), (F.STK_VB_CTRL_PRESET, 1), (F.FWU_CTRL_PRESET, 1)]
  | 3 => match regRow off with
    | none => 0
    | some r => r.fields.foldl (fun (w : Word) f => if f.acc = .rwx then w ||| bitsSet 0 f.hi f.lo (2 ^ (f.hi - f.lo + 1) - 1) else w) 0
  | _ => all [(F.STK_SPARE_ORDER_USE_ORDER, 12), (F.STK_SPARE_ORDER_FIRST, 12), (F.STK_SPARE_ORDER_SECOND, 12), (F.LSR_MOD_PREFER, 12)]

/-- SAVE_SETTINGS: every group with the running image's schema, and POLICY, to the flashes that take them. A register at its reset
value needs no entry (R483, R495). -/
def State.saveSettings (s : State) (env : FwEnv) : State :=
  let entries := (List.range 5).flatMap (fun g => s.regs.filterMap (fun (e : Nat × Word) =>
    let m := groupMask g e.1
    if m = 0 then none else some (g, e.1, m, e.2 &&& m)))
  let schemas := (List.range 5).map (fun g => (g, hdrSchema s.running g + 1))
  let s1 := [0, 1].foldl (fun (t : State) x =>
    if flashOk env x then t
    else ({ t with fw := { t.fw with flashBad := t.fw.flashBad.add x } } : State).raise 0x0B05 (dieIO x) [(1, x), (4, 0x3000000)]) s
  if env.flash0 ∨ env.flash1 then
    s1.setFw { s1.fw with stored := entries, schemas := schemas, policy := s.rd F.FWU_SETTINGS_POLICY }
  else s1

/-- Settings loaded at a start (R432, R483, R507). -/
def State.loadSettings (s : State) : State :=
  let s1 := s.fw.stored.foldl (fun (t : State) (e : Nat × Nat × Word × Word) =>
    t.setReg e.2.1 ((t.reg e.2.1 &&& ~~~e.2.2.1) ||| e.2.2.2)) s
  s1.wr F.FWU_SETTINGS_POLICY 0 s.fw.policy

/-- At confirmation each stored group whose schema differs from the new image's is migrated or takes its reset values, by POLICY
(R483). The conversion of values is the image's own; the model keeps them (log entry 42). -/
def State.migrateSettings (s : State) (h : List Byte) : State :=
  (List.range 5).foldl (fun (t : State) g =>
    let old := tget (fun _ => 0) t.fw.schemas g
    let new := hdrSchema h g
    if old = 0 ∨ old = new + 1 then t
    else
      let t1 := t.setFw { t.fw with schemas := tput (fun _ => 0) t.fw.schemas g (new + 1) }
      if bitAt (s.rd F.FWU_SETTINGS_POLICY) g ∧ hdrMigrateMin h g ≤ old - 1 ∧ old - 1 ≤ new then
        t1.raise 0x0B0F s.fwSource [(1, g), (2, old - 1), (2, new)]
      else
        (t1.setFw { t1.fw with stored := t1.fw.stored.filter (fun (e : Nat × Nat × Word × Word) => e.1 != g) }).raise 0x0B10 s.fwSource [(1, g)]) s

/-! ## Arrival -/

/-- Whether the source may be read for 4,096 bytes more: at most CAP kB/s over any 10 s (R478). -/
def State.mayRead (s : State) : Bool :=
  let last := s.fw.reads.filter (fun (e : Nat × Nat) => decide (s.now < e.1 + 10 * nsSec))
  decide ((last.map (·.2)).foldl (· + ·) 4096 ≤ s.rd F.FWU_CTRL_CAP * 10000)

/-- The piece that is fetched next: the lowest that has not arrived. -/
def State.nextPiece (s : State) : Nat :=
  ((List.range (hdrPieces s.newSlot.hdr)).find? (fun i => !s.newSlot.have_.contains i)).getD 0

/-- A piece is complete: it matches its digest, is written to the flashes and its bit set, and the last one makes the slot READY; or it
is fetched again, and its eighth failure ends the arrival (R477, R478). -/
def State.pieceDone (s : State) (env : FwEnv) (data : List Byte) : State :=
  let i := s.nextPiece
  let x := s.newSlot
  let s0 := s.setFw { s.fw with part := [] }
  if sha256 data ≠ (x.manifest.drop (32 * i)).take 32 then
    let n := tget (fun _ => 0) s.fw.bad i + 1
    if 8 ≤ n then s0.dropImage env else s0.setFw { s0.fw with bad := tput (fun _ => 0) s.fw.bad i n }
  else
    let have_ := x.have_.add i
    let full := have_.length = hdrPieces x.hdr
    let s1 := s0.writeSlots env s.spareSlot (fun (y : Slot) => { y with have_ := have_, state := if full then 2 else y.state })
    let s2 := s1.showPieces
    if full ∧ (env.flash0 ∨ env.flash1) then (s2.setTender 2).raise 0x0B08 s.fwSource [(8, hdrVersion x.hdr)] else s2

/-- 4,096 bytes of the present piece have been read; bytes past LENGTH are zero (R474, R478). -/
def State.chunk (s : State) (env : FwEnv) (data : List Byte) : State :=
  let at0 := 65536 * s.nextPiece + s.fw.part.length
  let len := hdrLength s.newSlot.hdr
  let d := data.take (len - at0) ++ List.replicate (4096 - (data.take (len - at0)).length) 0
  let part := s.fw.part ++ d
  let reads := s.fw.reads.filter (fun (e : Nat × Nat) => decide (s.now < e.1 + 10 * nsSec)) ++ [(s.now, 4096)]
  let s1 := s.setFw { s.fw with part := part, reads := reads, asked := false }
  if part.length = 65536 then s1.pieceDone env part else s1

/-- Payload of an MCTP message (R488): type, vendor, command, control byte, completion code. -/
def mctp (cmd ctl completion : Nat) (payload : List Byte) : Msg :=
  .mctp ([0x7E] ++ (leBytes 2 vendorId).reverse ++ leBytes 1 cmd ++ leBytes 1 ctl ++ leBytes 1 completion ++ [0, 0] ++ payload)

/-- TENDER_PIECE_FETCH: the tender reads 4,096 bytes more of the present piece within CAP: from device memory, or by FW_GET from the
BMC (R478, R489). -/
def execTenderPieceFetch (env : FwEnv) (s : State) : Out :=
  if s.tender ≠ 1 ∨ !s.mayRead then .next s
  else
    let x := s.newSlot
    if s.fw.src = 0 then
      let a := s.fw.addr + 5332 + 32 * hdrPieces x.hdr + 65536 * s.nextPiece + s.fw.part.length
      .next (s.chunk env (s.bytes a 4096))
    else if s.fw.src = 1 ∧ !s.fw.asked then
      .next ((s.setFw { s.fw with asked := true }).send
        (mctp 0x07 0x80 0 (leBytes 2 s.nextPiece ++ leBytes 4 s.fw.part.length ++ leBytes 2 4096)))
    else .next s

/-- FW_GET_RESPONSE: the BMC answers an FW_GET with piece bytes (R478, R489). -/
def execFwGetResponse (bytes : List (BitVec 8)) (env : FwEnv) (s : State) : Out :=
  if s.tender ≠ 1 ∨ s.fw.src ≠ 1 ∨ !s.fw.asked then .next s
  else if bytes.length = 4096 then .next (s.chunk env bytes)
  else .next (s.setFw { s.fw with asked := false })

/-! ## Loading and shadow records -/

/-- Whether a handover or shadow record may be taken by a watch room: MAGIC, LENGTH, CRC, and VERSION in the range of its image
(R472). -/
def recordGood (hdr bytes : List Byte) : Bool :=
  let crc := crc32c (bytes.take 0x3C ++ [0, 0, 0, 0] ++ bytes.drop 0x40)
  decide (64 ≤ bytes.length) && decide (bytes.length ≤ 768 * 1024) && at_ bytes 0 4 == 0x44524F48 && at_ bytes 8 4 == bytes.length &&
  at_ bytes 0x3C 4 == crc && decide (hdrHoMin hdr ≤ at_ bytes 4 2) && decide (at_ bytes 4 2 ≤ hdrHoVer hdr)

/-- Whether `n` sections follow one another in a record and every critical one is of a known type (R472). -/
def sectionsGood : Nat → List Byte → Bool
  | 0, _ => true
  | n + 1, b =>
    let t := at_ b 0 2
    let long := at_ b 2 2 == 0xFFFF
    let len := if long then at_ b 4 4 else at_ b 2 2
    let head := if long then 8 else 4
    decide (head + len ≤ b.length) && (decide (t < 0x8000) || [0x8001, 0x8002, 0x8003, 0x8006].contains t) &&
    sectionsGood n (b.drop (head + len))

/-- A room is STANDBY once its image is verified and a shadow record has come (R469). -/
def State.toStandby (s : State) (q : Nat) : State := (s.setRoom q { s.room q with role := 2 }).fwShow

/-- Staging or the preconditions failed: READY, the standby goes back to the running image, FW_ACT_MISSED (R478). -/
def State.actMissed (s : State) : State :=
  let s1 := match s.standbyRoom with
    | some q => if (s.room q).hdr = s.running then s else s.loadRoom q s.running
    | none => match s.roomIn 1 with
      | some q => s.loadRoom q s.running
      | none => s
  ((s1.setTender 2).raise 0x0B0B s.fwSource []).fwSettle

/-- A watch room in LOADING fails: FAILED, WR_FAILED, and the next watch room is chosen; staging fails with it (R469, R478). -/
def State.loadFailed (s : State) (q : Nat) : State :=
  let s1 := (s.failRoom q).raise 0x0B03 (dieIO q) []
  if s.tender = 4 then s1.actMissed else s1.fwSettle

/-- WR_LOAD_DONE: a watch room in LOADING has verified its image's signature and digests; STANDBY if a shadow record has come with it; an
image that fails the other checks of R475 fails the room (R469). -/
def execWrLoadDone (q : Fin 4) (shadow : Bool) (s : State) : Out :=
  let w := s.room q
  if w.role ≠ 1 then .next s
  else if !s.headerGood w.hdr then .next (s.loadFailed q)
  else
    let s1 := s.setRoom q { w with verified := true }
    .next (if shadow then s1.toStandby q else s1)

/-- SHADOW_RECORD: the active watch room sends its shadow record to the standby, or to a verified room that thereby becomes it (R469,
R470). -/
def execShadowRecord (bytes : List (BitVec 8)) (s : State) : Out :=
  let to_ := match s.standbyRoom with
    | some q => some q
    | none => (s.roomIn 1).filter (fun q => (s.room q).verified)
  match s.activeRoom, to_ with
  | some _, some q =>
    if recordGood (s.room q).hdr bytes then
      let s1 := s.setFw { s.fw with shadow := bytes }
      .next (if (s.room q).role = 1 then s1.toStandby q else s1)
    else .next s
  | _, _ => .next s

/-- WR_LOAD_TIMEOUT: verification fails or 3 s pass (R469). -/
def execWrLoadTimeout (q : Fin 4) (s : State) : Out := .next (if (s.room q).role = 1 then s.loadFailed q else s)

/-- WR_FAILED_RECOVER: 10 s in reset have passed: COLD where the self-test passes and it was the first failure in 24 h (R469). -/
def execWrFailedRecover (q : Fin 4) (selfTest : Bool) (s : State) : Out :=
  let w := s.room q
  let first : Bool := w.failPrev == 0 || decide (nsDay < w.failAt - w.failPrev)
  if w.role = 4 ∧ selfTest ∧ first then .next ((s.setRoom q { w with role := 0 }).fwSettle) else .next s

/-! ## Tasks (R471) -/

/-- A task meets or misses a deadline; three in a row raise TASK_OVERRUN with its position in R471. -/
def State.task (s : State) (t : Nat) (missed : Bool) : State :=
  if s.activeRoom.isNone then s
  else if !missed then s.setFw { s.fw with missed := tput (fun _ => 0) s.fw.missed t 0 }
  else
    let n := tget (fun _ => 0) s.fw.missed t + 1
    let s1 := s.setFw { s.fw with missed := tput (fun _ => 0) s.fw.missed t (n % 3) }
    if n = 3 then s1.raise 0x0B04 s.fwSource [(1, t)] else s1

/-- THERMAL_POWER_TASK (R471). -/
def execThermalPowerTask (missed : Bool) (s : State) : Out := .next (s.task 0 missed)
/-- LASER_SUPERVISION_TASK (R471). -/
def execLaserSupervisionTask (missed : Bool) (s : State) : Out := .next (s.task 1 missed)
/-- LANE_SUPERVISION_TASK (R471). -/
def execLaneSupervisionTask (missed : Bool) (s : State) : Out := .next (s.task 2 missed)
/-- RING_SUPERVISION_TASK (R471). -/
def execRingSupervisionTask (missed : Bool) (s : State) : Out := .next (s.task 3 missed)
/-- EVENT_LOGGING_TASK (R471). -/
def execEventLoggingTask (missed : Bool) (s : State) : Out := .next (s.task 4 missed)

/-! ## Activation (R479 to R481) -/

/-- FW_STAGE_TIMER: T − STAGE_S: the standby, or a COLD room where there is none, loads the new image (R478, R480). -/
def execFwStageTimer (s : State) : Out :=
  if s.tender ≠ 3 ∨ s.bt + s.rd F.FWU_ACT_CFG_STAGE_S * nsSec < s.actTime then .next s
  else
    let s1 := s.setTender 4
    match s.standbyRoom, s.roomIn 1, [1, 0, 2, 3].find? (fun q => (s.room q).role == 0) with
    | some q, _, _ => .next ((s1.loadRoom q s.newSlot.hdr).fwShow)
    | none, some q, _ => .next ((s1.loadRoom q s.newSlot.hdr).fwShow)
    | none, none, some q => .next ((s1.loadRoom q s.newSlot.hdr).fwShow)
    | none, none, none => .next s1.actMissed

/-- The preconditions of R481. -/
def State.mayHandOver (s : State) : Bool :=
  let ready := match s.standbyRoom with
    | some q => decide ((s.room q).hdr = s.newSlot.hdr)
    | none => false
  ready && (List.range 16).all (fun n => s.rd F.STK_DIE_STATE n == 0) && !s.bit F.PWR_FEED_BROWNOUT &&
  s.rd F.LVS_STATUS_STATE != 3 && s.rd F.LVS_STATUS_STATE != 6

/-- FW_ACTIVATION_EPOCH: at T the handover starts where the preconditions hold: set-up writes are held from now on (R473, R480,
R481). -/
def execFwActivationEpoch (s : State) : Out :=
  if s.tender = 4 ∧ s.actTime ≤ s.bt ∧ s.mayHandOver then .next (s.wr F.FWU_STATUS_HANDOVER 0 1) else .next s

/-- FW_ACT_WINDOW_EXPIRE: the preconditions still fail ACT_WINDOW ms after T (R478, R481). -/
def execFwActWindowExpire (s : State) : Out :=
  if s.tender = 4 ∧ s.actTime + s.rd F.FWU_ACT_CFG_ACT_WINDOW * 1000000 ≤ s.bt ∧ !s.bit F.FWU_STATUS_HANDOVER then .next s.actMissed
  else .next s

/-- FW_CONFIRM_TIMER: CONFIRM_S without a watchdog expiry: the new slot is ACTIVE and the old FALLBACK on both flashes, the settings are
rewritten, and the standby loads the new image (R478, R480, R483). -/
def execFwConfirmTimer (env : FwEnv) (s : State) : Out :=
  if s.tender ≠ 5 then .next s
  else
    let k := s.spareSlot
    let s1 := (s.writeSlots env (1 - k) (fun x => { x with state := 4 })).writeSlots env k (fun x => { x with state := 3 })
    let s2 := ((s1.setTender 0).migrateSettings s.running).raise 0x0B0D s.fwSource []
    let s3 := match s.standbyRoom with
      | some q => s2.loadRoom q s.running
      | none => s2
    .next s3.fwSettle

end Sys2Proof.Machine
end

