-- ==== Sys2Proof/Machine/EventNames.lean ====
section
/-!
DEFINITION. Names of the event codes (R15 and the event tables of every chapter), as the monitor prints them.
-/
namespace Sys2Proof.Machine

/-- Events of subsystem 01. -/
def events01 : List (Nat × String) := [
  (0x0101, "FEED_LOST"), (0x0102, "FEED_RESTORED"), (0x0103, "SUPPLY_DIP"), (0x0104, "BROWNOUT_HOLD"),
  (0x0105, "BROWNOUT_CLEAR"), (0x0106, "PHASE_RETIRED"), (0x0107, "PHASE_SHORT"), (0x0108, "HBM_RAIL_LOST"),
  (0x0109, "PKG_LIMITED"), (0x0110, "POLICY_LIMITED"), (0x0140, "MARGIN_WARN"), (0x0141, "MARGIN_CAP"),
  (0x0142, "MARGIN_CLEAR"), (0x0143, "STRETCH_RATE"), (0x0144, "BT_LOCKED"), (0x0145, "BT_HOLDOVER"), (0x0146, "BT_UNALIGNED"),
  (0x0147, "BT_PARENT_CHANGED"), (0x0148, "BT_GENERATOR_MOVED"), (0x0149, "BT_FRAME_ERROR"), (0x014A, "PPS_LOST")]

/-- Events of subsystem 02. -/
def events02 : List (Nat × String) := [
  (0x0201, "THERMAL_BAND"), (0x0202, "THERMAL_CRIT"), (0x0203, "DIE_HALT"), (0x0204, "DIE_HALT_CLEAR"), (0x0205, "RISE_FAST"),
  (0x0206, "RISE_SEVERE"), (0x0207, "SENSOR_BROKEN"), (0x0208, "STACK_CAP"), (0x0209, "STACK_CAP_CLEAR")]

/-- Events of subsystem 03. -/
def events03 : List (Nat × String) := [
  (0x0301, "LOCK_LOST"), (0x0302, "RING_RETIRED"), (0x0303, "SPARE_RING_USED"), (0x0304, "RESERVE_SLOT_USED"),
  (0x0305, "LANE_SHORT"), (0x0306, "PAIR_DOWN"), (0x0307, "PAIR_UP"), (0x0308, "LANE_SUSPECT"), (0x0309, "HEADROOM_LOW"),
  (0x030A, "HEADROOM_CLEAR"), (0x030B, "BASE_OUT_OF_RANGE"), (0x030C, "MCAST_NARROWED")]

/-- Events of subsystem 04. -/
def events04 : List (Nat × String) := [
  (0x0401, "ADVISORY"), (0x0402, "ADVISORY_CLEAR"), (0x0403, "SWITCH_START"), (0x0404, "SWITCHED"),
  (0x0405, "EMERGENCY_SWITCH"), (0x0406, "SWITCH_FAILED"), (0x0407, "NO_STANDBY"), (0x0408, "LINE_DARK"),
  (0x0409, "LASER_DARK"), (0x040A, "MODULE_REMOVED"), (0x040B, "COMMISSIONED"), (0x040C, "CMIS_FAULT")]

/-- Events of subsystem 05. -/
def events05 : List (Nat × String) := [
  (0x0501, "LINK_UP"), (0x0502, "LINK_DOWN"), (0x0503, "WIRING_FAULT"), (0x0504, "PORT_SPARE_USED"), (0x0505, "PORT_LANE_OUT"),
  (0x0506, "LOOPBACK_FAIL"), (0x0507, "THROTTLE_STOP"), (0x0508, "EGRESS_DISCARD"), (0x0509, "CREDIT_VIOLATION"),
  (0x050A, "PEER_RESTARTED"), (0x050B, "PORT_LANE_SUSPECT"), (0x0520, "RETRY_EXHAUSTED"), (0x0521, "RESEND_RATE"),
  (0x0522, "WINDOW_FAULT"), (0x0523, "EPOCH_DISCARD"), (0x0524, "SOURCE_RESTARTED"), (0x0525, "HOT_LINE"),
  (0x0526, "HOT_LINE_CLEAR"), (0x0527, "RELAY_DROP"), (0x0528, "COLLECTIVE_TIMEOUT"), (0x0540, "PORT_SWITCHED"),
  (0x0541, "PORT_DOWN"), (0x0542, "PORT_LANE_REPAIRED"), (0x0543, "RING_OVERRUN"), (0x0544, "HOST_ABSENT"),
  (0x0545, "HOST_PRESENT"), (0x0546, "NO_COMMAND_PORT"), (0x0547, "EVENTS_DROPPED"), (0x0548, "MIRROR_LOST"),
  (0x0549, "HOST_BOOT_FAIL"), (0x054A, "HOST_DISCARD")]

/-- Events of subsystem 06. -/
def events06 : List (Nat × String) := [
  (0x0601, "MEM_CORRECTED_RATE"), (0x0602, "MEM_UNCORRECTABLE"), (0x0603, "PAGE_RETIRED"), (0x0604, "RETIRE_FULL"),
  (0x0605, "REFRESH_BAND"), (0x0606, "HBM_HOT"), (0x0607, "HBM_HOT_CLEAR"), (0x0608, "PPR_APPLIED"),
  (0x0609, "SRAM_CORRECTED_RATE"), (0x060A, "STACK_UNMAPPED")]

/-- Events of subsystem 07. -/
def events07 : List (Nat × String) := [
  (0x0701, "VB_LANE_SPARED"), (0x0702, "VB_HALF_WIDTH"), (0x0703, "VB_BUNDLE_RETIRED"), (0x0704, "VB_STACK_CUT"),
  (0x0705, "VB_REPLAY_RATE"), (0x0706, "VB_START_DEGRADED"), (0x0707, "DIE_RESET_START"), (0x0708, "DIE_RESET_DONE"),
  (0x0709, "DIE_RESET_FAILED"), (0x070A, "CAPABILITY_REDUCED")]

/-- Events of subsystem 08. -/
def events08 : List (Nat × String) := [
  (0x0801, "CORE_FAULT"), (0x0802, "CORE_RETIRED"), (0x0803, "SPARE_MAPPED"), (0x0804, "SCRATCH_CORRECTED"),
  (0x0805, "NO_SPARE"), (0x0806, "STALE_SIGNALS")]

/-- Events of subsystem 09. -/
def events09 : List (Nat × String) := [
  (0x0901, "ROLE_CHANGED"), (0x0902, "ROLE_SET_REFUSED"), (0x0903, "BERTH_AT_CAPACITY"), (0x0904, "BERTH_LOST"),
  (0x0905, "POOL_EXHAUSTED"), (0x0906, "MOOR_REFUSED"), (0x0907, "MOOR_PRESSURE"), (0x0908, "MOOR_RACE_LOST")]

/-- Events of subsystem 0A. -/
def events0A : List (Nat × String) := [
  (0x0A01, "LV_PAIRED"), (0x0A02, "LV_TAKEOVER"), (0x0A03, "LV_SELF_FENCED"), (0x0A04, "LV_HOLD"), (0x0A05, "LV_CONTINUED"),
  (0x0A06, "LV_REFUSED"), (0x0A07, "LV_WITNESS_LOST"), (0x0A08, "LV_UNPAIRED"), (0x0A09, "LV_EXPOSED"),
  (0x0A10, "DEGRADED_ENTER"), (0x0A11, "DEGRADED_LEAVE")]

/-- Events of subsystem 0B. -/
def events0B : List (Nat × String) := [
  (0x0B01, "WR_HANDOVER"), (0x0B02, "WR_FAILOVER"), (0x0B03, "WR_FAILED"), (0x0B04, "TASK_OVERRUN"), (0x0B05, "FLASH_FAULT"),
  (0x0B06, "SETUP_WRITE_DROPPED"), (0x0B07, "FW_REFUSED"), (0x0B08, "FW_READY"), (0x0B09, "FW_ARMED"),
  (0x0B0A, "FW_ACTIVATED"), (0x0B0B, "FW_ACT_MISSED"), (0x0B0C, "FW_ACT_FAILED"), (0x0B0D, "FW_CONFIRMED"),
  (0x0B0E, "FW_ROLLBACK"), (0x0B0F, "SETTINGS_MIGRATED"), (0x0B10, "SETTINGS_DEFAULTED"), (0x0B80, "START_DONE"),
  (0x0B81, "START_DEGRADED"), (0x0B82, "START_FAILED"), (0x0B83, "RESET_CAUSE"), (0x0B84, "CAL_DISAGREE"),
  (0x0B85, "CAL_CONDEMNED"), (0x0B86, "CAL_DEFERRED")]

/-- Events of subsystem 0C. -/
def events0C : List (Nat × String) := [
  (0x0C01, "IMAGE_SIG_FAIL"), (0x0C02, "SVN_COMMITTED"), (0x0C03, "FUSE_FAULT"), (0x0C04, "ATTEST_BUSY"),
  (0x0C05, "LEAVES_LOW"), (0x0C06, "LEAVES_EXHAUSTED"), (0x0C20, "MON_UNLOCKED"), (0x0C21, "MON_UNLOCK_FAIL"),
  (0x0C22, "MON_LOCKED"), (0x0C23, "MON_COMMAND")]

/-- Name of an event code. -/
def eventName (code : Nat) : String :=
  ((events01 ++ events02 ++ events03 ++ events04 ++ events05 ++ events06 ++ events07 ++ events08 ++ events09 ++ events0A ++ events0B ++ events0C).find? (fun (e : Nat × String) => e.1 == code)).elim "RESERVED" (·.2)

end Sys2Proof.Machine
end

