-- ==== Sys2Proof/Machine/Laser.lean ====
section
/-!
DEFINITION. Laser modules (06_laser_supply.md R182 to R201): levels, readiness, source switch-over, commissioning and removal.
Source 0 is A, 1 is B; states are numbered as in R200: 0 RUN, 1 SWITCHING, 2 EMERGENCY, 3 SINGLE, 4 DARK, 5 REMOVING.
-/
namespace Sys2Proof.Machine

def State.laser (s : State) (m : Nat) : Laser := tget (fun _ => {}) s.light.mods m

def State.setLaser (s : State) (m : Nat) (l : Laser) : State :=
  { s with light := { s.light with mods := tput (fun _ => {}) s.light.mods m l } }

def Laser.lamp (l : Laser) (b : Nat) : Lamp := if b = 0 then l.a else l.b

def Laser.setLamp (l : Laser) (b : Nat) (x : Lamp) : Laser := if b = 0 then { l with a := x } else { l with b := x }

/-- Die of an event of a module (R544). -/
def laserDie (m : Nat) : Nat := dieIO (m / 3)

def State.modState (s : State) (m : Nat) : Nat := s.rd F.LSR_MOD_STATE m
def State.activeLamp (s : State) (m : Nat) : Nat := s.rd F.LSR_MOD_ACTIVE m

/-- Write STATE; condition 1 of R448 holds while a module is SINGLE. -/
def State.setModState (s : State) (m v : Nat) : State :=
  let s1 := s.wr F.LSR_MOD_STATE m v
  s1.setCond 1 ((List.range 12).any (fun k => s1.modState k == 3))

/-! ## Groups -/

/-- Switch groups of a module (R186). -/
def laserGroups (m : Nat) : List Nat := if m % 3 = 2 then [0, 1, 2, 3] else [0, 1, 2]

/-- Plane of a fabric module's group, port of a port module's (R23). -/
def groupPlane (m g : Nat) : Nat := 4 * (m / 3) + g
def groupPort (m g : Nat) : Nat := 6 * (m / 3) + 3 * (m % 3) + g

/-- Transmit rings of a group (R192). -/
def groupTx (m g : Nat) : List Nat :=
  if m % 3 = 2 then (List.range 16).flatMap (fun ep => fabRow ep (groupPlane m g) false) else portRow (groupPort m g) false

/-- Rings and filters that a group lights: of a fabric plane both rows of every endpoint, of a port its transmit rings (R23, R191). -/
def groupLit (m g : Nat) : List Nat :=
  groupTx m g ++ (if m % 3 = 2 then (List.range 16).flatMap (fun ep => fabRow ep (groupPlane m g) true) else [])

/-- Calibration groups on a switch group. -/
def groupWindows (m g : Nat) : List Nat :=
  if m % 3 = 2 then (List.range 16).map (fun ep => 16 * ep + groupPlane m g) else [256 + groupPort m g]

/-- A port's group leaves service for a switch-over, or returns. -/
def State.shutPort (s : State) (p : Nat) (on : Bool) : State :=
  { s with fab := { s.fab with drained := if on then s.fab.drained.add (portOut p) else s.fab.drained.del (portOut p) } }

/-- The group's lanes leave service: no new flits go to them, credits and queues stay, and no link of a port becomes ACTIVE (R192, R193).
Open calibration windows of the group end (R194). -/
def State.drainGroup (s : State) (m g : Nat) : State :=
  if m % 3 = 2 then
    let s1 := (groupWindows m g).foldl State.cutWindow s
    (List.range 256).foldl State.refreshPair ((List.range 16).foldl (fun (t : State) ep => t.drainRow ep (groupPlane m g) true) s1)
  else
    let s1 := (groupWindows m g).foldl State.cutWindow (s.shutPort (groupPort m g) true)
    (portLinks (groupPort m g)).foldl (fun (t : State) x => t.linkPause x 0) s1

/-- HOLD is requested on the group's transmit rings and the switch passes source `b` (R192 step 2). -/
def State.switchGroup (s : State) (m g b : Nat) : State :=
  let s1 := (groupWindows m g).foldl (fun (t : State) u => t.markUnit u true false) (s.holdRings (groupTx m g))
  let l := s1.laser m
  s1.setLaser m { l with sel := if b = 0 then l.sel.del g else l.sel.add g }

/-- The group's rings relock and its lanes return to service (R192 steps 3 and 6). -/
def State.restoreGroup (s : State) (m g : Nat) : State :=
  let s1 := (groupWindows m g).foldl (fun (t : State) u => t.markUnit u false false) (s.freeRings (groupTx m g) (fun _ => true))
  if m % 3 = 2 then
    (List.range 256).foldl State.refreshPair ((List.range 16).foldl (fun (t : State) ep => t.drainRow ep (groupPlane m g) false) s1)
  else (portLinks (groupPort m g)).foldl (fun (t : State) x => if (t.link x).pausedHere then t.linkResume x else t.linkRing x)
    (s1.shutPort (groupPort m g) false)

/-- A group without light: its LOCKED rings go to HOLD and its lanes are withdrawn (R159, R196). -/
def State.darkGroup (s : State) (m g : Nat) : State :=
  let s0 := (groupLit m g).foldl (fun (t : State) k =>
    let r := t.ring k
    if r.st = 2 ∨ r.st = 3 then t.setRing k { r with st := 3, dark := true, hold := false } else t) s
  let s1 := (groupWindows m g).foldl (fun (t : State) u => t.markUnit u false (t.unit u).window) s0
  if m % 3 = 2 then
    (List.range 256).foldl State.refreshPair ((List.range 16).foldl (fun (t : State) ep => t.drainRow ep (groupPlane m g) false) s1)
  else (portLinks (groupPort m g)).foldl State.linkDark (s1.shutPort (groupPort m g) false)

/-! ## Levels (R188, R189) -/

def intSum (l : List Int) : Int := l.foldl (· + ·) 0

/-- Whether the average of samples is at or below a level, in 0.01 dBm. -/
def avgLe (l : List Int) (level : Int) : Bool := !l.isEmpty && decide (intSum l ≤ level * l.length)

/-- S, the last 1 ms: nothing until there are 100 samples. -/
def Lamp.short (x : Lamp) : List Int := if x.samples.length < 100 then [] else x.samples.take 100

/-- L is taken afresh: the average over the last 1 s (R188). -/
def Lamp.update (x : Lamp) : Lamp := { x with level := (intSum x.samples, x.samples.length) }

/-- Whether L at its last update is at or below a level. -/
def Lamp.lLe (x : Lamp) (v : Int) : Bool := decide (0 < x.level.2) && decide (x.level.1 ≤ v * x.level.2)

/-- L − P0 in 0.05 dB, 16 bits; rounded down (log entry 24). -/
def Lamp.delta (x : Lamp) : Nat :=
  match x.p0 with
  | none => 0
  | some p => if x.level.2 = 0 then 0 else (((x.level.1 / (x.level.2 : Int) - p) / 5) % 65536).toNat

/-- ADV and SW of LSR_CTRL in 0.01 dB. -/
def State.adv (s : State) : Int := 5 * s.rd F.LSR_CTRL_ADV
def State.sw (s : State) : Int := 5 * s.rd F.LSR_CTRL_SW

/-- L of a source is at the switch level. -/
def State.atSwitch (s : State) (x : Lamp) : Bool :=
  match x.p0 with
  | none => false
  | some p => x.lLe (p - s.sw)

/-- Loss of light: two samples in a row 6.0 dB or more below P0. -/
def Lamp.lost (x : Lamp) : Bool :=
  match x.p0, x.samples with
  | some p, a :: b :: _ => decide (a ≤ p - 600) && decide (b ≤ p - 600)
  | _, _ => false

/-- A fade faster than FADE: S against S 100 ms before. -/
def State.fadesFast (s : State) (x : Lamp) : Bool :=
  let old := (x.samples.drop 10000).take 100
  old.length == 100 && decide (intSum x.short - intSum old < -100 * (s.rd F.LSR_CTRL_FADE : Int))

/-- The emergency condition of R189 that an active source meets, as its row of the table counted from 0. -/
def State.emergency (s : State) (x : Lamp) : Option Nat :=
  match x.p0 with
  | none => none
  | some p =>
    if x.lost then some 4
    else if avgLe x.short (p - 300) then some 3
    else if avgLe x.short (p - s.adv) && s.fadesFast x then some 2
    else none

/-! ## Readiness and states -/

/-- Whether a source is ready (R183, R190). -/
def State.lampReady (s : State) (m b : Nat) : Bool :=
  let l := s.laser m
  let x := l.lamp b
  s.bit F.LSR_MOD_PRESENT m && l.ready && x.p0.isSome && !x.advisory && x.dark.isEmpty

/-- Show readiness, levels, P0 and the dark lines of the active source (R200, R201). -/
def State.showLaser (s : State) (m : Nat) : State :=
  let l := s.laser m
  let p := fun (x : Lamp) => ((x.p0.getD 0) % 65536).toNat
  let s1 := (s.wr F.LSR_MOD_A_READY m (b2n (s.lampReady m 0))).wr F.LSR_MOD_B_READY m (b2n (s.lampReady m 1))
  let s2 := (s1.wr F.LSR_P0_A_P0 m (p l.a)).wr F.LSR_P0_B_P0 m (p l.b)
  s2.wr F.LSR_DARK_LINES m (((l.lamp (s.activeLamp m)).dark).foldl (fun a c => a + 2 ^ c) 0)

/-- Whether R194 lets a module's next group drain: no other fabric plane group in the package, no other port group on its I/O die,
is out for a hitless switch-over. -/
def State.drainFree (s : State) (m : Nat) : Bool :=
  (List.range 12).all (fun k => k == m || (s.laser k).phase < 2 || s.modState k == 5 || s.modState k == 2 ||
    (if m % 3 = 2 then k % 3 != 2 else k % 3 == 2 || k / 3 != m / 3))

/-- The next group of a module drains, or waits; one on its way back from a removal is held already and is tested (R192, R194, R196). -/
def State.nextGroup (s : State) (m : Nat) : State :=
  let l := s.laser m
  match l.todo with
  | [] => s.setLaser m { l with phase := 0, back := false }
  | g :: _ =>
    if l.back then s.setLaser m { l with phase := 3 }
    else if s.modState m = 5 ∨ s.drainFree m then (s.setLaser m { l with phase := 2 }).drainGroup m g
    else s.setLaser m { l with phase := 1 }

/-- SWITCH_START: every group of a module is to move to the other source (R192, R196). The reason counts from 0: level, dark line,
command. -/
def State.startSwitch (s : State) (m reason : Nat) : State :=
  let l := s.laser m
  let x := s.activeLamp m
  let p := l.lamp x
  let l1 := l.setLamp x { p with tried := reason == 0 || p.tried, triedLines := if reason = 1 then p.dark else p.triedLines }
  let s1 := (s.setModState m 1).setLaser m { l1 with todo := laserGroups m, dest := 1 - x }
  (s1.raise 0x0403 (laserDie m) [(1, m), (1, reason)]).nextGroup m

/-- Groups on Y return to X and the module is SINGLE: SWITCH_FAILED (R196). The group at work returns at once where its switch has not
changed; one that has, being drained and held, goes back first, so that no two are drained (R194). -/
def State.failSwitch (s : State) (m : Nat) : State :=
  let x := s.activeLamp m
  let l := s.laser m
  let moved := (laserGroups m).filter (fun g => l.sel.contains g != (x == 1))
  let held := if 2 ≤ l.phase then l.todo.take 1 else []
  let first := held.filter moved.contains
  let s1 := held.foldl (fun (t : State) g => if moved.contains g then t else t.restoreGroup m g) s
  let todo := first ++ moved.filter (fun g => !first.contains g)
  let s2 := (s1.setModState m 3).setLaser m { s1.laser m with todo := todo, dest := x, phase := if first = [] then 0 else 2 }
  let s3 := s2.raise 0x0406 (laserDie m) [(1, m)]
  if first = [] then s3.nextGroup m else s3

/-- The transitions of R196 that follow from levels, dark lines and readiness. -/
def State.settleLaser (s : State) (m : Nat) : State :=
  let s := s.showLaser m
  let x := s.activeLamp m
  let l := s.laser m
  let ready := s.lampReady m (1 - x)
  let auto := s.rd F.LSR_CTRL_PRESET != 2 && l.todo.isEmpty
  let low := s.atSwitch (l.lamp x) && !(l.lamp x).tried && auto
  let dark := (l.lamp x).dark.any (fun c => !(l.lamp x).triedLines.contains c) && auto
  match s.modState m with
  | 0 =>
    if !ready then (s.setModState m 3).raise 0x0407 (laserDie m) [(1, m)]
    else if low then s.startSwitch m 0
    else if dark then s.startSwitch m 1
    else s
  | 1 => if ready then s else s.failSwitch m
  | 3 =>
    if ready ∧ l.todo = [] then
      let s1 := s.setModState m 0
      if low then s1.startSwitch m 0 else if dark then s1.startSwitch m 1 else s1
    else s
  | _ => s

/-- A module goes DARK: its lanes are withdrawn; `code` is the event (R196). -/
def State.darkModule (s : State) (m code : Nat) : State :=
  let s1 := (s.setModState m 4).setLaser m { s.laser m with todo := [], phase := 0, back := false }
  ((laserGroups m).foldl (fun (t : State) g => t.darkGroup m g) (s1.wr F.LSR_MOD_REMOVE_OK m 0)).raise code (laserDie m) [(1, m)]

/-- EMERGENCY: every group goes to the other source at once (R195, R196). -/
def State.startEmergency (s : State) (m cond : Nat) : State :=
  let y := 1 - s.activeLamp m
  let s1 := (s.setModState m 2).setLaser m { s.laser m with todo := [], phase := 0 }
  let s2 := s1.raise 0x0405 (laserDie m) [(1, m), (1, cond)]
  (laserGroups m).foldl (fun (t : State) g => (t.drainGroup m g).switchGroup m g y) s2

/-- Y becomes X: SWITCHED (R196). -/
def State.switched (s : State) (m : Nat) : State :=
  let y := 1 - s.activeLamp m
  ((s.wr F.LSR_MOD_ACTIVE m y).raise 0x0404 (laserDie m) [(1, m), (1, y)]).showLaser m

/-! ## Commands -/

/-- LASER_TAP_SAMPLE: a tap sample, in 0.01 dBm at the module output; the emergency rows of R189 act on the active source, and
loss of light of the other ends an emergency in DARK (R188, R189, R196). -/
def execLaserTapSample (m : Fin 12) (b : Bool) (sample : Int) (s : State) : Out :=
  let k := b2n b
  let l := s.laser m
  let x : Lamp := { l.lamp k with samples := (sample :: (l.lamp k).samples).take 100000 }
  let s1 := s.setLaser m (l.setLamp k x)
  let st := s1.modState m
  if k = s1.activeLamp m then
    match s1.emergency x with
    | none => .next s1
    | some c =>
      if st = 0 ∨ st = 1 then
        if s1.lampReady m (1 - k) then .next (s1.startEmergency m c) else .next (s1.settleLaser m)
      else if st = 3 then .next (s1.darkModule m 0x0409)
      else .next s1
  else if st = 2 ∧ x.lost then .next (s1.darkModule m 0x0409)
  else .next s1

/-- ADVISORY of one source (R189). -/
def State.advise (s : State) (m b : Nat) : State :=
  let l := s.laser m
  let x := l.lamp b
  let x1 : Lamp := { x with tried := x.tried && s.atSwitch x }
  let s1 := s.setLaser m (l.setLamp b x1)
  match x.p0 with
  | none => s1
  | some p =>
    if x.lLe (p - s.adv) ∧ !x.advisory then
      (s1.setLaser m (l.setLamp b { x1 with advisory := true })).raise 0x0401 (laserDie m) [(1, m), (1, b), (2, x.delta)]
    else s1

/-- LASER_LEVEL_UPDATE: L of both sources, every 10 ms: the levels shown, ADVISORY and the hitless switch-over (R188, R189, R196). -/
def execLaserLevelUpdate (m : Fin 12) (s : State) : Out :=
  let l : Laser := { s.laser m with a := (s.laser m).a.update, b := (s.laser m).b.update }
  let s1 := ((s.setLaser m l).wr F.LSR_LEVEL_A_DELTA m l.a.delta).wr F.LSR_LEVEL_B_DELTA m l.b.delta
  let s2 := (s1.advise m 0).advise m 1
  .next (if s.bit F.GLB_START_DONE then s2.settleLaser m else s2)

/-- LASER_ADVISORY_CLEAR_TIMER: L has been at or above the clear level for 60 s (R189). -/
def execLaserAdvisoryClearTimer (m : Fin 12) (b : Bool) (s : State) : Out :=
  let k := b2n b
  let l := s.laser m
  let x := l.lamp k
  match x.p0 with
  | none => .next s
  | some p =>
    if x.advisory ∧ 0 < x.level.2 ∧ (p - s.adv + 50) * x.level.2 ≤ x.level.1 then
      let s1 := (s.setLaser m (l.setLamp k { x with advisory := false })).raise 0x0402 (laserDie m) [(1, m)]
      .next (s1.settleLaser m)
    else .next s

/-- Rings and filters on channel `c` that a module feeds: of a fabric module both ends of its planes' lanes, of a port module the transmit
rings (R191). -/
def lineRings (m c : Nat) : List (Nat × Nat × Nat) :=
  (laserGroups m).flatMap (fun g =>
    if m % 3 = 2 then (List.range 16).flatMap (fun ep => [(ep, groupPlane m g, 0), (ep, groupPlane m g, 1)])
    else [(groupPort m g, 0, 2)]) |>.map (fun e => (e.1, e.2.1, e.2.2 * 32 + c))

/-- The ring or filter that serves such a place. -/
def State.lineRing (s : State) (e : Nat × Nat × Nat) : RingSt :=
  s.ring (if e.2.2 / 32 = 2 then s.servesPort e.1 false (e.2.2 % 32) else s.servesFab e.1 e.2.1 (e.2.2 / 32 == 1) (e.2.2 % 32))

/-- Whether every ring and filter of a channel that was LOCKED reads no light (R159, R191). -/
def State.lineDark (s : State) (m c : Nat) : Bool :=
  (lineRings m c).all (fun e => (s.lineRing e).st != 2 && !((s.lineRing e).st == 3 && !(s.lineRing e).dark)) &&
  (lineRings m c).any (fun e => (s.lineRing e).dark)

/-- LINE_DARK_DETECT: every ring and filter of a channel of the active source has read light not valid for 100 µs while S is above the
switch level; their lanes are withdrawn since they left LOCKED (R159, R191). -/
def execLineDarkDetect (m : Fin 12) (c : Fin 32) (s : State) : Out :=
  let k := s.activeLamp m
  let l := s.laser m
  let x := l.lamp k
  let live : Bool := match x.p0 with
    | none => false
    | some p => !x.short.isEmpty && !avgLe x.short (p - s.sw)
  if live && s.lineDark m c && !x.dark.contains c.val && s.modState m != 4 then
    let s1 := (s.setLaser m (l.setLamp k { x with dark := x.dark.add c })).raise 0x0408 (laserDie m) [(1, m), (1, c)]
    .next (s1.settleLaser m)
  else .next s

/-- CMIS_POLL: the watch room reads and logs module state, flags and figures; a fault, a state other than ModuleReady or silence for 1 s
makes both sources not ready (R183, R184). A module that start-up left DARK is commissioned when it becomes ready (R428). -/
def execCmisPoll (m : Fin 12) (r : CmisRead) (s : State) : Out :=
  let l := s.laser m
  if s.activeRoom.isNone then .next s
  else
    let silent := !r.answered && decide (l.heard + nsSec ≤ s.now + 1)
    let ok := if r.answered then r.moduleReady && !r.fault else l.ready && !silent
    let l1 := { l with ready := ok, heard := if r.answered then s.now + 1 else l.heard, log := l.log ++ [(s.now, r)] }
    let s1 := (s.wr F.LSR_MOD_PRESENT m (b2n r.answered)).setLaser m l1
    let s2 := if l.ready ∧ !ok then s1.raise 0x040C (laserDie m) [(1, m)] else s1
    if ok ∧ !l.ready ∧ s.modState m = 4 ∧ l.a.p0.isNone ∧ l.b.p0.isNone ∧ s.bit F.GLB_START_DONE then
      .next (s2.setLaser m { s2.laser m with commissioning := true })
    else .next (s2.settleLaser m)

/-- SWITCH_OVER_START: a switch-over that waited begins once the drain ahead of it has ended (R194). -/
def execSwitchOverStart (m : Fin 12) (s : State) : Out :=
  if (s.laser m).phase = 1 then .next (s.nextGroup m) else .next s

/-- SWITCH_GROUP_DRAINED: the drain of a group has ended: HOLD, and the switch changes; for a removal the next group drains, and
REMOVE_OK after the last (R192, R196). -/
def execSwitchGroupDrained (m : Fin 12) (s : State) : Out :=
  let l := s.laser m
  match l.todo with
  | [] => .next s
  | g :: r =>
    if l.phase ≠ 2 then .next s
    else if s.modState m = 5 then
      let s1 := s.switchGroup m g (b2n (l.sel.contains g))
      let s2 := s1.setLaser m { s1.laser m with todo := r, phase := 0 }
      .next (if r = [] then s2.wr F.LSR_MOD_REMOVE_OK m 1 else s2.nextGroup m)
    else
      let s1 := s.switchGroup m g l.dest
      .next (s1.setLaser m { s1.laser m with phase := 3 })

/-- Lanes that failed their test on a source stay out and are repaired (R173, R192). -/
def State.failLanes (s : State) (failed : List LaneId) : State := failed.foldl State.condemn s

/-- A group has been verified: the lanes that failed both tests stay out and are repaired, the others return (R192 steps 4 to 6). -/
def State.verifyGroup (s : State) (m g : Nat) (failed : List LaneId) : State := (s.restoreGroup m g).failLanes failed

/-- SWITCH_GROUP_VERIFIED: lanes are restored and the next group begins; after the last one the sources change places, or the
return after a failure ends. `lanesPassed`: some lane of the group passed (R192, R196). -/
def execSwitchGroupVerified (m : Fin 12) (failed : List LaneId) (lanesPassed : Bool) (s : State) : Out :=
  let l := s.laser m
  match l.todo with
  | [] => .next s
  | g :: r =>
    if l.phase ≠ 3 then .next s
    else if s.modState m = 1 ∧ !lanesPassed then .next (s.failSwitch m)
    else
      let s1 := s.verifyGroup m g failed
      let s2 := s1.setLaser m { s1.laser m with todo := r, phase := 0 }
      if r ≠ [] then .next (s2.nextGroup m)
      else if s.modState m = 1 then
        .next ((s2.switched m).setModState m 0 |>.settleLaser m)
      else .next ((s2.setLaser m { s2.laser m with back := false }).settleLaser m)

/-- EMERGENCY_RESTORE_DONE: every group is locked and restored on Y but for the lanes that failed their test, or every lane failed
(R192, R195, R196). -/
def execEmergencyRestoreDone (m : Fin 12) (failed : List LaneId) (ok : Bool) (s : State) : Out :=
  if s.modState m ≠ 2 then .next s
  else if ok then
    let s1 := (((laserGroups m).foldl (fun (t : State) g => t.restoreGroup m g) s).failLanes failed).switched m
    .next (((s1.setModState m 3).raise 0x0407 (laserDie m) [(1, m)]))
  else .next (s.darkModule m 0x0409)

/-- CMD SWITCH: a hitless switch-over where Y is ready (R196). -/
def State.lsrSwitch (s : State) (m : Nat) : State :=
  if s.modState m = 0 ∧ s.lampReady m (1 - s.activeLamp m) ∧ (s.laser m).todo = [] then (s.startSwitch m 2) else s

/-- CMD PREPARE_REMOVE: every group drains, one at a time (R196). -/
def State.lsrPrepareRemove (s : State) (m : Nat) : State :=
  if s.modState m = 0 ∨ s.modState m = 3 then
    let s1 := (s.setModState m 5).setLaser m { s.laser m with todo := laserGroups m, phase := 0 }
    (s1.nextGroup m)
  else s

/-- CMD CANCEL_REMOVE: RUN or SINGLE, and the groups that were drained return by steps 3 to 6 of R192, each held until its lanes are
verified (R196). -/
def State.lsrCancelRemove (s : State) (m : Nat) : State :=
  if s.modState m = 5 then
    let left := match (s.laser m).todo with
      | [] => []
      | _ :: r => r
    let out := (laserGroups m).filter (fun g => !left.contains g)
    let s1 := (s.wr F.LSR_MOD_REMOVE_OK m 0).setLaser m { s.laser m with todo := out, phase := 0, back := true }
    ((s1.nextGroup m).setModState m (if s.lampReady m (1 - s.activeLamp m) then 0 else 3)).showLaser m
  else s

/-- LASER_MODULE_REMOVED: the module is removed, or both its sources lose light (R196). -/
def execLaserModuleRemoved (m : Fin 12) (removed : Bool) (s : State) : Out :=
  if removed then
    let s1 := ((s.wr F.LSR_MOD_PRESENT m 0).darkModule m 0x040A)
    .next ((s1.setLaser m { log := s1.laser m |>.log }).showLaser m)
  else .next ((s.darkModule m 0x0409).showLaser m)

/-- LASER_MODULE_INSERTED: a module is inserted into a DARK position and the watch room starts commissioning (R184, R197). -/
def execLaserModuleInserted (m : Fin 12) (s : State) : Out :=
  if s.modState m = 4 ∧ s.activeRoom.isSome then
    .next ((s.wr F.LSR_MOD_PRESENT m 1).setLaser m { s.laser m with commissioning := true })
  else .next s

/-! ## Commissioning (R197) -/

/-- P0 of a source: its tap power averaged over the last 1 s (R188); none where it has not been lit. -/
def Lamp.tapped (x : Lamp) : Option Int := if x.samples = [] then none else some (intSum x.samples / (x.samples.length : Int))

/-- A source with its commissioning value, free of advisories and dark lines. -/
def Lamp.fresh (x : Lamp) (p : Option Int) : Lamp := { samples := x.samples, level := (intSum x.samples, x.samples.length), p0 := p }

/-- What commissioning does with the groups of a module: their rings lock and no HOLD or drain is left (R197 steps 2, 3 and 7). -/
def State.lightGroups (s : State) (m : Nat) : State :=
  let s1 := ((laserGroups m).flatMap (groupLit m)).foldl (fun (t : State) k =>
    let r := t.ring k
    if r.st = 4 then t else t.setRing k { r with st := 2, dark := false, hold := false, fails := 0 }) s
  (laserGroups m).foldl (fun (t : State) g => t.restoreGroup m g) s1

/-- Mark the fabric lanes on the planes of a module as untested, or as having passed (R160). -/
def State.markLanes (s : State) (m : Nat) (untested : Bool) : State :=
  if m % 3 = 2 then
    (List.range 256).foldl (fun (t : State) pr => (List.range 32).foldl (fun (u : State) n =>
      if (u.laneSlot pr n).1 / 4 = m / 3 then u.setUntested pr n untested else u) t) s
  else s

/-- The lanes of a module have passed their test, but for those that the test names. -/
def State.passLanes (s : State) (m : Nat) : State :=
  if m % 3 = 2 then (List.range 256).foldl State.refreshPair (s.markLanes m false) else s

/-- Commissioning of a module (R197): the source named by PREFER is taken first; the P0 of the other is accepted only within 1.0 dB
below the first. `ok` of a source: its lanes, or its loopback lanes, passed. A source that has a P0 is ready where its module is
(R190). -/
def State.commission (s : State) (m : Nat) (okA okB : Bool) : State :=
  let pre := s.rd F.LSR_MOD_PREFER m
  let l := s.laser m
  let p := fun (b : Nat) => (l.lamp b).tapped
  let ok := fun (b : Nat) => (if b = 0 then okA else okB) && (p b).isSome
  if !ok 0 ∧ !ok 1 then s.setLaser m { l with commissioning := false }
  else
    let one := if ok pre then pre else 1 - pre
    let two := 1 - one
    let second : Option Int := if ok two ∧ (p one).getD 0 - 100 ≤ (p two).getD 0 then p two else none
    let l0 : Laser := { l with commissioning := false, sel := if one = 1 then laserGroups m else [], todo := [], phase := 0, back := false }
    let l1 := (l0.setLamp one ((l.lamp one).fresh (p one))).setLamp two ((l.lamp two).fresh second)
    let s1 := ((s.wr F.LSR_MOD_ACTIVE m one).setLaser m l1).showLaser m
    if !s1.lampReady m one then s1
    else
      let s2 := (s1.lightGroups m).raise 0x040B (laserDie m)
        [(1, m), (2, (l1.a.p0.getD 0 % 65536).toNat), (2, (l1.b.p0.getD 0 % 65536).toNat)]
      if s1.lampReady m two then s2.setModState m 0 else (s2.setModState m 3).raise 0x0407 (laserDie m) [(1, m)]

/-- What the watch room read of a module as a start found it, and what the taps of its sources saw (R183, R188). -/
def State.lampRead (s : State) (m : Nat) (cmis : CmisRead) (a b : List Int) : State :=
  let l := s.laser m
  (s.wr F.LSR_MOD_PRESENT m (b2n cmis.answered)).setLaser m
    { l with ready := cmis.answered && cmis.moduleReady && !cmis.fault, heard := if cmis.answered then s.now + 1 else l.heard,
             log := l.log ++ [(s.now, cmis)], a := { l.a with samples := a }, b := { l.b with samples := b } }

/-- COMMISSIONING_DONE: commissioning of a module ends: RUN, SINGLE, or DARK still (R196, R197). `first` are the test readings of the
lanes with the source of PREFER, `second` those with the other source, of every lane where the first failed on all and of loopback lanes
otherwise; none where every lane failed. A lane not named passed. The lanes that failed on the source in use are repaired. -/
def execCommissioningDone (m : Fin 12) (first second : Option (List (LaneId × TestRead))) (s : State) : Out :=
  if s.modState m ≠ 4 ∨ !(s.laser m).commissioning ∨ s.activeRoom.isNone then .next s
  else
    let pre := s.rd F.LSR_MOD_PREFER m
    let a := if pre = 0 then first else second
    let b := if pre = 0 then second else first
    let s1 := s.commission m a.isSome b.isSome
    if s1.modState m = 4 then .next s1
    else .next (((if s1.activeLamp m = 0 then a else b).getD []).foldl (fun (t : State) e => t.judgeTest e.1 e.2 true) (s1.passLanes m))

end Sys2Proof.Machine
end

