-- ==== Sys2Proof/Machine/Stack.lean ====
section
/-!
DEFINITION. Resets of the lower dies (08_die_stack.md R250 to R255, R262) and the retirement of a stack (R206, R253). Lower die n:
0 to 11 are SD0 to SD11, 12 to 15 are BD0 to BD3.
-/
namespace Sys2Proof.Machine



/-- Number of a lower die in the list of R260. -/
def lowerNum (n : Nat) : Nat := if n < 12 then dieSD n else n - 12

/-- Compute dies above a lower die (R250). -/
def diesAbove (n : Nat) : List Nat := if n < 12 then [n] else [3 * (n - 12), 3 * (n - 12) + 1, 3 * (n - 12) + 2]

/-- Logical cores of compute die `d`. -/
def dieCores (d : Nat) : List Nat := (List.range 16).map (16 * d + ·)

/-- Park the cores of compute die `d` with a status (R84). -/
def State.parkDie (s : State) (d status : Nat) : State := (dieCores d).foldl (fun (t : State) l => t.parkCore l status) s

/-- Release the cores of a compute die that nothing holds any more (R84). -/
def State.freeDie (s : State) (d : Nat) : State :=
  if s.dieHeld d then s else (dieCores d).foldl State.releaseCore s

/-- Pairs whose light a lower die takes part in (R250). -/
def diePairs (n : Nat) : List Nat :=
  if n < 12 then (List.range 16).map (16 * n + ·) ++ (List.range 16).map (fun i => 16 * i + n) else List.range 256

/-- Ports over a base die. -/
def diePorts (n : Nat) : List Nat := if n < 12 then [] else (List.range 6).map (6 * (n - 12) + ·)

/-- Endpoints that a lower die takes with it: that of a cache die, those over a base die (R250). -/
def dieEps (n : Nat) : List Nat := if n < 12 then [n] else [3 * (n - 12), 3 * (n - 12) + 1, 3 * (n - 12) + 2, n]

/-- Pairs of the endpoints a lower die takes with it. -/
def epsPairs (n : Nat) : List Nat := (List.range 256).filter (fun pr => (dieEps n).contains (pr / 16) || (dieEps n).contains (pr % 16))

/-- Traffic in flight through a lower die is dropped: forwards not applied at their home and accesses that wait there, and the flits of
the fabric pairs and multicast queues of its endpoints (R251, R254). -/
def State.dropTraffic (s : State) (n : Nat) : State :=
  let s1 := (epsPairs n).foldl (fun (t : State) pr => (t.setTx pr {}).setRx pr {}) (s.dropHomes [n])
  let mine := fun (k : Nat) => (dieEps n).contains (k / 28)
  { s1 with fab := { s1.fab with mcast := s1.fab.mcast.filter (fun e => !mine e.1), mcastWait := s1.fab.mcastWait.filter (fun e => !mine e.1) } }

/-- Whether what a die had accepted has drained: no forward is left that needs it and no access waits at its homes (R251). -/
def State.dieDrained (s : State) (n : Nat) : Bool :=
  (List.range 4).all (fun q => !(s.fwdList q).any (s.fwdNeeds [n] q)) && !s.mem.waiting.any (fun w => (s.locate w.addr).lowerDies.contains n)

/-- Repairs of the bundles of a stack are abandoned and their beats dropped: the return rebuilds every bundle (R244, R252). -/
def State.stopBundles (s : State) (n : Nat) : State :=
  ((List.range 128).map (128 * n + ·)).foldl (fun (t : State) x =>
    let b := t.bundle x
    t.setBundle x { bad := b.bad, bind := b.bind, side := b.side, errs := b.errs, got := b.got, replay := b.replay, replayPrev := b.replayPrev }) s

/-- What a lower die's light and links look like after it went dark or came back (R172, R250, R284). -/
def State.dieLight (s : State) (n : Nat) : State :=
  let s1 := (diePairs n).foldl State.refreshPair s
  let s2 := (diePorts n).foldl (fun (t : State) p => (portLinks p).foldl State.linkRing t) s1
  if n = 12 ∨ n = 13 then s2.portDies 2 else s2

/-- IN_RESET: the remaining traffic is dropped, the dies above are parked, and its parts go dark (R250, R251). -/
def State.enterReset (s : State) (n : Nat) : State :=
  let s1 := (s.wr F.STK_DIE_STATE n 2).dropTraffic n
  let s2 := (diesAbove n).foldl (fun (t : State) d => t.parkDie d 0x11) s1
  (if n < 12 then s2.stopBundles n else s2).dieLight n

/-- Cache dies of a base die's quadrant that are in a reset (R255). -/
def State.quadBusy (s : State) (n : Nat) : Bool :=
  decide (12 ≤ n) && (diesAbove n).any (fun d => decide (1 ≤ s.dieState d) && decide (s.dieState d ≤ 3))

/-- DIE_RESET_START. -/
def State.resetStart (s : State) (n : Nat) (forced : Bool) : State :=
  s.raise 0x0707 (lowerNum n) [(1, lowerNum n), (1, b2n forced)]

/-- An orderly reset is requested: taken in OPEN alone, after start-up; one of a base die waits for the cache dies of its quadrant
(R251, R255, R430). -/
def State.orderlyReset (s : State) (n : Nat) : State :=
  if s.dieState n ≠ 0 ∨ s.rd F.GLB_START_STEP < 12 then s
  else if s.quadBusy n then { s with stack := { s.stack with baseWait := s.stack.baseWait.add (n - 12) } }
  else
    let s1 := (s.wr F.STK_DIE_STATE n 1).resetStart n false
    if n = 12 ∨ n = 13 then s1.portDies 2 else s1

/-- A forced reset is requested: taken in OPEN and CLOSING (R251, R255). -/
def State.forcedReset (s : State) (n : Nat) : State :=
  if 2 ≤ s.dieState n then s
  else if s.quadBusy n then { s with stack := { s.stack with baseWait := s.stack.baseWait.add (n - 8) } }
  else if s.dieState n = 0 then (s.resetStart n true).enterReset n
  else s.enterReset n

/-- Base-die resets that waited for the cache dies of a quadrant begin (R255). -/
def State.baseReady (s : State) (q : Nat) : State :=
  if s.quadBusy (12 + q) then s
  else
    let w := s.stack.baseWait
    let s1 := { s with stack := { s.stack with baseWait := (w.del q).del (q + 4) } }
    if w.contains (q + 4) then s1.forcedReset (12 + q) else if w.contains q then s1.orderlyReset (12 + q) else s1

/-- DIE_SILENT_TIMEOUT: an OPEN lower die has not answered its management bus for 1 ms (R251). -/
def execDieSilentTimeout (n : Fin 16) (s : State) : Out := if s.dieState n = 0 then .next (s.forcedReset n) else .next s

/-- DIE_CLOSING_DRAINED: what the die had accepted has drained (R251). -/
def execDieClosingDrained (n : Fin 16) (s : State) : Out :=
  if s.dieState n = 1 ∧ s.dieDrained n = true then .next (s.enterReset n) else .next s

/-- DIE_CLOSING_TIMEOUT: 50 µs in CLOSING: the rest is dropped (R251). -/
def execDieClosingTimeout (n : Fin 16) (s : State) : Out := if s.dieState n = 1 then .next (s.enterReset n) else .next s

/-- DIE_RESET_SEQUENCE_DONE: the reset sequence is complete and the return checks run (R251, R252). -/
def execDieResetSequenceDone (n : Fin 16) (s : State) : Out :=
  if s.dieState n = 2 then .next (s.wr F.STK_DIE_STATE n 3) else .next s

/-- An HBM is retired in service: its addresses become unmapped, its berths are lost, and what is on its way to its home stays unanswered
(R134, R206, R254); condition 10 of R448. -/
def State.retireHbm (s : State) (st : Nat) : State :=
  if s.bit F.MEM_HBM_RETIRED st then s
  else
    let s0 := s.dropStackHome st
    let s1 := (s0.wr F.MEM_HBM_RETIRED st 1).raise 0x060A (dieSD st) [(1, st)]
    let s2 := { s1 with mem := { s1.mem with
      queue := s1.mem.queue.filter (fun k => k / 2 ^ 25 != st),
      retiring := tput (fun _ => 0) s1.mem.retiring st 0 } }
    (s2.loseBerths st).setCond 10 true

/-- A whole stack is retired: SDn with the cause given, CDn with it, HBn (R206, R253, R398, R515). -/
def State.retireStack (s : State) (st cause : Nat) : State :=
  (((s.retireDie (dieSD st) cause).retireCd st 6).retireHbm st).dieLight st

/-- Everything in the direct part of a cache die's SRAM reads zero (R252). -/
def State.zeroSram (s : State) (n : Nat) : State :=
  let lo := 0x38000000000 + n * 0x20000000
  { s with dmem := s.dmem.filter (fun e => e.1 < lo || lo + 0x20000000 ≤ e.1),
           poison := s.poison.filter (fun u => u < lo / 32 || (lo + 0x20000000) / 32 ≤ u) }

/-- VB_START_DEGRADED: bundles that came out short, their count and the lowest (R235, R239, R256). -/
def State.startDegraded (s : State) (n : Nat) (short : List Nat) : State :=
  match short.head? with
  | none => s
  | some x => s.raise 0x0706 (dieSD n) [(2, short.length), (2, x)]

/-- What the ring lock and lane tests of a start or return found, acted on (R159, R163, R173). -/
def State.startTest (s : State) (t : StartTest) : State :=
  match t with
  | .ring r => s.retireRing r
  | .lane l r => s.judgeTest l r true
  | .retune u ok => s.retuneDone (unitKey u) ok

/-- A die's return checks passed: OPEN, lanes that failed their tests repaired, cores whose crossings failed retired, the dies above
released (R163, R173, R251, R252, R371). -/
def State.dieOpen (s : State) (n : Nat) (tests : List (Nat × List Nat)) (found : List StartTest) (cal : List Crossing) : State :=
  let s1 := (s.wr F.STK_DIE_STATE n 0).calibrate cal
  let s2 := if n < 12 then
      let b := s1.buildStack n tests false
      ((b.1.startDegraded n b.2).zeroSram n).failCrossed cal else s1
  let s3 := found.foldl State.startTest (s2.dieLight n)
  let s4 := (diesAbove n).foldl State.freeDie s3
  (s4.raise 0x0708 (lowerNum n) []).baseReady (if n < 12 then n / 3 else n - 12)

/-- A return check failed: FAILED, and R253. -/
def State.dieFailed (s : State) (n check : Nat) : State :=
  let s1 := (s.wr F.STK_DIE_STATE n 4).raise 0x0709 (lowerNum n) [(1, check)]
  if n < 12 then (s1.retireStack n 4).baseReady (n / 3)
  else if n = 12 ∨ n = 13 then (s1.portDies 2).setLevel else s1.setLevel

/-- DIE_RETURN_CHECKS_DONE: the return checks of R252 end, with the lane tests of the bundles of a cache die, what the lock and tests of
the rings and lanes found, and the crossings calibrated, whose failure on the die itself is its check 1; the check that failed as a
whole counts from 0 in R252's order (R251 to R253, R371). -/
def execDieReturnChecksDone (n : Fin 16) (failed : Option (Fin 5)) (tests : List (Fin 1536 × List (Fin 72))) (found : List StartTest)
    (cal : List Crossing) (s : State) : Out :=
  if s.dieState n ≠ 3 then .next s
  else match (if n.val < 12 ∧ cal.any (fun c => !crossingOk c && crossFixed c) then some 1 else failed) with
    | some c => .next (s.dieFailed n c)
    | none => .next (s.dieOpen n (tests.map (fun t => (t.1.val, t.2.map (·.val)))) found cal)

end Sys2Proof.Machine
end

