-- ==== Sys2Proof/Machine/Power.lean ====
section
/-!
DEFINITION. Power feeds, limits and thermal control (13_power_and_thermal.md R394 to R426). Temperatures are in 0.25 °C, dies
numbered as in R260; limit sources as in R414.
-/
namespace Sys2Proof.Machine

def State.setPwr (s : State) (p : PwrSt) : State := { s with pwr := p }

/-! ## Limits -/

def srcKey (d code : Nat) : Nat := 16 * d + code
/-- The supply-dip source of the package. -/
def dipKey : Nat := srcKey 12 1

/-- Step of a source. -/
def State.src (s : State) (k : Nat) : Nat := tget (fun _ => 0) s.pwr.src k

def State.putSource (s : State) (k v : Nat) : State := s.setPwr { s.pwr with src := tput (fun _ => 0) s.pwr.src k v }

/-- Temperature of a die. -/
def State.temp (s : State) (x : Nat) : Int := tget (fun _ => 0) s.pwr.temp x

/-- Pairs of a die by its number, and pairs of each of its regions in order (R405, R407). -/
def regionsOf (x : Nat) : List (List Nat) :=
  let two := fun (lo n : Nat) => (List.range n).map (fun i => [lo + 2 * i, lo + 2 * i + 1])
  if x < 4 then two 0 8
  else if x < 16 then two 0 4
  else if x < 28 then (List.range 18).map (fun i => [i]) ++ two 18 7
  else [[0, 1, 2, 3]]

/-- A pair holds a broken sensor (R407). -/
def State.pairBroken (s : State) (x i : Nat) : Bool := bitAt (s.rd F.THM_BROKEN_PAIRS x) i

/-- Broken regions of a die, by number. -/
def State.brokenRegions (s : State) (x : Nat) : List Nat :=
  (List.range (regionsOf x).length).filter (fun r => ((regionsOf x).getD r []).all (s.pairBroken x))

/-- Package limit step in force (R414). -/
def State.pkgStep (s : State) : Nat :=
  let io := (List.range 4).any (fun q => !(s.brokenRegions (dieIO q)).isEmpty)
  max (s.rd F.PWR_CTRL_PKG_STEP) (max (s.src dipKey) (if io then 31 else 0))

/-- Show the package step (R423). -/
def State.showPkg (s : State) : State := s.wr F.PWR_PKG_STEP 0 s.pkgStep

/-- Watts and amperes that steps allow (R402, R403). -/
def pkgWatts (k : Nat) : Nat := 5800 - 145 * k
def dieAmps (k : Nat) : Nat := 448 - 16 * min k 20

/-- The step that contains a measurement: the highest-numbered whose limit is at least it (R404). -/
def containing (limit : Nat → Nat) (m : Nat) : Nat := ((List.range 32).filter (fun k => decide (m ≤ limit k))).getLast?.getD 0

/-- A step-down of `n` from the step in force and the step that contains the measurement (R404). -/
def stepDown (n inForce within bound : Nat) : Nat := min bound (max inForce within + n)

/-- Current limit step in force on a die, and the code of the source that sets it, the lowest on a tie (R414, R424). -/
def State.dieStep (s : State) (d : Nat) : Nat := (List.range 12).foldl (fun a c => max a (s.src (srcKey d c))) 0
def State.dieSource (s : State) (d : Nat) : Nat :=
  if s.dieStep d = 0 then 0 else ((List.range 12).find? (fun c => s.src (srcKey d c) == s.dieStep d)).getD 0

def State.showDie (s : State) (d : Nat) : State := (s.wr F.PWR_DIE_ILIM_STEP d (s.dieStep d)).wr F.PWR_DIE_SOURCE d (s.dieSource d)

/-- A source takes a step, and no longer rises (R418). -/
def State.setSource (s : State) (d code v : Nat) : State :=
  let s1 := s.putSource (srcKey d code) v
  (s1.setPwr { s1.pwr with rising := s1.pwr.rising.del (srcKey d code) }).showDie d

/-- A source is released and rises a step each 1 ms (R415). -/
def State.release (s : State) (k : Nat) : State :=
  if s.src k = 0 then s else s.setPwr { s.pwr with rising := s.pwr.rising.add k }

/-- Cap on every island of a die: F4 in bands B3 and B4 and while the 25 °C/ms source is held (R408, R411). -/
def State.dieCap (s : State) (d : Nat) : Nat :=
  if 3 ≤ s.rd F.THM_DIE_BAND (dieCD d) ∨ s.pwr.severe.contains d then 4 else 15

/-- PCAP of the islands of a die: the cap of the current limit, the die's cap, and F0 over a broken core region (R391, R403, R407). -/
def State.showCaps (s : State) (d : Nat) : State :=
  let lost := s.brokenRegions (dieCD d)
  (List.range 36).foldl (fun (t : State) k =>
    let x := 36 * d + k
    t.wr F.CLK_ISL_PCAP x (if lost.contains (k / 2) then 0 else min (tget (fun _ => 15) t.pwr.cap x) (t.dieCap d))) s

/-- POLICY_LIMITED for a field (R417, R513). -/
def State.policyLimited (s : State) (f : Fld) (i : Nat) : State := s.raise 0x0110 srcPkg [(4, f.off i), (1, f.lo)]

/-- PKG_ALERT_N is low (R533). -/
def State.alertLow (s : State) : Bool :=
  decide (3 ≤ s.rd F.GLB_DEGRADED_LEVEL) || s.bit F.GLB_START_FAILED || !s.stack.halted.isEmpty || !s.pwr.ioHalt.isEmpty

/-! ## Feeds and supply (R395 to R401) -/

/-- OK bit of a feed: 0 VIN_A to 5 VHOST_B (R422). -/
def feedFld (f : Nat) : Fld := { F.PWR_FEED_VIN_A_OK with hi := f, lo := f }

/-- Condition 0 of R448: a pair that runs on one feed. -/
def State.showFeeds (s : State) : State :=
  s.setCond 0 ((List.range 3).any (fun p => s.bit (feedFld (2 * p)) != s.bit (feedFld (2 * p + 1))))

/-- FEED_FAIL: a feed is failing; its phases move to the other feed (R395). -/
def execFeedFail (f : Fin 6) (s : State) : Out :=
  if s.bit (feedFld f) then .next ((s.wr (feedFld f) 0 0).raise 0x0101 srcPkg [(1, f)]).showFeeds else .next s

/-- FEED_RETURN: a feed has held its level for 100 ms; its phases move back (R396). -/
def execFeedReturn (f : Fin 6) (s : State) : Out :=
  if s.bit (feedFld f) then .next s else .next ((s.wr (feedFld f) 0 1).raise 0x0102 srcPkg [(1, f)]).showFeeds

/-- SUPPLY_WARNING: V_S of VIN or VPH is below warning: the supply-dip source steps the package limit down 4 steps (R401, R404). -/
def execSupplyWarning (vph : Bool) (mv : BitVec 16) (s : State) : Out :=
  if mv.toNat < (if vph then 1700 else 2800) then
    let p := s.rd F.PWR_PKG_POWER
    let v := stepDown 4 s.pkgStep (containing pkgWatts p) 31
    let s1 := (s.putSource dipKey v).wr F.PWR_FEED_DIP 0 1
    let s2 := s1.setPwr { s1.pwr with rising := s1.pwr.rising.del dipKey, low := s1.pwr.low.add (b2n vph) }
    .next (s2.showPkg.raise 0x0103 srcPkg [(1, b2n vph), (2, mv.toNat)])
  else .next s

/-- SUPPLY_DIP_RELEASE: V_S has been at or above recovery for 1 ms: the supply-dip source is released (R401, R415). -/
def execSupplyDipRelease (s : State) : Out :=
  if s.bit F.PWR_FEED_DIP then
    let s1 := (s.wr F.PWR_FEED_DIP 0 0).release dipKey
    .next (s1.setPwr { s1.pwr with low := [] })
  else .next s

/-- BROWNOUT_TIMER: V_S has been below warning for more than 100 µs: BROWNOUT_HOLD (R401). -/
def execBrownoutTimer (s : State) : Out :=
  if s.pwr.low ≠ [] ∧ !s.bit F.PWR_FEED_BROWNOUT then .next ((s.wr F.PWR_FEED_BROWNOUT 0 1).raise 0x0104 srcPkg []) else .next s

/-- BROWNOUT_RECOVERY_TIMER: V_S has been at or above recovery for 1 ms: intake resumes (R401). -/
def execBrownoutRecoveryTimer (s : State) : Out :=
  if s.bit F.PWR_FEED_BROWNOUT then .next ((s.wr F.PWR_FEED_BROWNOUT 0 0).raise 0x0105 srcPkg []) else .next s

/-- HBM_OK of a quadrant follows its rails (R422). -/
def State.showRails (s : State) (q : Nat) : State :=
  let ok := (List.range 3).all (fun r => !s.pwr.hbmBad.contains (4 * q + r))
  let v := s.rd F.PWR_FEED_HBM_OK
  if bitAt v q = ok then s else s.wr F.PWR_FEED_HBM_OK 0 (if ok then v + 2 ^ q else v - 2 ^ q)

/-- HBM_RAIL_FAULT: an HBM rail has left its range for more than 10 µs: the quadrant's stacks are retired in service (R206, R397). -/
def execHbmRailFault (quad : Fin 4) (rail : Fin 3) (s : State) : Out :=
  let s1 := (s.setPwr { s.pwr with hbmBad := s.pwr.hbmBad.add (4 * quad.val + rail.val) }).showRails quad
  let s2 := s1.raise 0x0108 srcPkg [(1, quad), (1, rail)]
  .next (((List.range 3).map (3 * quad.val + ·)).foldl (fun (t : State) st => if t.bit F.MEM_HBM_PRESENT st then t.retireHbm st else t) s2)

/-- HBM_RAIL_RETURN: the rails of a quadrant are within range again; its stacks stay retired (R397, R422). -/
def execHbmRailReturn (quad : Fin 4) (s : State) : Out :=
  .next ((s.setPwr { s.pwr with hbmBad := s.pwr.hbmBad.filter (fun k => k / 4 != quad.val) }).showRails quad)

/-- Condition 7 of R448: a broken region or a phase ceiling. -/
def State.showLimits (s : State) : State :=
  s.setCond 7 ((List.range 32).any (fun x => s.bit F.THM_DIE_BROKEN x) || (List.range 12).any (fun d => s.src (srcKey d 10) != 0))

/-- Good phases of a rail. -/
def State.goodPhases (s : State) (d : Nat) (cache : Bool) : Nat :=
  (if cache then 5 else 25) - (s.pwr.phases.filter (fun k => k / 32 == 2 * d + b2n cache)).length

/-- PHASE_FAIL: a regulator phase is retired; too few compute-rail phases hold the die's current limit, or retire the die; too few
cache-rail phases retire the stack (R398). -/
def execPhaseFail (d : Fin 12) (cache : Bool) (phase : Fin 25) (s : State) : Out :=
  let k := 64 * d.val + 32 * b2n cache + phase.val
  if (cache ∧ 5 ≤ phase.val) ∨ s.pwr.phases.contains k then .next s
  else
    let die := if cache then dieSD d else dieCD d
    let s1 := (s.setPwr { s.pwr with phases := s.pwr.phases.add k }).raise 0x0106 die [(1, die), (1, b2n cache), (1, phase)]
    let p := s1.goodPhases d cache
    if cache then .next (if p < 3 then s1.retireStack d 5 else s1)
    else
      let s2 := s1.wr F.PWR_DIE_PHASES d p
      if p < 23 then
        let s3 := ((s2.setSource d 10 (min 20 ((448 - 20 * p + 15) / 16))).raise 0x0107 die [(1, die), (1, p)]).showLimits
        .next (if p < 7 then s3.retireCd d 5 else s3)
      else .next s2

/-! ## Power loops (R402, R403) -/

/-- The package power loop moves its source on every compute die. -/
def State.pkgMove (s : State) (up : Bool) : State :=
  (List.range 12).foldl (fun (t : State) d =>
    let v := t.src (srcKey d 1)
    t.setSource d 1 (if up then v - 1 else min 31 (v + 1))) s

/-- PKG_POWER_LOOP: the package power of the last 10 µs is measured: P100, and a step down each 100 µs above the limit, a step up each
1 ms after 1 ms more than 290 W below it, once start-up is done (R402, R430). -/
def execPkgPowerLoop (watts : BitVec 14) (s : State) : Out :=
  let ps := (watts.toNat :: s.pwr.power).take 10
  let mean := ps.foldl (· + ·) 0 / ps.length
  let lim := pkgWatts s.pkgStep
  let t := s.now + 1
  let under := if mean + 290 < lim then (if s.pwr.pkgUnder = 0 then t else s.pwr.pkgUnder) else 0
  let s1 := (s.setPwr { s.pwr with power := ps, pkgUnder := under }).wr F.PWR_PKG_POWER 0 mean
  if !s.bit F.GLB_START_DONE then .next s1
  else if lim < mean then
    if s.pwr.pkgDown = 0 ∨ s.pwr.pkgDown + 100000 ≤ t then
      let s2 := s1.pkgMove false
      let s3 := s2.setPwr { s2.pwr with pkgDown := t, pkgMove := t }
      .next (if s.pwr.pkgMove = 0 ∨ s.pwr.pkgMove + nsSec ≤ t then s3.raise 0x0109 srcPkg [] else s3)
    else .next s1
  else if under ≠ 0 ∧ under + 1000000 ≤ t ∧ s.pwr.pkgUp + 1000000 ≤ t ∧ (List.range 12).any (fun d => s.src (srcKey d 1) != 0) then
    let s2 := s1.pkgMove true
    .next (s2.setPwr { s2.pwr with pkgUp := t, pkgMove := t })
  else .next s1

/-- The islands of a die are at their steps (R373). -/
def State.stepsSettled (s : State) (d : Nat) : Bool :=
  (List.range 36).all (fun k =>
    let x := 36 * d + k
    let i : Island := tget (fun _ => {}) s.clk.isl x
    i.goal.isNone && s.rd F.CLK_ISL_STEP x == min (s.rd F.CLK_ISL_TARGET x) (min (s.rd F.CLK_ISL_PCAP x) (s.rd F.CLK_ISL_MCAP x)))

/-- Every island's cap of the current limit changes by `f`, of its cap and its running step. -/
def State.mapCaps (s : State) (d : Nat) (f : Nat → Nat → Nat) : State :=
  let s1 := (List.range 36).foldl (fun (t : State) k =>
    let x := 36 * d + k
    t.setPwr { t.pwr with cap := tput (fun _ => 15) t.pwr.cap x (f (tget (fun _ => 15) t.pwr.cap x) (t.rd F.CLK_ISL_STEP x)) }) s
  s1.showCaps d

/-- DIE_CURRENT_SAMPLE: the current of a compute rail, every 1 µs: above the limit PCAP goes a step below the running step, again at
each check once the islands have changed; 16 A below for 100 µs it rises; at F0 the matrix engines run at half rate (R403). -/
def execDieCurrentSample (d : Fin 12) (amps watts : BitVec 9) (s : State) : Out :=
  let lim := dieAmps (s.dieStep d)
  let a := amps.toNat
  let t := s.now + 1
  let old := tget (fun _ => 0) s.pwr.under d
  let under := if a + 16 < lim then (if old = 0 then t else old) else 0
  let s1 := (s.wr F.PWR_DIE_CURRENT d a).wr F.PWR_DIE_POWER d watts.toNat
  let s2 := s1.setPwr { s1.pwr with under := tput (fun _ => 0) s1.pwr.under d under,
                                    half := if a < lim then s1.pwr.half.del d else s1.pwr.half }
  if lim < a then
    if (List.range 36).all (fun k => s2.rd F.CLK_ISL_PCAP (36 * d.val + k) == 0) then
      .next ((s2.setPwr { s2.pwr with half := s2.pwr.half.add d }).disturbDie d)
    else if s2.stepsSettled d then .next (s2.mapCaps d (fun cap step => min cap step - 1))
    else .next s2
  else if under ≠ 0 ∧ under + 100000 ≤ t then
    let s3 := s2.setPwr { s2.pwr with under := tput (fun _ => 0) s2.pwr.under d t }
    .next (s3.mapCaps d (fun cap _ => min 15 (cap + 1)))
  else .next s2

/-! ## Sensors, bands and halts (R405 to R411) -/

/-- Upper edges of the bands of a die, in 0.25 °C (R408, R409). -/
def edgesOf (x : Nat) : List Int :=
  if x < 4 then [220, 260, 300] else if x < 16 then [300, 360, 400] else [280, 340, 380, 420]

/-- Leave bands downward, each 3 °C below its lower edge. -/
def bandFall (edges : List Int) (t : Int) : Nat → Nat
  | 0 => 0
  | b + 1 => if t ≤ edges.getD b 0 - 12 then bandFall edges t b else b + 1

/-- The band a temperature gives. -/
def nextBand (edges : List Int) (old : Nat) (t : Int) : Nat := max ((edges.filter (fun e => decide (e ≤ t))).length) (bandFall edges t old)

/-- The cores of a compute die are halted with POWER_ABORT (R84, R408). -/
def State.haltDie (s : State) (d code die : Nat) : State :=
  if s.stack.halted.contains d then s
  else
    let s1 := ({ s with stack := { s.stack with halted := s.stack.halted.add d } } : State).parkDie d code
    (s1.setSource d 11 20).raise 0x0203 die []

/-- Sources a band sets (R408, R409, R412): B3 and C3 hold the current limit at the floor, B4 and a cache die at 105 °C halt the die;
an I/O die at 105 °C keeps the device from completing descriptors. -/
def State.bandActs (s : State) (x old new : Nat) : State :=
  let s1 := if new = old then s else (s.wr F.THM_DIE_BAND x new).raise 0x0201 x [(1, old), (1, new)]
  let s2 := if new = 3 ∧ old ≠ 3 ∧ 4 ≤ x then s1.raise 0x0202 x [] else s1
  if 4 ≤ x ∧ x < 28 then
    let d := if x < 16 then x - 4 else x - 16
    let hold := 3 ≤ s2.rd F.THM_DIE_BAND (dieSD d) ∨ 3 ≤ s2.rd F.THM_DIE_BAND (dieCD d)
    let s3 := if hold then s2.setSource d 3 20
      else if s2.src (srcKey d 3) = 0 ∨ s2.pwr.rising.contains (srcKey d 3) then s2
      else s2.release (srcKey d 3)
    let s4 := if (x < 16 ∧ 420 ≤ s3.temp x) ∨ (16 ≤ x ∧ new = 4) then s3.haltDie d 0x50 (dieCD d) else s3
    if x < 16 then s4 else s4.showCaps d
  else if 28 ≤ x ∧ 420 ≤ s2.temp x ∧ !s2.pwr.ioHalt.contains (x - 28) then
    (s2.setPwr { s2.pwr with ioHalt := s2.pwr.ioHalt.add (x - 28) }).raise 0x0203 x []
  else s2

/-- Sensors of a die (R405). -/
def sensorCount (x : Nat) : Nat := if x < 4 then 32 else if x < 16 then 16 else if x < 28 then 64 else 8

/-- Sensors of a die that are found broken, each with the test of R406 that failed: a frequency outside −20 °C to 150 °C, as sampled or as
the command reports it, or the difference from its neighbours, which the command reports. -/
def sensorFaults (x : Nat) (temps : List Int) (broken : List (Fin 64 × Bool)) : List (Nat × Bool) :=
  let n := sensorCount x
  let far := (List.range (min n temps.length)).filter (fun k => temps.getD k 0 < -80 || 600 < temps.getD k 0)
  far.map (fun k => (k, false)) ++ (broken.map (fun b => (b.1.val, b.2))).filter (fun b => b.1 < n)

/-- Sensors found broken: 125 °C until the next cold reset, and the pairs that hold them (R406, R426). -/
def State.breakSensors (s : State) (x : Nat) (l : List (Nat × Bool)) : State :=
  l.foldl (fun (t : State) b =>
    let k := 64 * x + b.1
    if t.pwr.sensors.contains k then t
    else
      let v := t.rd F.THM_BROKEN_PAIRS x
      let s1 := t.setPwr { t.pwr with sensors := t.pwr.sensors.add k }
      let s2 := if bitAt v (b.1 / 2) then s1 else s1.wr F.THM_BROKEN_PAIRS x (v + 2 ^ (b.1 / 2))
      s2.raise 0x0207 x [(1, b.1), (1, b2n b.2)]) s

/-- The watch room may retire the cores whose sensor pairs are broken: whether it does is a free value (R90, R407; log entry 99). -/
def State.retireBroken (s : State) (d : Nat) (lost : List Nat) : State :=
  lost.foldl (fun (t : State) r => if r < 18 ∧ Config.retiresBroken (18 * d + r) then t.failPhysical d r false else t) s

/-- What a broken region does (R407): held sources at the floor, the package limit, PCAP of its core. -/
def State.brokenActs (s : State) (x : Nat) : State :=
  let lost := s.brokenRegions x
  if lost = [] then s
  else
    let s1 := (s.wr F.THM_DIE_BROKEN x 1).showLimits
    if x < 4 then (List.range 3).foldl (fun (t : State) i => t.setSource (3 * x + i) 9 20) s1
    else if x < 16 then s1.setSource (x - 4) 9 20
    else if x < 28 then
      ((if lost.any (fun r => decide (18 ≤ r)) then s1.setSource (x - 16) 9 20 else s1).showCaps (x - 16)).retireBroken (x - 16) lost
    else s1.showPkg

/-- The parameters a band chooses (R410): by region of a base die the band of its reading, for bias table and pre-emphasis; for a
compute or cache die whether the extra read-assist setting is on. -/
def State.showParams (s : State) (x : Nat) : State :=
  let put := fun (t : State) (k v : Nat) => t.setPwr { t.pwr with param := tput (fun _ => 0) t.pwr.param k v }
  if x < 4 then
    (List.range 8).foldl (fun (t : State) r =>
      match t.rowTemp x r with
      | some v => put t (32 * x + r) (nextBand (edgesOf x) (tget (fun _ => 0) t.pwr.param (32 * x + r)) v)
      | none => t) s
  else if x < 28 then put s (32 * x) (b2n (s.rd F.THM_DIE_BAND x == 2 || s.rd F.THM_DIE_BAND x == 3))
  else s

def maxInt : List Int → Option Int
  | [] => none
  | a :: r => some (r.foldl max a)

/-- Reading of a pair: the higher of its two sensors, a broken one reading 125 °C (R405, R406). -/
def State.pairTemp (s : State) (x : Nat) (temps : List Int) (i : Nat) : Int :=
  let one := fun (k : Nat) => if s.pwr.sensors.contains (64 * x + k) then 500 else temps.getD k 0
  max (one (2 * i)) (one (2 * i + 1))

/-- Readings of the regions that are not broken, by number (R407). -/
def State.readRegions (s : State) (x : Nat) (temps : List Int) : List (Nat × Int) :=
  (List.range (regionsOf x).length).filterMap (fun r =>
    (maxInt ((((regionsOf x).getD r []).filter (fun i => !s.pairBroken x i)).map (s.pairTemp x temps))).map (fun v => (r, v)))

/-- BASE_OUT_OF_RANGE of the pairs under ring rows, 0 to 7 (R407), outside 45 °C to 80 °C, as one that holds a broken sensor reads,
raised again only after 10 s back in range (R175, R406). -/
def State.baseRange (s : State) (x : Nat) (temps : List Int) : State :=
  (List.range 8).foldl (fun (t : State) i =>
    let v := t.pairTemp x temps i
    if 180 ≤ v ∧ v ≤ 320 then t
    else
      let k := 16 * x + i
      let last := tget (fun _ => 0) t.pwr.outAt k
      let s1 := t.setPwr { t.pwr with outAt := tput (fun _ => 0) t.pwr.outAt k (t.now + 1) }
      if last = 0 ∨ last + 10 * nsSec ≤ t.now + 1 then s1.raise 0x030B x [] else s1) s

/-- Rate of rise of a compute die over the last 200 µs: the change in 0.25 °C (R411), none before there are 200 µs of samples. -/
def State.riseOf (s : State) (x : Nat) : Option Int :=
  let h : List Int := tget (fun _ => []) s.pwr.hist x
  match h, h[20]? with
  | a :: _, some b => some (a - b)
  | _, _ => none

/-- The rate sources of R411; 8 and 20 quarter degrees in 200 µs are 10 and 25 °C/ms. -/
def State.riseActs (s : State) (x : Nat) : State :=
  let d := x - 16
  match s.riseOf x with
  | none => s
  | some v =>
    let rate := v * 5 / 4
    let s1 := s.wr F.THM_DIE_RATE x (rate % 256).toNat
    let data : List (Nat × Nat) := [(2, (rate % 65536).toNat)]
    let s2 := if 8 ≤ v ∧ !s1.pwr.fast.contains d then
        let w := stepDown 2 (s1.dieStep d) (containing dieAmps (s1.rd F.PWR_DIE_CURRENT d)) 20
        ((s1.setPwr { s1.pwr with fast := s1.pwr.fast.add d }).setSource d 4 w).raise 0x0205 x data else s1
    if 20 ≤ v ∧ !s2.pwr.severe.contains d then
      (((s2.setPwr { s2.pwr with severe := s2.pwr.severe.add d }).setSource d 5 20).showCaps d).raise 0x0206 x data
    else s2

/-- SENSOR_SAMPLE: the sensors of a die are sampled, every 10 µs: broken sensors and regions, the die's temperature, its band, halts and
its rate of rise (R405 to R411). A die all of whose regions are broken has no stated temperature: a free value (log entry 4). -/
def execSensorSample (x : Fin 32) (temps : List Int) (broken : List (Fin 64 × Bool)) (s : State) : Out :=
  let s1 := (s.breakSensors x (sensorFaults x temps broken)).brokenActs x
  let rs := s1.readRegions x temps
  let kept := s1.pwr.regions.filter (fun (e : Nat × Int) => e.1 / 32 != x.val)
  let regs := rs.foldl (fun (a : Tbl Int) (r : Nat × Int) => tins a (32 * x.val + r.1) r.2) kept
  let s2 := s1.setPwr { s1.pwr with regions := regs }
  let t : Int := (maxInt (rs.map (·.2))).getD (s2.freeVal.toNat % 1024)
  let s3 := if rs = [] then s2.drawn else s2
  let h : List Int := if 16 ≤ x.val ∧ x.val < 28 then (t :: tget (fun _ => []) s3.pwr.hist x).take 21 else []
  let s4 := s3.setPwr { s3.pwr with temp := tput (fun _ => 0) s3.pwr.temp x t, hist := tput (fun _ => []) s3.pwr.hist x h }
  let s5 := s4.wr F.THM_DIE_TEMP x (t / 4 % 256).toNat
  let old := s5.rd F.THM_DIE_BAND x
  let s6 := (s5.bandActs x old (nextBand (edgesOf x) old t)).showParams x
  if x.val < 4 then .next (s6.baseRange x temps)
  else if 16 ≤ x.val ∧ x.val < 28 then .next (s6.riseActs x)
  else .next s6

/-- RISE_HOLD_END: the rate of rise has stayed below 5 °C/ms for 1 ms: the rate sources are released (R411, R415). -/
def execRiseHoldEnd (d : Fin 12) (s : State) : Out :=
  let calm : Bool := match s.riseOf (dieCD d) with
    | some v => decide (v < 4)
    | none => true
  if calm ∧ (s.pwr.fast.contains d.val || s.pwr.severe.contains d.val) then
    let s1 := s.setPwr { s.pwr with fast := s.pwr.fast.del d, severe := s.pwr.severe.del d }
    .next (((s1.release (srcKey d 4)).release (srcKey d 5)).showCaps d)
  else .next s

/-- DIE_HALT_RELEASE: a halted die has been below 92 °C for 100 ms: its cores leave PARKED unless a lower-die reset holds them (R408,
R418). -/
def execDieHaltRelease (d : Fin 12) (s : State) : Out :=
  if s.stack.halted.contains d.val ∧ s.temp (dieCD d) < 368 then
    let s1 : State := { s with stack := { s.stack with halted := s.stack.halted.del d } }
    .next (((s1.release (srcKey d 11)).freeDie d).raise 0x0204 (dieCD d) [])
  else .next s

/-- THERMAL_LOOP: each 1 ms: at or above TJ_TARGET the thermal source goes a step down, not beyond MIN_STEP; 3 °C below it, a step up
each 10 ms, once start-up is done (R408, R417, R430). -/
def execThermalLoop (d : Fin 12) (s : State) : Out :=
  let tj : Int := 4 * s.rd F.THM_CTRL_TJ_TARGET
  let t := s.temp (dieCD d)
  let k := srcKey d 2
  let v := s.src k
  let now := s.now + 1
  if !s.bit F.GLB_START_DONE then .next s
  else if tj ≤ t then
    if v < s.rd F.PWR_CTRL_MIN_STEP then .next (s.setSource d 2 (v + 1))
    else if s.pwr.bound.contains k then .next s
    else .next ((s.setPwr { s.pwr with bound := s.pwr.bound.add k }).policyLimited F.PWR_CTRL_MIN_STEP 0)
  else
    let s1 := s.setPwr { s.pwr with bound := s.pwr.bound.del k }
    if t < tj - 12 ∧ 0 < v ∧ tget (fun _ => 0) s.pwr.thmUp d + 10000000 ≤ now then
      let s2 := s1.setSource d 2 (v - 1)
      .next (s2.setPwr { s2.pwr with thmUp := tput (fun _ => 0) s2.pwr.thmUp d now })
    else .next s1

/-- One cap of R412: while `on` a step down each 1 ms, held without `down`; released when its condition ends. -/
def State.stackCap (s : State) (d code : Nat) (on down : Bool) : State :=
  let k := srcKey d code
  if on then
    let s0 := s.setPwr { s.pwr with rising := s.pwr.rising.del k }
    let s1 := if down then s0.setSource d code (min 20 (s0.src k + 1)) else s0
    if down ∧ !s1.pwr.capped.contains k then
      (s1.setPwr { s1.pwr with capped := s1.pwr.capped.add k }).raise 0x0208 (dieCD d) [(1, code - 6)]
    else s1
  else if s.pwr.capped.contains k then
    ((s.setPwr { s.pwr with capped := s.pwr.capped.del k }).release k).raise 0x0209 (dieCD d) []
  else s

/-- STACK_CAP_LOOP: the cache, headroom and HBM caps of a compute die, each 1 ms, once start-up is done (R412, R430). -/
def execStackCapLoop (d : Fin 12) (s : State) : Out :=
  if !s.bit F.GLB_START_DONE then .next s
  else
  let h := s.rd F.FAB_HEADROOM_HEADROOM d
  let risen := tget (fun _ => 0) s.pwr.head d + 1 ≤ h
  let s1 := s.setPwr { s.pwr with head := tput (fun _ => 0) s.pwr.head d h }
  let cache := decide ((4 * s.rd F.THM_CTRL_CACHE_CAP : Int) ≤ s.temp (dieSD d))
  let hbm := decide (s.rd F.THM_CTRL_HBM_CAP ≤ s.rd F.MEM_HBM_TEMP d)
  .next (((s1.stackCap d 6 cache true).stackCap d 7 (s.fab.capAsk.contains d.val) (!risen)).stackCap d 8 hbm true)

/-- LIMIT_SOURCE_RISE: a released source rises a step; at step 0 it no longer acts (R415). -/
def execLimitSourceRise (d : Fin 13) (src : Fin 12) (s : State) : Out :=
  let k := srcKey d src
  if s.pwr.rising.contains k then
    let v := s.src k - 1
    let s1 := s.putSource k v
    let s2 := if v = 0 then s1.setPwr { s1.pwr with rising := s1.pwr.rising.del k } else s1
    .next (if d.val = 12 then s2.showPkg else s2.showDie d)
  else .next s

/-- HEATER_GRID_UPDATE: a base die's grid heats the regions below 48 °C until 50 °C, within 60 W and what 95 W leaves of the die's
other power `others`; `want` is the power those regions call for (R413). -/
def execHeaterGridUpdate (bd : Fin 4) (others want : BitVec 8) (s : State) : Out :=
  if s.rd F.GLB_START_STEP < 7 then .next s
  else
    let s1 := (List.range 8).foldl (fun (t : State) r =>
      let v : Int := tget (fun _ => 200) t.pwr.regions (32 * bd.val + r)
      let k := 8 * bd.val + r
      if v < 192 then t.setPwr { t.pwr with heat := t.pwr.heat.add k }
      else if 200 ≤ v then t.setPwr { t.pwr with heat := t.pwr.heat.del k } else t) s
    let on := s1.pwr.heat.any (fun k => k / 8 == bd.val)
    let draw := if on then min want.toNat (min 60 (95 - others.toNat)) else 0
    .next (s1.setPwr { s1.pwr with grid := tput (fun _ => 0) s1.pwr.grid bd draw })

end Sys2Proof.Machine
end

