-- ==== Sys2Proof/Machine/Registers.lean ====
section
/-!
DEFINITION. Writes to set-up registers and the reads that have side effects (17_setup_registers.md): access codes (R14, R508, R511),
ranges and bounds that tie two fields (R513), basic controls (R514), what a write sets off, writes held by a handover (R473), and
CONFIG (R356, R506).
-/
namespace Sys2Proof.Machine

/-- The bits of a field within its word. -/
def FieldDef.mask (f : FieldDef) : Word := bitsSet 0 f.hi f.lo (2 ^ (f.hi - f.lo + 1) - 1)

/-- The bits of the fields of a register that have an access code. -/
def RegRow.mask (r : RegRow) (a : Acc) : Word := r.fields.foldl (fun w f => if f.acc = a then w ||| f.mask else w) 0

/-! ## Basic controls (R514) -/

/-- The PRESET field of a register, if it holds one, and how many codes it has that are not reserved. -/
def presetOf (off : Nat) : Option (Fld × Nat) :=
  ([(F.GLB_CAL_CTRL_PRESET, 2), (F.CLK_CTRL_PRESET, 3), (F.PWR_CTRL_PRESET, 3), (F.THM_CTRL_PRESET, 2), (F.FAB_CTRL_LOCK_PRESET, 2),
    (F.LSR_CTRL_PRESET, 3), (F.PRT_CTRL_PRESET, 2), (F.PRT_E2E_CTRL_PRESET, 2), (F.MEM_CTRL_PRESET, 2), (F.STK_VB_CTRL_PRESET, 2),
    (F.FWU_CTRL_PRESET, 3)] : List (Fld × Nat)).find? (fun e => e.1.base == off)

/-- The expert fields a basic control loads, and their values by code (R514 and the rules it names). -/
def presetLoads : List (Fld × List Nat) :=
  [(F.GLB_CAL_CTRL_PERIOD, [10, 5]), (F.PWR_CTRL_PKG_STEP, [0, 12, 20]), (F.THM_CTRL_TJ_TARGET, [88, 82]),
   (F.THM_CTRL_CACHE_CAP, [95, 90]), (F.THM_CTRL_HBM_CAP, [98, 94]), (F.LSR_CTRL_ADV, [0x14, 0x0A, 0x14]),
   (F.LSR_CTRL_SW, [0x28, 0x1E, 0x28]), (F.PRT_CTRL_START, [8, 6]), (F.PRT_CTRL_STOP, [14, 12]), (F.PRT_E2E_CTRL_TIMER_RACK, [20, 30]),
   (F.PRT_E2E_CTRL_TIMER_SPINE, [80, 120]), (F.PRT_E2E_CTRL_RETRIES, [4, 6]), (F.MEM_CTRL_SCRUB_H, [24, 8]),
   (F.MEM_CTRL_RETIRE_CE, [3, 2]), (F.STK_VB_CTRL_LANE_ERR, [16, 4]), (F.FWU_CTRL_CAP, [1000, 100, 16000])]

/-- Load a preset: the expert fields of its register; TARGET of every island for CLK_CTRL (R389), the thresholds of FAB_QTHR for
FAB_CTRL (R176). -/
def State.loadPreset (s : State) (off code : Nat) : State :=
  if off = F.CLK_CTRL_PRESET.base then
    (List.range 432).foldl (fun (t : State) x => t.wr F.CLK_ISL_TARGET x ([12, 9, 15].getD code 12)) s
  else if off = F.FAB_CTRL_LOCK_PRESET.base then
    ((s.wr F.FAB_QTHR_EYE 0 ([20, 22].getD code 20)).wr F.FAB_QTHR_DETUNE 0 ([20, 15].getD code 20)).wr
      F.FAB_QTHR_BER 0 ([6, 7].getD code 6)
  else presetLoads.foldl (fun (t : State) e => if e.1.base = off then t.wr e.1 0 (e.2.getD code 0) else t) s

/-! ## Bits that ignore a write -/

/-- Bits of a register that ignore writes at present: ring registers but ENABLE while the ring is enabled or has accepted descriptors
outstanding (chapter 11), the mask and DRIVER_MAJOR while COMMITTED (R363), the tail area outside SOLO (R466), FF_ENABLE
without FF_TELEMETRY (R249). -/
def State.frozenMask (s : State) (off : Nat) : Word :=
  let cfg := fun (o : Nat) (held : Bool) => if held then (if off = o then 0x7FFFFFFF else 0xFFFFFFFF) else (0 : Word)
  if 0x300000 ≤ off ∧ off < 0x300400 then
    let r := (off - 0x300000) / 0x20
    cfg (F.RNG_CMD_CFG_ENABLE.off r) (s.bit F.RNG_CMD_CFG_ENABLE r || s.cmd.descs.any (fun d => d.ring == r))
  else if 0x301000 ≤ off ∧ off < 0x301400 then
    let c := (off - 0x301000) / 0x20
    cfg (F.RNG_CQ_CFG_ENABLE.off c) (s.bit F.RNG_CQ_CFG_ENABLE c || s.boundDescs c != 0)
  else if 0x400000 ≤ off ∧ off < 0x400014 then cfg F.EVT_CFG_ENABLE.base (s.bit F.EVT_CFG_ENABLE)
  else if 0x100040 ≤ off ∧ off < 0x100060 then if s.bit F.NEG_CTRL_COMMITTED then 0xFFFFFFFF else 0
  else if off = F.NEG_CTRL_COMMIT.base then if s.bit F.NEG_CTRL_COMMITTED then 0x0000FF00 else 0
  else if off = F.LVS_TAIL_LO_BASE_LO.base ∨ off = F.LVS_TAIL_HI_BASE_HI.base then if s.rd F.LVS_STATUS_STATE = 0 then 0 else 0xFFFFFFFF
  else if off = F.FAB_CTRL_FF_ENABLE.base then if s.bit F.STK_PKG_FF_TELEMETRY then 0 else 0x00000008
  else 0

/-! ## Ranges and bounds (R513) -/

/-- A word under bounds: the word, and the low bits of the fields that were held, in order. -/
abbrev Held := Word × List Nat

/-- Hold one field at a value. -/
def Held.fix (h : Held) (hi lo v : Nat) : Held := (bitsSet h.1 hi lo v, h.2 ++ [lo])

/-- Hold a field to its own range. -/
def Held.range (h : Held) (f : FieldDef) : Held :=
  match f.lim with
  | none => h
  | some (a, b) =>
    let v := bitsGet h.1 f.hi f.lo
    if v < a then h.fix f.hi f.lo a else if b < v then h.fix f.hi f.lo b else h

/-- The bound that ties two fields: `low` below `high`. One that changed alone is held against the other; where both changed, the
lower one is held. -/
def Held.tie (h : Held) (old : Word) (low high : Fld) : Held :=
  let l := bitsGet h.1 low.hi low.lo
  let u := bitsGet h.1 high.hi high.lo
  if l < u then h
  else if l ≠ bitsGet old low.hi low.lo then h.fix low.hi low.lo (u - 1)
  else h.fix high.hi high.lo (l + 1)

/-- RETRIES is held where (RETRIES + 1) × TIMER_SPINE would pass 900 µs (R329). -/
def Held.e2e (h : Held) : Held :=
  let f := F.PRT_E2E_CTRL_RETRIES
  let t := bitsGet h.1 F.PRT_E2E_CTRL_TIMER_SPINE.hi F.PRT_E2E_CTRL_TIMER_SPINE.lo
  if 900 < (bitsGet h.1 f.hi f.lo + 1) * t then h.fix f.hi f.lo (900 / t - 1) else h

/-- CLK_FTAB_x stays strictly between its neighbours and within its range, or keeps its value (R372). -/
def State.ftab (s : State) (off : Nat) (old : Word) (h : Held) : Held :=
  let i := (off - 0x501000) / 4 % 16
  let lo := if i = 0 then 0x1E else max 0x1E (bitsGet (s.reg (off - 4)) 7 0 + 1)
  let hi := if i = 15 then 0xE6 else min 0xE6 (bitsGet (s.reg (off + 4)) 7 0 - 1)
  let v := bitsGet h.1 7 0
  if hi < lo then (if v = bitsGet old 7 0 then h else h.fix 7 0 (bitsGet old 7 0))
  else if v < lo then h.fix 7 0 lo else if hi < v then h.fix 7 0 hi else h

/-- Every bound of a register on the word a write leaves. -/
def State.bound (s : State) (off : Nat) (r : RegRow) (old w : Word) : Held :=
  if 0x501000 ≤ off ∧ off < 0x501300 then s.ftab off old (w, [])
  else
    let h := r.fields.foldl Held.range ((w, []) : Held)
    if off = F.LSR_CTRL_ADV.base then h.tie old F.LSR_CTRL_ADV F.LSR_CTRL_SW
    else if off = F.PRT_CTRL_START.base then h.tie old F.PRT_CTRL_START F.PRT_CTRL_STOP
    else if off = F.CLK_CTRL_CRIT.base then h.tie old F.CLK_CTRL_CRIT F.CLK_CTRL_WARN
    else if off = F.PRT_E2E_CTRL_RETRIES.base then h.e2e
    else h

/-! ## What a write sets off -/

/-- GLB_SETUP_DONE is set: the cache SRAM modes take effect; one that is not valid is taken as CACHE (R212, R224, R442). -/
def State.setupDone (s : State) : State :=
  (List.range 12).foldl (fun (t : State) n =>
    let mode := t.rd F.MEM_SRAM_MODE_MODE n
    let units := t.rd F.MEM_SRAM_MODE_CACHE_UNITS n
    let bad := mode == 3 || (mode == 2 && (units == 0 || decide (11 < units)))
    let put := fun (u : State) (v : Nat) => ({ u with mem := { u.mem with sramMode := tput (fun _ => 0) u.mem.sramMode n v } } : State)
    if bad then put (t.policyLimited F.MEM_SRAM_MODE_MODE n) 0
    else put t (if mode = 2 then 2 + 256 * units else mode)) s

/-- A port's ENABLE: 0 takes its links OFF, a port reset, which empties its landing buffers and commit FIFOs; 1 lets them train (R282,
R284, R293). -/
def State.portEnable (s : State) (p : Nat) (on : Bool) : State :=
  if on then (portLinks p).foldl State.linkSettle s
  else
    let s1 := (portLinks p).foldl (fun (t : State) x => t.linkOff x true) s
    let fifo := s1.port.commit.filter (fun (e : Nat × List (Nat × List Byte)) => e.1 / 4 != p)
    { s1 with port := { s1.port with commit := fifo } }

/-- Show the role of every port; MULTI without SPINE_ROLE keeps the ports that would be SPINE OFF, with POLICY_LIMITED (R249, R270). -/
def State.showRoles (s : State) : State :=
  let s1 := (List.range 24).foldl (fun (t : State) p => t.wr F.PRT_PORT_ROLE p (b2n (t.spinePort p))) s
  if s.bit F.PRT_CTRL_TOPOLOGY ∧ !s.bit F.STK_PKG_SPINE_ROLE then
    let s2 := ((List.range 24).filter s.spinePort).foldl (fun (t : State) p => (portLinks p).foldl (fun (u : State) x => u.linkOff x false) t) s1
    s2.policyLimited F.PRT_CTRL_TOPOLOGY 0
  else ((List.range 24).flatMap portLinks).foldl State.linkSettle s1

/-- Every link goes through OFF: PRT_IDENT was written (R291). -/
def State.relink (s : State) : State :=
  let xs := (List.range 24).flatMap portLinks
  (xs.foldl State.linkSettle (xs.foldl (fun (t : State) x => t.linkOff x false) s)).btSettle

/-- A command of FWU_CMD (R478, R482, R483, R495), and whether it was taken. -/
def State.fwuCmd (s : State) (cmd : Nat) (env : FwEnv) : State :=
  if cmd = 1 then (s.offerMem env).1
  else if cmd = 2 then s.cancelImage env
  else if cmd = 3 then s.arm
  else if cmd = 4 then s.disarm
  else if cmd = 5 then (s.commitSvn env).1
  else if cmd = 6 then s.saveSettings env
  else s

/-- A value written to a CMD field of LSR_MOD_m (R196, R200). -/
def State.lsrCmd (s : State) (m cmd : Nat) : State :=
  if cmd = 1 then s.lsrSwitch m else if cmd = 2 then s.lsrPrepareRemove m else if cmd = 3 then s.lsrCancelRemove m else s

/-- What the write of a register sets off: `w` the bits written (0 elsewhere), `m` which bits were written, `old` the word before. -/
def State.wrote (s : State) (off : Nat) (w m old : Word) (env : FwEnv) : State :=
  let cmd := fun (f : Fld) => bitsGet w f.hi f.lo
  if off = F.GLB_SETUP_DONE_DONE.base then if s.bit F.GLB_SETUP_DONE_DONE ∧ !old.getLsbD 0 then s.setupDone else s
  else if off = F.NEG_CTRL_COMMIT.base then if w.getLsbD 0 then s.negCommit else s
  else if off = F.HST_CTRL_CMD.base then if cmd F.HST_CTRL_CMD = 1 then s.hstSwitch else s
  else if 0x300000 ≤ off ∧ off < 0x300400 then
    if off % 0x20 = 0x10 ∧ w.getLsbD 31 then s.wr F.RNG_CMD_FETCH_F ((off - 0x300000) / 0x20) 0 else s
  else if (0x301000 ≤ off ∧ off < 0x301400 ∧ off % 0x20 = 0x10) ∨ off = F.EVT_CFG_ENABLE.base then
    let c := if off = F.EVT_CFG_ENABLE.base then 32 else (off - 0x301000) / 0x20
    if w.getLsbD 31 then
      s.setCmd { s.cmd with written := tput (fun _ => 0) s.cmd.written c 0, unsig := tput (fun _ => 0) s.cmd.unsig c 0 }
    else s
  else if off = F.PRT_IDENT_VALID.base then
    if m &&& 0x800003FF ≠ 0 ∧ !s.bit F.GLB_SETUP_DONE_DONE then s.relink else s
  else if 0xA00100 ≤ off ∧ off < 0xA00160 then
    if m.getLsbD 31 then s.portEnable ((off - 0xA00100) / 4) (w.getLsbD 31) else s
  else if off = F.PRT_CTRL_TOPOLOGY.base then if (s.reg off ^^^ old).getLsbD 2 then s.showRoles else s
  else if off = F.CLK_BT_CTRL_ROOT.base then s.btSettle
  else if off = F.PWR_CTRL_PKG_STEP.base then s.showPkg
  else if 0x900100 ≤ off ∧ off < 0x9001C0 ∧ off % 16 = 0 then s.lsrCmd ((off - 0x900100) / 16) (cmd F.LSR_MOD_CMD)
  else if 0xC001C0 ≤ off ∧ off < 0xC00200 then
    if cmd F.STK_DIE_CMD = 1 then s.orderlyReset ((off - 0xC001C0) / 4)
    else if cmd F.STK_DIE_CMD = 2 then s.forcedReset ((off - 0xC001C0) / 4) else s
  else if off = F.GLB_RESET_CMD.base then
    if cmd F.GLB_RESET_CMD = 1 then s.askReset false 4 else if cmd F.GLB_RESET_CMD = 2 then s.askReset true 2 else s
  else if off = F.FWU_CMD_CMD.base then s.fwuCmd (cmd F.FWU_CMD_CMD) env
  else if off = F.MON_CTRL_LOCKOUT.base then if s.bit F.MON_CTRL_LOCKOUT ∧ !old.getLsbD 0 then s.monLock 3 else s
  else s

/-! ## One write -/

/-- GLB_EXPERT: DENY first, then KEY: 0x4558 unlocks unless DENY is set, any other value locks; a write refused counts once (R508 to
R510). -/
def State.writeExpert (s : State) (v mask : Word) : State :=
  let bit := F.GLB_EXPERT_DENY
  let deny := if mask.getLsbD 30 then b2n (v.getLsbD 30) else s.rd bit
  let locked := s.bit F.GLB_SETUP_DONE_DONE
  let s1 := if locked then s else s.wr bit 0 deny
  let key := bitsGet (v &&& mask) 15 0
  let keyed : Bool := mask &&& 0xFFFF ≠ 0
  let refused := keyed && key == 0x4558 && s1.bit bit
  let s2 := if keyed && !refused then s1.wr F.GLB_EXPERT_UNLOCKED 0 (b2n (key == 0x4558)) else s1
  if refused || (locked && deny != s.rd bit) then s2.bump F.GLB_EXPERT_DENIED 0 1 else s2

/-- RNG_CTR_HI_k is kept until RNG_CTR_LO_k is written, which sets the counter (R367). -/
def State.writeCtr (s : State) (off : Nat) (v mask : Word) : State :=
  let k := (off - 0x302000) / 8
  let old := s.reg off
  let w := (old &&& ~~~mask) ||| (v &&& mask)
  if off % 8 = 4 then s.setCmd { s.cmd with ctrHi := tput (fun _ => 0) s.cmd.ctrHi k (w.toNat + 1) }
  else
    let h := tget (fun _ => 0) s.cmd.ctrHi k
    let hi := if h = 0 then s.rd F.RNG_CTR_HI_VALUE k else h - 1
    (s.setCounter k (hi * 2 ^ 32 + w.toNat)).setCmd { s.cmd with ctrHi := tput (fun _ => 0) s.cmd.ctrHi k 0 }

/-- A write of the bits that `mask` selects to the register at an offset, under the access rules of R14, R508, R511 to R514; `mon`: from
an unlocked monitor session (R512). -/
def State.applyWrite (s : State) (off : Nat) (v mask : Word) (mon : Bool) (env : FwEnv) : State :=
  match regRow off with
  | none => s
  | some r =>
    if mask = 0 then s
    else if off = F.GLB_EXPERT_KEY.base then s.writeExpert v mask
    else if 0x302000 ≤ off ∧ off < 0x302800 then s.writeCtr off v mask
    else
      let m := mask &&& ~~~s.frozenMask off
      let old := s.reg off
      let w := (old &&& ~~~m) ||| (v &&& m)
      let changes : Bool := (w ^^^ old) &&& r.mask .rwx ≠ 0
      let done := s.bit F.GLB_SETUP_DONE_DONE
      let pre := presetOf off
      let code := match pre with
        | some (f, _) => bitsGet w f.hi f.lo
        | none => 0
      let valid := match pre with
        | some (_, n) => decide (code < n)
        | none => false
      let load := match pre with
        | some (f, _) => valid && (code != bitsGet old f.hi f.lo || !changes)
        | none => false
      let refused := !load && changes && !s.bit F.GLB_EXPERT_UNLOCKED && !mon
      let lockedOut : Bool := done && ((w ^^^ old) &&& r.mask .rwl ≠ 0)
      let take := r.mask .rw ||| (if done then 0 else r.mask .rwl) ||| (if load || refused then 0 else r.mask .rwx)
      let cleared := r.fields.foldl (fun (x : Word) f => if f.acc = .rw1c ∧ v &&& m &&& f.mask ≠ 0 then x &&& ~~~f.mask else x) old
      let new := (cleared &&& ~~~take) ||| (w &&& take)
      let new1 := match pre with
        | some (f, _) => if valid then new else bitsSet new f.hi f.lo (bitsGet old f.hi f.lo)
        | none => new
      let h := s.bound off r old new1
      let isCmd := off = F.GLB_RESET_CMD.base ∨ (0xC001C0 ≤ off ∧ off < 0xC00200)
      let s1 := s.setReg off (if isCmd then old else h.1)
      let s2 := if load then s1.loadPreset off code else s1
      let s3 := h.2.foldl (fun (t : State) lo => t.raise 0x0110 srcPkg [(4, off), (1, lo)]) s2
      let s4 := if refused || lockedOut then s3.bump F.GLB_EXPERT_DENIED 0 1 else s3
      if refused ∧ isCmd then s4 else s4.wrote off (v &&& m) m old env

/-- MSI-X table and pending bits of a port (R338, R505): unmasking an entry that is pending sends its vector. -/
def State.writeMsix (s : State) (p off : Nat) (v mask : Word) : State :=
  if off < 0x210400 then
    let i := p * 256 + (off - 0x210000) / 4
    let old := tget (fun i => if i % 4 = 3 then 1 else 0) s.cmd.msixTab i
    let w := (old &&& ~~~mask) ||| (v &&& mask)
    let s1 := s.setCmd { s.cmd with msixTab := tput (fun i => if i % 4 = 3 then 1 else 0) s.cmd.msixTab i w }
    if i % 4 = 3 ∧ !w.getLsbD 0 ∧ s.cmd.msixPend.contains (i / 4) then
      (s1.setCmd { s1.cmd with msixPend := s1.cmd.msixPend.del (i / 4) }).send (.msix p (i / 4 % 64))
    else s1
  else s

/-- A write through port `p` to an offset of BAR0 (R499, R502, R505). -/
def State.portWrite (s : State) (p off : Nat) (v mask : Word) (mon : Bool) (env : FwEnv) : State :=
  if 0x210000 ≤ off ∧ off < 0x211008 then s.writeMsix p off v mask else s.applyWrite off v mask mon env

/-- A 4-byte or 8-byte write through a port: an 8-byte write of a LO and HI pair acts on both halves at once, so that a counter takes
both; the halves of any other are written one after the other (R498). -/
def State.accessWrite (s : State) (w : HeldWrite) : State :=
  match w.hi with
  | none => s.portWrite w.p w.off w.v 0xFFFFFFFF false w.env
  | some h =>
    if 0x302000 ≤ w.off ∧ w.off < 0x302800 then
      (s.portWrite w.p (w.off + 4) h 0xFFFFFFFF false w.env).portWrite w.p w.off w.v 0xFFFFFFFF false w.env
    else (s.portWrite w.p w.off w.v 0xFFFFFFFF false w.env).portWrite w.p (w.off + 4) h 0xFFFFFFFF false w.env

/-- A BAR0 write: while a handover runs it is held, or dropped with SETUP_WRITE_DROPPED where the log of 256 is full (R473). -/
def State.barAccess (s : State) (w : HeldWrite) : State :=
  if s.bit F.FWU_STATUS_HANDOVER then
    if s.fw.held.length < 256 then s.setFw { s.fw with held := s.fw.held ++ [w] }
    else s.raise 0x0B06 s.fwSource [(4, w.off)]
  else s.accessWrite w

/-- What flashes and fuses answer where a command does not say: they take what is written; no signature verifies. -/
def quietEnv : FwEnv := ⟨false, true, true, true, true⟩

/-- A 4-byte BAR0 write of a register. -/
def State.barWrite (s : State) (off : Nat) (v : Word) (env : FwEnv := quietEnv) : State := s.barAccess ⟨0, off, v, none, env⟩

/-- The word that writes a CMD field and leaves the other fields of its register as they stand. -/
def State.cmdWord (s : State) (f : Fld) (i cmd : Nat) : Word := bitsSet (s.reg (f.off i)) f.hi f.lo cmd

/-! ## Commands: writes -/

/-- REGISTER_WRITE: a 4-byte or 8-byte BAR0 write through port `p`; one that is not aligned is refused and has no effect (R498,
R506). -/
def execRegisterWrite (p : Fin 2) (off : BitVec 26) (v : BitVec 32) (hi : Option (BitVec 32)) (env : FwEnv) (s : State) : Out :=
  let o := off.toNat
  if o % 4 ≠ 0 ∨ (hi.isSome ∧ o % 8 ≠ 0) then .next s else .next (s.barAccess ⟨p, o, v, hi, env⟩)

/-- GLB_EXPERT_WRITE (R509, R510). -/
def execGlbExpertWrite (v : BitVec 32) (s : State) : Out := .next (s.barWrite F.GLB_EXPERT_KEY.base v)
/-- GLB_SETUP_DONE_WRITE (R442). -/
def execGlbSetupDoneWrite (v : BitVec 32) (s : State) : Out := .next (s.barWrite F.GLB_SETUP_DONE_DONE.base v)
/-- GLB_RESET_WARM: CMD = WARM, an expert field (R441, R511). -/
def execGlbResetWarm (s : State) : Out := .next (s.barWrite F.GLB_RESET_CMD.base (s.cmdWord F.GLB_RESET_CMD 0 1))
/-- GLB_RESET_COLD: CMD = COLD (R441, R511). -/
def execGlbResetCold (s : State) : Out := .next (s.barWrite F.GLB_RESET_CMD.base (s.cmdWord F.GLB_RESET_CMD 0 2))
/-- HST_SWITCH: CMD = SWITCH (R341, R365). -/
def execHstSwitch (s : State) : Out := .next (s.barWrite F.HST_CTRL_CMD.base (s.cmdWord F.HST_CTRL_CMD 0 1))
/-- NEG_COMMIT: a write of NEG_CTRL (R363, R368). -/
def execNegCommit (v : BitVec 32) (s : State) : Out := .next (s.barWrite F.NEG_CTRL_COMMIT.base v)
/-- RNG_CMD_CFG_WRITE (R366). -/
def execRngCmdCfgWrite (r : Fin 32) (v : BitVec 32) (s : State) : Out := .next (s.barWrite (F.RNG_CMD_CFG_ENABLE.off r) v)
/-- RNG_CQ_CFG_WRITE (R367). -/
def execRngCqCfgWrite (r : Fin 32) (v : BitVec 32) (s : State) : Out := .next (s.barWrite (F.RNG_CQ_CFG_ENABLE.off r) v)
/-- EVT_CFG_WRITE (R367). -/
def execEvtCfgWrite (v : BitVec 32) (s : State) : Out := .next (s.barWrite F.EVT_CFG_ENABLE.base v)
/-- EVT_STATUS_CLEAR: a write of 1 to any bit of DROPPED clears it (R367). -/
def execEvtStatusClear (v : BitVec 32) (s : State) : Out := .next (s.barWrite F.EVT_STATUS_DROPPED.base v)
/-- RNG_CTR_WRITE: HI, then LO, which sets the counter (R356, R367). -/
def execRngCtrWrite (k : Fin 256) (hi lo : BitVec 32) (s : State) : Out :=
  .next ((s.barWrite (F.RNG_CTR_HI_VALUE.off k) hi).barWrite (F.RNG_CTR_LO_VALUE.off k) lo)
/-- MEM_ERRLOG_CLEAR: 1 written to VALID (R227). -/
def execMemErrlogClear (n : Fin 12) (s : State) : Out :=
  .next (s.barWrite (F.MEM_ERRLOG_HI_VALID.off n) (s.cmdWord F.MEM_ERRLOG_HI_VALID n 1))
/-- PRT_IDENT_WRITE (R291). -/
def execPrtIdentWrite (v : BitVec 32) (s : State) : Out := .next (s.barWrite F.PRT_IDENT_VALID.base v)
/-- PRT_PORT_ENABLE_WRITE (R293). -/
def execPrtPortEnableWrite (p : Fin 24) (v : BitVec 32) (s : State) : Out := .next (s.barWrite (F.PRT_PORT_ENABLE.off p) v)
/-- CLK_FTAB_WRITE (R372, R390). -/
def execClkFtabWrite (x : Fin 192) (v : BitVec 32) (s : State) : Out := .next (s.barWrite (F.CLK_FTAB_FREQ.off x) v)
/-- CLK_ISL_TARGET_WRITE (R391). -/
def execClkIslTargetWrite (x : Fin 432) (v : BitVec 32) (s : State) : Out := .next (s.barWrite (F.CLK_ISL_TARGET.off x) v)
/-- PRT_E2E_CTRL_WRITE (R329). -/
def execPrtE2eCtrlWrite (v : BitVec 32) (s : State) : Out := .next (s.barWrite F.PRT_E2E_CTRL_PRESET.base v)
/-- GLB_CAL_CTRL_WRITE (R443). -/
def execGlbCalCtrlWrite (v : BitVec 32) (s : State) : Out := .next (s.barWrite F.GLB_CAL_CTRL_PRESET.base v)
/-- CLK_CTRL_WRITE (R389). -/
def execClkCtrlWrite (v : BitVec 32) (s : State) : Out := .next (s.barWrite F.CLK_CTRL_PRESET.base v)
/-- PWR_CTRL_WRITE (R421). -/
def execPwrCtrlWrite (v : BitVec 32) (s : State) : Out := .next (s.barWrite F.PWR_CTRL_PRESET.base v)
/-- THM_CTRL_WRITE (R425). -/
def execThmCtrlWrite (v : BitVec 32) (s : State) : Out := .next (s.barWrite F.THM_CTRL_PRESET.base v)
/-- FAB_CTRL_WRITE (R176). -/
def execFabCtrlWrite (v : BitVec 32) (s : State) : Out := .next (s.barWrite F.FAB_CTRL_LOCK_PRESET.base v)
/-- LSR_CTRL_WRITE (R199). -/
def execLsrCtrlWrite (v : BitVec 32) (s : State) : Out := .next (s.barWrite F.LSR_CTRL_PRESET.base v)
/-- PRT_CTRL_WRITE (R290). -/
def execPrtCtrlWrite (v : BitVec 32) (s : State) : Out := .next (s.barWrite F.PRT_CTRL_PRESET.base v)
/-- MEM_CTRL_WRITE (R222). -/
def execMemCtrlWrite (v : BitVec 32) (s : State) : Out := .next (s.barWrite F.MEM_CTRL_PRESET.base v)
/-- STK_VB_CTRL_WRITE (R257). -/
def execStkVbCtrlWrite (v : BitVec 32) (s : State) : Out := .next (s.barWrite F.STK_VB_CTRL_PRESET.base v)
/-- FWU_CTRL_WRITE (R493). -/
def execFwuCtrlWrite (v : BitVec 32) (s : State) : Out := .next (s.barWrite F.FWU_CTRL_PRESET.base v)
/-- STK_DIE_ORDERLY: CMD = 0b01, an expert field (R251, R262). -/
def execStkDieOrderly (n : Fin 16) (s : State) : Out := .next (s.barWrite (F.STK_DIE_CMD.off n) (s.cmdWord F.STK_DIE_CMD n 1))
/-- STK_DIE_FORCED: CMD = 0b10 (R251, R262). -/
def execStkDieForced (n : Fin 16) (s : State) : Out := .next (s.barWrite (F.STK_DIE_CMD.off n) (s.cmdWord F.STK_DIE_CMD n 2))
/-- LSR_SWITCH: CMD = SWITCH (R196, R200). -/
def execLsrSwitch (m : Fin 12) (s : State) : Out := .next (s.barWrite (F.LSR_MOD_CMD.off m) (s.cmdWord F.LSR_MOD_CMD m 1))
/-- LSR_PREPARE_REMOVE: CMD = PREPARE_REMOVE (R196, R200). -/
def execLsrPrepareRemove (m : Fin 12) (s : State) : Out := .next (s.barWrite (F.LSR_MOD_CMD.off m) (s.cmdWord F.LSR_MOD_CMD m 2))
/-- LSR_CANCEL_REMOVE: CMD = CANCEL_REMOVE (R196, R200). -/
def execLsrCancelRemove (m : Fin 12) (s : State) : Out := .next (s.barWrite (F.LSR_MOD_CMD.off m) (s.cmdWord F.LSR_MOD_CMD m 3))
/-- FWU_OFFER: CMD = OFFER (R478, R495). -/
def execFwuOffer (env : FwEnv) (s : State) : Out := .next (s.barWrite F.FWU_CMD_CMD.base 1 env)
/-- FWU_CANCEL: CMD = CANCEL (R478). -/
def execFwuCancel (s : State) : Out := .next (s.barWrite F.FWU_CMD_CMD.base 2)
/-- FWU_ARM: CMD = ARM (R478, R479). -/
def execFwuArm (s : State) : Out := .next (s.barWrite F.FWU_CMD_CMD.base 3)
/-- FWU_DISARM: CMD = DISARM (R478). -/
def execFwuDisarm (s : State) : Out := .next (s.barWrite F.FWU_CMD_CMD.base 4)
/-- FWU_COMMIT_SVN: CMD = COMMIT_SVN (R482). -/
def execFwuCommitSvn (env : FwEnv) (s : State) : Out := .next (s.barWrite F.FWU_CMD_CMD.base 5 env)
/-- FWU_SAVE_SETTINGS: CMD = SAVE_SETTINGS (R483). -/
def execFwuSaveSettings (env : FwEnv) (s : State) : Out := .next (s.barWrite F.FWU_CMD_CMD.base 6 env)

/-- CONFIG: its entries, each one read-modify-write of a register; it starts only while no handover runs (R356, R473, R506). -/
def execConfig (seq : BitVec 32) (env : FwEnv) (s : State) : Out :=
  if s.bit F.FWU_STATUS_HANDOVER then .next s
  else .next (s.startDesc seq (fun d => descType d.bytes == 0x10) fun t d =>
    let t1 := (List.range (d.f 0x10 1)).foldl (fun (u : State) i =>
      let e := 0x18 + 12 * i
      u.portWrite (u.rd F.HST_CTRL_ACTIVE) (d.f e 4) (BitVec.ofNat 32 (d.f (e + 4) 4)) (BitVec.ofNat 32 (d.f (e + 8) 4)) false env) t
    t1.finishDesc d.seq 0 0 0)

/-! ## Commands: reads with side effects (R500) -/

/-- CLK_BT_LO_READ: a read of CLK_BT_LO latches CLK_BT_HI for the port (R393). -/
def execClkBtLoRead (p : Fin 2) (s : State) : Out :=
  .next (s.setCmd { s.cmd with btLatch := tput (fun _ => 0) s.cmd.btLatch p (s.bt / 2 ^ 32) })

/-- BRT_ENTRY_READ: a read of word 0 of a berth's entry latches the entry for the port (R504). -/
def execBrtEntryRead (p : Fin 2) (b : Fin 6144) (s : State) : Out :=
  .next (s.setCmd { s.cmd with brtLatch := tput (fun _ => (6144, [])) s.cmd.brtLatch p (b.val, s.berthBytes b) })

end Sys2Proof.Machine
end

