-- ==== Sys2Proof/Machine/Monitor.lean ====
section
/-!
DEFINITION. The serial monitor (18_monitor_and_package.md R518 to R527). A command is a line already taken apart; what the monitor prints
goes to `State.out`, line by line. Numbers stand in decimal but where the spec shows 0x; a data block stands in address order (log
entry 47).
-/
namespace Sys2Proof.Machine

/-! ## Text (R7, R518) -/

def hexChar (d : Nat) : Char := "0123456789ABCDEF".toList.getD d '0'

/-- The `n` uppercase hexadecimal digits of a number. -/
def hexDigits (n v : Nat) : List Char := (List.range n).map (fun i => hexChar (v / 16 ^ (n - 1 - i) % 16))

/-- A hexadecimal number: from eight digits upward in groups of four from the right (R7). -/
def hex (n v : Nat) : String :=
  let ds := hexDigits n v
  "0x" ++ String.ofList ((List.range n).flatMap (fun i =>
    (if 8 ≤ n ∧ 0 < i ∧ (n - i) % 4 = 0 then ['_'] else []) ++ [ds.getD i '0']))

/-- A data block as groups of 8 digits (R518). -/
def dataGroups (bs : List Byte) : List String :=
  (List.range ((bs.length + 3) / 4)).map (fun i =>
    String.ofList (((bs.drop (4 * i)).take 4).flatMap (fun b => hexDigits 2 b.toNat)))

def words (l : List String) : String := String.intercalate " " l

def dec (n : Nat) : String := toString n

/-- Digits of a fraction. -/
def fracDigits (n v : Nat) : String := String.ofList ((List.range n).map (fun i => hexChar (v / 10 ^ (n - 1 - i) % 10)))

/-- A signed quantity in units of 10^-n. -/
def fixed (n : Nat) (v : Int) : String :=
  (if v < 0 then "-" else "") ++ dec (v.natAbs / 10 ^ n) ++ "." ++ fracDigits n (v.natAbs % 10 ^ n)

/-- A field of `w` bits as a signed number. -/
def signedField (w v : Nat) : Int := if v < 2 ^ (w - 1) then v else (v : Int) - 2 ^ w

/-- Name of a die (R260). -/
def dieName (d : Nat) : String :=
  if d < 4 then "BD" ++ dec d else if d < 16 then "SD" ++ dec (d - 4) else if d < 28 then "CD" ++ dec (d - 16)
  else if d < 32 then "IO" ++ dec (d - 28) else "HD"

/-- One name out of a list. -/
def pick (l : List String) (i : Nat) : String := l.getD i "RESERVED"

def btNames : List String := ["FREE", "ROOT", "ACQUIRE", "TRACK", "HOLDOVER"]
def tenderNames : List String := ["IDLE", "ARRIVING", "READY", "ARMED", "ACTIVATING", "CONFIRMING"]
def linkNames : List String := ["OFF", "DARK", "ALIGN", "IDENT", "TEST", "CREDIT", "ACTIVE", "PAUSED", "FAULT"]
def laserNames : List String := ["RUN", "SWITCHING", "EMERGENCY", "SINGLE", "DARK", "REMOVING"]
def roleNames : List String := ["GENERAL", "PREFILL", "DECODE", "MOORING"]
def vesselNames : List String := ["SOLO", "PAIRING", "ACTIVE", "HOLD", "EXPOSED", "STANDBY", "TAKING_OVER", "FENCED"]
def dieNames : List String := ["IN_SERVICE", "RETIRED", "HELD"]
/-- The conditions of R448 by bit. -/
def conditionNames : List String := ["FEED_SINGLE", "MODULE_SINGLE", "NO_STANDBY", "MIRROR_LOST", "RETIRE_FULL", "PAIR_SHORT_OR_LINK_OUT",
  "BUNDLE_HALF_OR_PAIR_RETIRED", "BROKEN_REGION_OR_PHASE_CEILING", "CORE_ABSENT", "COMPUTE_DIE_RETIRED", "STACK_RETIRED", "EXPOSED"]

/-- IMAGE_VERSION as major, minor, patch and build (R474, R520). -/
def versionText (v : Nat) : String :=
  String.intercalate "." ((List.range 4).map (fun i => dec (v / 65536 ^ i % 65536)))

/-! ## Answers (R518, R526) -/

def State.say (s : State) (l : List String) : State := l.foldl (fun (t : State) x => t.send (.line x)) s

/-- The last line of a command and the prompt. -/
def State.monOk (s : State) (l : List String) : State := s.say (l ++ ["OK", "mon> "])

def errorNames : List String := ["", "SYNTAX", "UNKNOWN", "LOCKED", "RANGE", "REFUSED", "BUSY", "HANDOVER", "OVERFLOW", "LOCKOUT", "AUTH"]

def State.monErr (s : State) (code : Nat) : State := s.say ["ERR " ++ hex 2 code ++ " " ++ pick errorNames code, "mon> "]

/-! ## Read-only commands (R520) -/

/-- Name and syntax of every command. -/
def helpLines : List String :=
  ["HELP", "INFO", "INV", "RD <offset> [<count>]", "STATUS", "EVENTS [<n>]", "THERMAL", "POWER", "LINKS [<p>]",
   "FABRIC <e>", "LASER", "TIME"] ++
  ["CHAL", "LOCK", "UNLOCK <SERVICE|DEBUG> <minutes>", "WR <offset> <value> [<mask>]", "SAVE", "RESET <WARM|COLD>"] ++
  ["DIERESET <n> <ORDERLY|FORCED>", "CORERESET <lc>", "LINKRESET <p> [<c>]", "MEMRD <dpa> <len>", "MEMWR <dpa> <data>"]

def State.monHelp (s : State) : State := s.monOk helpLines

def State.monInfo (s : State) : State :=
  let standby := match s.standbyRoom with
    | some q => versionText (hdrVersion (s.room q).hdr)
    | none => "NONE"
  let start := if s.bit F.GLB_START_DONE then "DONE" else if s.bit F.GLB_START_FAILED then "FAILED"
    else "STEP " ++ dec (s.rd F.GLB_START_STEP)
  s.monOk ["SERIAL " ++ words (dataGroups serial), "HWTYPE 0x0000_4D31",
    words ["IMAGE", versionText (hdrVersion s.running), "STANDBY", standby], "SVN " ++ dec s.svnFuse,
    words ["START", start, if s.bit F.GLB_START_WARM then "WARM" else "COLD", "DEGRADED", hex 3 (s.rd F.GLB_START_DEGRADED)],
    "LEVEL D" ++ dec (s.rd F.GLB_DEGRADED_LEVEL), words ["BT", dec s.bt, pick btNames s.btState]]

def State.monInv (s : State) : State :=
  s.monOk ((List.range 33).map (fun d => words [dec d, dieName d, pick dieNames (s.rd F.GLB_INV_STATE d), "CAUSE",
    hex 1 (s.rd F.GLB_INV_CAUSE d), "STRAP", hex 2 (s.rd F.GLB_INV_STRAP d), "REV", hex 2 (s.rd F.STK_CAP_HI_REV d)]))

def State.monRd (s : State) (off count : Nat) : State :=
  if off % 4 ≠ 0 ∨ count = 0 ∨ 64 < count ∨ 0x4000000 < off + 4 * count then s.monErr 4
  else s.monOk ((List.range count).map (fun i => words [hex 8 (off + 4 * i), hex 8 (s.regView (off + 4 * i)).toNat]))

def State.monStatus (s : State) : State :=
  let conds := ((List.range 12).filter (bitAt (s.rd F.GLB_DEGRADED_CONDITIONS))).map (pick conditionNames)
  s.monOk [words (["LEVEL", "D" ++ dec (s.rd F.GLB_DEGRADED_LEVEL)] ++ conds), "FEED " ++ hex 8 (s.reg F.PWR_FEED_DIP.base).toNat,
    "ROLE " ++ pick roleNames (s.rd F.BRT_ROLE_ROLE),
    words ["LV", pick vesselNames (s.rd F.LVS_STATUS_STATE), "PARTNER", dec (s.rd F.LVS_STATUS_PARTNER), "EPOCH",
      dec (s.rd F.LVS_STATUS_EPOCH)],
    "TENDER " ++ pick tenderNames s.tender, "PORT " ++ (if s.rd F.HST_CTRL_ACTIVE = 0 then "A" else "B")]

def State.monEvents (s : State) (n : Nat) : State :=
  if n = 0 ∨ 64 < n then s.monErr 4
  else s.monOk ((s.bmcLog.drop (s.bmcLog.length - n)).map (fun e =>
    words ([dec e.seq, dec e.bt, hex 4 e.code, eventName e.code, hex 4 e.source] ++ dataGroups e.data)))

def State.monThermal (s : State) : State :=
  s.monOk ((List.range 32).map (fun x =>
    let own := [dec x, dieName x, dec (s.rd F.THM_DIE_TEMP x), dec (s.rd F.THM_DIE_BAND x)]
    if 16 ≤ x ∧ x < 28 then
      words (own ++ ["ILIM", dec (s.rd F.PWR_DIE_ILIM_STEP (x - 16)), "SOURCE", dec (s.rd F.PWR_DIE_SOURCE (x - 16))])
    else words own))

def State.monPower (s : State) : State :=
  s.monOk (words ["PKG", dec (s.rd F.PWR_PKG_STEP), dec (s.rd F.PWR_PKG_POWER)] :: (List.range 12).map (fun d =>
    words ["CD" ++ dec d, dec (s.rd F.PWR_DIE_POWER d), dec (s.rd F.PWR_DIE_CURRENT d), "PHASES", dec (s.rd F.PWR_DIE_PHASES d)]))

/-- Four bits as they stand in a register. -/
def bits4 (v : Nat) : String := "0b" ++ String.ofList ((List.range 4).map (fun i => if bitAt v (3 - i) then '1' else '0'))

def State.monLinks (s : State) (p : Option Nat) : State :=
  match p with
  | none => s.monOk ((List.range 24).map (fun q =>
      words ["XP" ++ dec q, if s.rd F.PRT_PORT_ROLE q = 0 then "RACK" else "SPINE", "LINKS", dec (s.rd F.PRT_PORT_LINKS q), "SPARE_TX",
        bits4 (s.rd F.PRT_PORT_SPARE_TX q), "SPARE_RX", bits4 (s.rd F.PRT_PORT_SPARE_RX q), "LOOP",
        if s.bit F.PRT_PORT_LOOP_OK q then "OK" else "FAIL"]))
  | some q => s.monOk ((portLinks q).map (fun x =>
      words [dec (x % 32), pick linkNames (s.linkState x), "PEER", dec (s.rd F.PRT_LINK_PEER x), "LOST", dec (s.rd F.PRT_LINK_LOST x)]))

def State.monFabric (s : State) (e : Nat) : State :=
  s.monOk (((List.range 16).filter (· != e)).map (fun j =>
    let x := 16 * e + j
    words ["EP" ++ dec e, "EP" ++ dec j, "LANES", dec (s.rd F.FAB_PAIR_LANES x), "RESERVE", dec (s.rd F.FAB_PAIR_RESERVE_USED x),
      "SHORT", dec (s.rd F.FAB_PAIR_SHORT x)]))

def State.monLaser (s : State) : State :=
  let db := fun (f : Fld) (m : Nat) => fixed 2 (5 * signedField 16 (s.rd f m))
  s.monOk ((List.range 12).map (fun m =>
    words ["LM" ++ dec m, pick laserNames (s.modState m), "ACTIVE", if s.activeLamp m = 0 then "A" else "B", "A",
      db F.LSR_LEVEL_A_DELTA m, "B", db F.LSR_LEVEL_B_DELTA m, "DARK", hex 8 (s.rd F.LSR_DARK_LINES m)]))

def State.monTime (s : State) : State :=
  s.monOk [words ["BT", dec s.bt, "STATE", pick btNames s.btState, "PARENT", dec (s.rd F.CLK_BT_STATUS_PARENT), "OFFSET",
    fixed 6 (15625 * signedField 18 (s.rd F.CLK_BT_STATUS_OFFSET)), "GEN", "IO" ++ dec (s.rd F.CLK_BT_STATUS_GEN)]]

/-! ## Unlock (R521 to R523) -/

/-- Three unlocks in a row have failed, the last within 60 s (R521). -/
def State.unlockHeld (s : State) : Bool := decide (3 ≤ s.mon.fails) && decide (s.now < s.mon.failAt - 1 + 60 * nsSec)

/-- The 64-byte challenge block (R521). -/
def State.challenge (s : State) (nonce : BitVec 256) : List Byte :=
  leBytes 4 0x434E4F4D ++ serial ++ leBytes 32 nonce.toNat ++ leBytes 8 s.bt ++ leBytes 2 (s.rd F.PRT_IDENT_BOOT_ID) ++
  leBytes 1 (s.activeRoom.getD 0) ++ [0]

def State.monChal (s : State) (nonce : BitVec 256) : State :=
  if s.bit F.MON_CTRL_LOCKOUT ∨ s.unlockHeld then s.monErr 9
  else
    let b := s.challenge nonce
    let s1 : State := { s with mon := { s.mon with block := some b, blockAt := s.now } }
    s1.monOk [words (dataGroups (b.take 32)), words (dataGroups (b.drop 32))]

def State.monUnlock (s : State) (debug : Bool) (minutes : Nat) : State :=
  if minutes = 0 ∨ 240 < minutes then s.monErr 4
  else ({ s with mon := { s.mon with unlock := some (if debug then 2 else 1, minutes, []) } } : State).say ["SEND 5076"]

/-- The empty line after an UNLOCK: the signature verifies over a block that is not spent and at most 60 s old, and the session opens,
or the unlock fails with AUTH (R522). -/
def State.monVerify (s : State) (scope minutes : Nat) (data : List Byte) (sig : Bool) : State :=
  let fresh : Bool := s.mon.block.isSome && decide (s.now ≤ s.mon.blockAt + 60 * nsSec)
  if data.length = 5076 ∧ sig ∧ fresh ∧ !s.bit F.MON_CTRL_LOCKOUT then
    let s1 : State := { s with mon := { s.mon with block := none, unlock := none, scope := scope, fails := 0 } }
    ((s1.wr F.MON_STATUS_SESSION 0 1).raise 0x0C20 s.fwSource [(1, scope), (1, minutes)]).monOk []
  else
    let s1 : State := { s with mon := { s.mon with block := none, unlock := none, fails := s.mon.fails + 1, failAt := s.now + 1 } }
    let s2 := s1.bump F.MON_STATUS_UNLOCK_FAIL 0 1
    (s2.raise 0x0C21 s.fwSource [(2, s2.rd F.MON_STATUS_UNLOCK_FAIL)]).monErr 10

/-- A line of signature data, or the empty line that ends it (R522). Without an UNLOCK before it a line of digits names no command. -/
def State.monSignature (s : State) (bytes : List Byte) (sig : Bool) : State :=
  match s.mon.unlock with
  | none => if bytes = [] then s else s.monErr 2
  | some (scope, minutes, data) =>
    if bytes = [] then s.monVerify scope minutes data sig
    else { s with mon := { s.mon with unlock := some (scope, minutes, (data ++ bytes).take 5077) } }

/-! ## Write and debug commands (R524, R525) -/

/-- MON_COMMAND of an accepted command, its position in R524 and its first argument (R527). -/
def State.monTell (s : State) (c : Nat) (arg : List (Nat × Nat)) : State := s.raise 0x0C23 s.fwSource ((1, c) :: arg)

/-- A command that needs a scope: LOCKED without it; the session's commands need it alone (R523, R524). -/
def State.monScoped (s : State) (scope : Nat) (f : State → State) : State := if s.mon.scope < scope then s.monErr 3 else f s

def State.monWr (s : State) (off : Nat) (v mask : Word) (env : FwEnv) : State :=
  if off % 4 ≠ 0 ∨ 0x4000000 ≤ off then s.monErr 4
  else
    let s1 := (s.monTell 0 [(4, off)]).portWrite (s.rd F.HST_CTRL_ACTIVE) off v mask true env
    s1.monOk [words [hex 8 off, hex 8 (s1.regView off).toNat]]

def State.monSave (s : State) (env : FwEnv) : State := ((s.monTell 1 []).saveSettings env).monOk []

def State.monReset (s : State) (cold : Bool) : State :=
  ((s.monTell 2 [(1, b2n cold)]).monOk []).askReset cold (if cold then 2 else 4)

/-- DIERESET: BUSY while the die is in a reset that the request would not change, REFUSED of a FAILED die and before step 12 (R251,
R255, R525). -/
def State.monDieReset (s : State) (n : Nat) (forced : Bool) : State :=
  if !s.bit F.GLB_START_DONE ∨ s.dieState n = 4 then s.monErr 5
  else if s.dieState n = 2 ∨ s.dieState n = 3 ∨ (s.dieState n = 1 ∧ !forced) then s.monErr 6
  else
    let s1 := s.monTell 3 [(1, n)]
    (if forced then s1.forcedReset n else s1.orderlyReset n).monOk []

/-- CORERESET: only of an IDLE core that has a physical core (R89, R524). -/
def State.monCoreReset (s : State) (lc : Nat) : State :=
  let c := s.core lc
  if !s.bit F.GLB_START_DONE ∨ c.cstate ≠ .idle ∨ c.broken = true then s.monErr 5
  else ((s.monTell 4 [(1, lc)]).resetCore lc).monOk []

/-- LINKRESET of one link, or of every link of a port: OFF, its landing buffers emptied, and it trains again (R282, R284). -/
def State.monLinkReset (s : State) (p : Nat) (c : Option Nat) : State :=
  if c = some 0 then s.monErr 4
  else if !s.bit F.GLB_START_DONE then s.monErr 5
  else
    let xs := match c with
      | some k => [32 * p + k]
      | none => portLinks p
    let s1 := xs.foldl (fun (t : State) x => t.linkOff x true) (s.monTell 5 [(1, p)])
    let s2 := if c.isNone then [0, 1, 2].foldl (fun (t : State) vc => t.setFifo p vc []) s1 else s1
    (xs.foldl State.linkSettle s2).monOk []

/-- Whether an area may be read or written by the monitor: an error code, or 0 (R203, R525). -/
def State.monArea (s : State) (a n : Nat) (write : Bool) : Nat :=
  if !s.mapOk a n write ∨ !s.liveOk a n then 4 else if s.areaReset a n then 6 else 0

/-- MEMRD: a line per 32-byte unit, POISON in place of the data of a marked one (R215, R524). -/
def State.monMemrd (s : State) (a len : Nat) : State :=
  if a % 8 ≠ 0 ∨ len % 8 ≠ 0 ∨ len = 0 ∨ 4096 < len then s.monErr 4
  else if !s.bit F.GLB_START_DONE then s.monErr 5
  else if s.monArea a len false ≠ 0 then s.monErr (s.monArea a len false)
  else (s.monTell 6 [(8, a)]).monOk ((touchedUnits a len).map (fun u =>
    if s.bad u then words [hex 11 u, "POISON"]
    else words (hex 11 u :: dataGroups (s.bytes u (min ((u / 32 + 1) * 32) (a + len) - u)))))

/-- MEMWR: 8 to 64 bytes within one 64-byte granule (R210, R211, R524). -/
def State.monMemwr (s : State) (a : Nat) (data : List Byte) : State :=
  if a % 8 ≠ 0 ∨ data.length < 8 ∨ 64 < a % 64 + data.length then s.monErr 4
  else if !s.bit F.GLB_START_DONE then s.monErr 5
  else if s.monArea a data.length true ≠ 0 then s.monErr (s.monArea a data.length true)
  else ((s.monTell 7 [(8, a)]).store a data).monOk []

/-! ## Service -/

def State.monUnknown (s : State) (why : MonErr) : State :=
  s.monErr (match why with | .malformed => 1 | .unknown => 2 | .overrun => 8)

/-- What the monitor does with a line. -/
def State.monDo (s : State) (c : MonCmd) : State :=
  match c with
  | .help => s.monHelp
  | .info => s.monInfo
  | .inv => s.monInv
  | .rd off count => s.monRd off.toNat count
  | .status => s.monStatus
  | .events n => s.monEvents n
  | .thermal => s.monThermal
  | .power => s.monPower
  | .links p => s.monLinks (p.map (·.val))
  | .fabric e => s.monFabric e
  | .laser => s.monLaser
  | .time => s.monTime
  | .chal nonce => s.monChal nonce
  | .lock => (s.monLock 0).monOk []
  | .unlock debug minutes => s.monUnlock debug minutes.toNat
  | .wr off v mask env => s.monScoped 1 (·.monWr off.toNat v mask env)
  | .save env => s.monScoped 1 (·.monSave env)
  | .reset cold => s.monScoped 1 (·.monReset cold)
  | .diereset n forced => s.monScoped 1 (·.monDieReset n forced)
  | .corereset lc => s.monScoped 1 (·.monCoreReset lc)
  | .linkreset p k => s.monScoped 1 (·.monLinkReset p (k.map (·.val)))
  | .memrd a len => s.monScoped 2 (·.monMemrd a.toNat len)
  | .memwr a data => s.monScoped 2 (·.monMemwr a.toNat data)
  | .signature bytes sig => s.monSignature bytes sig
  | .unknown why => s.monUnknown why

/-- A line is served: by the active watch room, and by nobody before step 3 of a start (R519). While an UNLOCK reads its signature a
line that is no such data spoils the count (R522). -/
def State.monServe (s : State) (c : MonCmd) : State :=
  if s.activeRoom.isNone then s
  else match c, s.mon.unlock with
    | .signature bytes sig, _ => s.monSignature bytes sig
    | _, some (scope, minutes, _) =>
      { s with mon := { s.mon with unlock := some (scope, minutes, List.replicate 5077 0) } }
    | _, none => s.monDo c

/-- A line arrives: it waits while a handover runs (R525). -/
def State.monLine (s : State) (c : MonCmd) : State :=
  if s.bit F.FWU_STATUS_HANDOVER then { s with mon := { s.mon with waiting := s.mon.waiting ++ [c] } } else s.monServe c

/-! ## Commands -/

/-- HELP: one line per command (R520). -/
def execHelp (s : State) : Out := .next (s.monLine .help)
/-- INFO (R520). -/
def execInfo (s : State) : Out := .next (s.monLine .info)
/-- INV: the inventory of dies (R515, R520). -/
def execInv (s : State) : Out := .next (s.monLine .inv)
/-- RD: register words, read as through the mirror (R500, R520). -/
def execRd (off : BitVec 32) (count : Nat) (s : State) : Out := .next (s.monLine (.rd off count))
/-- STATUS (R520). -/
def execStatus (s : State) : Out := .next (s.monLine .status)
/-- EVENTS: the newest records of the log (R489, R520). -/
def execEvents (n : Nat) (s : State) : Out := .next (s.monLine (.events n))
/-- THERMAL (R424, R426, R520). -/
def execThermal (s : State) : Out := .next (s.monLine .thermal)
/-- POWER (R423, R424, R520). -/
def execPower (s : State) : Out := .next (s.monLine .power)
/-- LINKS (R293, R294, R520). -/
def execLinks (p : Option (Fin 24)) (s : State) : Out := .next (s.monLine (.links p))
/-- FABRIC (R179, R520). -/
def execFabric (e : Fin 16) (s : State) : Out := .next (s.monLine (.fabric e))
/-- LASER (R200, R201, R520). -/
def execLaser (s : State) : Out := .next (s.monLine .laser)
/-- TIME (R392, R520). -/
def execTime (s : State) : Out := .next (s.monLine .time)
/-- CHAL: a new challenge block (R521). -/
def execChal (nonce : BitVec 256) (s : State) : Out := .next (s.monLine (.chal nonce))
/-- LOCK: the session ends (R523). -/
def execLock (s : State) : Out := .next (s.monLine .lock)
/-- UNLOCK: the monitor asks for the signature (R522). -/
def execUnlock (debug : Bool) (minutes : BitVec 8) (s : State) : Out := .next (s.monLine (.unlock debug minutes))
/-- MON_SIGNATURE_LINE: a line of signature data, or the empty line; `sig` is the verdict over the data, the block, SCOPE and MINUTES
(R522). -/
def execMonSignatureLine (bytes : List (BitVec 8)) (sig : Bool) (s : State) : Out := .next (s.monLine (.signature bytes sig))
/-- WR: one masked write, treated as unlocked, and read back (R356, R512, R524). -/
def execWr (off v mask : BitVec 32) (env : FwEnv) (s : State) : Out := .next (s.monLine (.wr off v mask env))
/-- SAVE: as SAVE_SETTINGS (R495, R524). -/
def execSave (env : FwEnv) (s : State) : Out := .next (s.monLine (.save env))
/-- RESET: OK, then the reset (R431, R441, R524). -/
def execReset (cold : Bool) (s : State) : Out := .next (s.monLine (.reset cold))
/-- DIERESET (R251, R255, R524). -/
def execDiereset (n : Fin 16) (forced : Bool) (s : State) : Out := .next (s.monLine (.diereset n forced))
/-- CORERESET (R89, R524). -/
def execCorereset (lc : Fin 192) (s : State) : Out := .next (s.monLine (.corereset lc))
/-- LINKRESET (R282, R284, R524). -/
def execLinkreset (p : Fin 24) (c : Option (Fin 32)) (s : State) : Out := .next (s.monLine (.linkreset p c))
/-- MEMRD (R215, R524). -/
def execMemrd (a : BitVec 64) (len : Nat) (s : State) : Out := .next (s.monLine (.memrd a len))
/-- MEMWR (R210, R211, R524). -/
def execMemwr (a : BitVec 64) (data : List (BitVec 8)) (s : State) : Out := .next (s.monLine (.memwr a data))
/-- MON_UNKNOWN_COMMAND: ERR 0x01, 0x02 or 0x08 (R518, R526). -/
def execMonUnknownCommand (why : MonErr) (s : State) : Out := .next (s.monLine (.unknown why))

/-- MON_SESSION_EXPIRE: the session's minutes, or 10 minutes without a command, are over (R523). -/
def execMonSessionExpire (idle : Bool) (s : State) : Out :=
  if s.mon.scope = 0 then .next s else .next (s.monLock (if idle then 2 else 1))

end Sys2Proof.Machine
end

