-- ==== Sys2Proof/Machine/Handover.lean ====
section
/-!
DEFINITION. Handover and failover of the active watch room (16_firmware_and_security.md R470, R472, R473).
-/
namespace Sys2Proof.Machine

/-- A handover ends: the BAR0 writes it held are applied in order, and the monitor serves what waited (R473 step 5, R525). -/
def State.endHandover (s : State) : State :=
  let held := s.fw.held
  let s1 := (s.wr F.FWU_STATUS_HANDOVER 0 0).setFw { s.fw with held := [] }
  let s2 := held.foldl (fun (t : State) w => t.barAccess w) s1
  let wait := s2.mon.waiting
  wait.foldl (fun (t : State) c => t.monServe c) { s2 with mon := { s2.mon with waiting := [] } }

/-- HANDOVER_RECORD: the standby checks the record of a handover. It becomes ACTIVE, the sender STANDBY on the running image, the
held writes are applied and an activation goes to CONFIRMING; or it refuses the record and the sender stays ACTIVE (R469, R472,
R473, R478, R485, R523). -/
def execHandoverRecord (bytes : List (BitVec 8)) (_env : FwEnv) (s : State) : Out :=
  match s.activeRoom, s.standbyRoom with
  | some a, some b =>
    if !s.bit F.FWU_STATUS_HANDOVER then .next s
    else if recordGood (s.room b).hdr bytes && sectionsGood (at_ bytes 6 2) (bytes.drop 0x40) then
      let s1 := (((s.setRoom a { s.room a with role := 2 }).setRoom b { s.room b with role := 3 }).monLock 4).newBatch.fwShow
      let s2 := (s1.endHandover).raise 0x0B01 (dieIO b) [(1, a), (1, b)]
      .next (if s.tender = 4 then (s2.setTender 5).raise 0x0B0A (dieIO b) [] else s2)
    else .next (s.endHandover.raise 0x0B0C (dieIO b) [])
  | _, _ => .next s

/-- WATCHDOG_EXPIRE: the active watch room's watchdog expires: the standby takes over from the last shadow record, an image that was being
confirmed is rolled back; or without a standby the package warm-resets (R469, R470, R478). -/
def execWatchdogExpire (q : Fin 4) (s : State) : Out :=
  if s.activeRoom ≠ some q.val then .next s
  else match s.standbyRoom with
    | none => .next (s.askReset false 7)
    | some b =>
      let s1 := (((s.failRoom q).setRoom b { s.room b with role := 3 }).monLock 4).newBatch.fwShow
      let s2 := (if s.bit F.FWU_STATUS_HANDOVER then s1.endHandover else s1).raise 0x0B02 (dieIO b) []
      let s3 := if s.tender = 5 ∧ (s.room b).hdr ≠ (s.room q).hdr then
          ((s2.writeSlots quietEnv s.spareSlot (fun x => { x with state := 5 })).setTender 0).raise 0x0B0E (dieIO b) []
        else s2
      .next s3.fwSettle


end Sys2Proof.Machine
end

