-- ==== Sys2Proof/Machine/Lightvessel.lean ====
section
/-!
DEFINITION. The lightvessel (15_reliability.md R450 to R462): pairing, heartbeats, the witness, takeover, leases and checkpoints.
-/
namespace Sys2Proof.Machine

/-! ## Descriptors -/

/-- A device of the rack of the posting device or of its partner, other than both (R450). -/
def State.witnessOk (s : State) (partner : Nat) : Bool :=
  let w := s.rd F.LVS_CTRL_WITNESS
  w != s.device && w != partner && (s.sameRack w || w / 32 == partner / 32)

/-- LIGHTVESSEL_PAIR: the conditions of R450, then PAIRING with its first beat (R450, R455). -/
def execLightvesselPair (seq : BitVec 32) (s : State) : Out :=
  .next (s.startDesc seq (fun d => descType d.bytes == 0x0F && d.f 0x10 1 == 0) fun t d =>
    let side := d.f 0x11 1
    let p := d.f 0x12 2 % 1024
    let near := p != t.device && (t.sameRack p || p % 32 == t.rd F.PRT_IDENT_SLOT)
    let from_ := t.lvState == 0 || (t.lvState == 4 && side == 0)
    if !near || !from_ || !t.witnessOk p then t.finishDesc d.seq 0x20 0 0
    else
      let lv1 : LvSt := { t.lv with side := side, pairId := d.f 0x14 4, witness := t.rd F.LVS_CTRL_WITNESS,
                                    pairSeq := some d.seq, fromExposed := t.lvState == 4,
                                    was := (t.partner, t.lv.pairId, t.lv.side, t.lv.witness) }
      (({ t with lv := lv1 }.wr F.LVS_STATUS_PARTNER 0 p).lvTo 1).sendBeat 0)

/-- LIGHTVESSEL_UNPAIR: from ACTIVE, EXPOSED or STANDBY to SOLO with one beat that says so; a standby closes its mirrors (R455). -/
def execLightvesselUnpair (seq : BitVec 32) (s : State) : Out :=
  .next (s.startDesc seq (fun d => descType d.bytes == 0x0F && d.f 0x10 1 == 1) fun t d =>
    if t.lvState ≠ 2 ∧ t.lvState ≠ 4 ∧ t.lvState ≠ 5 then t.finishDesc d.seq 0x42 0 0
    else
      let t1 := (t.sendBeat 8).lvEvent 0x0A08 []
      let t2 := if t.lvState = 5 then t1.closeMirrors else t1
      let t3 := (t2.lvTo 0).dropCheckpoints
      ({ t3 with lv := { t3.lv with lease := 0 } } : State).finishDesc d.seq 0 0 0)

/-- A standby asks its witness for the takeover (R455). -/
def State.takeOver (s : State) : State := (s.lvTo 6).lvAsk

/-- LIGHTVESSEL_TAKEOVER: a standby asks its witness for the takeover; elsewhere ROLE_MISMATCH (R455). -/
def execLightvesselTakeover (seq : BitVec 32) (s : State) : Out :=
  .next (s.startDesc seq (fun d => descType d.bytes == 0x0F && d.f 0x10 1 == 2) fun t d =>
    if t.lvState ≠ 5 then t.finishDesc d.seq 0x42 0 0
    else ({ t with lv := { t.lv with takeSeq := some d.seq } } : State).takeOver)

/-! ## Heartbeats -/

/-- LV_BEAT_SEND: each partner sends a beat (R452). -/
def execLvBeatSend (s : State) : Out := .next (if s.lvState = 0 then s else s.sendBeat 0)

/-- Open the mirror of one berth as an inbound one; a mirror that cannot be allocated raises LV_EXPOSED (R459). -/
def State.openMirror (s : State) (b max : Nat) : State :=
  if s.lv.mirrors.contains b then s
  else
    let s1 := { s with lv := { s.lv with mirrors := s.lv.mirrors.add b } }
    if (s1.berth b).state ≠ 0 then s1.lvEvent 0x0A09 [(2, b)]
    else match s1.allocate b max with
      | .error _ => s1.lvEvent 0x0A09 [(2, b)]
      | .ok s2 => s2.setBerth b { s2.berth b with state := 1, mode := 1, kvFmt := s2.role.setup.kvFmt }

/-- Mirrors follow the active's berths: those it has opened are opened, those it has freed are closed (R459). -/
def State.syncMirrors (s : State) (berths : List (Fin 6144 × BitVec 24)) : State :=
  let gone := s.lv.mirrors.filter (fun b => !berths.any (fun (e : Fin 6144 × BitVec 24) => e.1.val == b))
  let s1 := gone.foldl (fun (t : State) b =>
    let t1 := if (t.berth b).state = 1 then t.freeBerth b else t
    { t1 with lv := { t1.lv with mirrors := t1.lv.mirrors.del b } }) s
  berths.foldl (fun (t : State) (e : Fin 6144 × BitVec 24) => t.openMirror e.1 e.2.toNat) s1

/-- A matching beat ends PAIRING: the active adopts the new epoch and starts a checkpoint of every ACTIVE berth; the standby adopts
the active's epoch and opens mirrors (R450, R455, R459, R460). -/
def State.paired (s : State) (epoch : Nat) (berths : List (Fin 6144 × BitVec 24)) : State :=
  let own := [1, s.epoch, s.fenceOf s.device, s.fenceOf s.partner].foldl (fun m x => if epochBelow m x then x else m) 1
  let e := if s.lv.side = 0 then own else epoch
  let s1 := (s.wr F.LVS_STATUS_EPOCH 0 e).lvEvent 0x0A01 [(1, s.lv.side), (2, e)]
  if s.lv.side = 0 then
    let act := (s1.role.berths.filter (fun (b : Nat × Berth) => b.2.state == 2)).map (·.1)
    let s2 := ({ s1 with lv := { s1.lv with lease := 0, fromExposed := false, first := act.foldl NSet.add [] } } : State).lvTo 2
    (act.foldl (fun (t : State) b => t.checkpoint b) s2).pairDone
  else
    let s2 := ({ s1 with lv := { s1.lv with pairSeq := none, lease := 0, fromExposed := false } } : State).lvTo 5
    let s3 := s2.syncMirrors berths
    match s.lv.pairSeq with | some q => s3.finishDesc q 0 0 0 | none => s3

/-- Back to the EXPOSED state that PAIRING came from, with its old partner, pair and witness (R454, R455). -/
def State.backExposed (s : State) : State :=
  let lv1 : LvSt := { s.lv with pairId := s.lv.was.2.1, side := s.lv.was.2.2.1, witness := s.lv.was.2.2.2, fromExposed := false }
  ({ s with lv := lv1 }.wr F.LVS_STATUS_PARTNER 0 s.lv.was.1).lvTo 4

/-- PAIRING fails: back to SOLO, or to EXPOSED where it came from there; the PAIR completes with a status (R455). -/
def State.pairFails (s : State) (status : Nat) : State :=
  let s0 : State := { s with lv := { s.lv with pairSeq := none } }
  let s1 := if s.lv.fromExposed then s0.backExposed else s0.lvTo 0
  match s.lv.pairSeq with | some q => s1.finishDesc q status 0 0 | none => s1

/-- A beat of the partner in each state (R450, R455). -/
def State.beat (s : State) (d : List Byte) (same : Bool) (berths : List (Fin 6144 × BitVec 24)) : State :=
  let fl := at_ d 5 1
  let e := at_ d 6 2
  match s.lvState with
  | 1 => if at_ d 0 4 = s.lv.pairId ∧ at_ d 4 1 = 1 - s.lv.side ∧ same then s.paired e berths else s.pairFails 0x42
  | 2 =>
    if bitAt fl 0 then s.lvFence 3 else if epochBelow s.epoch e then s.lvFence 4
    else if bitAt fl 3 then (({ s with lv := { s.lv with lease := 0 } } : State).lvTo 4).dropCheckpoints
    else s
  | 3 =>
    if bitAt fl 0 then s.lvFence 3 else if epochBelow s.epoch e then s.lvFence 4
    else (s.lvTo 2).lvRelease
  | 4 => if bitAt fl 0 then s.lvFence 3 else if epochBelow s.epoch e then s.lvFence 4 else s
  | 5 =>
    if bitAt fl 1 then s.takeOver
    else if bitAt fl 3 then s.closeMirrors.lvTo 0
    else (s.wr F.LVS_STATUS_EPOCH 0 e).syncMirrors berths
  | _ => s

/-- Take a lightvessel packet of a given code for this device from the head of a commit FIFO; step 1 of R310 holds for it (R452). -/
def State.takeLv (s : State) (op : Nat) (p : Fin 24) (vc : Fin 3) (act : State → Pkt → State) : State :=
  match s.headPkt p vc with
  | none => s
  | some (_, b) =>
    let k := parsePkt b
    if k.op = op ∧ k.target = s.device then
      let s1 := s.popPkt p vc
      s1.landFence (p / 6) k (act s1 k)
    else s

/-- LV_BEAT: a beat arrives. `same` says whether the partner's witness, role and set-up are this device's, and `berths` which
berths are open on it, neither of which the packet carries (R450, R452, R455, R459; log entry 34). -/
def execLvBeat (p : Fin 24) (vc : Fin 3) (same : Bool) (berths : List (Fin 6144 × BitVec 24)) (s : State) : Out :=
  .next (s.takeLv 0x0A p vc fun t k => if k.source = t.partner ∧ t.lvState ≠ 0 then t.beat k.data same berths else t)

/-- LV_PAIRING_TIMEOUT: 10 ms without a beat in PAIRING (R455). -/
def execLvPairingTimeout (s : State) : Out := .next (if s.lvState = 1 then s.pairFails 0x12 else s)

/-- LV_ACTIVE_SILENCE: the partner has been silent for 40 µs: HOLD, and the witness is asked (R455). -/
def execLvActiveSilence (s : State) : Out :=
  .next (if s.lvState = 2 then ((s.lvTo 3).lvEvent 0x0A04 []).lvAsk else s)

/-- LV_STANDBY_SILENCE: the partner has been silent for 50 µs: TAKING_OVER (R455). -/
def execLvStandbySilence (s : State) : Out := .next (if s.lvState = 5 then s.takeOver else s)

/-! ## The witness -/

/-- LV_ASK: the witness decides a TAKEOVER, a CONTINUE or a renewal and answers; in quarantine it grants and records renewals and
answers nothing else (R453, R454). -/
def execLvAsk (p : Fin 24) (vc : Fin 3) (s : State) : Out :=
  .next (s.takeLv 0x0C p vc fun t k =>
    let fl := at_ k.data 5 1
    let e := at_ k.data 6 2
    let subj := at_ k.data 8 2
    let renew := bitAt fl 5
    let take := at_ k.data 4 1 == 1 && !renew
    let cont := fun (d : Nat) => tget (fun _ => 0) t.rack.cont d
    if t.lv.quarantine ∧ !renew then t
    else
      let old := (e + 65535) % 65536
      let grant := if take then cont subj == 0 || !(cont subj == old || epochBelow old (cont subj))
        else (t.lv.quarantine && renew) || t.fenceOf k.source == 0 || !epochBelow e (t.fenceOf k.source)
      let t1 := if !grant then t
        else if take then (t.raiseFence subj e).raiseFence k.source e
        else
          let t2 := { t with rack := { t.rack with cont := tput (fun _ => 0) t.rack.cont k.source e } }
          if renew then t2.raiseFence subj (at_ k.data 10 2) else t2
      let d := k.data.take 5 ++ leBytes 1 (fl % 64 - fl / 16 % 2 * 16 + 16 * b2n grant) ++ (k.data.drop 6).take 26
      t1.lvIssue (t1.lvPkt 0x8C k.source d))

/-- LV_QUARANTINE_END: 10 ms after its start the witness decides every ask (R454). -/
def execLvQuarantineEnd (s : State) : Out := .next { s with lv := { s.lv with quarantine := false } }

/-- LV_ASK_REPEAT: an unanswered CONTINUE or TAKEOVER is sent again (R455). -/
def execLvAskRepeat (s : State) : Out := .next (if s.lvState = 3 ∨ s.lvState = 6 then s.lvAsk else s)

/-- LV_LEASE_RENEW: a lease holder sends a renewal (R454). -/
def execLvLeaseRenew (s : State) : Out := .next (if s.lvState = 4 ∧ s.lv.lease ≠ 0 then s.lvAsk else s)

/-- LV_LEASE_EXPIRE: 5 ms without a grant to a renewal: FENCED (R454, R455). -/
def execLvLeaseExpire (s : State) : Out := .next (if s.lvState = 4 ∧ s.lv.lease ≠ 0 then s.lvFence 6 else s)

/-- LV_HOLD_TIMEOUT: no answer to CONTINUE for 1 s: FENCED (R455). -/
def execLvHoldTimeout (s : State) : Out := .next (if s.lvState = 3 then (s.lvEvent 0x0A07 []).lvFence 0 else s)

/-- LV_TAKEOVER_TIMEOUT: no answer of the witness in 20 µs: STANDBY again (R455). -/
def execLvTakeoverTimeout (s : State) : Out :=
  if s.lvState ≠ 6 then .next s
  else
    let s1 := ({ s with lv := { s.lv with takeSeq := none } } : State).lvTo 5
    let s2 := s1.lvEvent 0x0A07 []
    .next (match s.lv.takeSeq with | some q => s2.finishDesc q 0x12 0 0 | none => s2)

/-! ## Takeover -/

/-- The notices of a new active: every device of its rack and the device of its slot in every other rack that it can reach
(R457). -/
def State.noticeTargets (s : State) : List Nat :=
  let rack := s.rd F.PRT_IDENT_RACK
  let slot := s.rd F.PRT_IDENT_SLOT
  (((List.range 32).map (fun x => 32 * rack + x)) ++ ((List.range 32).filter (· != rack)).map (fun r => 32 * r + slot)).filter
    (fun d => d != s.device && s.reachable d)

/-- Send a notice to devices and keep it until each acknowledges it (R457). -/
def State.notify (s : State) (p : Pkt) (to_ : List Nat) : State :=
  to_.foldl (fun (t : State) d =>
    let k : Pkt := { p with target := d, e := 16 * t.dieFrom 0 d + 15 }
    let t1 := if t.lv.notices.contains (d, k) then t else { t with lv := { t.lv with notices := t.lv.notices ++ [(d, k)] } }
    t1.lvIssue k) s

/-- Commit the mirrors that hold a complete checkpoint, each with its tail in this device's own area, and close the others
(R461). -/
def State.commitMirrors (s : State) : State :=
  let s1 := s.lv.mirrors.foldl (fun (t : State) b =>
    let h : List Byte × List Byte := tget (fun _ => ([], [])) s.lv.heads b
    if (t.berth b).state ≠ 1 then t
    else if h.1 = [] then t.freeBerth b
    else
      let t1 := t.commitBerth b h.1
      if t1.liveOk (t1.tailAddr b) 64 then t1.store (t1.tailAddr b) h.2 else t1) s
  { s1 with lv := { s1.lv with mirrors := [], heads := [] } }

/-- TAKEOVER is granted: the new epoch with its fences, EXPOSED under a lease, notices, the mirrors committed, LV_TAKEOVER
(R454, R455, R457, R461). -/
def State.takeGranted (s : State) : State :=
  let e := (s.epoch + 1) % 65536
  let good := s.lv.mirrors.filter (fun b => (s.berth b).state == 1 && (tget (fun _ => ([], [])) s.lv.heads b).1 != [])
  let bad := s.lv.mirrors.filter (fun b => (s.berth b).state == 1 && !good.contains b)
  let s1 := ((s.wr F.LVS_STATUS_EPOCH 0 e).raiseFence s.partner e).raiseFence s.device e
  let s2 := ({ s1 with lv := { s1.lv with side := 0, lease := 2, takeSeq := none } } : State).lvTo 4
  let s3 := s2.notify (s2.lvPkt 0x0B s2.device (lvPayload s2.lv.pairId 0 1 e s2.partner e 0)) s2.noticeTargets
  let s4 := s3.commitMirrors.lvEvent 0x0A02 [(2, e), (2, good.length), (2, bad.length)]
  match s.lv.takeSeq with | some q => s4.finishDesc q 0 0 0 | none => s4

/-- LV_ANSWER: the witness's answer to a TAKEOVER, a CONTINUE or a renewal of this device's epoch (R454, R455). -/
def execLvAnswer (p : Fin 24) (vc : Fin 3) (s : State) : Out :=
  .next (s.takeLv 0x8C p vc fun t k =>
    let fl := at_ k.data 5 1
    let e := at_ k.data 6 2
    let grant := bitAt fl 4
    let renew := bitAt fl 5
    if k.source ≠ t.lv.witness ∨ at_ k.data 0 4 ≠ t.lv.pairId then t
    else if t.lvState = 6 ∧ !renew ∧ e = (t.epoch + 1) % 65536 then
      if grant then t.takeGranted
      else
        let t1 := (({ t.closeMirrors with lv := { t.closeMirrors.lv with takeSeq := none } } : State).lvEvent 0x0A06 []).lvTo 0
        match t.lv.takeSeq with | some q => t1.finishDesc q 0x13 0 0 | none => t1
    else if t.lvState = 3 ∧ !renew ∧ e = t.epoch then
      if grant then ((({ t with lv := { t.lv with lease := 1 } } : State).lvTo 4).lvEvent 0x0A05 []).lvRelease else t.lvFence 1
    else if t.lvState = 4 ∧ t.lv.lease ≠ 0 ∧ renew ∧ e = t.epoch ∧ !grant then t.lvFence 2
    else t)

/-- LV_NOTICE: the fences of the old and the new active rise, the notice is acknowledged and, where it came over a SPINE link, sent
on to the rack under the new active's name; a device fenced above its own epoch is FENCED (R451, R455, R457; log entry 35). -/
def execLvNotice (p : Fin 24) (vc : Fin 3) (s : State) : Out :=
  .next (s.takeLv 0x0B p vc fun t k =>
    let n := at_ k.data 10 2
    let t1 := ((t.raiseFence (at_ k.data 8 2 % 1024) n).raiseFence k.source n).respond (p / 6) k { op := 0x81 }
    let mates := ((List.range 32).map (fun x => 32 * t.rd F.PRT_IDENT_RACK + x)).filter (fun d => d != t.device && t1.reachable d)
    let t2 := if t.spinePort p then t1.notify k mates else t1
    if 2 ≤ t.lvState ∧ t.lvState ≤ 4 ∧ epochBelow t.epoch (t2.fenceOf t.device) then t2.lvFence 5 else t2)

/-- LV_NOTICE_RESEND: every notice that is not acknowledged is sent again (R457). -/
def execLvNoticeResend (s : State) : Out :=
  .next (s.lv.notices.foldl (fun (t : State) (n : Nat × Pkt) => t.lvIssue n.2) s)

/-! ## Checkpoints -/

/-- LV_CHECKPOINT_ACK: the standby acknowledges the checkpoint of a berth: LV_CURSOR, the records held for it, the next checkpoint
where one is due, and operations of the berth that waited (R450, R460, R462). -/
def execLvCheckpointAck (b : Fin 6144) (s : State) : Out :=
  let f := tget (fun _ => 0) s.lv.flight b
  if f = 0 then .next s
  else
    let n := f - 1
    let e := s.berth b
    let s1 := if e.state = 0 then s else s.setBerth b { e with lvCursor := n }
    let lv1 : LvSt := { s1.lv with
      flight := tput (fun _ => 0) s1.lv.flight b 0
      overdue := s1.lv.overdue.del b
      first := s1.lv.first.del b
      holds := s1.lv.holds.filter (fun (h : Nat × Nat × Nat) => !(h.2.1 == b.val && decide (h.2.2 ≤ n))) }
    let s2 : State := { s1 with lv := lv1 }
    let s3 := if s2.lv.due.contains b.val ∧ s2.lvState = 2 then s2.checkpoint b else s2.takePending b
    .next s3.pairDone.lvCond

/-- LV_CHECKPOINT_TIMEOUT: 2 ms without an acknowledgement: the records held are released, the berth is overdue and LV_EXPOSED is
raised (R455, R460). -/
def execLvCheckpointTimeout (b : Fin 6144) (s : State) : Out :=
  let f := tget (fun _ => 0) s.lv.flight b
  if f = 0 then .next s
  else
    let late := s.lv.overdue.contains b.val
    let lv1 : LvSt := { s.lv with
      overdue := s.lv.overdue.add b
      holds := s.lv.holds.filter (fun (h : Nat × Nat × Nat) => !(h.2.1 == b.val && (late || decide (h.2.2 ≤ f - 1)))) }
    .next (({ s with lv := lv1 } : State).lvEvent 0x0A09 [(2, b)]).lvCond

end Sys2Proof.Machine
end

