-- ==== Sys2Proof/Machine/Management.lean ====
section
/-!
DEFINITION. The management endpoint: attestation and the other MCTP commands (16_firmware_and_security.md R484 to R490).
-/
namespace Sys2Proof.Machine

/-! ## Answers to the board management controller (R488, R489) -/

/-- Answer a request: completion code and payload; only the active watch room answers. -/
def State.mctpAnswer (s : State) (cmd : Nat) (inst : BitVec 5) (completion : Nat) (payload : List Byte) : State :=
  if s.activeRoom.isNone then s else s.send (mctp cmd inst.toNat completion payload)

/-- GET_INFO (R489). -/
def execGetInfo (inst : BitVec 5) (s : State) : Out :=
  let standby := (s.standbyRoom.map (fun q => hdrVersion (s.room q).hdr)).getD 0
  .next (s.mctpAnswer 0x01 inst 0 (serial ++ leBytes 4 deviceId ++ leBytes 8 (hdrVersion s.running) ++ leBytes 8 standby ++
    leBytes 1 s.svnFuse ++ leBytes 1 s.tender ++ leBytes 1 (s.rd F.GLB_DEGRADED_LEVEL) ++ leBytes 4 s.leavesLeft ++ leBytes 4 s.evSeq))

/-- Sequence number that reads as unread by the controller: at or after `n` in the order of R541. -/
def seqFrom (n seq : Nat) : Bool := !serialEarlier (BitVec.ofNat 32 seq) (BitVec.ofNat 32 n)

/-- GET_EVENTS: up to 128 records of the log from a sequence number on; records older than the log are counted as lost (R489). -/
def execGetEvents (inst : BitVec 5) (first : BitVec 32) (count : BitVec 8) (s : State) : Out :=
  if count = 0 ∨ 128 < count.toNat then .next (s.mctpAnswer 0x02 inst 1 [])
  else
    let l := (s.bmcLog.filter (fun e => seqFrom first.toNat e.seq)).take count.toNat
    let head := (l.head?.map (·.seq)).getD s.evSeq
    let lost := (head + 2 ^ 32 - first.toNat) % 2 ^ 32
    let next := (l.getLast?.map (fun e => (e.seq + 1) % 2 ^ 32)).getD s.fw.bmcRead
    let s1 := if s.activeRoom.isNone then s else s.setFw { s.fw with bmcRead := next }
    .next (s1.mctpAnswer 0x02 inst 0 (leBytes 4 head ++ leBytes 1 l.length ++ leBytes 3 (if lost < 2 ^ 31 then min lost (2 ^ 24 - 1) else 0) ++
      l.flatMap (fun e => eventBytes e 0)))

/-- EVENT_NOTIFY: the device tells the controller of unread records, at most every 10 ms (R489). -/
def execEventNotify (s : State) : Out :=
  if s.activeRoom.isNone ∨ s.now < s.fw.notifyAt ∨ !(s.bmcLog.any (fun e => seqFrom s.fw.bmcRead e.seq)) then .next s
  else .next ((s.setFw { s.fw with notifyAt := s.now + 10000000 }).send (mctp 0x10 0x80 0 (leBytes 4 s.evSeq)))

/-- GET_CERT: bytes of the identity certificate and its chain, 1 MiB of flash (R476, R489). -/
def execGetCert (inst : BitVec 5) (off : BitVec 32) (len : BitVec 16) (s : State) : Out :=
  if 4096 < len.toNat ∨ 0x100000 < off.toNat + len.toNat then .next (s.mctpAnswer 0x03 inst 1 [])
  else .next (s.mctpAnswer 0x03 inst 0 ((List.range len.toNat).map (fun i => Config.certByte (off.toNat + i))))

/-- GET_REPAIR: bytes of the repair record of the last report (R489). -/
def execGetRepair (inst : BitVec 5) (off : BitVec 32) (len : BitVec 16) (s : State) : Out :=
  if 4096 < len.toNat ∨ s.fw.repair.length < off.toNat + len.toNat then .next (s.mctpAnswer 0x05 inst 1 [])
  else .next (s.mctpAnswer 0x05 inst 0 ((s.fw.repair.drop off.toNat).take len.toNat))

/-- FW_STATUS (R489). -/
def execFwStatus (inst : BitVec 5) (s : State) : Out :=
  .next (s.mctpAnswer 0x08 inst 0 (leBytes 4 (s.reg F.FWU_STATUS_TENDER.base).toNat ++ leBytes 4 (s.rd F.FWU_ACT_LO_T_LO) ++
    leBytes 4 (s.rd F.FWU_ACT_HI_T_HI)))

/-- FW_OFFER: an image offered by the controller (R478, R489, R490). -/
def execFwOffer (inst : BitVec 5) (hdr manifest : List (BitVec 8)) (env : FwEnv) (s : State) : Out :=
  if s.activeRoom.isNone then .next s
  else if hdr.length ≠ 5332 then .next (s.mctpAnswer 0x06 inst 1 [])
  else
    let r := s.offer env 1 0 hdr manifest
    .next (if r.2 = 0 then r.1.mctpAnswer 0x06 inst 0 [] else r.1.mctpAnswer 0x06 inst 4 (leBytes 1 r.2))

/-- FW_CMD: a command of FWU_CMD from the controller, with T for ARM; the two paths act on one tender. A command that its state does
not take is answered INVALID (R478, R489; log entry 43). -/
def execFwCmd (inst : BitVec 5) (cmd : BitVec 8) (t : BitVec 64) (env : FwEnv) (s : State) : Out :=
  let c := cmd.toNat
  if s.activeRoom.isNone then .next s
  else if c = 0 ∨ 7 ≤ c then .next (s.mctpAnswer 0x09 inst 1 [])
  else if c = 1 then
    let r := s.offerMem env
    .next (if r.2 = 0 then r.1.mctpAnswer 0x09 inst 0 [] else r.1.mctpAnswer 0x09 inst 4 (leBytes 1 r.2))
  else if c = 5 then
    let r := s.commitSvn env
    .next (r.1.mctpAnswer 0x09 inst (if r.2 then 0 else 1) [])
  else
    let s1 := if c = 3 then (s.wr F.FWU_ACT_LO_T_LO 0 (t.toNat % 2 ^ 32)).wr F.FWU_ACT_HI_T_HI 0 (t.toNat / 2 ^ 32) else s
    let s2 := s1.fwuCmd c env
    .next (s2.mctpAnswer 0x09 inst (if c = 6 ∨ s2.tender ≠ s.tender then 0 else 1) [])

/-! ## Attestation -/

/-- A token of the bucket: one each 450 s (R486). -/
def tokenNs : Nat := 450 * nsSec

/-- Fill of the bucket now, in ns of refill: at most 8 tokens. -/
def State.bucketFill (s : State) : Nat := min (8 * tokenNs) (s.fw.bucket + (s.now - s.fw.bucketAt))

/-- Registers of the repair record, in order (R487). -/
def repairRows : List (Nat × Nat × Nat) :=
  [(F.STK_LCMAP_PC.base, 4, 192), (F.STK_PCORE_GOOD.base, 4, 12), (F.STK_VB_BUNDLE_STATE.base, 4, 1536), (F.FAB_PAIR_UP.base, 4, 256),
   (F.FAB_SPARE_TX_USED.base, 4, 16), (F.FAB_SPARE_RX_USED.base, 4, 16), (F.PRT_PORT_ENABLE.base, 4, 24), (F.MEM_HBM_PRESENT.base, 16, 12),
   (F.LSR_MOD_PRESENT.base, 16, 12)]

/-- The 8,304 bytes of the repair record (R487). -/
def State.repairRecord (s : State) : List Byte :=
  repairRows.flatMap (fun (r : Nat × Nat × Nat) => (List.range r.2.2).flatMap (fun i => leBytes 4 (s.regView (r.1 + r.2.1 * i)).toNat))

/-- Bytes 0x000 to 0x0FF of an attestation report (R487). -/
def State.reportHead (s : State) (challenge : List Byte) (repair : List Byte) : List Byte :=
  let standby := match s.standbyRoom with
    | some q => sha256 (s.room q).hdr
    | none => List.replicate 32 0
  let watch := s.activeRoom.getD 0 + 4 * s.standbyRoom.getD 0 + 16 * b2n s.standbyRoom.isSome
  let feat := s.rd F.STK_PKG_VB_HALF_WIDTH + 2 * s.rd F.STK_PKG_FF_TELEMETRY + 4 * s.rd F.STK_PKG_SPINE_ROLE
  leBytes 4 0x54414C4D ++ leBytes 2 1 ++ leBytes 2 5332 ++ serial ++ challenge ++ leBytes 8 s.bt ++ leBytes 1 s.svnFuse ++
  leBytes 1 watch ++ leBytes 1 (s.rd F.STK_PKG_PROTO) ++ leBytes 1 (s.rd F.GLB_DEGRADED_LEVEL) ++ leBytes 4 feat ++ sha256 s.running ++
  standby ++ (List.range 8).flatMap (fun i => leBytes 4 (s.rd F.HST_BOOT_MEAS_DIGEST i)) ++
  (List.range 33).map (fun d => BitVec.ofNat 8 (s.rd F.STK_CAP_HI_REV d)) ++ [0, 0, 0] ++
  leBytes 4 (s.reg F.GLB_DEGRADED_LEVEL.base).toNat ++ sha256 repair ++ List.replicate 16 0

/-- The next identity leaf, from a batch of 64 whose end is persisted before the first is used; none when all are spent (R485). -/
def State.takeLeaf (s : State) : Option (Nat × State) :=
  if 2 ^ 20 ≤ s.fw.leaf then none
  else
    let f := if s.fw.leaf < s.fw.batch then s.fw else { s.fw with batch := s.fw.leaf + 64, persisted := s.fw.leaf + 64 }
    some (s.fw.leaf, s.setFw { f with leaf := s.fw.leaf + 1 })

/-- ATTEST: a signed report with a fresh repair record; BUSY with the wait in ms while the bucket is empty, EXHAUSTED without a leaf
(R485 to R489). -/
def execAttest (inst : BitVec 5) (challenge : List (BitVec 8)) (s : State) : Out :=
  if s.activeRoom.isNone then .next s
  else if challenge.length ≠ 32 then .next (s.mctpAnswer 0x04 inst 1 [])
  else
    let fill := s.bucketFill
    if fill < tokenNs then
      let told := s.fw.busyAt ≠ 0 ∧ s.now < s.fw.busyAt - 1 + nsHour
      let s1 := if told then s else (s.raise 0x0C04 s.fwSource []).setFw { (s.raise 0x0C04 s.fwSource []).fw with busyAt := s.now + 1 }
      .next (s1.mctpAnswer 0x04 inst 2 (leBytes 2 (min 0xFFFF ((tokenNs - fill + 999999) / 1000000))))
    else match s.takeLeaf with
      | none => .next ((s.raise 0x0C06 s.fwSource []).mctpAnswer 0x04 inst 5 [])
      | some (leaf, s1) =>
        let repair := s.repairRecord
        let head := s.reportHead challenge repair
        let sig := (List.range 5076).map (Config.hssSign leaf head)
        let s2 := s1.setFw { s1.fw with bucket := fill - tokenNs, bucketAt := s.now, repair := repair }
        .next (s2.checkLeaves.fwShow.mctpAnswer 0x04 inst 0 (head ++ sig))

end Sys2Proof.Machine
end

