-- ==== Sys2Proof/Machine/Scalar.lean ====
section
/-!
DEFINITION. Scalar and address instructions of the sequencer, LDS and STS (02_cores_and_engines.md R49 to R51).
-/
namespace Sys2Proof.Machine

/-- An SR instruction: RD = f RS1 RS2; a non-zero reserved field faults (R49, R50). -/
def issueSR (opc : Nat) (f : W64 → W64 → W64) (lc : Fin 192) (w : W64) (s : State) : Out :=
  issue s lc w (opcodeOf w == opc) fun c =>
    if srReserved w then s.coreFault lc 2 c.pc w
    else s.nextPc lc (c.setS (fld w 55 51) (f (c.s (fld w 50 46)) (c.s (fld w 45 41))))

/-- An SI instruction: RD = f RS1 IMM; `bad` says when a field the instruction reserves is not zero (R49, R50). -/
def issueSI (opc : Nat) (bad : W64 → Bool) (f : W64 → W64 → W64) (lc : Fin 192) (w : W64) (s : State) : Out :=
  issue s lc w (opcodeOf w == opc) fun c =>
    if siReserved w || bad w then s.coreFault lc 2 c.pc w
    else s.nextPc lc (c.setS (fld w 55 51) (f (c.s (fld w 50 46)) (simm w)))

/-- The shift count of RS2[5:0] or IMM[5:0] (R50). -/
def shamt (v : W64) : Nat := v.toNat % 64

/-- IMM[31:6] must be zero in the immediate shifts (R50). -/
def immShiftBad (w : W64) : Bool := fld w 31 6 != 0

/-- An AD instruction that writes an address register (R50). -/
def issueAD (opc : Nat) (bad : W64 → Bool) (f : Core → W64 → BitVec 48) (lc : Fin 192) (w : W64) (s : State) : Out :=
  issue s lc w (opcodeOf w == opc) fun c =>
    if adReserved w || bad w then s.coreFault lc 2 c.pc w
    else s.nextPc lc (c.setA (fld w 55 52) (f c w))

/-- NOP: every field below the opcode is zero. -/
def execNop (lc : Fin 192) (w : W64) (s : State) : Out :=
  issue s lc w (opcodeOf w == 0) fun c => if fld w 55 0 != 0 then s.coreFault lc 2 c.pc w else s.nextPc lc c

/-- ADD (R50): RD = RS1 + RS2, wrapping. -/
def execAdd (lc : Fin 192) (w : W64) (s : State) : Out :=
  issueSR 0x01 (fun x y => x + y) lc w s

/-- SUB (R50): RD = RS1 − RS2, wrapping. -/
def execSub (lc : Fin 192) (w : W64) (s : State) : Out :=
  issueSR 0x02 (fun x y => x - y) lc w s

/-- AND (R50): RD = RS1 & RS2. -/
def execAnd (lc : Fin 192) (w : W64) (s : State) : Out :=
  issueSR 0x03 (fun x y => x &&& y) lc w s

/-- OR (R50): RD = RS1 | RS2. -/
def execOr (lc : Fin 192) (w : W64) (s : State) : Out :=
  issueSR 0x04 (fun x y => x ||| y) lc w s

/-- XOR (R50): RD = RS1 ^ RS2. -/
def execXor (lc : Fin 192) (w : W64) (s : State) : Out :=
  issueSR 0x05 (fun x y => x ^^^ y) lc w s

/-- SLL (R50): RD = RS1 << RS2[5:0]. -/
def execSll (lc : Fin 192) (w : W64) (s : State) : Out :=
  issueSR 0x06 (fun x y => x <<< shamt y) lc w s

/-- SRL (R50): logical right shift by RS2[5:0]. -/
def execSrl (lc : Fin 192) (w : W64) (s : State) : Out :=
  issueSR 0x07 (fun x y => x >>> shamt y) lc w s

/-- SRA (R50): arithmetic right shift by RS2[5:0]. -/
def execSra (lc : Fin 192) (w : W64) (s : State) : Out :=
  issueSR 0x08 (fun x y => x.sshiftRight (shamt y)) lc w s

/-- MUL (R50): low 64 bits of the product. -/
def execMul (lc : Fin 192) (w : W64) (s : State) : Out :=
  issueSR 0x09 (fun x y => x * y) lc w s

/-- MULHU (R50): high 64 bits of the unsigned product. -/
def execMulhu (lc : Fin 192) (w : W64) (s : State) : Out :=
  issueSR 0x0A (fun x y => BitVec.ofNat 64 (x.toNat * y.toNat / 2 ^ 64)) lc w s

/-- SLT (R50): 1 if RS1 < RS2 signed. -/
def execSlt (lc : Fin 192) (w : W64) (s : State) : Out :=
  issueSR 0x0B (fun x y => if x.toInt < y.toInt then 1 else 0) lc w s

/-- SLTU (R50): 1 if RS1 < RS2 unsigned. -/
def execSltu (lc : Fin 192) (w : W64) (s : State) : Out :=
  issueSR 0x0C (fun x y => if x.toNat < y.toNat then 1 else 0) lc w s

/-- MIN (R50): signed minimum. -/
def execMin (lc : Fin 192) (w : W64) (s : State) : Out :=
  issueSR 0x0D (fun x y => if x.toInt < y.toInt then x else y) lc w s

/-- MAX (R50): signed maximum. -/
def execMax (lc : Fin 192) (w : W64) (s : State) : Out :=
  issueSR 0x0E (fun x y => if x.toInt < y.toInt then y else x) lc w s

/-- ADDI (R50): RD = RS1 + sign-extended IMM. -/
def execAddi (lc : Fin 192) (w : W64) (s : State) : Out :=
  issueSI 0x10 (fun _ => false) (fun x i => x + i) lc w s

/-- ANDI (R50): RD = RS1 & sign-extended IMM. -/
def execAndi (lc : Fin 192) (w : W64) (s : State) : Out :=
  issueSI 0x11 (fun _ => false) (fun x i => x &&& i) lc w s

/-- ORI (R50): RD = RS1 | sign-extended IMM. -/
def execOri (lc : Fin 192) (w : W64) (s : State) : Out :=
  issueSI 0x12 (fun _ => false) (fun x i => x ||| i) lc w s

/-- XORI (R50): RD = RS1 ^ sign-extended IMM. -/
def execXori (lc : Fin 192) (w : W64) (s : State) : Out :=
  issueSI 0x13 (fun _ => false) (fun x i => x ^^^ i) lc w s

/-- SLLI (R50): RD = RS1 << IMM[5:0]. -/
def execSlli (lc : Fin 192) (w : W64) (s : State) : Out :=
  issueSI 0x14 (immShiftBad) (fun x i => x <<< shamt i) lc w s

/-- SRLI (R50): logical right shift by IMM[5:0]. -/
def execSrli (lc : Fin 192) (w : W64) (s : State) : Out :=
  issueSI 0x15 (immShiftBad) (fun x i => x >>> shamt i) lc w s

/-- SRAI (R50): arithmetic right shift by IMM[5:0]. -/
def execSrai (lc : Fin 192) (w : W64) (s : State) : Out :=
  issueSI 0x16 (immShiftBad) (fun x i => x.sshiftRight (shamt i)) lc w s

/-- LIH (R50): RD[63:32] = IMM, RD[31:0] unchanged; RS1 is reserved. -/
def execLih (lc : Fin 192) (w : W64) (s : State) : Out :=
  issue s lc w (opcodeOf w == 0x17) fun c =>
    if siReserved w || fld w 50 46 != 0 then s.coreFault lc 2 c.pc w
    else
      let rd := fld w 55 51
      s.nextPc lc (c.setS rd (((w.setWidth 32).setWidth 64 <<< 32) ||| ((c.s rd).setWidth 32).setWidth 64))

/-- AMOV (R50): AD = S[47:0]; AS and IMM are reserved. -/
def execAmov (lc : Fin 192) (w : W64) (s : State) : Out :=
  issueAD 0x20 (fun w => fld w 51 48 != 0 || fld w 31 0 != 0) (fun c w => (c.s (fld w 47 43)).setWidth 48) lc w s

/-- AADD (R50): AD = (AS + S[47:0]) mod 2^48; IMM is reserved. -/
def execAadd (lc : Fin 192) (w : W64) (s : State) : Out :=
  issueAD 0x21 (fun w => fld w 31 0 != 0) (fun c w => c.a (fld w 51 48) + (c.s (fld w 47 43)).setWidth 48) lc w s

/-- AADDI (R50): AD = (AS + sign-extended IMM) mod 2^48; S is reserved. -/
def execAaddi (lc : Fin 192) (w : W64) (s : State) : Out :=
  issueAD 0x22 (fun w => fld w 47 43 != 0) (fun c w => c.a (fld w 51 48) + (w.setWidth 32).signExtend 48) lc w s

/-- ARD (R50): S = zero-extended AS; AD and IMM are reserved. -/
def execArd (lc : Fin 192) (w : W64) (s : State) : Out :=
  issue s lc w (opcodeOf w == 0x23) fun c =>
    if adReserved w || fld w 55 52 != 0 || fld w 31 0 != 0 then s.coreFault lc 2 c.pc w
    else s.nextPc lc (c.setS (fld w 47 43) ((c.a (fld w 51 48)).setWidth 64))

/-- The scratchpad offset of LDS and STS: (AS + sign-extended IMM) mod 2^48 (R50). -/
def ldsOff (c : Core) (w : W64) : Nat := (c.a (fld w 51 48) + (w.setWidth 32).signExtend 48).toNat

/-- LDS and STS need an 8-byte aligned offset of at most 0x5F_FFF8 (R51). -/
def ldsBad (off : Nat) : Bool := off % 8 != 0 || decide (0x5FFFF8 < off)

/-- The load of LDS: an error of the word read is corrected or poisons its unit, and a core that is retired for it goes no further (R41,
R90, R215). -/
def State.loadWord (s : State) (lc : Nat) (c : Core) (w : W64) (off : Nat) (err : Option Bool) : State :=
  let a := scratchAddr lc off
  let c1 := c.setS (fld w 47 43) (BitVec.ofNat 64 (s.num a 8))
  match err with
  | none => if s.bad a then s.coreFault lc 0x0F c.pc w else s.nextPc lc c1
  | some false =>
    let s1 := if s.bad a then s.coreFault lc 0x0F c.pc w else s.nextPc lc c1
    s1.scratchCorrected lc (off / 64 % 32) 1
  | some true => (s.coreFault lc 0x0F c.pc w).scratchDouble lc (off / 64) (off / 16 % 4)

/-- LDS (R41, R50, R51, R215): 8 bytes of scratchpad into S; `err` is an error its 128-bit word holds, single or double. A poisoned unit
raises SCRATCH_UNCORRECTABLE. -/
def execLds (lc : Fin 192) (w : W64) (err : Option Bool) (s : State) : Out :=
  issue s lc w (opcodeOf w == 0x24) fun c =>
    let off := ldsOff c w
    if adReserved w || fld w 55 52 != 0 then s.coreFault lc 2 c.pc w
    else if ldsBad off then s.coreFault lc 5 c.pc w
    else s.loadWord lc c w off err

/-- STS (R50, R51): S into 8 bytes of scratchpad. -/
def execSts (lc : Fin 192) (w : W64) (s : State) : Out :=
  issue s lc w (opcodeOf w == 0x25) fun c =>
    let off := ldsOff c w
    if adReserved w || fld w 55 52 != 0 then s.coreFault lc 2 c.pc w
    else if ldsBad off then s.coreFault lc 5 c.pc w
    else (s.store (scratchAddr lc off) (leBytes 8 (c.s (fld w 47 43)).toNat)).nextPc lc c

end Sys2Proof.Machine
end

