-- ==== Sys2Proof/Machine/StartUp.lean ====
section
/-!
DEFINITION. Start-up (14_startup_and_calibration.md R427 to R434, R441) and what asks for a reset: the board's inputs, the supplies, the
reference clock and the halt of an I/O die (R401, R409, R531, R533). One command runs a whole start; what the steps find comes with
it. A part in START_DEGRADED and START_FAILED is its number within its kind (log entry 44).
-/
namespace Sys2Proof.Machine

/-- The state after some steps of a start, and whether every step so far has passed. -/
abbrev Started := State × Bool

/-- The next step runs only where the one before it passed (R427). -/
def Started.andThen (r : Started) (f : State → Started) : Started := if r.2 then f r.1 else r

/-- Max of step `k`, in ms; a module that is ready later than 25 s lengthens step 7, up to the 60 s of R185 (R427, R428, R433). -/
def stepMax (i : StartIn) (cold : Bool) (k : Nat) : Nat :=
  if cold then [0, 100, 1, 6000, 2000, 100, 50, 30000 + min i.slow.toNat 35000, 500, 6000, 10, 50, 10].getD k 0
  else [100, 0, 0, 6000, 2000, 100, 50, 2000, 500, 2000, 10, 50, 10].getD k 0

def stepTime (i : StartIn) (k : Nat) : Nat := (i.times.getD k 0).toNat

/-- Elapsed ms of a start. -/
def startMs (i : StartIn) : Nat := ((List.range 13).map (stepTime i)).foldl (· + ·) 0

/-- A step begins. -/
def State.beginStart (s : State) (k : Nat) : State := s.wr F.GLB_START_STEP 0 k

/-- A step fails: START_FAILED, and the device stays where it is until a cold reset (R429). -/
def State.startFail (s : State) (k part : Nat) : Started :=
  let s1 := ((s.wr F.GLB_START_STEP 0 k).wr F.GLB_START_FAILED 0 1).setFw { s.fw with due := 0 }
  (((s1.raise 0x0B82 srcPkg [(1, k), (2, part)]).setLevel), false)

/-- A step passes degraded: its bit, and START_DEGRADED with the first part (R429, R440; log entry 44). -/
def State.degrade (s : State) (k : Nat) (parts : List Nat) : State :=
  match parts with
  | [] => s
  | p :: _ =>
    let d := s.rd F.GLB_START_DEGRADED
    (s.wr F.GLB_START_DEGRADED 0 (if bitAt d (k - 1) then d else d + 2 ^ (k - 1))).raise 0x0B81 srcPkg [(1, k), (2, p)]

/-- A step that passed and ran past its Max fails (R427; log entry 73). -/
def Started.inTime (r : Started) (i : StartIn) (cold : Bool) (k : Nat) : Started :=
  if r.2 ∧ stepMax i cold k < stepTime i k then r.1.startFail k 0 else r

/-! ## Steps 1 to 3 -/

/-- Steps 1 and 2: the feeds rise and every die samples its strap word (R427, R429). -/
def State.startFeeds (s : State) (i : StartIn) : Started :=
  match i.feed with
  | some (k, pair) => s.startFail (k.val + 1) pair
  | none => (Started.inTime (s, true) i true 1).andThen (fun t => Started.inTime (t.beginStart 2, true) i true 2)

/-- What the boot ROM of IOq finds on its flash: the slot it starts, and those it marks BAD on the way, in the order ACTIVE, FALLBACK,
READY (R475, R477). `valid`: signature and digests hold, bit 2 × flash + slot. -/
def State.bootTry (s : State) (q : Nat) (valid : Nat) : Option Nat × List Nat :=
  let cands := [3, 4, 2].flatMap (fun st => [0, 1].filter (fun k => (s.slot q k).state == st))
  let good := fun (k : Nat) => bitAt valid (2 * q + k) && s.headerGood (s.slot q k).hdr
  (cands.find? good, cands.takeWhile (fun k => !good k))

/-- The line a boot ROM prints (R519). -/
def State.bootLine (s : State) (q : Nat) (slot : Option Nat) : State :=
  let name := match slot with
    | none => "NONE"
    | some k => if (s.slot q k).state = 3 then "ACTIVE" else if (s.slot q k).state = 4 then "FALLBACK" else "READY"
  s.send (.line ("BOOT IO" ++ toString q ++ " " ++ name))

/-- The tender after a start, from the state of the slot that is not ACTIVE (R476, R478). -/
def State.tenderAtStart (s : State) : State :=
  let st := s.newSlot.state
  (s.setTender (if st = 1 ∨ st = 2 then st else 0)).showPieces

/-- The highest valid copy of BOOT_ID plus 1 is written to both copies on each flash and read back, and then loaded (R292; log entry 95);
a flash that fails raises FLASH_FAULT and keeps the copies it had (R477). `good`: the copies that are valid. -/
def State.newBootId (s : State) (good : BitVec 4) (took : BitVec 2) : State :=
  let copies := ([0, 1, 2, 3].filter good.getLsbD).map (tget (fun _ => 0) s.fw.bootIds)
  let id := (copies.foldl max 0 + 1) % 2 ^ 16
  let s1 := [0, 1].foldl (fun (t : State) x =>
    if took.getLsbD x then
      t.setFw { t.fw with bootIds := tput (fun _ => 0) (tput (fun _ => 0) t.fw.bootIds (2 * x) id) (2 * x + 1) id }
    else (t.setFw { t.fw with flashBad := t.fw.flashBad.add x }).raise 0x0B05 (dieIO x) [(1, x), (4, 0x3400000)]) s
  s1.wr F.PRT_IDENT_BOOT_ID 0 id

/-- The watch room of IOq runs the image of a slot, which is ACTIVE from now on (log entry 45): the event of every slot found bad, the
new BOOT_ID, the registers of chapter 16, settings and tender (R292, R432, R469, R477, R483, R485, R497). -/
def State.startRoom (s : State) (i : StartIn) (q k : Nat) (bad : List (Nat × Nat)) : State :=
  let hdr := (s.slot q k).hdr
  let s1 := (s.setSlot q k { s.slot q k with state := 3 }).setRoom q { role := 3, hdr := hdr, verified := true }
  let s2 := bad.foldl (fun (t : State) (e : Nat × Nat) => t.raise 0x0C01 (dieIO e.1) [(1, e.1), (1, e.2)]) s1
  let s3 := (s2.newBootId i.idValid i.idFlash).wr F.SEC_STATUS_KEY_OK 0 (b2n i.keyOk)
  let s4 := (List.range 4).foldl (fun (t : State) j => t.wr F.SEC_SERIAL_SERIAL j (leNat ((serial.drop (4 * j)).take 4))) s3
  s4.newBatch.loadSettings.tenderAtStart.fwShow

/-- Step 3: IO0 starts its image from FLASH0, or IO1 its own from FLASH1 (R427, R428, R469, R477). Where nothing has been written to
the flashes yet, slot A of both holds the image they were made with. -/
def State.startImage (s : State) (i : StartIn) : Started :=
  let made : Slot := { state := 3, hdr := i.factory }
  let s0 := (if s.fw.slots = [] then (s.setSlot 0 0 made).setSlot 1 0 made else s).beginStart 3
  let a := s0.bootTry 0 i.valid.toNat
  let b := s0.bootTry 1 i.valid.toNat
  let q := if a.1.isSome then 0 else 1
  let bad := a.2.map (fun k => (0, k)) ++ (if q = 0 then [] else b.2.map (fun k => (1, k)))
  let s1 := bad.foldl (fun (t : State) (e : Nat × Nat) => t.setSlot e.1 e.2 { t.slot e.1 e.2 with state := 5 }) s0
  let s2 := if q = 0 then s1.bootLine 0 a.1 else (s1.bootLine 0 none).bootLine 1 b.1
  match (if q = 0 then a.1 else b.1) with
  | none => s2.startFail 3 (dieIO 1)
  | some k => if i.idFlash = 0 then s2.startFail 3 (dieIO q) else (s2.startRoom i q k bad, true)

/-! ## Step 4: dies -/

/-- The strap word of die `d` in its place (R26). -/
def expectedStrap (d : Nat) : Nat :=
  let top := if d < 4 then 0x20 + 8 * d
    else if d < 16 then 0x40 + 8 * ((d - 4) / 3) + 2 * ((d - 4) % 3)
    else if d < 28 then 0x60 + 8 * ((d - 16) / 3) + 2 * ((d - 16) % 3)
    else if d < 32 then 0x80 + 8 * (d - 28)
    else 0xA0
  if ((List.range 8).filter (bitAt top)).length % 2 = 0 then top + 1 else top

/-- The strap check of R27 on die `d` of the words `w`. -/
def strapGood (w : Nat → Nat) (d : Nat) : Bool :=
  w d == expectedStrap d && (List.range 33).all (fun e => e == d || w e != w d)

/-- One die is released and checked: HELD with cause 1 where its strap word fails, RETIRED with cause 2 where it does not answer (R27,
R429, R515). Only for a warm start: a die that is out of service stays so. -/
def State.releaseDie (s : State) (i : StartIn) (w : Nat → Nat) (d : Nat) : State :=
  if !s.inService d then s
  else
    let ok := strapGood w d
    let s1 := (s.wr F.GLB_INV_STRAP d (w d % 256)).wr F.GLB_INV_STRAP_OK d (b2n ok)
    if !ok then (s1.wr F.GLB_INV_STATE d 2).wr F.GLB_INV_CAUSE d 1
    else if i.silent.any (fun e => e.val == d) then s1.retireDie d 2
    else s1

/-- Stack `n` is not in service: CDn goes with SDn (R28, R253, R515). -/
def State.dropStack (s : State) (n : Nat) : State := (s.retireCd n 6).setCond 10 true

/-- Cores of a warm start: the core map stands, and a core whose physical core has been retired is to be rebound (R90, R432). -/
def State.keptCores (s : State) : State :=
  (List.range 192).foldl (fun (t : State) lc =>
    if t.bit F.STK_LCMAP_PRESENT lc then
      t.setCore lc { cstate := .idle, broken := !bitAt (t.rd F.STK_PCORE_GOOD (lc / 16)) (t.rd F.STK_LCMAP_PC lc) }
    else t) s

/-- Step 4: every die is released and its strap word checked; a compute die that fails is retired, a cache die takes its stack with
it, any other fails the start (R27, R28, R427, R429). -/
def State.startDies (s : State) (i : StartIn) (cold : Bool) : Started :=
  let w := fun (d : Nat) => if cold then (i.straps.getD d 0).toNat else s.rd F.GLB_INV_STRAP d
  let s0 := s.beginStart 4
  let s1 := (List.range 33).foldl (fun (t : State) d => t.releaseDie i w d) s0
  let bad := (List.range 33).filter (fun d => s0.inService d && !s1.inService d)
  match bad.find? (fun d => decide (d < 4) || decide (28 ≤ d)) with
  | some d => s1.startFail 4 d
  | none =>
    let s2 := if cold then
        (List.range 12).foldl (fun (t : State) d =>
          if t.inService (dieCD d) then t.wr F.STK_PCORE_GOOD d (i.goodCores.getD d 0).toNat else t) s1
      else s1.keptCores
    let out := (List.range 12).filter (fun n => !s2.inService (dieSD n))
    let s3 := out.foldl State.dropStack s2
    let cds := (List.range 12).filter (fun n => !s3.inService (dieCD n))
    let s4 := if cds = [] then s3 else (cds.foldl State.retireCores s3).setCond 9 true
    (s4.degrade 4 bad, true)

/-! ## Steps 5 and 6: bundles and crossings -/

/-- Dies whose capability words take part: those in service (R246). -/
def State.capDies (s : State) : List Nat := (List.range 33).filter s.inService

/-- Capability word of a die (R245). -/
def capOf (i : StartIn) (d : Nat) : BitVec 64 := i.caps.getD d 0

def capFeat (i : StartIn) (d : Nat) : Nat := (capOf i d).toNat % 2 ^ 32
def capMin (i : StartIn) (d : Nat) : Nat := (capOf i d).toNat / 2 ^ 32 % 256
def capMax (i : StartIn) (d : Nat) : Nat := (capOf i d).toNat / 2 ^ 40 % 256

/-- The feature set: the AND of every FEAT (R246). -/
def State.showFeatures (s : State) (i : StartIn) : State :=
  let has := fun (f : Nat) => s.capDies.all (fun d => bitAt (capFeat i d) f)
  ((s.wr F.STK_PKG_VB_HALF_WIDTH 0 (b2n (has 0))).wr F.STK_PKG_FF_TELEMETRY 0 (b2n (has 1))).wr F.STK_PKG_SPINE_ROLE 0 (b2n (has 2))

/-- Step 5: every vertical bundle is tested and built (R235, R238, R239). Whether a bundle may narrow follows the feature set that
step 10 fixes (log entry 46). -/
def State.startBundles (s : State) (i : StartIn) (cold : Bool) : Started :=
  let tests := i.lanes.map (fun t => (t.1.val, t.2.map (·.val)))
  let s0 := (s.beginStart 5).showFeatures i
  let r := (List.range 12).foldl (fun (a : State × List Nat) n =>
    if a.1.inService (dieCD n) then
      let b := a.1.buildStack n tests cold
      (b.1.startDegraded n b.2, a.2 ++ b.2)
    else a) (s0, [])
  (r.1.degrade 5 r.2, true)

/-- Logical cores are bound to the good physical cores of a compute die in ascending order; the highest indices without one are
ABSENT (R545). -/
def State.bindDie (s : State) (d : Nat) : State :=
  if !s.inService (dieCD d) then s
  else
    let g := (List.range 18).filter (fun p => bitAt (s.rd F.STK_PCORE_GOOD d) p)
    (List.range 16).foldl (fun (t : State) j =>
      match g[j]? with
      | some p => ((t.wr F.STK_LCMAP_PRESENT (16 * d + j) 1).wr F.STK_LCMAP_PC (16 * d + j) p).setCore (16 * d + j) { cstate := .idle }
      | none => t.setCond 8 true) s

/-- Step 6: every crossing is calibrated. A failed crossing of a core retires the physical core, of a cache die the stack, of a compute
die that die; of any other die it fails the start (R371, R429, R515). -/
def State.startCrossings (s : State) (i : StartIn) (cold : Bool) : Started :=
  let s0 := (s.beginStart 6).calibrate i.crossings
  let bad := i.crossings.filter (fun c => !crossingOk c)
  let dies := (bad.filter crossFixed).map crossDie
  match dies.find? (fun d => decide (d < 4) || decide (28 ≤ d)) with
  | some d => s0.startFail 6 d
  | none =>
    let s1 := dies.foldl (fun (t : State) d => if d < 16 then (t.retireDie d 7).dropStack (d - 4) else t.retireCd (d - 16) 7) s0
    let s2 := s1.failCrossed i.crossings
    let s3 := if cold then (List.range 12).foldl State.bindDie s2
      else if (List.range 192).any (fun l => s2.inService (dieCD (l / 16)) && !s2.bit F.STK_LCMAP_PRESENT l) then s2.setCond 8 true
      else s2
    (s3.degrade 6 (bad.map crossDie), true)

/-! ## Steps 7 and 8: light and lanes -/

/-- A ring finds no light and stays PARKED (R159). -/
def State.parkRing (s : State) (k : Nat) : State :=
  if (s.ring k).st = 4 then s else s.setRing k { s.ring k with st := 0, dark := true }

/-- Rings of a module without light stay PARKED, and its lanes untested (R159, R160). -/
def State.parkModule (s : State) (m : Nat) : State :=
  (((laserGroups m).flatMap (groupLit m)).foldl State.parkRing s).markLanes m true

/-- A module across a warm reset: no commissioning; it runs from PREFER where that source is ready with the P0 it had (R190, R432,
R433). -/
def State.keepModule (s0 : State) (i : StartLaser) : State :=
  let m := i.m.val
  let s := s0.lampRead m i.cmis i.tapsA i.tapsB
  let l := s.laser m
  let l1 : Laser := { l with a := l.a.fresh l.a.p0, b := l.b.fresh l.b.p0 }
  let s1 := s.setLaser m l1
  let pre := s.rd F.LSR_MOD_PREFER m
  let x := if s1.lampReady m pre then pre else 1 - pre
  if !s1.lampReady m x then s1.showLaser m
  else
    let s2 := (s1.wr F.LSR_MOD_ACTIVE m x).setLaser m { l1 with sel := if x = 1 then laserGroups m else [] }
    (s2.setModState m (if s1.lampReady m (1 - x) then 0 else 3)).showLaser m

/-- A module that reached ModuleReady in step 7 is commissioned (R197, R428). -/
def State.startModule (s : State) (i : StartLaser) : State :=
  let s1 := s.lampRead i.m i.cmis i.tapsA i.tapsB
  if (s1.laser i.m).ready then s1.commission i.m i.okA i.okB else s1

/-- The heater codes that rings locked at become their commissioned codes (R159, R433). -/
def State.startCodes (s : State) (codes : List (Ring × BitVec 12)) : State :=
  codes.foldl (fun (t : State) c =>
    let k := ringKey c.1
    let t1 : State := { t with fab := { t.fab with codes := tput (fun _ => 0) t.fab.codes k c.2.toNat } }
    t1.setRing k { t1.ring k with lift := c.2.toNat }) s

/-- Step 7: modules are commissioned, rings lock, the timing tone starts and beacon time counts from 0. LM2 or LM5 must have a
commissioned source (R379, R380, R427, R429). -/
def State.startLight (s : State) (i : StartIn) (cold : Bool) : Started :=
  let s0 := s.beginStart 7
  let s1 := i.lasers.foldl (if cold then State.startModule else State.keepModule) s0
  let s2 := ({ s1 with fab := { s1.fab with up := true }, bt := 0 } : State).startCodes i.codes
  let dark := (List.range 12).filter (fun m => s2.modState m == 4)
  let s3 := dark.foldl State.parkModule s2
  if s3.modState 2 = 4 ∧ s3.modState 5 = 4 then s3.startFail 7 2
  else (s3.degrade 7 ((List.range 12).filter (fun m => s3.modState m != 0)), true)

/-- The plane or port whose part failed, as the number of its substitution unit (R165). -/
def State.testPart (s : State) (t : StartTest) : Option Nat :=
  match t with
  | .ring r => some (s.place r).unit
  | .lane l r => if testPass r true then none else some (match l with
    | .pair a b n => a.val * 16 + (s.laneSlot (16 * a.val + b.val) n).1
    | .spare ep plane _ => ep.val * 16 + plane.val
    | .link x => 256 + x.val / 32
    | .loop p => 256 + p.val)
  | .retune u false => some (unitKey u)
  | _ => none

/-- Pairs between endpoints in service (R172). -/
def State.livePairs (s : State) : List Nat :=
  let on := fun (e : Nat) => decide (12 ≤ e) || s.inService (dieSD e)
  (List.range 256).filter (fun pr => pr / 16 != pr % 16 && on (pr / 16) && on (pr % 16))

/-- Step 8: every fabric lane is tested and what fails is repaired; a pair without a lane fails the start (R163, R173, R429). -/
def State.startLanes (s : State) (i : StartIn) : Started :=
  let s0 := s.beginStart 8
  let live := s0.livePairs
  let s1 := live.foldl (fun (t : State) pr => t.wr F.FAB_PAIR_UP pr 1) s0
  let s2 := i.tests.foldl State.startTest s1
  let s3 := (List.range 256).foldl State.refreshPair s2
  match live.find? (fun pr => s3.rd F.FAB_PAIR_LANES pr == 0) with
  | some pr => s3.startFail 8 pr
  | none => (s3.degrade 8 (i.tests.filterMap s0.testPart), true)

/-! ## Step 9: HBM -/

/-- hPPR on one stack: rows that were repaired leave the record, the others are retired again, with PPR_APPLIED (R219). -/
def State.repairRows (s : State) (i : StartIn) (st : Nat) : State :=
  let mine := s.mem.flashRows.filter (fun k => k / 2 ^ 25 == st)
  let done := mine.filter (fun k => i.ppr.any (fun e => pageKey e.1 e.2.toNat == k))
  let again := mine.filter (fun k => !done.contains k)
  if mine = [] then s
  else
    let s1 : State := { s with mem := { s.mem with remap := again.foldl NSet.add s.mem.remap,
                                                   flashRows := s.mem.flashRows.filter (fun k => !done.contains k) } }
    (s1.wr F.MEM_HBM_RETIRED_PAGES st again.length).raise 0x0608 (dieSD st) [(4, done.length), (2, again.length)]

/-- Whether stack `st` is there once HBM has trained: trained, its cache die in service, the rails of its quadrant in range (R204,
R429, R530). -/
def State.trained (s : State) (i : StartIn) (st : Nat) : Bool :=
  i.trained.getLsbD st && s.inService (dieSD st) && (List.range 3).all (fun r => !s.pwr.hbmBad.contains (4 * (st / 3) + r))

/-- Step 9: HBM trains, a cold start applies hPPR, and the map is fixed over the stacks that trained (R204, R219, R427, R433). -/
def State.startHbm (s : State) (i : StartIn) (cold : Bool) : Started :=
  let s0 := s.beginStart 9
  let on := (List.range 12).filter (s0.trained i)
  let s1 := on.foldl (fun (t : State) st =>
    let t1 := (t.wr F.MEM_HBM_PRESENT st 1).wr F.MEM_HBM_RETIRED st 0
    if cold then t1.repairRows i st else t1) s0
  let s2 := (s1.wr F.MEM_MAP_N 0 on.length).wr F.MEM_MAP_STACKS 0 (on.foldl (fun a st => a + 2 ^ st) 0)
  if on = [] then s2.startFail 9 0
  else
    let s3 := if cold ∨ s2.mem.full = [] then s2 else s2.setCond 4 true
    (s3.degrade 9 ((List.range 12).filter (fun st => !on.contains st)), true)

/-! ## Steps 10 to 12 -/

/-- CAPABILITY_REDUCED of a feature that is absent, with the dies that lack it (R246, R256). -/
def State.featureLack (s : State) (i : StartIn) (f : Nat) : State :=
  let mask := (s.capDies.filter (fun d => !bitAt (capFeat i d) f)).foldl (fun a d => a + 2 ^ d) 0
  if mask = 0 then s else s.raise 0x070A srcPkg [(1, f), (5, mask)]

/-- The feature bits offered to the driver (R364, R368). -/
def State.offered (s : State) : Nat := 0x7FFF - (if s.bit F.STK_PKG_SPINE_ROLE then 0 else 0x100)

/-- Step 10: protocol version and feature set of the package, and the offer to the driver (R245, R246, R249, R364, R368). -/
def State.startCaps (s : State) (i : StartIn) : Started :=
  let ds := s.capDies
  let least := ds.foldl (fun a d => min a (capMax i d)) 255
  let s1 := ((List.range 33).filter (fun d => s.rd F.GLB_INV_STATE d != 2)).foldl (fun (t : State) d =>
    (t.setReg (F.STK_CAP_LO_FEAT.off d) ((capOf i d).setWidth 32)).setReg (F.STK_CAP_HI_TYPE.off d) ((capOf i d >>> 32).setWidth 32))
    (s.beginStart 10)
  match ds.find? (fun d => decide (least < capMin i d)) with
  | some d => s1.startFail 10 d
  | none =>
    let s2 := (s1.showFeatures i).wr F.STK_PKG_PROTO 0 least
    let lack := [0, 1, 2].filter (fun f => ds.any (fun d => !bitAt (capFeat i d) f))
    let s3 := lack.foldl (fun (t : State) f => t.featureLack i f) s2
    ((s3.wr F.NEG_OFFER_OFFER 0 s3.offered).degrade 10 lack, true)

/-- The lane 0 loopback of a port as step 11 found it. -/
def loopOk (i : StartIn) (p : Fin 24) : Bool := i.loops.all (fun e => e.1 != p || testPass e.2 true)

/-- The receive filter of a port whose lane no device lights finds no light (R159, R270). -/
def State.unlitFilter (s : State) (r : Ring) : State :=
  match r with
  | .port _ _ true => s.parkRing (ringKey r)
  | _ => s

/-- Step 11: the loopback of every enabled port is tested and its links begin to train: those to absent positions stay DARK, and those
that reached IDENT are judged (R270, R284, R286, R287). -/
def State.startPorts (s : State) (i : StartIn) : Started :=
  let s0 := i.unlit.foldl State.unlitFilter (s.beginStart 11).showRoles
  let ports := (List.finRange 24).filter (fun (p : Fin 24) => s0.bit F.PRT_PORT_ENABLE p.val)
  let s1 := ports.foldl (fun (t : State) (p : Fin 24) => (portLinks p).foldl State.linkSettle (t.laneTest (.loop p) (loopOk i p) false)) s0
  let s2 := i.idents.foldl (fun (t : State) e => (t.linkAlign e.1).identIn e.1 e.2) s1
  let wrong := (i.idents.map (fun e => e.1.val)).filter (fun x => s2.linkState x == 8)
  (s2.degrade 11 ((ports.filter (fun (p : Fin 24) => !loopOk i p)).map (fun (p : Fin 24) => p.val) ++ wrong.map (· / 32)), true)

/-- The host die boots: its ports are up and its image is measured, or HOST_BOOT_FAIL (R335, R362, R429). -/
def State.hostBoot (s : State) (i : StartIn) : State :=
  let s1 := ((s.wr F.HST_PORT_LINK_UP 0 1).wr F.HST_PORT_LINK_UP 1 1).setCmd { s.cmd with ddr := i.ddr }
  match i.boot with
  | some d =>
    let digest : List Byte := (List.range 32).map (fun k => (d >>> (8 * (31 - k))).setWidth 8)
    (List.range 8).foldl (fun (t : State) j => t.wr F.HST_BOOT_MEAS_DIGEST j (leNat ((digest.drop (4 * j)).take 4))) s1
  | none => s1.raise 0x0549 dieHD []

/-- Islands run at the lowest of TARGET and the caps (R373, R430). -/
def State.startIslands (s : State) : State := (List.range 432).foldl (fun (t : State) x => t.wr F.CLK_ISL_STEP x (t.lowestStep x)) s

/-- Step 12: the host die is released and start-up is done: START_DONE; the tuning loops run, and a witness begins in quarantine (R335,
R427, R430, R439, R454, R469). -/
def State.startRelease (s : State) (i : StartIn) (cold : Bool) : Started :=
  let s1 := ((s.beginStart 12).hostBoot i).showReady
  let s2 := ((s1.wr F.GLB_START_DONE 0 1).wr F.GLB_START_STEP 0 13).setFw { s1.fw with due := 0 }
  let s3 := s2.raise 0x0B80 srcPkg [(1, b2n (!cold)), (4, min (startMs i) (2 ^ 32 - 1))]
  let s4 := s3.startIslands.btSettle
  let s5 : State := { s4 with lv := { s4.lv with quarantine := true }, light := { s4.light with calFrom := s4.now } }
  ((s5.showPkg.showFeeds).fwSettle, true)

/-- RESET_CAUSE, the first event of a start (R439, R441). -/
def State.tellCause (s : State) : State := s.raise 0x0B83 srcPkg [(1, s.rd F.GLB_RESET_CAUSE)]

/-- Steps 3 to 12, which a cold and a warm start share (R427, R433). -/
def Started.rest (r : Started) (i : StartIn) (cold : Bool) : State :=
  let go := fun (r : Started) (k : Nat) (f : State → Started) => (r.andThen f).inTime i cold k
  let a := go (go (go r 3 (·.startImage i)) 4 (·.startDies i cold)) 5 (·.startBundles i cold)
  let b := go (go (go a 6 (·.startCrossings i cold)) 7 (·.startLight i cold)) 8 (·.startLanes i)
  let c := go (go (go b 9 (·.startHbm i cold)) 10 (·.startCaps i)) 11 (·.startPorts i)
  ((c.inTime i cold 12).andThen (·.startRelease i cold)).1

/-! ## Commands -/

/-- COLD_START: power-up, or the start after a cold reset (R427). Dies that a lost reference clock holds in reset do not start (R531). -/
def execColdStart (i : StartIn) (s : State) : Out :=
  if s.fw.refHeld then .next s
  else
    let s0 := if s.fw.due = 1 then s else s.coldReset 0
    .next ((s0.tellCause.startFeeds i).rest i true)

/-- WARM_START: the start after a warm reset (R433). -/
def execWarmStart (i : StartIn) (s : State) : Out :=
  if s.fw.due = 2 ∧ !s.fw.refHeld then .next (Started.rest (Started.inTime (s.tellCause, true) i false 0) i false) else .next s

/-- COLD_RST_N: held low for 10 ms (R431, R533). -/
def execColdRstN (s : State) : Out := .next (s.askReset true 1)

/-- WARM_RST_N: held low for 10 ms (R431, R533). -/
def execWarmRstN (s : State) : Out := .next (s.askReset false 3)

/-- SUPPLY_BELOW_RESET: V_S of VIN or VPH below reset for more than 1 µs warm-resets the package; that of VHOST resets the host die
alone (R336, R401, R431). -/
def execSupplyBelowReset (rail : Fin 3) (s : State) : Out :=
  if rail.val < 2 then .next (s.askReset false 5) else .next s.resetHost

/-- IO_HALT_RECOVERY: a halted I/O die has been below 92 °C for 100 ms: the package warm-resets (R409). -/
def execIoHaltRecovery (q : Fin 4) (s : State) : Out := if s.pwr.ioHalt.contains q.val then .next (s.askReset false 6) else .next s

/-- REFCLK_LOSS: the reference is lost and the clock generators hold frequency (R531). -/
def execRefclkLoss (s : State) : Out := .next (s.setFw { s.fw with refLost := true })

/-- REFCLK_LOSS_TIMEOUT: the reference has been absent for more than 1 ms: every die is held in reset (R531). -/
def execRefclkLossTimeout (s : State) : Out :=
  if s.fw.refLost ∧ !s.fw.refHeld then
    let s1 := s.coldReset 0
    .next (s1.setFw { s1.fw with refHeld := true })
  else .next s

/-- The reference is back within 1 ms: beacon time counts as having missed its exchanges, HOLDOVER from ACQUIRE and TRACK, and a parent
that is still there is acquired again (R384, R531). -/
def State.missedExchanges (s : State) : State :=
  if s.btState = 2 ∨ s.btState = 3 then ((s.wr F.CLK_BT_STATUS_STATE 0 4).raise 0x0145 srcPkg []).btSettle else s

/-- REFCLK_RETURN: within 1 ms the device goes on; after that a cold start runs, with cause 0x0 (R531). -/
def execRefclkReturn (i : StartIn) (s : State) : Out :=
  if !s.fw.refLost then .next s
  else
    let s1 := s.setFw { s.fw with refLost := false, refHeld := false }
    if s.fw.refHeld then .next ((s1.tellCause.startFeeds i).rest i true) else .next s1.missedExchanges

end Sys2Proof.Machine
end

