-- ==== Sys2Proof/Machine/Dispatch.lean ====
section
/-!
DEFINITION. The dispatch: one arm per constructor of Instr, each one direct call of its meaning.
-/
namespace Sys2Proof.Machine

def exec (i : Instr) (s : State) : Host.Outcome State Fault Refusal :=
  match i with
  | .nop lc w => Sys2Proof.Machine.execNop lc w s
  | .add lc w => Sys2Proof.Machine.execAdd lc w s
  | .sub lc w => Sys2Proof.Machine.execSub lc w s
  | .and lc w => Sys2Proof.Machine.execAnd lc w s
  | .or lc w => Sys2Proof.Machine.execOr lc w s
  | .xor lc w => Sys2Proof.Machine.execXor lc w s
  | .sll lc w => Sys2Proof.Machine.execSll lc w s
  | .srl lc w => Sys2Proof.Machine.execSrl lc w s
  | .sra lc w => Sys2Proof.Machine.execSra lc w s
  | .mul lc w => Sys2Proof.Machine.execMul lc w s
  | .mulhu lc w => Sys2Proof.Machine.execMulhu lc w s
  | .slt lc w => Sys2Proof.Machine.execSlt lc w s
  | .sltu lc w => Sys2Proof.Machine.execSltu lc w s
  | .min lc w => Sys2Proof.Machine.execMin lc w s
  | .max lc w => Sys2Proof.Machine.execMax lc w s
  | .addi lc w => Sys2Proof.Machine.execAddi lc w s
  | .andi lc w => Sys2Proof.Machine.execAndi lc w s
  | .ori lc w => Sys2Proof.Machine.execOri lc w s
  | .xori lc w => Sys2Proof.Machine.execXori lc w s
  | .slli lc w => Sys2Proof.Machine.execSlli lc w s
  | .srli lc w => Sys2Proof.Machine.execSrli lc w s
  | .srai lc w => Sys2Proof.Machine.execSrai lc w s
  | .lih lc w => Sys2Proof.Machine.execLih lc w s
  | .amov lc w => Sys2Proof.Machine.execAmov lc w s
  | .aadd lc w => Sys2Proof.Machine.execAadd lc w s
  | .aaddi lc w => Sys2Proof.Machine.execAaddi lc w s
  | .ard lc w => Sys2Proof.Machine.execArd lc w s
  | .lds lc w err => Sys2Proof.Machine.execLds lc w err s
  | .sts lc w => Sys2Proof.Machine.execSts lc w s
  | .beq lc w => Sys2Proof.Machine.execBeq lc w s
  | .bne lc w => Sys2Proof.Machine.execBne lc w s
  | .blt lc w => Sys2Proof.Machine.execBlt lc w s
  | .bge lc w => Sys2Proof.Machine.execBge lc w s
  | .bltu lc w => Sys2Proof.Machine.execBltu lc w s
  | .bgeu lc w => Sys2Proof.Machine.execBgeu lc w s
  | .jmp lc w => Sys2Proof.Machine.execJmp lc w s
  | .call lc w => Sys2Proof.Machine.execCall lc w s
  | .ret lc w => Sys2Proof.Machine.execRet lc w s
  | .loop lc w => Sys2Proof.Machine.execLoop lc w s
  | .signal lc w => Sys2Proof.Machine.execSignal lc w s
  | .wait lc w => Sys2Proof.Machine.execWait lc w s
  | .waitbt lc w => Sys2Proof.Machine.execWaitbt lc w s
  | .fence lc w => Sys2Proof.Machine.execFence lc w s
  | .fenceE lc w => Sys2Proof.Machine.execFenceE lc w s
  | .semrd lc w => Sys2Proof.Machine.execSemrd lc w s
  | .halt lc w => Sys2Proof.Machine.execHalt lc w s
  | .rdbt lc w => Sys2Proof.Machine.execRdbt lc w s
  | .rdcyc lc w => Sys2Proof.Machine.execRdcyc lc w s
  | .rdslip lc w => Sys2Proof.Machine.execRdslip lc w s
  | .mac lc w => Sys2Proof.Machine.execMac lc w s
  | .macZero lc w => Sys2Proof.Machine.execMacZero lc w s
  | .mmaDrain lc w => Sys2Proof.Machine.execMmaDrain lc w s
  | .mmaLoad lc w => Sys2Proof.Machine.execMmaLoad lc w s
  | .mmaZero lc w => Sys2Proof.Machine.execMmaZero lc w s
  | .vopCopy lc w => Sys2Proof.Machine.execVopCopy lc w s
  | .vopAdd lc w => Sys2Proof.Machine.execVopAdd lc w s
  | .vopSub lc w => Sys2Proof.Machine.execVopSub lc w s
  | .vopMul lc w => Sys2Proof.Machine.execVopMul lc w s
  | .vopFma lc w => Sys2Proof.Machine.execVopFma lc w s
  | .vopMax lc w => Sys2Proof.Machine.execVopMax lc w s
  | .vopMin lc w => Sys2Proof.Machine.execVopMin lc w s
  | .vopAbs lc w => Sys2Proof.Machine.execVopAbs lc w s
  | .vopNeg lc w => Sys2Proof.Machine.execVopNeg lc w s
  | .vopScale lc w => Sys2Proof.Machine.execVopScale lc w s
  | .vopAdds lc w => Sys2Proof.Machine.execVopAdds lc w s
  | .vopExp2 lc w => Sys2Proof.Machine.execVopExp2 lc w s
  | .vopLog2 lc w => Sys2Proof.Machine.execVopLog2 lc w s
  | .vopRsqrt lc w => Sys2Proof.Machine.execVopRsqrt lc w s
  | .vopSin lc w => Sys2Proof.Machine.execVopSin lc w s
  | .vopCos lc w => Sys2Proof.Machine.execVopCos lc w s
  | .vopRcp lc w => Sys2Proof.Machine.execVopRcp lc w s
  | .vopRsum lc w => Sys2Proof.Machine.execVopRsum lc w s
  | .vopRmax lc w => Sys2Proof.Machine.execVopRmax lc w s
  | .vopSmxstep lc w => Sys2Proof.Machine.execVopSmxstep lc w s
  | .vopRescale lc w => Sys2Proof.Machine.execVopRescale lc w s
  | .vopRng lc w => Sys2Proof.Machine.execVopRng lc w s
  | .vopUnif lc w => Sys2Proof.Machine.execVopUnif lc w s
  | .vopPick lc w => Sys2Proof.Machine.execVopPick lc w s
  | .xferCopy lc w => Sys2Proof.Machine.execXferCopy lc w s
  | .xferCopy2d lc w => Sys2Proof.Machine.execXferCopy2d lc w s
  | .xferGather lc w => Sys2Proof.Machine.execXferGather lc w s
  | .xferScatter lc w => Sys2Proof.Machine.execXferScatter lc w s
  | .xferKvwalk lc w => Sys2Proof.Machine.execXferKvwalk lc w s
  | .xferKvput lc w => Sys2Proof.Machine.execXferKvput lc w s
  | .xferRload lc w => Sys2Proof.Machine.execXferRload lc w s
  | .xferRstore lc w => Sys2Proof.Machine.execXferRstore lc w s
  | .xferRatomic lc w => Sys2Proof.Machine.execXferRatomic lc w s
  | .xferBulkPut lc w => Sys2Proof.Machine.execXferBulkPut lc w s
  | .xferBulkGet lc w => Sys2Proof.Machine.execXferBulkGet lc w s
  | .matrixOpStart lc e errs => Sys2Proof.Machine.execMatrixOpStart lc e errs s
  | .vectorOpStart lc errs => Sys2Proof.Machine.execVectorOpStart lc errs s
  | .transferOpStart lc st errs => Sys2Proof.Machine.execTransferOpStart lc st errs s
  | .matrixOpComplete lc e t => Sys2Proof.Machine.execMatrixOpComplete lc e t s
  | .vectorOpComplete lc => Sys2Proof.Machine.execVectorOpComplete lc s
  | .transferOpComplete lc st => Sys2Proof.Machine.execTransferOpComplete lc st s
  | .remoteSignalArrive lc => Sys2Proof.Machine.execRemoteSignalArrive lc s
  | .signalFreeEntry lc => Sys2Proof.Machine.execSignalFreeEntry lc s
  | .waitTimeout lc => Sys2Proof.Machine.execWaitTimeout lc s
  | .waitbtTimeReached lc => Sys2Proof.Machine.execWaitbtTimeReached lc s
  | .teBankStarveWin lc bank delayed => Sys2Proof.Machine.execTeBankStarveWin lc bank delayed s
  | .scratchPatrolScrub lc granule corrected double => Sys2Proof.Machine.execScratchPatrolScrub lc granule corrected double s
  | .coreLaunchReceive lc seq => Sys2Proof.Machine.execCoreLaunchReceive lc seq s
  | .coreLoadingDone lc => Sys2Proof.Machine.execCoreLoadingDone lc s
  | .coreAbortReceive lc => Sys2Proof.Machine.execCoreAbortReceive lc s
  | .coreDrainDone lc => Sys2Proof.Machine.execCoreDrainDone lc s
  | .coreReportReceive lc => Sys2Proof.Machine.execCoreReportReceive lc s
  | .physicalCoreFail d pc => Sys2Proof.Machine.execPhysicalCoreFail d pc s
  | .coreRebind lc => Sys2Proof.Machine.execCoreRebind lc s
  | .launch seq => Sys2Proof.Machine.execLaunch seq s
  | .stepLaunch seq => Sys2Proof.Machine.execStepLaunch seq s
  | .copyDeviceToDevice seq => Sys2Proof.Machine.execCopyDeviceToDevice seq s
  | .copyHostToDevice seq data => Sys2Proof.Machine.execCopyHostToDevice seq data s
  | .copyDeviceToHost seq => Sys2Proof.Machine.execCopyDeviceToHost seq s
  | .copyToRemote seq => Sys2Proof.Machine.execCopyToRemote seq s
  | .copyFromRemote seq => Sys2Proof.Machine.execCopyFromRemote seq s
  | .collectiveReduceScatter seq => Sys2Proof.Machine.execCollectiveReduceScatter seq s
  | .collectiveAllGather seq => Sys2Proof.Machine.execCollectiveAllGather seq s
  | .collectiveAllReduce seq => Sys2Proof.Machine.execCollectiveAllReduce seq s
  | .berthOpenLocal seq => Sys2Proof.Machine.execBerthOpenLocal seq s
  | .berthOpenReceive seq => Sys2Proof.Machine.execBerthOpenReceive seq s
  | .berthClose seq => Sys2Proof.Machine.execBerthClose seq s
  | .berthMove seq => Sys2Proof.Machine.execBerthMove seq s
  | .moorPut seq => Sys2Proof.Machine.execMoorPut seq s
  | .moorGet seq => Sys2Proof.Machine.execMoorGet seq s
  | .moorDropKey seq => Sys2Proof.Machine.execMoorDropKey seq s
  | .moorDropAge seq ended => Sys2Proof.Machine.execMoorDropAge seq ended s
  | .moorTouch seq => Sys2Proof.Machine.execMoorTouch seq s
  | .fenceDesc seq => Sys2Proof.Machine.execFenceDesc seq s
  | .signalDesc seq => Sys2Proof.Machine.execSignalDesc seq s
  | .waitDesc seq => Sys2Proof.Machine.execWaitDesc seq s
  | .roleSet seq => Sys2Proof.Machine.execRoleSet seq s
  | .lightvesselPair seq => Sys2Proof.Machine.execLightvesselPair seq s
  | .lightvesselUnpair seq => Sys2Proof.Machine.execLightvesselUnpair seq s
  | .lightvesselTakeover seq => Sys2Proof.Machine.execLightvesselTakeover seq s
  | .config seq env => Sys2Proof.Machine.execConfig seq env s
  | .roleSettle ended => Sys2Proof.Machine.execRoleSettle ended s
  | .berthHeaderReceive src b op hdr recs tail => Sys2Proof.Machine.execBerthHeaderReceive src b op hdr recs tail s
  | .berthMoveCommitAck seq status => Sys2Proof.Machine.execBerthMoveCommitAck seq status s
  | .moorAnnounce src op key ended => Sys2Proof.Machine.execMoorAnnounce src op key ended s
  | .moorSegmentReceive src op seg fmt data => Sys2Proof.Machine.execMoorSegmentReceive src op seg fmt data s
  | .moorSegment0Commit src op data => Sys2Proof.Machine.execMoorSegment0Commit src op data s
  | .moorCommitAck seq status => Sys2Proof.Machine.execMoorCommitAck seq status s
  | .moorGetRequest src op key => Sys2Proof.Machine.execMoorGetRequest src op key s
  | .moorGetSegmentArrive seq status seg data => Sys2Proof.Machine.execMoorGetSegmentArrive seq status seg data s
  | .moorDropArrive src op key ended => Sys2Proof.Machine.execMoorDropArrive src op key ended s
  | .moorTouchArrive src op key => Sys2Proof.Machine.execMoorTouchArrive src op key s
  | .moorSegmentReclaim key => Sys2Proof.Machine.execMoorSegmentReclaim key s
  | .morAgeHistRefresh => Sys2Proof.Machine.execMorAgeHistRefresh s
  | .ringLockLoopUpdate ep meas => Sys2Proof.Machine.execRingLockLoopUpdate ep meas s
  | .ringSeekBegin r => Sys2Proof.Machine.execRingSeekBegin r s
  | .ringSeekLock r => Sys2Proof.Machine.execRingSeekLock r s
  | .ringSeekAttemptFail r => Sys2Proof.Machine.execRingSeekAttemptFail r s
  | .ringLightLost r => Sys2Proof.Machine.execRingLightLost r s
  | .ringDetuneLoss r => Sys2Proof.Machine.execRingDetuneLoss r s
  | .ringHoldRequest r => Sys2Proof.Machine.execRingHoldRequest r s
  | .ringHoldRelease r => Sys2Proof.Machine.execRingHoldRelease r s
  | .ringHoldExpire r => Sys2Proof.Machine.execRingHoldExpire r s
  | .ringHoldPark r => Sys2Proof.Machine.execRingHoldPark r s
  | .feedForwardUpdate n power => Sys2Proof.Machine.execFeedForwardUpdate n power s
  | .substitutionStart u => Sys2Proof.Machine.execSubstitutionStart u s
  | .spareRetuneDone u ok => Sys2Proof.Machine.execSpareRetuneDone u ok s
  | .laneTestDone t r => Sys2Proof.Machine.execLaneTestDone t r s
  | .flitSlot ch => Sys2Proof.Machine.execFlitSlot ch s
  | .flitReceive ch levels => Sys2Proof.Machine.execFlitReceive ch levels s
  | .flitLossTimeout ch vc stream => Sys2Proof.Machine.execFlitLossTimeout ch vc stream s
  | .creditIdleReturn src dst => Sys2Proof.Machine.execCreditIdleReturn src dst s
  | .mcastWaitReserve src g vc => Sys2Proof.Machine.execMcastWaitReserve src g vc s
  | .laneQualityWindow l fast slow => Sys2Proof.Machine.execLaneQualityWindow l fast slow s
  | .laserTapSample m b sample => Sys2Proof.Machine.execLaserTapSample m b sample s
  | .laserLevelUpdate m => Sys2Proof.Machine.execLaserLevelUpdate m s
  | .laserAdvisoryClearTimer m b => Sys2Proof.Machine.execLaserAdvisoryClearTimer m b s
  | .lineDarkDetect m c => Sys2Proof.Machine.execLineDarkDetect m c s
  | .cmisPoll m r => Sys2Proof.Machine.execCmisPoll m r s
  | .switchOverStart m => Sys2Proof.Machine.execSwitchOverStart m s
  | .switchGroupDrained m => Sys2Proof.Machine.execSwitchGroupDrained m s
  | .switchGroupVerified m failed lanesPassed => Sys2Proof.Machine.execSwitchGroupVerified m failed lanesPassed s
  | .emergencyRestoreDone m failed ok => Sys2Proof.Machine.execEmergencyRestoreDone m failed ok s
  | .lsrSwitch m => Sys2Proof.Machine.execLsrSwitch m s
  | .lsrPrepareRemove m => Sys2Proof.Machine.execLsrPrepareRemove m s
  | .lsrCancelRemove m => Sys2Proof.Machine.execLsrCancelRemove m s
  | .laserModuleRemoved m removed => Sys2Proof.Machine.execLaserModuleRemoved m removed s
  | .laserModuleInserted m => Sys2Proof.Machine.execLaserModuleInserted m s
  | .commissioningDone m first second => Sys2Proof.Machine.execCommissioningDone m first second s
  | .homeAccess a op errs => Sys2Proof.Machine.execHomeAccess a op errs s
  | .hbmPatrolScrub st1 unit err => Sys2Proof.Machine.execHbmPatrolScrub st1 unit err s
  | .sramPatrolScrub die unit double single => Sys2Proof.Machine.execSramPatrolScrub die unit double single s
  | .hbmTempRead st1 temp => Sys2Proof.Machine.execHbmTempRead st1 temp s
  | .pageRetireStart st1 => Sys2Proof.Machine.execPageRetireStart st1 s
  | .pageRetireDone st1 errs => Sys2Proof.Machine.execPageRetireDone st1 errs s
  | .bundleBeatReceive x data ctl crc clk => Sys2Proof.Machine.execBundleBeatReceive x data ctl crc clk s
  | .bundleNakReceive x seq => Sys2Proof.Machine.execBundleNakReceive x seq s
  | .vbPauseSpare x => Sys2Proof.Machine.execVbPauseSpare x s
  | .vbPauseHalf x => Sys2Proof.Machine.execVbPauseHalf x s
  | .vbPauseRetire x => Sys2Proof.Machine.execVbPauseRetire x s
  | .vbResume x => Sys2Proof.Machine.execVbResume x s
  | .vbSubstitutionDrained x => Sys2Proof.Machine.execVbSubstitutionDrained x s
  | .vbSpareTrainDone x pass => Sys2Proof.Machine.execVbSpareTrainDone x pass s
  | .vbRemapPauseStart n up => Sys2Proof.Machine.execVbRemapPauseStart n up s
  | .vbRemapDrained n up => Sys2Proof.Machine.execVbRemapDrained n up s
  | .stkDieOrderly n => Sys2Proof.Machine.execStkDieOrderly n s
  | .stkDieForced n => Sys2Proof.Machine.execStkDieForced n s
  | .dieSilentTimeout n => Sys2Proof.Machine.execDieSilentTimeout n s
  | .dieClosingDrained n => Sys2Proof.Machine.execDieClosingDrained n s
  | .dieClosingTimeout n => Sys2Proof.Machine.execDieClosingTimeout n s
  | .dieResetSequenceDone n => Sys2Proof.Machine.execDieResetSequenceDone n s
  | .dieReturnChecksDone n failed tests found cal => Sys2Proof.Machine.execDieReturnChecksDone n failed tests found cal s
  | .linkAligned x => Sys2Proof.Machine.execLinkAligned x s
  | .trainIdentResend x => Sys2Proof.Machine.execTrainIdentResend x s
  | .trainIdent x f => Sys2Proof.Machine.execTrainIdent x f s
  | .trainAck x f => Sys2Proof.Machine.execTrainAck x f s
  | .identTimeout x => Sys2Proof.Machine.execIdentTimeout x s
  | .linkTestDone x here far => Sys2Proof.Machine.execLinkTestDone x here far s
  | .creditInit x req rsp bulk ctl => Sys2Proof.Machine.execCreditInit x req rsp bulk ctl s
  | .lanePause x reason => Sys2Proof.Machine.execLanePause x reason s
  | .laneResume x ok => Sys2Proof.Machine.execLaneResume x ok s
  | .pausedTimeout x => Sys2Proof.Machine.execPausedTimeout x s
  | .btProbeSend x => Sys2Proof.Machine.execBtProbeSend x s
  | .btProbe x t1 => Sys2Proof.Machine.execBtProbe x t1 s
  | .btEcho x t1 t2 t3 t4 => Sys2Proof.Machine.execBtEcho x t1 t2 t3 t4 s
  | .packetCommit p lane vc => Sys2Proof.Machine.execPacketCommit p lane vc s
  | .egressEnqueue q => Sys2Proof.Machine.execEgressEnqueue q s
  | .throttleBandRise q dst => Sys2Proof.Machine.execThrottleBandRise q dst s
  | .load p vc => Sys2Proof.Machine.execLoad p vc s
  | .store p vc => Sys2Proof.Machine.execStore p vc s
  | .atomic p vc => Sys2Proof.Machine.execAtomic p vc s
  | .bulkWrite p vc => Sys2Proof.Machine.execBulkWrite p vc s
  | .bulkRead p vc => Sys2Proof.Machine.execBulkRead p vc s
  | .parcel p vc => Sys2Proof.Machine.execParcel p vc s
  | .relayForward p vc => Sys2Proof.Machine.execRelayForward p vc s
  | .collExp p vc => Sys2Proof.Machine.execCollExp p vc s
  | .collB p vc => Sys2Proof.Machine.execCollB p vc s
  | .collData p vc mismatch => Sys2Proof.Machine.execCollData p vc mismatch s
  | .ack p vc => Sys2Proof.Machine.execAck p vc s
  | .loadData p vc => Sys2Proof.Machine.execLoadData p vc s
  | .atomicData p vc => Sys2Proof.Machine.execAtomicData p vc s
  | .bulkData p vc => Sys2Proof.Machine.execBulkData p vc s
  | .nak p vc => Sys2Proof.Machine.execNak p vc s
  | .homeForwardReceive q tag => Sys2Proof.Machine.execHomeForwardReceive q tag s
  | .homeConfirm q tag => Sys2Proof.Machine.execHomeConfirm q tag s
  | .forwardResendTimer q tag => Sys2Proof.Machine.execForwardResendTimer q tag s
  | .homeLineApply line => Sys2Proof.Machine.execHomeLineApply line s
  | .e2eResendTimer e dst n => Sys2Proof.Machine.execE2eResendTimer e dst n s
  | .parcelFlushTimer q rack => Sys2Proof.Machine.execParcelFlushTimer q rack s
  | .collTimerExpire id => Sys2Proof.Machine.execCollTimerExpire id s
  | .hostReset => Sys2Proof.Machine.execHostReset s
  | .commandPortLinkDown p => Sys2Proof.Machine.execCommandPortLinkDown p s
  | .portRetrainTimeout => Sys2Proof.Machine.execPortRetrainTimeout s
  | .ucieLaneRepair p lane => Sys2Proof.Machine.execUcieLaneRepair p lane s
  | .watchLineWrite r count => Sys2Proof.Machine.execWatchLineWrite r count s
  | .headLineWrite c count => Sys2Proof.Machine.execHeadLineWrite c count s
  | .descriptorFetch r desc => Sys2Proof.Machine.execDescriptorFetch r desc s
  | .descriptorComplete seq => Sys2Proof.Machine.execDescriptorComplete seq s
  | .msixCoalesceTimer c => Sys2Proof.Machine.execMsixCoalesceTimer c s
  | .eventDeliver => Sys2Proof.Machine.execEventDeliver s
  | .cxlMemRead p a => Sys2Proof.Machine.execCxlMemRead p a s
  | .cxlMemWrite p a data => Sys2Proof.Machine.execCxlMemWrite p a data s
  | .islandStepChange x => Sys2Proof.Machine.execIslandStepChange x s
  | .islandStepChangeDone x cal => Sys2Proof.Machine.execIslandStepChangeDone x cal s
  | .droopDetect dom => Sys2Proof.Machine.execDroopDetect dom s
  | .replicaMeasure x margin => Sys2Proof.Machine.execReplicaMeasure x margin s
  | .btFrame die count crc => Sys2Proof.Machine.execBtFrame die count crc s
  | .btGeneratorFailover trigger advance => Sys2Proof.Machine.execBtGeneratorFailover trigger advance s
  | .btParentTimeout => Sys2Proof.Machine.execBtParentTimeout s
  | .btHoldoverTimeout => Sys2Proof.Machine.execBtHoldoverTimeout s
  | .ppsEdge => Sys2Proof.Machine.execPpsEdge s
  | .ppsTimeout => Sys2Proof.Machine.execPpsTimeout s
  | .feedFail f => Sys2Proof.Machine.execFeedFail f s
  | .feedReturn f => Sys2Proof.Machine.execFeedReturn f s
  | .supplyWarning vph mv => Sys2Proof.Machine.execSupplyWarning vph mv s
  | .supplyDipRelease => Sys2Proof.Machine.execSupplyDipRelease s
  | .brownoutTimer => Sys2Proof.Machine.execBrownoutTimer s
  | .brownoutRecoveryTimer => Sys2Proof.Machine.execBrownoutRecoveryTimer s
  | .supplyBelowReset rail => Sys2Proof.Machine.execSupplyBelowReset rail s
  | .hbmRailFault quad rail => Sys2Proof.Machine.execHbmRailFault quad rail s
  | .phaseFail d cache phase => Sys2Proof.Machine.execPhaseFail d cache phase s
  | .pkgPowerLoop watts => Sys2Proof.Machine.execPkgPowerLoop watts s
  | .dieCurrentSample d amps watts => Sys2Proof.Machine.execDieCurrentSample d amps watts s
  | .sensorSample x temps broken => Sys2Proof.Machine.execSensorSample x temps broken s
  | .thermalLoop d => Sys2Proof.Machine.execThermalLoop d s
  | .stackCapLoop d => Sys2Proof.Machine.execStackCapLoop d s
  | .heaterGridUpdate bd others want => Sys2Proof.Machine.execHeaterGridUpdate bd others want s
  | .limitSourceRise d src => Sys2Proof.Machine.execLimitSourceRise d src s
  | .riseHoldEnd d => Sys2Proof.Machine.execRiseHoldEnd d s
  | .dieHaltRelease d => Sys2Proof.Machine.execDieHaltRelease d s
  | .ioHaltRecovery q => Sys2Proof.Machine.execIoHaltRecovery q s
  | .coldStart inp => Sys2Proof.Machine.execColdStart inp s
  | .warmStart inp => Sys2Proof.Machine.execWarmStart inp s
  | .coldRstN => Sys2Proof.Machine.execColdRstN s
  | .warmRstN => Sys2Proof.Machine.execWarmRstN s
  | .refclkLoss => Sys2Proof.Machine.execRefclkLoss s
  | .refclkLossTimeout => Sys2Proof.Machine.execRefclkLossTimeout s
  | .calWindowStart g => Sys2Proof.Machine.execCalWindowStart g s
  | .calWindowAbort g => Sys2Proof.Machine.execCalWindowAbort g s
  | .lvBeatSend => Sys2Proof.Machine.execLvBeatSend s
  | .lvBeat p vc same berths => Sys2Proof.Machine.execLvBeat p vc same berths s
  | .lvAsk p vc => Sys2Proof.Machine.execLvAsk p vc s
  | .lvAnswer p vc => Sys2Proof.Machine.execLvAnswer p vc s
  | .lvNotice p vc => Sys2Proof.Machine.execLvNotice p vc s
  | .lvNoticeResend => Sys2Proof.Machine.execLvNoticeResend s
  | .lvAskRepeat => Sys2Proof.Machine.execLvAskRepeat s
  | .lvActiveSilence => Sys2Proof.Machine.execLvActiveSilence s
  | .lvStandbySilence => Sys2Proof.Machine.execLvStandbySilence s
  | .lvTakeoverTimeout => Sys2Proof.Machine.execLvTakeoverTimeout s
  | .lvHoldTimeout => Sys2Proof.Machine.execLvHoldTimeout s
  | .lvPairingTimeout => Sys2Proof.Machine.execLvPairingTimeout s
  | .lvLeaseRenew => Sys2Proof.Machine.execLvLeaseRenew s
  | .lvLeaseExpire => Sys2Proof.Machine.execLvLeaseExpire s
  | .lvQuarantineEnd => Sys2Proof.Machine.execLvQuarantineEnd s
  | .lvCheckpointAck b => Sys2Proof.Machine.execLvCheckpointAck b s
  | .lvCheckpointTimeout b => Sys2Proof.Machine.execLvCheckpointTimeout b s
  | .watchdogExpire q => Sys2Proof.Machine.execWatchdogExpire q s
  | .shadowRecord bytes => Sys2Proof.Machine.execShadowRecord bytes s
  | .handoverRecord bytes env => Sys2Proof.Machine.execHandoverRecord bytes env s
  | .wrLoadDone q shadow => Sys2Proof.Machine.execWrLoadDone q shadow s
  | .wrLoadTimeout q => Sys2Proof.Machine.execWrLoadTimeout q s
  | .wrFailedRecover q selfTest => Sys2Proof.Machine.execWrFailedRecover q selfTest s
  | .thermalPowerTask missed => Sys2Proof.Machine.execThermalPowerTask missed s
  | .laserSupervisionTask missed => Sys2Proof.Machine.execLaserSupervisionTask missed s
  | .laneSupervisionTask missed => Sys2Proof.Machine.execLaneSupervisionTask missed s
  | .ringSupervisionTask missed => Sys2Proof.Machine.execRingSupervisionTask missed s
  | .eventLoggingTask missed => Sys2Proof.Machine.execEventLoggingTask missed s
  | .fwStageTimer => Sys2Proof.Machine.execFwStageTimer s
  | .fwActivationEpoch => Sys2Proof.Machine.execFwActivationEpoch s
  | .fwActWindowExpire => Sys2Proof.Machine.execFwActWindowExpire s
  | .fwConfirmTimer env => Sys2Proof.Machine.execFwConfirmTimer env s
  | .fwGetResponse bytes env => Sys2Proof.Machine.execFwGetResponse bytes env s
  | .fwuOffer env => Sys2Proof.Machine.execFwuOffer env s
  | .fwuCancel => Sys2Proof.Machine.execFwuCancel s
  | .fwuArm => Sys2Proof.Machine.execFwuArm s
  | .fwuDisarm => Sys2Proof.Machine.execFwuDisarm s
  | .fwuCommitSvn env => Sys2Proof.Machine.execFwuCommitSvn env s
  | .fwuSaveSettings env => Sys2Proof.Machine.execFwuSaveSettings env s
  | .getInfo inst => Sys2Proof.Machine.execGetInfo inst s
  | .getEvents inst first count => Sys2Proof.Machine.execGetEvents inst first count s
  | .getCert inst off len => Sys2Proof.Machine.execGetCert inst off len s
  | .attest inst challenge => Sys2Proof.Machine.execAttest inst challenge s
  | .getRepair inst off len => Sys2Proof.Machine.execGetRepair inst off len s
  | .fwOffer inst hdr manifest env => Sys2Proof.Machine.execFwOffer inst hdr manifest env s
  | .fwStatus inst => Sys2Proof.Machine.execFwStatus inst s
  | .fwCmd inst cmd t env => Sys2Proof.Machine.execFwCmd inst cmd t env s
  | .eventNotify => Sys2Proof.Machine.execEventNotify s
  | .registerWrite p off v hi env => Sys2Proof.Machine.execRegisterWrite p off v hi env s
  | .glbExpertWrite v => Sys2Proof.Machine.execGlbExpertWrite v s
  | .glbSetupDoneWrite v => Sys2Proof.Machine.execGlbSetupDoneWrite v s
  | .glbResetWarm => Sys2Proof.Machine.execGlbResetWarm s
  | .glbResetCold => Sys2Proof.Machine.execGlbResetCold s
  | .hstSwitch => Sys2Proof.Machine.execHstSwitch s
  | .negCommit v => Sys2Proof.Machine.execNegCommit v s
  | .rngCmdCfgWrite r v => Sys2Proof.Machine.execRngCmdCfgWrite r v s
  | .rngCqCfgWrite r v => Sys2Proof.Machine.execRngCqCfgWrite r v s
  | .evtCfgWrite v => Sys2Proof.Machine.execEvtCfgWrite v s
  | .evtStatusClear v => Sys2Proof.Machine.execEvtStatusClear v s
  | .rngCtrWrite k hi lo => Sys2Proof.Machine.execRngCtrWrite k hi lo s
  | .memErrlogClear st1 => Sys2Proof.Machine.execMemErrlogClear st1 s
  | .prtIdentWrite v => Sys2Proof.Machine.execPrtIdentWrite v s
  | .prtPortEnableWrite p v => Sys2Proof.Machine.execPrtPortEnableWrite p v s
  | .clkFtabWrite x v => Sys2Proof.Machine.execClkFtabWrite x v s
  | .clkIslTargetWrite x v => Sys2Proof.Machine.execClkIslTargetWrite x v s
  | .prtE2eCtrlWrite v => Sys2Proof.Machine.execPrtE2eCtrlWrite v s
  | .glbCalCtrlWrite v => Sys2Proof.Machine.execGlbCalCtrlWrite v s
  | .clkCtrlWrite v => Sys2Proof.Machine.execClkCtrlWrite v s
  | .pwrCtrlWrite v => Sys2Proof.Machine.execPwrCtrlWrite v s
  | .thmCtrlWrite v => Sys2Proof.Machine.execThmCtrlWrite v s
  | .fabCtrlWrite v => Sys2Proof.Machine.execFabCtrlWrite v s
  | .lsrCtrlWrite v => Sys2Proof.Machine.execLsrCtrlWrite v s
  | .prtCtrlWrite v => Sys2Proof.Machine.execPrtCtrlWrite v s
  | .memCtrlWrite v => Sys2Proof.Machine.execMemCtrlWrite v s
  | .stkVbCtrlWrite v => Sys2Proof.Machine.execStkVbCtrlWrite v s
  | .fwuCtrlWrite v => Sys2Proof.Machine.execFwuCtrlWrite v s
  | .clkBtLoRead p => Sys2Proof.Machine.execClkBtLoRead p s
  | .brtEntryRead p b => Sys2Proof.Machine.execBrtEntryRead p b s
  | .help => Sys2Proof.Machine.execHelp s
  | .info => Sys2Proof.Machine.execInfo s
  | .inv => Sys2Proof.Machine.execInv s
  | .rd off count => Sys2Proof.Machine.execRd off count s
  | .status => Sys2Proof.Machine.execStatus s
  | .events n => Sys2Proof.Machine.execEvents n s
  | .thermal => Sys2Proof.Machine.execThermal s
  | .power => Sys2Proof.Machine.execPower s
  | .links p => Sys2Proof.Machine.execLinks p s
  | .fabric e => Sys2Proof.Machine.execFabric e s
  | .laser => Sys2Proof.Machine.execLaser s
  | .time => Sys2Proof.Machine.execTime s
  | .chal nonce => Sys2Proof.Machine.execChal nonce s
  | .lock => Sys2Proof.Machine.execLock s
  | .unlock debug minutes => Sys2Proof.Machine.execUnlock debug minutes s
  | .monSignatureLine bytes sig => Sys2Proof.Machine.execMonSignatureLine bytes sig s
  | .monSessionExpire idle => Sys2Proof.Machine.execMonSessionExpire idle s
  | .wr off v mask env => Sys2Proof.Machine.execWr off v mask env s
  | .save env => Sys2Proof.Machine.execSave env s
  | .reset cold => Sys2Proof.Machine.execReset cold s
  | .diereset n forced => Sys2Proof.Machine.execDiereset n forced s
  | .corereset lc => Sys2Proof.Machine.execCorereset lc s
  | .linkreset p c => Sys2Proof.Machine.execLinkreset p c s
  | .memrd a len => Sys2Proof.Machine.execMemrd a len s
  | .memwr a data => Sys2Proof.Machine.execMemwr a data s
  | .illegalInstruction lc w => Sys2Proof.Machine.execIllegalInstruction lc w s
  | .commandPortLinkUp p => Sys2Proof.Machine.execCommandPortLinkUp p s
  | .refclkReturn inp => Sys2Proof.Machine.execRefclkReturn inp s
  | .hbmRailReturn quad => Sys2Proof.Machine.execHbmRailReturn quad s
  | .tenderPieceFetch env => Sys2Proof.Machine.execTenderPieceFetch env s
  | .collHoldExpire id => Sys2Proof.Machine.execCollHoldExpire id s
  | .calWindowDone g runs => Sys2Proof.Machine.execCalWindowDone g runs s
  | .monUnknownCommand why => Sys2Proof.Machine.execMonUnknownCommand why s

end Sys2Proof.Machine
end

