-- ==== Sys2Proof/Safety.lean ====
section
/-!
DEFINITION. What counts as a safe step, and the form every state of a run has.
-/
namespace Sys2Proof.Safety

/-- A step that completes: it answers a next state, neither a fault nor a refusal. -/
def Completes (s : Machine.State) : Prop := ∃ t, Machine.step s = .next t

end Sys2Proof.Safety

namespace Sys2Proof.Machine

/-- The form every state of a run has: set-up registers and both byte memories are canonical tables, the event buffer and the log hold no
more records than they have room for (R361, R489), and the event number and beacon time stay within their widths (R360, R379). -/
structure State.Sound (s : State) : Prop where
  regs : Tbl.wf regReset s.regs = true
  dmem : Memory.wf s.dmem = true
  hmem : Memory.wf s.hmem = true
  evts : s.evts.length ≤ 4096
  log : s.bmcLog.length ≤ 8192
  seq : s.evSeq < 2 ^ 32
  bt : s.bt < 2 ^ 64

end Sys2Proof.Machine
end

