-- ==== Sys2Proof/WellFormed.lean ====
section
/-!
DEFINITION. Well-formed commands: operands that the table's row can carry. A sequencer's word carries the code of its row (R49, R60,
R65, R68), data has the length its carrier gives it, and numbers that a type leaves too wide stay in their range.
-/
namespace Sys2Proof

/-- Bits [hi:lo] of an instruction word hold a code. -/
def wordIs (w : W64) (hi lo code : Nat) : Bool := w.toNat / 2 ^ lo % 2 ^ (hi - lo + 1) == code

/-- A lane or a link that exists: no pair of an endpoint with itself (R151), no link 0 of a port (R269). -/
def LaneId.wf : LaneId → Bool
  | .pair i j _ => i != j
  | .link x => x.val % 32 != 0
  | .spare _ _ _ | .loop _ => true

def Chan.wf : Chan → Bool
  | .pair i j => i != j
  | .link x => x.val % 32 != 0

/-- A link of a port: 32 p + c with c from 1 to 31 (R294). -/
def linkWf (x : Fin 768) : Bool := x.val % 32 != 0

def HomeOp.wf : HomeOp → Bool
  | .read n => decide (0 < n)
  | .write d => decide (0 < d.length)

/-- What start-up is told: a strap word and a capability word of each die, the good cores of each compute die (R26, R245). -/
def StartIn.wf (i : StartIn) : Bool :=
  i.straps.length == 33 && i.caps.length == 33 && i.goodCores.length == 12 && i.factory.length == 5332 &&
  i.times.length == 13

/-- Whether a command is well formed. The codes of a sequencer's words are checked in `Instr.wordOk`. -/
def Instr.operandsOk : Instr → Bool
  | .descriptorFetch _ desc => desc.length == 128
  | .flitReceive ch levels => ch.wf && levels.length == 1088
  | .bundleBeatReceive _ data _ _ _ => data.length == 128
  | .attest _ challenge => challenge.length == 32
  | .fwOffer _ hdr _ _ => hdr.length == 5332
  | .fwGetResponse bytes _ => decide (bytes.length ≤ 4096)
  | .cxlMemWrite _ a data => decide (0 < data.length) && decide (a.toNat % 64 + data.length ≤ 64)
  | .homeAccess _ op _ => op.wf
  | .coldStart i => i.wf
  | .warmStart i => i.wf
  | .refclkReturn i => i.wf
  | .linkAligned x => linkWf x
  | .trainIdent x _ => linkWf x
  | .trainAck x _ => linkWf x
  | .linkTestDone x _ _ => linkWf x
  | .creditInit x _ _ _ _ => linkWf x
  | .lanePause x _ => linkWf x
  | .laneResume x _ => linkWf x
  | .pausedTimeout x => linkWf x
  | .btProbe x _ => linkWf x
  | .btEcho x _ _ _ _ => linkWf x
  | .laneTestDone t _ => t.wf
  | .laneQualityWindow l _ _ => l.wf
  | .handoverRecord bytes _ => decide (64 ≤ bytes.length) && decide (bytes.length ≤ 786432)
  | .rd _ count => decide (0 < count) && decide (count ≤ 64)
  | .events n => decide (0 < n) && decide (n ≤ 64)
  | .unlock _ minutes => decide (0 < minutes.toNat) && decide (minutes.toNat ≤ 240)
  | .linkreset _ c => c != some 0
  | .memrd a len => a.toNat % 8 == 0 && len % 8 == 0 && decide (0 < len) && decide (len ≤ 4096)
  | .memwr a data => a.toNat % 8 == 0 && decide (8 ≤ data.length) && decide (a.toNat % 64 + data.length ≤ 64)
  | _ => true

/-- Whether the word of a sequencer's row carries the code of that row; a row without a word passes. -/
def Instr.wordOk : Instr → Bool
  | .nop _ w => wordIs w 63 56 0
  | .add _ w => wordIs w 63 56 0x01
  | .sub _ w => wordIs w 63 56 0x02
  | .and _ w => wordIs w 63 56 0x03
  | .or _ w => wordIs w 63 56 0x04
  | .xor _ w => wordIs w 63 56 0x05
  | .sll _ w => wordIs w 63 56 0x06
  | .srl _ w => wordIs w 63 56 0x07
  | .sra _ w => wordIs w 63 56 0x08
  | .mul _ w => wordIs w 63 56 0x09
  | .mulhu _ w => wordIs w 63 56 0x0A
  | .slt _ w => wordIs w 63 56 0x0B
  | .sltu _ w => wordIs w 63 56 0x0C
  | .min _ w => wordIs w 63 56 0x0D
  | .max _ w => wordIs w 63 56 0x0E
  | .addi _ w => wordIs w 63 56 0x10
  | .andi _ w => wordIs w 63 56 0x11
  | .ori _ w => wordIs w 63 56 0x12
  | .xori _ w => wordIs w 63 56 0x13
  | .slli _ w => wordIs w 63 56 0x14
  | .srli _ w => wordIs w 63 56 0x15
  | .srai _ w => wordIs w 63 56 0x16
  | .lih _ w => wordIs w 63 56 0x17
  | .amov _ w => wordIs w 63 56 0x20
  | .aadd _ w => wordIs w 63 56 0x21
  | .aaddi _ w => wordIs w 63 56 0x22
  | .ard _ w => wordIs w 63 56 0x23
  | .lds _ w _ => wordIs w 63 56 0x24
  | .sts _ w => wordIs w 63 56 0x25
  | .beq _ w => wordIs w 63 56 0x30
  | .bne _ w => wordIs w 63 56 0x31
  | .blt _ w => wordIs w 63 56 0x32
  | .bge _ w => wordIs w 63 56 0x33
  | .bltu _ w => wordIs w 63 56 0x34
  | .bgeu _ w => wordIs w 63 56 0x35
  | .jmp _ w => wordIs w 63 56 0x36
  | .call _ w => wordIs w 63 56 0x37
  | .ret _ w => wordIs w 63 56 0x38
  | .loop _ w => wordIs w 63 56 0x39
  | .signal _ w => wordIs w 63 56 0x60
  | .wait _ w => wordIs w 63 56 0x61
  | .waitbt _ w => wordIs w 63 56 0x62
  | .fence _ w => wordIs w 63 56 0x63
  | .fenceE _ w => wordIs w 63 56 0x64
  | .semrd _ w => wordIs w 63 56 0x65
  | .halt _ w => wordIs w 63 56 0x70
  | .rdbt _ w => wordIs w 63 56 0x71
  | .rdcyc _ w => wordIs w 63 56 0x72
  | .rdslip _ w => wordIs w 63 56 0x73
  | .mac _ w => wordIs w 63 56 0x40 && wordIs w 53 51 0
  | .macZero _ w => wordIs w 63 56 0x40 && wordIs w 53 51 1
  | .mmaDrain _ w => wordIs w 63 56 0x40 && wordIs w 53 51 2
  | .mmaLoad _ w => wordIs w 63 56 0x40 && wordIs w 53 51 3
  | .mmaZero _ w => wordIs w 63 56 0x40 && wordIs w 53 51 4
  | .vopCopy _ w => wordIs w 63 56 0x48 && wordIs w 55 50 0x00
  | .vopAdd _ w => wordIs w 63 56 0x48 && wordIs w 55 50 0x01
  | .vopSub _ w => wordIs w 63 56 0x48 && wordIs w 55 50 0x02
  | .vopMul _ w => wordIs w 63 56 0x48 && wordIs w 55 50 0x03
  | .vopFma _ w => wordIs w 63 56 0x48 && wordIs w 55 50 0x04
  | .vopMax _ w => wordIs w 63 56 0x48 && wordIs w 55 50 0x05
  | .vopMin _ w => wordIs w 63 56 0x48 && wordIs w 55 50 0x06
  | .vopAbs _ w => wordIs w 63 56 0x48 && wordIs w 55 50 0x07
  | .vopNeg _ w => wordIs w 63 56 0x48 && wordIs w 55 50 0x08
  | .vopScale _ w => wordIs w 63 56 0x48 && wordIs w 55 50 0x09
  | .vopAdds _ w => wordIs w 63 56 0x48 && wordIs w 55 50 0x0A
  | .vopExp2 _ w => wordIs w 63 56 0x48 && wordIs w 55 50 0x10
  | .vopLog2 _ w => wordIs w 63 56 0x48 && wordIs w 55 50 0x11
  | .vopRsqrt _ w => wordIs w 63 56 0x48 && wordIs w 55 50 0x12
  | .vopSin _ w => wordIs w 63 56 0x48 && wordIs w 55 50 0x13
  | .vopCos _ w => wordIs w 63 56 0x48 && wordIs w 55 50 0x14
  | .vopRcp _ w => wordIs w 63 56 0x48 && wordIs w 55 50 0x15
  | .vopRsum _ w => wordIs w 63 56 0x48 && wordIs w 55 50 0x20
  | .vopRmax _ w => wordIs w 63 56 0x48 && wordIs w 55 50 0x21
  | .vopSmxstep _ w => wordIs w 63 56 0x48 && wordIs w 55 50 0x22
  | .vopRescale _ w => wordIs w 63 56 0x48 && wordIs w 55 50 0x23
  | .vopRng _ w => wordIs w 63 56 0x48 && wordIs w 55 50 0x30
  | .vopUnif _ w => wordIs w 63 56 0x48 && wordIs w 55 50 0x31
  | .vopPick _ w => wordIs w 63 56 0x48 && wordIs w 55 50 0x32
  | .xferCopy _ w => wordIs w 63 56 0x50 && wordIs w 52 49 0
  | .xferCopy2d _ w => wordIs w 63 56 0x50 && wordIs w 52 49 1
  | .xferGather _ w => wordIs w 63 56 0x50 && wordIs w 52 49 2
  | .xferScatter _ w => wordIs w 63 56 0x50 && wordIs w 52 49 3
  | .xferKvwalk _ w => wordIs w 63 56 0x50 && wordIs w 52 49 4
  | .xferKvput _ w => wordIs w 63 56 0x50 && wordIs w 52 49 5
  | .xferRload _ w => wordIs w 63 56 0x50 && wordIs w 52 49 6
  | .xferRstore _ w => wordIs w 63 56 0x50 && wordIs w 52 49 7
  | .xferRatomic _ w => wordIs w 63 56 0x50 && wordIs w 52 49 8
  | .xferBulkPut _ w => wordIs w 63 56 0x50 && wordIs w 52 49 9
  | .xferBulkGet _ w => wordIs w 63 56 0x50 && wordIs w 52 49 10
  | _ => true

/-- A well-formed command. -/
def Instr.WellFormed (i : Instr) : Prop := i.operandsOk = true ∧ i.wordOk = true

end Sys2Proof
end

