-- ==== Sys2Proof/Certificates/Slice0/Obligations.lean ====
section
/-!
DEFINITION. The statements for the provers, and the few words they are written in.
-/
namespace Sys2Proof.Spec
open Sys2Proof.Machine

/-- A core moved on to the instruction that follows in order, through the ends of its loops (R52, R53); `c` is what the instruction
made of it. -/
def ahead (s : State) (lc : Nat) (c : Core) : State :=
  s.setCore lc { c with pc := (loopArrive c.loops (c.pc + 1)).1, loops := (loopArrive c.loops (c.pc + 1)).2, stall := .none,
                        cyc := c.cyc + 1, lapse := c.lapse || c.stall != .none }

/-- Core `lc` as it issues `w`: it has waited until the registers that `w` reads are ready, and the latency of its result runs (R56). -/
def issuing (s : State) (lc : Nat) (w : W64) : Core := (s.core lc).atIssue w

/-- An instruction follows in order inside the code. -/
def hasNext (c : Core) : Prop := (loopArrive c.loops (c.pc + 1)).1 < c.code.length

/-- A core after a taken branch to index `n` of its code: the loop levels whose body holds `n` stay (R52, R53). -/
def took (s : State) (lc : Nat) (c : Core) (n : Nat) : State :=
  s.setCore lc { c with pc := n, loops := loopKeep c.loops n, cyc := c.cyc + 3 }

/-- An engine instruction whose checks passed: its operation enters its queue and the core goes on, or the core stalls while the queue
is full (R42). -/
def queued (s : State) (lc : Nat) (c : Core) (q : Nat) (op : EngOp) (i : Instr) : Prop :=
  ((c.queue q).length < 16 → hasNext c → exec i s = .next (ahead s lc (c.setQueue q (c.queue q ++ [op])))) ∧
  (16 ≤ (c.queue q).length → exec i s = .next (s.setCore lc { c with stall := .queue q op }))

/-- A core that has received a launch (R82, R84). -/
def launched (c : Core) (l : Launch) : Core :=
  { c with
    cstate := .loading, launch := l.seq, tag := l.tag, arg := l.arg, image := l.image, features := l.features
    waitLimit := l.waitLimit, wantId := l.buildId, fault := none, loadCode := !(c.resident && c.buildId == l.buildId)
    resident := c.resident && c.buildId == l.buildId, aborted := false, halted := false, stale := 0 }

/-- Descriptor `d` of number `seq` starts now: nothing holds it (R350, R455), the device is not FENCED and the role admits it. -/
def starts (s : State) (seq : BitVec 32) (d : Desc) : Prop :=
  s.desc seq.toNat = some d ∧ s.canStart seq.toNat = true ∧ s.lvHolds d = false ∧ s.rd F.LVS_STATUS_STATE ≠ 7 ∧ s.roleOk d = true

/-- The state in which a started descriptor acts: it is marked as started. -/
def begun (s : State) (d : Desc) : State := s.setDesc { d with phase := 1, degraded := s.degradedNow }

/-- A descriptor whose remote operation waits for its answers (R354). -/
def awaiting (s : State) (seq : Nat) (o : DescOp) : State :=
  { s with rack := { s.rack with descOps := tput (fun _ => ⟨0, 0, 0, 0⟩) s.rack.descOps seq o } }

/-- A request packet with an operation code stands first in a commit FIFO, for this device. -/
def arrived (s : State) (p : Fin 24) (vc : Fin 3) (op : Nat) (k : Pkt) : Prop :=
  ∃ x b, s.headPkt p vc = some (x, b) ∧ parsePkt b = k ∧ k.op = op ∧ k.target = s.device

/-- A response with a code stands first in a commit FIFO, for a request of this device that is not yet acknowledged. -/
def answeredBy (s : State) (p : Fin 24) (vc : Fin 3) (op : Nat) (r : Rsp) (q : Req) : Prop :=
  ∃ x b, s.headPkt p vc = some (x, b) ∧ parseRsp b = r ∧ r.op = op ∧ r.source = s.device ∧ (s.popPkt p vc).answered r = some q

/-- A lightvessel packet with a code stands first in a commit FIFO, for this device, and no fence stands against it. -/
def vessel (s : State) (p : Fin 24) (vc : Fin 3) (op : Nat) (k : Pkt) : Prop :=
  arrived s p vc op k ∧ s.rd F.LVS_STATUS_STATE ≠ 7 ∧ s.superseded k.source k.epoch = false ∧
    (s.srcEnt (k.source * 64 + k.e)).fenced = false

/-- The side, flags, epoch, subject and fence bytes of a lightvessel packet's payload. -/
def lvData (pair side flags epoch subject fence : Nat) : List Byte :=
  leBytes 4 pair ++ leBytes 1 side ++ leBytes 1 flags ++ leBytes 2 epoch ++ leBytes 2 subject ++ leBytes 2 fence ++ List.replicate 20 0

end Sys2Proof.Spec

open Sys2Proof Sys2Proof.Machine Sys2Proof.Spec

/-- A step runs the command at the front of the queue. For every command c and every state, a step with c at the front of the queue
is exec c on the state with the rest of the queue. (00_scope.md, R10) -/
def Obligations.FrontCommandRuns : Prop :=
  ∀ (c : Instr) (r : List Instr) (s : State), step { s with pending := c :: r } = exec c { s with pending := r }

/-- On an empty queue one nanosecond passes (the model's choice, log entry 3). With no command waiting a step completes: local time
advances by 1 ns, beacon time by 1 ns modulo 2^64 while the generator's trim carries less than one nanosecond, and everything
but the two times and the trim's remainder is as it was. The idle step is a DESIGN CHOICE of the model (log entry 3).
(12_clocking_and_time.md) -/
def Obligations.EmptyQueueLetsTimePass : Prop :=
  ∀ s : State, s.pending = [] → step s = .next s.idle ∧ s.idle.now = s.now + 1 ∧
    (-512000000 < s.clk.acc + s.clk.trim → s.clk.acc + s.clk.trim < 512000000 → s.idle.bt = (s.bt + 1) % 2 ^ 64) ∧
    s.idle = { s with now := s.idle.now, bt := s.idle.bt, clk := { s.clk with acc := s.idle.clk.acc } }

/-- s0 reads as zero and discards writes; every other scalar register reads the value last written. In a core whose register table
is canonical, s0 reads zero and a write to it changes nothing; a register other than s0 reads what was written; a write changes
no other scalar register, no address register, no semaphore and no other core, and keeps the table canonical. (R37) -/
def Obligations.ScalarRegisterFile : Prop :=
  ∀ (s : State) (lc m : Nat) (c : Core) (i j : Nat) (v : W64), Tbl.wf (fun _ => (0 : W64)) c.sregs = true → m ≠ lc →
    c.s 0 = 0 ∧ c.setS 0 v = c ∧ (i ≠ 0 → (c.setS i v).s i = v) ∧ (j ≠ i → (c.setS i v).s j = c.s j) ∧
    (∀ k, (c.setS i v).a k = c.a k) ∧ (∀ k, (c.setS i v).sem k = c.sem k) ∧
    Tbl.wf (fun _ => (0 : W64)) (c.setS i v).sregs = true ∧ (s.setCore lc (c.setS i v)).core m = s.core m

/-- A fault of a core records cause, index and word, discards what has not started, and raises CORE_FAULT. For a core in LOADING,
RUNNING or DRAINING a fault with cause n moves it to FAULTING with the cause, the instruction index, the word, the status R88
gives the cause and the beacon time recorded, its queued operations discarded and its stall ended; event 0x0801 carries the
logical core, the cause and the index; nothing else of the core changes. A core in any other state is left as it is. The
statuses are those of R88 for causes 0x01 to 0x0F, 0x11, 0x12 and 0x13 (REMOTE_FAILED carries the status of its operation).
(R84, R88, R89) -/
def Obligations.CoreFaultRecorded : Prop :=
  (∀ (s : State) (lc n i : Nat) (w : W64),
    (s.core lc).cstate = .running ∨ (s.core lc).cstate = .loading ∨ (s.core lc).cstate = .draining →
    s.coreFault lc n i w =
      (s.setCore lc { s.core lc with cstate := .faulting, fault := some ⟨n, i, w, faultStatus n, s.bt⟩, stall := .none,
                                     queues := [] }).raise 0x0801 (dieCD (lc / 16)) [(1, lc), (1, n), (4, i)]) ∧
  (∀ (s : State) (lc n i : Nat) (w : W64), (s.core lc).cstate = .idle ∨ (s.core lc).cstate = .faulting ∨
    (s.core lc).cstate = .parked ∨ (s.core lc).cstate = .absent → s.coreFault lc n i w = s) ∧
  [1, 2, 3, 4, 5, 6, 7, 8, 9, 0x0A, 0x0B, 0x0C, 0x0D, 0x0E, 0x0F, 0x11, 0x12, 0x13].map faultStatus =
    [0x40, 0x40, 0x20, 0x40, 0x20, 0x20, 0x40, 0x40, 0x20, 0x40, 0x20, 0x20, 0x20, 0x42, 0x60, 0x40, 0x51, 0x41]

/-- ADD to MAX and NOP: the destination register receives the result and the core goes on. When core lc issues word w (it runs, does
not stall and w stands at its index), the reserved bits are zero and an instruction follows in the code, each of ADD, SUB, AND,
OR, XOR, SLL, SRL, SRA, MUL, MULHU, SLT, SLTU, MIN and MAX answers a next state in which RD holds the result R50 gives, wrapping
modulo 2^64, the core stands at the next instruction in order, and nothing else changed: no other register, no semaphore, no
other core, no memory. A result for s0 is discarded. NOP, whose fields are all zero, only goes on. (R49, R50, R51) -/
def Obligations.RegisterArithmetic : Prop :=
  ∀ (s : State) (lc : Fin 192) (w : W64), s.canIssue lc w = true → hasNext (s.core lc) →
    (srReserved w = false →
      ∀ e ∈ ([(Instr.add, 0x01, fun x y => x + y), (.sub, 0x02, fun x y => x - y), (.and, 0x03, fun x y => x &&& y),
          (.or, 0x04, fun x y => x ||| y), (.xor, 0x05, fun x y => x ^^^ y), (.sll, 0x06, fun x y => x <<< (y.toNat % 64)),
          (.srl, 0x07, fun x y => x >>> (y.toNat % 64)), (.sra, 0x08, fun x y => x.sshiftRight (y.toNat % 64)),
          (.mul, 0x09, fun x y => x * y), (.mulhu, 0x0A, fun x y => BitVec.ofNat 64 (x.toNat * y.toNat / 2 ^ 64)),
          (.slt, 0x0B, fun x y => if x.toInt < y.toInt then 1 else 0), (.sltu, 0x0C, fun x y => if x.toNat < y.toNat then 1 else 0),
          (.min, 0x0D, fun x y => if x.toInt < y.toInt then x else y), (.max, 0x0E, fun x y => if x.toInt < y.toInt then y else x)] :
          List ((Fin 192 → W64 → Instr) × Nat × (W64 → W64 → W64))),
        opcodeOf w = e.2.1 → exec (e.1 lc w) s =
          .next (ahead s lc ((issuing s lc w).setS (fld w 55 51)
            (e.2.2 ((s.core lc).s (fld w 50 46)) ((s.core lc).s (fld w 45 41)))))) ∧
    (w = 0 → exec (.nop lc w) s = .next (ahead s lc (issuing s lc w)))

/-- ADDI to SRAI and LIH: the destination register receives the result and the core goes on. When core lc issues word w with the
reserved bits zero and an instruction follows in the code, ADDI, ANDI, ORI and XORI combine RS1 with the sign-extended
immediate, SLLI, SRLI and SRAI (with IMM[31:6] zero) shift RS1 by IMM[5:0], and LIH (with RS1 zero) replaces bits 63 to 32 of
RD; RD alone receives the result, the core stands at the next instruction and nothing else changed. (R49, R50, R51) -/
def Obligations.ImmediateArithmetic : Prop :=
  ∀ (s : State) (lc : Fin 192) (w : W64), s.canIssue lc w = true → hasNext (s.core lc) → siReserved w = false →
    (∀ e ∈ ([(Instr.addi, 0x10, fun x => x + simm w), (.andi, 0x11, fun x => x &&& simm w), (.ori, 0x12, fun x => x ||| simm w),
          (.xori, 0x13, fun x => x ^^^ simm w)] : List ((Fin 192 → W64 → Instr) × Nat × (W64 → W64))),
        opcodeOf w = e.2.1 → exec (e.1 lc w) s =
          .next (ahead s lc ((issuing s lc w).setS (fld w 55 51) (e.2.2 ((s.core lc).s (fld w 50 46)))))) ∧
    (fld w 31 6 = 0 → ∀ e ∈ ([(Instr.slli, 0x14, fun x => x <<< fld w 5 0), (.srli, 0x15, fun x => x >>> fld w 5 0),
          (.srai, 0x16, fun x => x.sshiftRight (fld w 5 0))] : List ((Fin 192 → W64 → Instr) × Nat × (W64 → W64))),
        opcodeOf w = e.2.1 → exec (e.1 lc w) s =
          .next (ahead s lc ((issuing s lc w).setS (fld w 55 51) (e.2.2 ((s.core lc).s (fld w 50 46)))))) ∧
    (fld w 50 46 = 0 → opcodeOf w = 0x17 → exec (.lih lc w) s =
          .next (ahead s lc ((issuing s lc w).setS (fld w 55 51)
            (w.setWidth 32 ++ ((s.core lc).s (fld w 55 51)).setWidth 32))))

/-- AMOV, AADD, AADDI, ARD, LDS and STS have the effect R50 gives and the core goes on. When core lc issues word w with the reserved
bits zero and an instruction follows in the code: AMOV, AADD and AADDI write AD modulo 2^48, ARD writes S with the address
register zero-extended. LDS and STS form the offset (AS + sign-extended IMM) modulo 2^48; where it is 8-byte aligned and at most
0x5F_FFF8, LDS of an unpoisoned unit writes S with the 8 little-endian bytes there, and STS stores S there and nowhere else; a
poisoned unit makes LDS raise SCRATCH_UNCORRECTABLE, and any other offset makes both raise SCRATCH_RANGE. (R50, R51, R215, R41) -/
def Obligations.AddressInstructions : Prop :=
  ∀ (s : State) (lc : Fin 192) (w : W64), s.canIssue lc w = true → hasNext (s.core lc) → adReserved w = false →
    let c := issuing s lc w
    let off := (c.a (fld w 51 48) + (w.setWidth 32).signExtend 48).toNat
    let sp := scratchAddr lc off
    (opcodeOf w = 0x20 → fld w 51 48 = 0 → fld w 31 0 = 0 →
      exec (.amov lc w) s = .next (ahead s lc (c.setA (fld w 55 52) ((c.s (fld w 47 43)).setWidth 48)))) ∧
    (opcodeOf w = 0x21 → fld w 31 0 = 0 →
      exec (.aadd lc w) s = .next (ahead s lc (c.setA (fld w 55 52) (c.a (fld w 51 48) + (c.s (fld w 47 43)).setWidth 48)))) ∧
    (opcodeOf w = 0x22 → fld w 47 43 = 0 →
      exec (.aaddi lc w) s = .next (ahead s lc (c.setA (fld w 55 52) (c.a (fld w 51 48) + (w.setWidth 32).signExtend 48)))) ∧
    (opcodeOf w = 0x23 → fld w 55 52 = 0 → fld w 31 0 = 0 →
      exec (.ard lc w) s = .next (ahead s lc (c.setS (fld w 47 43) ((c.a (fld w 51 48)).setWidth 64)))) ∧
    (opcodeOf w = 0x24 → fld w 55 52 = 0 →
      (off % 8 = 0 ∧ off ≤ 0x5FFFF8 →
        (s.bad sp = false → ∀ t, t = ahead s lc (c.setS (fld w 47 43) (BitVec.ofNat 64 (leNat (s.bytes sp 8)))) →
          exec (.lds lc w none) s = .next t ∧
          exec (.lds lc w (some false)) s = .next (t.scratchCorrected lc (off / 64 % 32) 1)) ∧
        (s.bad sp = true → exec (.lds lc w none) s = .next (s.coreFault lc 0x0F c.pc w)) ∧
        exec (.lds lc w (some true)) s = .next ((s.coreFault lc 0x0F c.pc w).scratchDouble lc (off / 64) (off / 16 % 4))) ∧
      (¬(off % 8 = 0 ∧ off ≤ 0x5FFFF8) → ∀ e, exec (.lds lc w e) s = .next (s.coreFault lc 5 c.pc w))) ∧
    (opcodeOf w = 0x25 → fld w 55 52 = 0 →
      (off % 8 = 0 ∧ off ≤ 0x5FFFF8 → exec (.sts lc w) s =
        .next (ahead (s.store sp (leBytes 8 (c.s (fld w 47 43)).toNat)) lc c)) ∧
      (¬(off % 8 = 0 ∧ off ≤ 0x5FFFF8) → exec (.sts lc w) s = .next (s.coreFault lc 5 c.pc w)))

/-- Conditional branches, JMP, CALL and RET continue at their target, at the next instruction, or raise PC_RANGE. When core lc
issues word w with the reserved bits zero: a conditional branch whose condition holds, and JMP, CALL and RET always, go to their
target when it lies in the code, CALL with s31 holding the index of the next instruction; a target outside the code raises
PC_RANGE on the branch. A conditional branch whose condition does not hold goes on in order. OFF is signed and relative to the
branch's own index; RET's target is s31[31:0]. CALL and RET inside a loop body raise LOOP_VIOLATION. (R50, R52, R53) -/
def Obligations.BranchesAndCalls : Prop :=
  ∀ (s : State) (lc : Fin 192) (w : W64), s.canIssue lc w = true →
    let c := issuing s lc w
    let target : Int := c.pc + (w.setWidth 32).toInt
    (brReserved w = false → ∀ e ∈ ([(Instr.beq, 0x30, fun x y => x == y), (.bne, 0x31, fun x y => x != y),
          (.blt, 0x32, fun x y => decide (x.toInt < y.toInt)), (.bge, 0x33, fun x y => decide (y.toInt ≤ x.toInt)),
          (.bltu, 0x34, fun x y => decide (x.toNat < y.toNat)), (.bgeu, 0x35, fun x y => decide (y.toNat ≤ x.toNat))] :
          List ((Fin 192 → W64 → Instr) × Nat × (W64 → W64 → Bool))), opcodeOf w = e.2.1 →
        (e.2.2 (c.s (fld w 55 51)) (c.s (fld w 50 46)) = true →
          (∀ n : Nat, target = n → n < c.code.length → exec (e.1 lc w) s = .next (took s lc c n)) ∧
          (target < 0 ∨ (c.code.length : Int) ≤ target → exec (e.1 lc w) s = .next (s.coreFault lc 3 c.pc w))) ∧
        (e.2.2 (c.s (fld w 55 51)) (c.s (fld w 50 46)) = false → hasNext c → exec (e.1 lc w) s = .next (ahead s lc c))) ∧
    (fld w 55 32 = 0 → ∀ n : Nat, target = n → n < c.code.length →
      (opcodeOf w = 0x36 → exec (.jmp lc w) s = .next (took s lc c n)) ∧
      (opcodeOf w = 0x37 → c.loops = [] → exec (.call lc w) s = .next (took s lc (c.setS 31 (BitVec.ofNat 64 (c.pc + 1))) n))) ∧
    (fld w 55 0 = 0 → opcodeOf w = 0x38 → c.loops = [] → (c.s 31).toNat % 2 ^ 32 < c.code.length →
      exec (.ret lc w) s = .next (took s lc c ((c.s 31).toNat % 2 ^ 32))) ∧
    (c.loops ≠ [] → fld w 55 0 = 0 → (opcodeOf w = 0x37 → exec (.call lc w) s = .next (s.coreFault lc 4 c.pc w)) ∧
      (opcodeOf w = 0x38 → exec (.ret lc w) s = .next (s.coreFault lc 4 c.pc w)))

/-- LOOP opens a level that runs its body N times; N = 0 skips the body; the four violations fault. When core lc issues a LOOP with
its reserved bits zero: with BODY not 0, fewer than four levels open and the body inside every enclosing body, N (RS[31:0], or
CNT when RS is s0) not 0 opens a level with N iterations and goes on at the first body instruction, and N = 0 goes on after the
body; BODY = 0, a fifth level, or a body past the end of an enclosing one raises LOOP_VIOLATION. Arriving at the end of the
innermost body with iterations left goes back to its start with one iteration less, and with none left ends the level; arriving
anywhere else changes no level. (R50, R53) -/
def Obligations.HardwareLoops : Prop :=
  (∀ (s : State) (lc : Fin 192) (w : W64), s.canIssue lc w = true → opcodeOf w = 0x39 → fld w 50 48 = 0 → fld w 31 16 = 0 →
    let c := issuing s lc w
    let n := if fld w 55 51 = 0 then fld w 47 32 else (c.s (fld w 55 51)).toNat % 2 ^ 32
    let stop := c.pc + 1 + fld w 15 0
    (fld w 15 0 ≠ 0 ∧ c.loops.length < 4 ∧ (∀ l ∈ c.loops, stop ≤ l.stop) →
      (n ≠ 0 → c.pc + 1 < c.code.length → exec (.loop lc w) s =
        .next (s.setCore lc { c with pc := c.pc + 1, loops := ⟨c.pc + 1, stop, n⟩ :: c.loops, stall := .none, cyc := c.cyc + 1,
                                     lapse := c.lapse || c.stall != .none })) ∧
      (n = 0 → (loopArrive c.loops stop).1 < c.code.length → exec (.loop lc w) s =
        .next (s.setCore lc { c with pc := (loopArrive c.loops stop).1, loops := (loopArrive c.loops stop).2, stall := .none,
                                     cyc := c.cyc + 1, lapse := c.lapse || c.stall != .none }))) ∧
    (fld w 15 0 = 0 ∨ 4 ≤ c.loops.length ∨ (∃ l ∈ c.loops, l.stop < stop) →
      exec (.loop lc w) s = .next (s.coreFault lc 4 c.pc w))) ∧
  (∀ (l : LoopLvl) (r : List LoopLvl), 1 < l.left → loopArrive (l :: r) l.stop = (l.start, { l with left := l.left - 1 } :: r)) ∧
  (∀ (l : LoopLvl) (r : List LoopLvl), l.left ≤ 1 → loopArrive (l :: r) l.stop = loopArrive r l.stop) ∧
  (∀ (ls : List LoopLvl) (p : Nat), (∀ l ∈ ls.head?, p ≠ l.stop) → loopArrive ls p = (p, ls))

/-- A SIGNAL outside the issuing core's launch raises SIGNAL_TARGET. When core lc issues a SIGNAL whose reserved bits are zero and
whose RT names another register than s0: if no launch that core lc runs holds the logical core RT names, SIGNAL_TARGET (cause
0x09) is raised on core lc, with the instruction's index and word, and no semaphore and no queue of any core changes but by that
fault; if the launch holds it, the instruction does not raise SIGNAL_TARGET: it is sent to that core, or added to the own
semaphore when the target is the own core. (R48) -/
def Obligations.SignalTargets : Prop :=
  ∀ (s : State) (lc : Fin 192) (w : W64), s.canIssue lc w = true → opcodeOf w = 0x60 → fld w 39 16 = 0 → fld w 49 45 ≠ 0 →
    let c := issuing s lc w
    let t := (c.s (fld w 49 45)).toNat
    let v := if fld w 44 40 = 0 then fld w 15 0 else (c.s (fld w 44 40)).toNat % 2 ^ 32
    (s.inLaunch lc t = false → exec (.signal lc w) s = .next (s.coreFault lc 9 c.pc w)) ∧
    (s.inLaunch lc t = true → t < 192 → t ≠ lc → exec (.signal lc w) s = .next (s.sendSig lc c t (fld w 55 50) v)) ∧
    (s.inLaunch lc t = true → t = lc → (c.sem (fld w 55 50)).toNat + v < 2 ^ 32 → hasNext c →
      exec (.signal lc w) s = .next (ahead s lc (c.setSem (fld w 55 50) (c.sem (fld w 55 50) + BitVec.ofNat 32 v))))

/-- SIGNAL and WAIT: counts rise and fall, a short count stalls, an overflow faults. When core lc issues word w with its reserved
bits zero. SIGNAL to the own core (RT is s0) adds v to semaphore SEM and the core goes on, or raises SEM_OVERFLOW with the count
as it was when the sum exceeds 0xFFFF_FFFF. A signal for another core enters the outgoing queue with the launch tag while that
has a free entry, and the core goes on, or stalls the core while it is full; the queue sends its signals in order, each a
message to the die of its target, unless a refused one blocks it. WAIT with a count of at least c subtracts c and goes on; with
less it stalls. v and c are RV[31:0], or IMM when RV is s0. (R45, R46, R47, R54) -/
def Obligations.SemaphoresAndWaits : Prop :=
  ∀ (s : State) (lc : Fin 192) (w : W64), s.canIssue lc w = true →
    let c := issuing s lc w
    let sem := fld w 55 50
    (∀ v, v = (if fld w 44 40 = 0 then fld w 15 0 else (c.s (fld w 44 40)).toNat % 2 ^ 32) →
      opcodeOf w = 0x60 → fld w 39 16 = 0 → fld w 49 45 = 0 →
      ((c.sem sem).toNat + v < 2 ^ 32 → hasNext c →
        exec (.signal lc w) s = .next (ahead s lc (c.setSem sem (c.sem sem + BitVec.ofNat 32 v)))) ∧
      (2 ^ 32 ≤ (c.sem sem).toNat + v → exec (.signal lc w) s = .next (s.coreFault lc 8 c.pc w))) ∧
    (∀ t v : Nat, hasNext c →
      (c.outq.length + c.transit.length < 16 → s.sendSig lc c t sem v =
        State.drainSigs lc 16 (ahead s lc { c with outq := c.outq ++ [⟨t, sem, v, c.tag⟩] })) ∧
      (16 ≤ c.outq.length + c.transit.length → s.sendSig lc c t sem v = s.setCore lc { c with stall := .outq t sem v })) ∧
    (∀ (n : Nat) (u : State) (g : Sig) (r : List Sig), ((u.core lc).blocked = true → State.drainSigs lc n u = u) ∧
      ((u.core lc).outq = [] → State.drainSigs lc n u = u) ∧
      ((u.core lc).outq = g :: r → (u.core lc).blocked = false → State.drainSigs lc (n + 1) u = State.drainSigs lc n
        ((u.setCore lc { u.core lc with outq := r, transit := (u.core lc).transit ++ [g] }).post (signalNote lc g)))) ∧
    (∀ n, n = (if fld w 49 45 = 0 then fld w 15 0 else (c.s (fld w 49 45)).toNat % 2 ^ 32) →
      opcodeOf w = 0x61 → fld w 44 16 = 0 →
      (n ≤ (c.sem sem).toNat → hasNext c →
        exec (.wait lc w) s = .next (ahead s lc (c.setSem sem (c.sem sem - BitVec.ofNat 32 n)))) ∧
      ((c.sem sem).toNat < n → exec (.wait lc w) s = .next (s.setCore lc { c with stall := .wait sem n })))

/-- WAITBT, FENCE, FENCE_E, HALT and the system reads. When core lc issues word w with the fields it does not use zero. WAITBT goes
on when the beacon time of its die has reached RS and stalls until then. FENCE and FENCE_E go on when every queue they name is
empty with nothing running, and stall until then; HALT then enters DRAINING, and stalls until then. SEMRD, RDBT and RDSLIP put
the semaphore's count, the die's beacon time and the slip count in RD and go on; RDCYC puts in RD the cycles of R56: an
instruction issues once the registers it reads are ready, and its own result is ready after the latency of R56. Where a stall or
a lost bank may have added cycles, or an engine slips, since the last read, the count gains the free value that stands for them
(log entry 8). (R50, R54, R55, R377, R379) -/
def Obligations.FencesTimesAndReads : Prop :=
  ∀ (s : State) (lc : Fin 192) (w : W64), s.canIssue lc w = true →
    let c := issuing s lc w
    let rd := fld w 55 51
    let now := s.btOf (dieCD (lc / 16))
    (opcodeOf w = 0x62 → fld w 50 0 = 0 →
      ((c.s rd).toNat ≤ now → hasNext c → exec (.waitbt lc w) s = .next (ahead s lc c)) ∧
      (now < (c.s rd).toNat → exec (.waitbt lc w) s = .next (s.setCore lc { c with stall := .waitbt (c.s rd).toNat }))) ∧
    (opcodeOf w = 0x63 → fld w 55 0 = 0 →
      (c.quiet allQueues = true → hasNext c → exec (.fence lc w) s = .next (ahead s lc c)) ∧
      (c.quiet allQueues = false → exec (.fence lc w) s = .next (s.setCore lc { c with stall := .fence allQueues }))) ∧
    (opcodeOf w = 0x64 → fld w 55 13 = 0 →
      (c.quiet (fld w 12 0) = true → hasNext c → exec (.fenceE lc w) s = .next (ahead s lc c)) ∧
      (c.quiet (fld w 12 0) = false → exec (.fenceE lc w) s = .next (s.setCore lc { c with stall := .fence (fld w 12 0) }))) ∧
    (opcodeOf w = 0x70 → fld w 55 0 = 0 →
      (c.quiet allQueues = true → exec (.halt lc w) s = .next (s.setCore lc { c with cstate := .draining, halted := true })) ∧
      (c.quiet allQueues = false → exec (.halt lc w) s = .next (s.setCore lc { c with stall := .halt }))) ∧
    (hasNext c →
      (opcodeOf w = 0x65 → fld w 44 0 = 0 →
        exec (.semrd lc w) s = .next (ahead s lc (c.setS rd ((c.sem (fld w 50 45)).setWidth 64)))) ∧
      (fld w 50 0 = 0 →
        (opcodeOf w = 0x71 → exec (.rdbt lc w) s = .next (ahead s lc (c.setS rd (BitVec.ofNat 64 now)))) ∧
        (opcodeOf w = 0x73 →
          (c.slips = false → exec (.rdslip lc w) s = .next (ahead s lc (c.setS rd (BitVec.ofNat 64 c.slip)))) ∧
          (c.slips = true → ∀ n, n = (c.slip + s.freeVal.toNat) % 2 ^ 64 → exec (.rdslip lc w) s =
            .next (ahead s.drawn lc { c.setS rd (BitVec.ofNat 64 n) with slip := n, slips := !c.quiet allQueues }))) ∧
        (opcodeOf w = 0x72 →
          (c.lapse = false → exec (.rdcyc lc w) s = .next (ahead s lc (c.setS rd (BitVec.ofNat 64 c.cyc)))) ∧
          (c.lapse = true → ∀ n, n = (c.cyc + s.freeVal.toNat) % 2 ^ 64 → exec (.rdcyc lc w) s =
            .next (ahead s.drawn lc { c.setS rd (BitVec.ofNat 64 n) with cyc := n, lapse := false })))) ∧
      (∀ d n, resultOf w = (d, n) → d ≠ 0 → ∀ t, t = (readsOf w).foldl (fun a i => max a (tget (fun _ => 0) (s.core lc).ready i))
        (s.core lc).cyc → c.cyc = t ∧ c.ready = tput (fun _ => 0) (s.core lc).ready d (t + n)))

/-- Non-zero reserved bits raise RESERVED_FIELD; reserved opcodes, OP and FN raise ILLEGAL_INSTRUCTION. When core lc issues word w:
a scalar, immediate, address or branch instruction with a non-zero bit in a reserved field of its format, and NOP, FENCE, HALT,
SIGNAL, WAIT, WAITBT, FENCE_E, SEMRD, RDBT, RDCYC, RDSLIP and LOOP with a non-zero bit in a field they do not use, raise
RESERVED_FIELD at that instruction; a major opcode outside the table of R50, or a reserved OP or FN of MMA, VOP or XFER, raises
ILLEGAL_INSTRUCTION. Where core lc does not issue w, the command leaves the state as it is. (R49, R50, R60, R65, R69) -/
def Obligations.ReservedBitsAndOpcodesFault : Prop :=
  ∀ (s : State) (lc : Fin 192) (w : W64),
    let bad : Instr → Prop := fun i => exec i s = .next (s.coreFault lc 2 (s.core lc).pc w)
    (s.canIssue lc w = true →
      (srReserved w = true → ∀ e ∈ ([(Instr.add, 0x01), (.sub, 0x02), (.and, 0x03), (.or, 0x04), (.xor, 0x05), (.sll, 0x06), (.srl, 0x07), (.sra, 0x08), (.mul, 0x09), (.mulhu, 0x0A), (.slt, 0x0B), (.sltu, 0x0C), (.min, 0x0D), (.max, 0x0E)] : List ((Fin 192 → W64 → Instr) × Nat)), opcodeOf w = e.2 → bad (e.1 lc w)) ∧
      (siReserved w = true → ∀ e ∈ ([(Instr.addi, 0x10), (.andi, 0x11), (.ori, 0x12), (.xori, 0x13), (.slli, 0x14), (.srli, 0x15), (.srai, 0x16), (.lih, 0x17)] : List ((Fin 192 → W64 → Instr) × Nat)), opcodeOf w = e.2 → bad (e.1 lc w)) ∧
      (adReserved w = true → ∀ e ∈ ([(Instr.amov, 0x20), (.aadd, 0x21), (.aaddi, 0x22), (.ard, 0x23), (fun c v => .lds c v none, 0x24), (fun c v => .lds c v (some false), 0x24), (fun c v => .lds c v (some true), 0x24), (.sts, 0x25)] : List ((Fin 192 → W64 → Instr) × Nat)), opcodeOf w = e.2 → bad (e.1 lc w)) ∧
      (brReserved w = true → ∀ e ∈ ([(Instr.beq, 0x30), (.bne, 0x31), (.blt, 0x32), (.bge, 0x33), (.bltu, 0x34), (.bgeu, 0x35), (.jmp, 0x36), (.call, 0x37), (.ret, 0x38)] : List ((Fin 192 → W64 → Instr) × Nat)), opcodeOf w = e.2 → bad (e.1 lc w)) ∧
      (fld w 55 0 ≠ 0 → (opcodeOf w = 0 → bad (.nop lc w)) ∧ (opcodeOf w = 0x63 → bad (.fence lc w)) ∧
        (opcodeOf w = 0x70 → bad (.halt lc w))) ∧
      (fld w 39 16 ≠ 0 → opcodeOf w = 0x60 → bad (.signal lc w)) ∧ (fld w 44 16 ≠ 0 → opcodeOf w = 0x61 → bad (.wait lc w)) ∧
      (fld w 50 0 ≠ 0 → (opcodeOf w = 0x62 → bad (.waitbt lc w)) ∧ (opcodeOf w = 0x71 → bad (.rdbt lc w)) ∧
        (opcodeOf w = 0x72 → bad (.rdcyc lc w)) ∧ (opcodeOf w = 0x73 → bad (.rdslip lc w))) ∧
      (fld w 55 13 ≠ 0 → opcodeOf w = 0x64 → bad (.fenceE lc w)) ∧ (fld w 44 0 ≠ 0 → opcodeOf w = 0x65 → bad (.semrd lc w)) ∧
      ((fld w 50 48 ≠ 0 ∨ fld w 31 16 ≠ 0) → opcodeOf w = 0x39 → bad (.loop lc w)) ∧
      (opcodeKnown (opcodeOf w) = false ∨ reservedOp w = true →
        exec (.illegalInstruction lc w) s = .next (s.coreFault lc 1 (s.core lc).pc w))) ∧
    (s.canIssue lc w = false → exec (.add lc w) s = .next s ∧ exec (.illegalInstruction lc w) s = .next s)

/-- What ends a stall: a free entry, the time reached, the wait limit; a starved bank adds slip. WAITBT_TIME_REACHED on a RUNNING
core stalled for a time its die has reached goes on in order. WAIT_TIMEOUT on a RUNNING core that stalls raises WAIT_TIMEOUT at
the stalled instruction. SIGNAL_FREE_ENTRY on a core whose outgoing queue is blocked, from a target that has a free entry, sends
the queue again in order. The oldest signal under way whose path is open lands at its target and leaves the queue's count, or is
refused and goes back to the queue, which then waits. TE_BANK_STARVE_WIN adds the engines delayed to the slip count. (R39, R47,
R54, R87, R377) -/
def Obligations.StallsEnd : Prop :=
  ∀ (s : State) (lc : Fin 192),
    let c := s.core lc
    (∀ t, c.stall = .waitbt t → c.cstate = .running → t ≤ s.btOf (dieCD (lc / 16)) → hasNext c →
      exec (.waitbtTimeReached lc) s = .next (ahead s lc c)) ∧
    (c.stall ≠ .none → c.cstate = .running → exec (.waitTimeout lc) s = .next (s.coreFault lc 0x0A c.pc c.word)) ∧
    (∀ g r, c.outq = g :: r → c.blocked = true → s.pathOpen (16 + g.core / 16) (16 + lc / 16) = true →
      ((s.core g.core).pend.length < 64 → exec (.signalFreeEntry lc) s =
        .next (State.drainSigs lc 16 (s.setCore lc { c with blocked := false, refused := 0 }))) ∧
      (64 ≤ (s.core g.core).pend.length → exec (.signalFreeEntry lc) s = .next s)) ∧
    (∀ g, c.transit.find? (fun g => s.pathOpen (16 + lc / 16) (16 + g.core / 16)) = some g →
      ∀ t, t = (s.setCore lc { c with transit := c.transit.erase g }).landSig g →
        exec (.remoteSignalArrive lc) s = .next (if t.2 then t.1.setCore lc ((t.1.core lc).takeBack g) else t.1.wake lc)) ∧
    (∀ (b : Fin 32) (d : Fin 6), exec (.teBankStarveWin lc b d) s = .next (s.setCore lc { c with slip := c.slip + d }))

/-- MMA, VOP and XFER instructions enter their queue, stall while it is full, or fault with the first failing check. When core lc
issues an MMA, VOP or XFER word of a given OP or FN: if no check at issue fails, its operation with the register values captured
enters the queue of its engine (ME of bits 55:54, the VE, or the TE stream of bits 55:53) and the core goes on in order; with 16
entries in that queue the core stalls with the operation; if a check fails, the fault of the first failing check in the order of
R42 is raised. Nothing else changes. (R42, R60, R65, R68, R69) -/
def Obligations.EngineInstructionsQueue : Prop :=
  ∀ (s : State) (lc : Fin 192) (w : W64), s.canIssue lc w = true →
    let c := issuing s lc w
    (opcodeOf w = 0x40 → ∀ e ∈ ([(Instr.mac, 0, macCheck), (.macZero, 1, macCheck), (.mmaDrain, 2, imageCheck), (.mmaLoad, 3, imageCheck),
        (.mmaZero, 4, zeroCheck)] :
        List ((Fin 192 → W64 → Instr) × Nat × (Core → W64 → Option Nat))), fld w 53 51 = e.2.1 →
      (e.2.2 c w = none → queued s lc c (fld w 55 54) (mmaOp c w) (e.1 lc w)) ∧
      (∀ n, e.2.2 c w = some n → exec (e.1 lc w) s = .next (s.coreFault lc n c.pc w))) ∧
    (opcodeOf w = 0x48 → ∀ e ∈ ([(Instr.vopCopy, 0x00), (.vopAdd, 0x01), (.vopSub, 0x02), (.vopMul, 0x03), (.vopFma, 0x04), (.vopMax, 0x05),
        (.vopMin, 0x06), (.vopAbs, 0x07), (.vopNeg, 0x08), (.vopScale, 0x09), (.vopAdds, 0x0A), (.vopExp2, 0x10),
        (.vopLog2, 0x11), (.vopRsqrt, 0x12), (.vopSin, 0x13), (.vopCos, 0x14), (.vopRcp, 0x15), (.vopRsum, 0x20),
        (.vopRmax, 0x21), (.vopSmxstep, 0x22), (.vopRescale, 0x23), (.vopRng, 0x30), (.vopUnif, 0x31), (.vopPick, 0x32)] :
        List ((Fin 192 → W64 → Instr) × Nat)), fld w 55 50 = e.2 →
      (vopCheck c w = none → queued s lc c 4 (vopOp c w) (e.1 lc w)) ∧
      (∀ n, vopCheck c w = some n → exec (e.1 lc w) s = .next (s.coreFault lc n c.pc w))) ∧
    (opcodeOf w = 0x50 → ∀ e ∈ ([(Instr.xferCopy, 0), (.xferCopy2d, 1), (.xferGather, 2), (.xferScatter, 3), (.xferKvwalk, 4), (.xferKvput, 5),
        (.xferRload, 6), (.xferRstore, 7), (.xferRatomic, 8), (.xferBulkPut, 9), (.xferBulkGet, 10)] :
        List ((Fin 192 → W64 → Instr) × Nat)), fld w 52 49 = e.2 →
      (s.xferCheck c w = none → queued s lc c (5 + fld w 55 53) (xferOp c w) (e.1 lc w)) ∧
      (∀ n, s.xferCheck c w = some n → exec (e.1 lc w) s = .next (s.coreFault lc n c.pc w)))

/-- MATRIX, VECTOR and TRANSFER_OP_START and _COMPLETE: an operation starts, and ends with its effect and its signal. The head of a
queue of a RUNNING core leaves it and starts where the tile order (ME), an idle engine (VE) or an idle stream (TE, local
operations whose memory is mapped) allows; the errors of the scratchpad words it reads are corrected or poison their units
first, and poisoned operands of an MMA or VOP fault the core instead. A local transfer asks the homes of its areas. Completion
applies the operation's effect: the tile or its image, the vector's result bytes at AD, or the local movement; then the
operation leaves its engine, SIG adds 1 to its semaphore, and what waited for it goes on. A remote operation completes when no
answer is missing, or faults with REMOTE_FAILED and the status that came. (R41, R42, R43, R44, R69, R74, R215) -/
def Obligations.EngineOperationsRun : Prop :=
  ∀ (s : State) (lc : Fin 192),
    let c := s.core lc
    (∀ (e : Fin 4) op rest errs, c.queue e = op :: rest → c.cstate = .running → mmaMayStart (c.running e) op = true →
      ∀ u, u = (if s.pwr.half.contains (lc / 16) then s.setCore lc c.disturb else s) →
        exec (.matrixOpStart lc e errs) s = .next (u.startEngine lc e op rest (mmaReads op) errs)) ∧
    (∀ (u : State) q op rest areas errs, ∀ t, t = u.scratchErrs lc areas errs →
      ((t.core lc).cstate ≠ .running → u.startEngine lc q op rest areas errs = t) ∧
      ((t.core lc).cstate = .running → ((∃ a ∈ areas, t.anyBad (scratchAddr lc a.1) a.2 = true) → u.startEngine lc q op rest areas errs =
          (t.setCore lc ((t.core lc).setQueue q rest)).coreFault lc 0x0F op.idx op.word) ∧
        ((∀ a ∈ areas, t.anyBad (scratchAddr lc a.1) a.2 = false) → u.startEngine lc q op rest areas errs =
          (t.setCore lc ((t.core lc).begin q op rest [] false)).wake lc)) ∧ u.scratchErrs lc areas [] = u) ∧
    (∀ (e : Fin 4) (t : Fin 2) r rest, c.running e = r :: rest → fld r.op.word 50 50 = t →
      exec (.matrixOpComplete lc e t) s =
        .next ((s.mmaEffect lc e r.op).finishOp lc e r (fld r.op.word 28 28 == 1) (fld r.op.word 27 22))) ∧
    (∀ op rest errs, c.queue 4 = op :: rest → c.cstate = .running → c.running 4 = [] →
      exec (.vectorOpStart lc errs) s = .next (s.startEngine lc 4 op rest (vopReads op) errs)) ∧
    (∀ r rest, c.running 4 = r :: rest →
      exec (.vectorOpComplete lc) s = .next ((s.store (scratchAddr lc r.op.a.toNat) (s.vopBytes lc r.op)).finishOp lc 4 r
        (fld r.op.word 18 18 == 1) (fld r.op.word 17 12))) ∧
    (∀ (st : Fin 8) op rest errs, c.queue (5 + st) = op :: rest → c.cstate = .running →
      ∀ u, u = s.scratchErrs lc (ownSource op) errs → ∀ v, v = u.core lc → v.queue (5 + st) = op :: rest → v.cstate = .running →
      (xfOp op.word < 4 → (v.running (5 + st)).any (fun r => !r.remote) = false → (u.moveLocal lc op []).fault = none →
        exec (.transferOpStart lc st errs) s = .next (((u.setCore lc (v.begin (5 + st) op rest [] false)).wake lc).askHomes
          (16 + lc / 16) (localAreas lc op []))) ∧
      (6 ≤ xfOp op.word → exec (.transferOpStart lc st errs) s = .next (u.startRemote lc st op rest))) ∧
    (∀ (st : Fin 8) r rest, c.running (5 + st) = r :: rest →
      (∀ s1, r.remote = false → s.moveLocal lc r.op r.berth = ⟨s1, none⟩ →
        exec (.transferOpComplete lc st) s = .next (s1.finishOp lc (5 + st) r (fld r.op.word 21 21 == 1) (fld r.op.word 20 15))) ∧
      (r.remote = true → r.waiting = 0 → r.failed = none →
        exec (.transferOpComplete lc st) s = .next (s.finishOp lc (5 + st) r (fld r.op.word 21 21 == 1) (fld r.op.word 20 15))) ∧
      (∀ n, r.remote = true → r.waiting = 0 → r.failed = some n →
        exec (.transferOpComplete lc st) s = .next (s.failOp lc (5 + st) r 0x10 n))) ∧
    (∀ q r sig sem, s.finishOp lc q r sig sem =
      (let t := s.setCore lc (c.setRunning q ((c.running q).filter (fun o => o.id != r.id)))
       (if sig then t.addSem lc sem 1 r.op.idx r.op.word else t).wake lc))

/-- ZERO, LOAD, MAC and MAC_ZERO rewrite every element of their tile and no other tile; DRAIN stores the tile image. For a canonical
tile table, the effect of a matrix operation of engine e on tile t of core lc: with ZERO every one of the 8,192 elements is 0;
LOAD puts the little-endian word at AA + 4i of the scratchpad into element i; MAC adds the block products of element (i / 64, i
mod 64) to it in ascending K and MAC_ZERO does so from 0; every other tile of every physical core and engine reads as before.
DRAIN changes no tile and stores the 32 KiB image at AA, a NaN as the canonical NaN. (R37, R60, R63) -/
def Obligations.TileEffects : Prop :=
  ∀ (s : State) (lc e : Nat) (op : EngOp), Tbl.wf (fun _ => (0 : Word)) s.tiles = true → lc < 192 → e < 4 →
    let t := fld op.word 50 50
    let u := s.mmaEffect lc e op
    let rd := fun off => s.byteAt (scratchAddr lc off)
    let mac := fun acc i => macElem rd (fld op.word 36 33) (fld op.word 32 29) op.a.toNat op.b.toNat (macK op.x) acc (i / 64) (i % 64)
    (∀ i < 8192,
      (fld op.word 53 51 = 0 → u.tile lc e t i = mac (s.tile lc e t i) i) ∧
      (fld op.word 53 51 = 1 → u.tile lc e t i = mac 0 i) ∧
      (fld op.word 53 51 = 3 → u.tile lc e t i = BitVec.ofNat 32 (leNat (s.bytes (scratchAddr lc (op.a.toNat + 4 * i)) 4))) ∧
      (fld op.word 53 51 = 4 → u.tile lc e t i = 0)) ∧
    (∀ lc' e' t' i, e' < 4 → t' < 2 → i < 8192 → (s.physical lc', e', t') ≠ (s.physical lc, e, t) → u.tile lc' e' t' i = s.tile lc' e' t' i) ∧
    (fld op.word 53 51 = 2 → u = s.store (scratchAddr lc op.a.toNat) (s.tileBytes lc e t))

/-- A launch is received, loaded and run; signals land; an abort drains; a drained core reports and returns to IDLE.
CORE_LAUNCH_RECEIVE on an IDLE core that a launch still has to reach over an open path enters LOADING with the launch's tag,
argument, image, features and wait limit. CORE_LOADING_DONE with an image entry, correct code and initialisation data inside the
scratchpad enters RUNNING at ENTRY with s1 the core number, s2 the argument, s3 the tag, all else 0. CORE_ABORT_RECEIVE in
LOADING or RUNNING enters DRAINING with its stall ended and its queues discarded. REMOTE_SIGNAL_ARRIVE applies a signal of the
current launch, discards a stale one, holds another, and gives one that finds the 64 held places full back to its sender.
CORE_DRAIN_DONE of a DRAINING or FAULTING core whose engines are idle reports DONE, ABORTED or the fault and enters IDLE with
its semaphores zero. (R47, R82, R83, R84, R85, R86) -/
def Obligations.CoreLifeCycle : Prop :=
  ∀ (s : State) (lc : Fin 192),
    let c := s.core lc
    (∀ (q : BitVec 32) (l : Launch), s.launches.find? (fun l => l.seq == q.toNat && l.todo.contains lc) = some l →
      c.cstate = .idle → c.broken = false → s.pathOpen 12 (16 + lc / 16) = true → ∀ u,
        u = ({ s with launches := s.launches.map (fun m => if m.seq = l.seq then { m with todo := m.todo.del lc } else m) } :
          State).setCore lc (launched c l) →
        exec (.coreLaunchReceive lc q) s = .next (u.askHomes (16 + lc / 16) (u.loadAreas lc))) ∧
    (∀ e u code n a, c.cstate = .loading → s.loadFree lc = true → s.imgCore c.image lc = some e → n = s.num (e + 4) 4 → a = c.image + s.num (e + 8) 8 →
      (c.loadCode = false ∧ code = c.code) ∨
        (c.loadCode = true ∧ s.anyBad a n = false ∧ crc32c (s.bytes a n) = s.num (e + 0x14) 4 ∧ code = s.codeWords a n) →
      c.pend = [] → State.loadInit lc (s.imgInit c.image lc) s = (u, true) → s.num (e + 0x10) 4 < code.length →
      exec (.coreLoadingDone lc) s = .next (u.setCore lc (({ c with resident := true, code := code, buildId := c.wantId } : Core).atStart lc (s.num (e + 0x10) 4)))) ∧
    (∀ e n, e = s.imgCore c.image lc → n = c.atStart lc (s.num (e.getD 0 + 0x10) 4) →
      n.cstate = .running ∧ n.pc = s.num (e.getD 0 + 0x10) 4 ∧ n.s 1 = BitVec.ofNat 64 lc ∧ n.s 2 = c.arg ∧
      n.s 3 = BitVec.ofNat 64 c.tag ∧ (∀ i, 3 < i → n.s i = 0) ∧ (∀ i, n.a i = 0) ∧ n.loops = []) ∧
    (c.cstate = .loading ∨ c.cstate = .running → (∃ l ∈ s.launches, l.seq = c.launch ∧ l.aborts.contains lc.val = true) →
      s.pathOpen 12 (16 + lc / 16) = true → exec (.coreAbortReceive lc) s =
      .next (s.setCore lc { c with cstate := .draining, stall := .none, queues := [], aborted := true })) ∧
    (∀ g, c.transit.find? (fun g => s.pathOpen (16 + lc / 16) (16 + g.core / 16)) = some g →
      ∀ u t, u = s.setCore lc { c with transit := c.transit.erase g } → t = u.core g.core → ∀ v : State,
      (v = u.addSem g.core g.sem g.v 0xFFFFFFFF 0 → t.cstate = .running → t.tag = g.tag →
        exec (.remoteSignalArrive lc) s = .next (v.wake lc)) ∧
      (v = u.staleSig g.core t → t.cstate ≠ .running → t.prevTag = some g.tag → exec (.remoteSignalArrive lc) s = .next (v.wake lc)) ∧
      (t.cstate ≠ .running → t.prevTag ≠ some g.tag →
        (v = u.setCore g.core { t with pend := t.pend ++ [g] } → t.pend.length < 64 →
          exec (.remoteSignalArrive lc) s = .next (v.wake lc)) ∧
        (64 ≤ t.pend.length → exec (.remoteSignalArrive lc) s = .next (u.setCore lc ((u.core lc).takeBack g))))) ∧
    (c.cstate = .draining ∨ c.cstate = .faulting → c.quiet allQueues = true → c.remote = 0 →
      exec (.coreDrainDone lc) s =
        .next ((s.report lc (if c.cstate = .faulting then 2 else if c.aborted then 1 else 0) ((c.fault.map (·.status)).getD 0)
          ((c.fault.map (·.bt)).getD s.bt)).setCore lc { c with cstate := .idle, sems := [], prevTag := some c.tag }))

/-- Reports reach IO0, scrubs count errors, a failed physical core is retired, and its logical core is rebound or absent.
CORE_REPORT_RECEIVE takes the oldest report of the core out; one of a core that did not fail leaves the launch with that core no
longer due, and the launch ends with its last report. SCRATCH_PATROL_SCRUB adds the corrected words to the bank's count of the
hour and marks the unit of a double error as poisoned, remembering its granule; a double error at a granule scrubbed since the
last one retires the core. PHYSICAL_CORE_FAIL of a good core clears its GOOD bit and raises CORE_RETIRED; where a RUNNING
logical core is bound to it, the fault CORE_FAILED is raised first and that core's launch loses it. CORE_REBIND of an IDLE
logical core whose physical core failed, once the launch it ran has completed, binds the spare of R91, cleared (PARKED while its
die is held), and raises SPARE_MAPPED; with no spare the logical core is ABSENT. (R41, R86, R89, R90, R91, R93, R95) -/
def Obligations.CoreReportsAndRepair : Prop :=
  ∀ (s : State) (lc : Fin 192),
    let c := s.core lc
    (∀ r l, s.reports.find? (fun r => r.lc == lc.val && (r.direct || s.pathOpen (16 + lc / 16) 12)) = some r → s.launches.find? (fun l => l.seq == r.seq) = some l → r.kind ≠ 2 →
      l.left.del lc ≠ [] → exec (.coreReportReceive lc) s = .next { s with
          reports := s.reports.erase r
          launches := s.launches.map (fun m => if m.seq = l.seq then { l with left := l.left.del lc, todo := l.todo.del lc } else m) }) ∧
    (∀ r l, s.reports.find? (fun r => r.lc == lc.val && (r.direct || s.pathOpen (16 + lc / 16) 12)) = some r → s.launches.find? (fun l => l.seq == r.seq) = some l → r.kind ≠ 2 →
      l.left.del lc = [] → exec (.coreReportReceive lc) s = .next (({ s with reports := s.reports.erase r } : State).endLaunch
        { l with left := l.left.del lc, todo := l.todo.del lc })) ∧
    (∀ (g : Fin 98304) (n : Fin 5) (d : Option (Fin 4)), c.cstate ≠ .absent → ∀ (u v : State) (k : Core),
      u = (if n.val = 0 then s else s.scratchCorrected lc (g % 32) n) →
      v = (match d with | none => u | some w => u.scratchDouble lc g w) → k = v.core lc →
      exec (.scratchPatrolScrub lc g n d) s =
        .next (if k.badGran.contains g then v.setCore lc { k with scrubbed := k.scrubbed.add g } else v)) ∧
    (∀ b n : Nat, (if (tget (fun _ => ({} : Rate)) c.bankCe b).win = s.now / nsHour then (tget (fun _ => ({} : Rate)) c.bankCe b).n else 0)
        + n ≤ 1000 → s.scratchCorrected lc b n =
          s.setCore lc { c with bankCe := tput (fun _ => ({} : Rate)) c.bankCe b ((tget (fun _ => ({} : Rate)) c.bankCe b).add nsHour s.now n) }) ∧
    (∀ g w : Nat, ∀ u, u = (s.mark (scratchAddr lc (g * 64 + w / 2 * 32))).setCore lc { c with badGran := c.badGran.add g } →
      s.scratchDouble lc g w = if c.scrubbed.contains g then u.failUnder lc else u) ∧
    (∀ (d : Fin 12) (pc : Fin 18), bitAt (s.rd F.STK_PCORE_GOOD d) pc = true → ∀ u,
      u = s.wr F.STK_PCORE_GOOD d (s.rd F.STK_PCORE_GOOD d - 2 ^ pc.val) → (u.boundTo d pc = none →
        exec (.physicalCoreFail d pc) s = .next (u.raise 0x0802 (16 + d) [(1, d), (1, pc)])) ∧
      (∀ l, u.boundTo d pc = some l → (u.core l).cstate = .running → exec (.physicalCoreFail d pc) s = .next
        (((u.raise 0x0801 (16 + d) [(1, l), (1, 0x12), (4, 0xFFFFFFFF)]).raise 0x0802 (16 + d) [(1, d), (1, pc)]).loseCore l 0x12))) ∧
    (c.cstate = .idle → c.broken = true → (∀ l ∈ s.launches, c.lostIn ≠ some l.seq) →
      (∀ p, s.chooseSpare (lc / 16) = some p → exec (.coreRebind lc) s =
        .next (((((s.wr F.STK_LCMAP_PRESENT lc 1).wr F.STK_LCMAP_PC lc p).clearScratch lc).setCore lc
          { cstate := if s.dieHeld (lc / 16) then .parked else .idle }).raise 0x0803 (16 + lc / 16) [(1, lc), (1, p)])) ∧
      (s.chooseSpare (lc / 16) = none → exec (.coreRebind lc) s = .next (s.absentCore lc)))

/-- A descriptor that ends keeps its first status, DONE becomes DONE_DEGRADED while a degraded state holds, and no other one
changes. Where the descriptor of number q has not ended, ending it with a status, DETAIL and VALUE gives it phase 2 with them,
the status DONE replaced by DONE_DEGRADED (0x01) where a degraded level of D1 to D4 held while it ran or holds now; every
descriptor of another number, and all of the state but the list of descriptors, is as before. Ending it again, with any status,
changes nothing, and ending a descriptor that does not exist changes nothing. (R357, R358, R448) -/
def Obligations.DescriptorFinishesOnce : Prop :=
  ∀ (s : State) (q st de va st2 de2 va2 : Nat),
    let t := s.finishDesc q st de va
    (∀ d, s.desc q = some d → d.phase ≠ 2 →
      t.desc q = some { d with phase := 2, status := if st = 0 ∧ (d.degraded ∨ s.degradedNow) then 1 else st, detail := de, value := va }) ∧
    (∀ r, r ≠ q → t.desc r = s.desc r) ∧ t = { s with cmd := { s.cmd with descs := t.cmd.descs } } ∧
    t.finishDesc q st2 de2 va2 = t ∧ (s.desc q = none → t = s)

/-- LAUNCH and STEP_LAUNCH: an accepted image goes out to its cores; a refused one completes without starting a core. When a LAUNCH
descriptor starts: if the image check gives no failure, a launch with the descriptor's number, tag, cores, argument and the
image's features, BUILD_ID and wait limit is under way, its messages go to the endpoints of its cores, or by column multicast
where it covers the dies of a column whole, and no core, register or byte of device memory changes yet; if the check fails, the
descriptor ends with the status and DETAIL of the check (stated for a launch without STEP) and no launch is under way. (R80,
R84, R350, R353) -/
def Obligations.LaunchesStart : Prop :=
  ∀ (s : State) (seq : BitVec 32) (d : Desc), starts s seq d → descType d.bytes = 1 → s.launchWaits seq.toNat = false →
    let t := begun s d
    let img := d.f 0x10 8
    let v := t.imageCheck img (descCores d.bytes)
    let l : Launch :=
      { seq := d.seq, tag := d.seq % 65536, cores := descCores d.bytes, todo := descCores d.bytes, left := descCores d.bytes
        image := img, arg := BitVec.ofNat 64 (d.f 0x18 8), features := t.imgFeatures img
        buildId := BitVec.ofNat 64 (t.num (img + 0x58) 8), waitLimit := t.num (img + 0x34) 4, fault := none, aborts := []
        step := d.step, result := (d.f 0x48 8, d.f 0x50 8, d.f 0x58 4), forced := none, lost := none }
    let u := ({ t with launches := t.launches ++ [l] } : State).sendLaunch l
    (v.1 = 0 → d.step = false → exec (.launch seq) s = .next u) ∧ (v.1 = 0 → d.step = true → exec (.stepLaunch seq) s = .next u) ∧
    u.launches = t.launches ++ [l] ∧ u.cores = s.cores ∧ u.dmem = s.dmem ∧ u.regs = s.regs ∧
    (v.1 ≠ 0 → d.step = false → s.role.steps = [] →
      exec (.launch seq) s = .next (t.finishDesc d.seq v.1 v.2 t.bt))

/-- COPY descriptors: device to device, host to device, device to host, and toward another device. When a COPY starts, none of its
areas waits at its home or for a path, the host's memory is reached where the copy needs it, and its formats and areas are good:
device to device moves its row (with its marks or converted) and ends with DONE, or with UNCORRECTABLE_MEMORY where poison
stopped the conversion; host to device stores the bytes read, or their conversion, at the destination and nowhere else; device
to host writes the bytes read to host memory, for a host that is present and a range that is readable and inside DDR5; a remote
copy to an own-device window stores the bytes there, or here, when the window admits it, and one to a reachable device sends its
pieces; each ends with DONE but for the last, which waits for its answers. (R71, R215, R297, R336, R339, R354) -/
def Obligations.CopiesMoveData : Prop :=
  ∀ (s : State) (seq : BitVec 32) (d : Desc), starts s seq d → descType d.bytes = 2 →
    let t := begun s d
    let src := d.f 0x10 8
    let dst := d.f 0x18 8
    let n := copyLen d
    (d.f 0x28 1 = 0 → s.copyWaits src n false = false → s.copyWaits dst (copyOutLen d) true = false → copyBad d = false →
      t.areaFault src n false = 0 → t.areaFault dst (copyOutLen d) true = 0 → ∀ m : Moved,
        m = State.copyRow t.cmdPlace (t.askHomes t.cmdPlace [(src, n), (dst, copyOutLen d)]) src dst n (copyIn d) (copyOut d) →
        exec (.copyDeviceToDevice seq) s = .next (m.st.finishDesc d.seq (if m.fault = none then 0 else 0x60) 0 0)) ∧
    (∀ data : List Byte, d.f 0x28 1 = 1 → s.portOpen = true → s.copyWaits dst (copyOutLen d) true = false → t.ddrOk src n = true → copyBad d = false →
      t.areaFault dst (copyOutLen d) true = 0 →
      (copyIn d = copyOut d → exec (.copyHostToDevice seq data) s = .next ((t.store dst (data.take n)).finishDesc d.seq 0 0 0)) ∧
      (∀ k, copyIn d ≠ copyOut d → convCount (copyIn d) (copyOut d) n = some k → exec (.copyHostToDevice seq data) s =
        .next ((storePieces dst (convPieces (fun i => data.getD i 0) 0 (copyIn d) (copyOut d) k k) t).finishDesc d.seq 0 0 0))) ∧
    (d.f 0x28 1 = 2 → s.hostOpen = true → s.copyWaits src n false = false → t.absent = false → copyBad d = false → t.areaFault src n false = 0 →
      (copyIn d = copyOut d → t.hostStop src dst n = (n, 0) →
        exec (.copyDeviceToHost seq) s = .next ((t.hostStore dst (t.bytes src n)).finishDesc d.seq 0 0 0)) ∧
      (copyIn d ≠ copyOut d → exec (.copyDeviceToHost seq) s = .next (t.convToHost d))) ∧
    (d.f 0x30 8 % 1024 = t.device →
      (d.f 0x28 1 = 3 → s.remoteWaits seq.toNat true = false → t.areaFault src n false = 0 → t.anyBad src n = false →
        t.accessCheck (d.f 0x30 8 / 2 ^ 10 % 256) (d.f 0x30 8 / 2 ^ 18 % 2 ^ 24) 1 dst n = 0 →
        exec (.copyToRemote seq) s = .next ((t.store dst (t.bytes src n)).finishDesc d.seq 0 0 0)) ∧
      (d.f 0x28 1 = 4 → s.remoteWaits seq.toNat false = false → t.areaFault dst n true = 0 → t.accessCheck (d.f 0x30 8 / 2 ^ 10 % 256) (d.f 0x30 8 / 2 ^ 18 % 2 ^ 24) 0 src n = 0 →
        exec (.copyFromRemote seq) s = .next ((t.store dst (t.bytes src n)).finishDesc d.seq 0 0 0))) ∧
    (d.f 0x30 8 % 1024 ≠ t.device → t.reachable (d.f 0x30 8 % 1024) = true →
      ∀ (w : Bool) (i : Instr), (w = true ∧ d.f 0x28 1 = 3 ∧ i = .copyToRemote seq) ∨ (w = false ∧ d.f 0x28 1 = 4 ∧ i = .copyFromRemote seq) →
      s.remoteWaits seq.toNat w = false → t.areaFault (if w then src else dst) n (!w) = 0 → (w = true → t.anyBad src n = false) →
      ∀ ps, ps = t.copyPieces (d.f 0x30 8 % 1024) (if w then dst else src) n w →
      exec i s = .next (State.sendCopy d.seq (d.f 0x30 8) (if w then dst else src) (if w then src else dst) w 0 ps
        (awaiting t d.seq ⟨ps.length, 0, 0, if w then src else dst⟩)))

/-- Collectives start, wait or are refused; their packets are taken or held; timers end them. When a COLLECTIVE of an operation
starts (REDUCE_SCATTER, ALL_GATHER, ALL_REDUCE by the byte at 0x10): if its list, source, destination and members are good, it
begins when fewer than sixteen run, and joins the end of the waiting list otherwise; if they are not, its descriptor ends with
the status of the first reason (ADDRESS_FAULT, UNCORRECTABLE_MEMORY, DESCRIPTOR_MALFORMED or TARGET_UNREACHABLE) and nothing is
sent. COLL_EXP, COLL_B and COLL_DATA take a packet of their code for this device from the head of the commit FIFO through the
steps of the landing die, and what has ended ends; with two residue mismatches the unit that serves the block is out of service
from then on. A packet without a running collective of its TAG is INFLIGHT and held; when it is dropped, its INFLIGHT bit is
clear again, so that a re-send is taken anew. A collective that still lacks a contribution when its timer expires takes
TARGET_UNREACHABLE with COLLECTIVE_TIMEOUT. (R321, R322, R324, R325, R354, R310, R323, R327, R445) -/
def Obligations.Collectives : Prop :=
  (∀ (s : State) (seq : BitVec 32) (d : Desc), starts s seq d → descType d.bytes = 3 →
    let t := begun s d
    let c := t.collOf d
    ∀ e ∈ ([(Instr.collectiveReduceScatter, 0), (.collectiveAllGather, 1), (.collectiveAllReduce, 2)] : List ((BitVec 32 → Instr) × Nat)),
      d.f 0x10 1 = e.2 →
        (t.collRefuse d c = 0 → t.rack.colls.length < 16 → exec (e.1 seq) s = .next (t.collBegin c)) ∧
        (t.collRefuse d c = 0 → 16 ≤ t.rack.colls.length →
          exec (e.1 seq) s = .next { t with rack := { t.rack with collWait := t.rack.collWait ++ [c] } }) ∧
        (t.collRefuse d c ≠ 0 → exec (e.1 seq) s = .next (t.finishDesc d.seq (t.collRefuse d c) 0 0))) ∧
  (∀ (s : State) (p : Fin 24) (vc : Fin 3) (k : Pkt),
    (∀ c ∈ [(Instr.collExp p vc, 7), (.collB p vc, 8), (.collData p vc 0, 9), (.collData p vc 1, 9)],
      arrived s p vc c.2 k → exec c.1 s = .next ((s.popPkt p vc).landRequest (p / 6) k).collEnd) ∧
    (arrived s p vc 9 k → ∀ u, u = ((s.popPkt p vc).landRequest (p / 6) k).collEnd →
      exec (.collData p vc 2) s = .next { u with rack := { u.rack with deadUnits := u.rack.deadUnits.add (s.unitOf k.addr) } }) ∧
    (∀ q n d e, e = s.srcEnt n → d = (k.seq + 2 ^ 33 - e.lca - 1) % 2 ^ 32 → d < 64 → e.done.getLsbD d = false → e.inflight.getLsbD d = false →
      k.pred = 0 → 7 ≤ k.op → ∀ u, u = s.setSrc n { e with inflight := setBit64 e.inflight d true } →
      (s.coll k.tag = none → s.allow q k n = { u with rack := { u.rack with held := u.rack.held ++ [(k.tag, q, k)] } }) ∧
      ((s.coll k.tag).isSome = true → s.allow q k n = u.contribute q k)) ∧
    (∀ (id : BitVec 32),
      (∀ c m r, s.coll id.toNat = some c → c.missing = m :: r → ∃ b,
        (∀ x, (c.slice c.me).find? (fun y => !c.written.contains y) = some x → b = x) ∧
        exec (.collTimerExpire id) s = .next ((s.setColl { c with status := worse c.status 0x12 }).raise 0x0528 (dieIO (b % 4))
          [(4, c.id), (2, r.length + 1), (2, m)]).collEnd) ∧
      (∀ l, l = s.rack.held.filter (fun (h : Nat × Nat × Pkt) => h.1 == id.toNat) →
        exec (.collHoldExpire id) s = .next (l.foldl (fun (t : State) (h : Nat × Nat × Pkt) =>
          t.setSrc (h.2.2.source * 64 + h.2.2.e) { t.srcEnt (h.2.2.source * 64 + h.2.2.e) with
            inflight := setBit64 (t.srcEnt (h.2.2.source * 64 + h.2.2.e)).inflight
              ((h.2.2.seq + 2 ^ 33 - (t.srcEnt (h.2.2.source * 64 + h.2.2.e)).lca - 1) % 2 ^ 32) false })
          { s with rack := { s.rack with held := s.rack.held.filter (fun (h : Nat × Nat × Pkt) => h.1 != id.toNat) } }))))

/-- BERTH_OPEN allocates pages and makes the berth ACTIVE or OPENING; CLOSE and MOVE wait for the step boundary or end at once. When
its descriptor starts: BERTH_OPEN of a FREE berth whose pages can be allocated allocates them, gives the berth the role's KV_FMT
and state ACTIVE with SAMPLING_KEY (mode LOCAL) or OPENING (mode RECEIVE), and ends with DONE; where a sub-pool lacks pages,
nothing but the event POOL_EXHAUSTED and ADDRESS_FAULT happens; a berth that is not FREE ends with ADDRESS_FAULT. BERTH_CLOSE of
a FREE berth ends with DONE, of an OPENING berth in mode RECEIVE frees it. CLOSE and MOVE of an ACTIVE berth with nothing
pending record the operation, and a second operation ends with ADDRESS_FAULT and a MOVE toward a device that R297 lets no
descriptor reach with TARGET_UNREACHABLE; a recorded one waits while a step launch accepted before it that names the berth is in
flight; then CLOSE frees the berth with DONE and MOVE sends it. (R129, R131, R133, R134, R136) -/
def Obligations.BerthsOpenAndClose : Prop :=
  ∀ (s : State) (seq : BitVec 32) (d : Desc), starts s seq d →
    let t := begun s d
    let b := d.f 0x10 2
    let e := t.berth b
    b < 6144 →
    (descType d.bytes = 4 →
      ∀ o ∈ ([(0, Instr.berthOpenLocal seq), (1, .berthOpenReceive seq)] : List (Nat × Instr)), d.f 0x12 1 = o.1 →
        (e.state ≠ 0 → exec o.2 s = .next (t.finishDesc d.seq 0x20 0 0)) ∧
        (e.state = 0 → ∀ st, t.allocate b (d.f 0x14 4) = .error st →
          exec o.2 s = .next ((t.raise 0x0905 (dieSD st) [(1, st)]).finishDesc d.seq 0x20 0 0)) ∧
        (e.state = 0 → ∀ u, t.allocate b (d.f 0x14 4) = .ok u →
          exec o.2 s = .next ((u.setBerth b (if o.1 = 0 then
              { u.berth b with state := 2, samplingKey := BitVec.ofNat 64 (d.f 0x18 8), kvFmt := u.role.setup.kvFmt }
            else { u.berth b with state := 1, mode := 1, kvFmt := u.role.setup.kvFmt })).finishDesc d.seq 0 0 0))) ∧
    (descType d.bytes = 5 → e.state = 0 → exec (.berthClose seq) s = .next (t.finishDesc d.seq 0 0 0)) ∧
    (descType d.bytes = 5 → e.state = 1 → e.mode = 1 → exec (.berthClose seq) s = .next ((t.freeBerth b).finishDesc d.seq 0 0 0)) ∧
    (∀ o ∈ ([(5, 1, t.device, Instr.berthClose seq), (6, 2, d.f 0x14 2 % 1024, .berthMove seq)] : List (Nat × Nat × Nat × Instr)),
      descType d.bytes = o.1 → e.state = 2 →
      (e.pending ≠ 0 → exec o.2.2.2 s = .next (t.finishDesc d.seq 0x20 0 0)) ∧
      (e.pending = 0 → t.partyClass o.2.2.1 = false → exec o.2.2.2 s = .next (t.finishDesc d.seq 0x12 0 0)) ∧
      (e.pending = 0 → t.partyClass o.2.2.1 = true → exec o.2.2.2 s = .next ((t.setBerth b { e with pending := o.2.1, opSeq := d.seq }).takePending b))) ∧
    (∀ w : State, (w.berth b).state = 2 → (w.berth b).pending ≠ 0 →
      (w.stepsBefore b (w.berth b).opSeq = false → w.takePending b = w) ∧
      (w.stepsBefore b (w.berth b).opSeq = true → tget (fun _ => 0) w.lv.flight b = 0 →
        ((w.berth b).pending = 1 → w.takePending b = (w.freeBerth b).finishDesc (w.berth b).opSeq 0 0 0) ∧
        ((w.berth b).pending = 2 → w.rd F.LVS_STATUS_STATE ≠ 3 → w.takePending b = w.sendMove b (w.berth b).opSeq)))

/-- ROLE_SET and its settling, an inbound berth header and the answer to a move, and FENCE, SIGNAL and WAIT. ROLE_SET outside a
lightvessel pair, with every berth FREE and no mooring entry that must stay, enters CHANGING; otherwise it ends with
ROLE_MISMATCH and raises ROLE_SET_REFUSED. ROLE_SETTLE, once no earlier launch descriptor and no served mooring operation is
open, puts the new set-up in force with every page free and no mooring entry but those kept, raises ROLE_CHANGED and ends the
descriptor with DONE. A header that an OPENING berth in mode RECEIVE accepts places its records, commits the berth and is
acknowledged; otherwise the refusal is sent and nothing else changes. An acknowledged move marks the berth committed and frees
it once no step is in flight; a refused one makes it ACTIVE again with the status. FENCE ends once every earlier descriptor in
its scope has completed, SIGNAL adds to its counter modulo 2^64, WAIT ends once its counter has reached VALUE. (R126, R128,
R134, R136, R145, R356) -/
def Obligations.RoleChanges : Prop :=
  ∀ (s : State) (seq : BitVec 32),
    (∀ d : Desc, starts s seq d → let t := begun s d
      (descType d.bytes = 0x0E → t.rd F.LVS_STATUS_STATE = 0 →
        (t.role.berths.any (fun (e : Nat × Berth) => e.2.state != 0) = false → (t.roleCode = 3 → t.moored = true → d.f 0x12 1 = 1) →
          exec (.roleSet seq) s =
            .next ((t.setRole { t.role with change := some (d.seq, d.f 0x10 1, roleSetup d.bytes, d.f 0x12 1 == 1) }).wr F.BRT_ROLE_CHANGING 0 1)) ∧
        (t.role.berths.any (fun (e : Nat × Berth) => e.2.state != 0) = true ∨ (t.roleCode = 3 ∧ t.moored = true ∧ d.f 0x12 1 ≠ 1) →
          exec (.roleSet seq) s = .next ((t.raise 0x0902 srcPkg [(1, d.f 0x10 1)]).finishDesc d.seq 0x42 0 0))) ∧
      (descType d.bytes = 0x0C → exec (.signalDesc seq) s = .next ((t.setCounter (d.f 0x10 1) ((t.counter (d.f 0x10 1) + d.f 0x18 8) % 2 ^ 64)).finishDesc
        d.seq 0 (d.f 0x10 1) ((t.counter (d.f 0x10 1) + d.f 0x18 8) % 2 ^ 64)))) ∧
    (∀ d : Desc, s.desc seq.toNat = some d → d.phase = 1 →
      (descType d.bytes = 0x0B → ∀ l, l = s.cmd.descs.takeWhile (fun e => e.seq != d.seq) →
        exec (.fenceDesc seq) s =
          .next (if (if d.f 0x10 1 = 0 then l.filter (fun e => e.ring == d.ring) else l) = [] then s.finishDesc d.seq 0 0 0 else s)) ∧
      (descType d.bytes = 0x0D → exec (.waitDesc seq) s = .next (if d.f 0x18 8 ≤ s.counter (d.f 0x10 1) then
        s.finishDesc d.seq 0 (d.f 0x10 1) (s.counter (d.f 0x10 1)) else s))) ∧
    (∀ q role setup discard ended, s.role.change = some (q, role, setup, discard) →
      (s.cmd.descs.takeWhile (fun d => d.seq != q)).any (fun d => descType d.bytes == 1 && d.phase != 2) = false →
      sessLeft s.role.sess ended = [] → s.launches = [] → ∃ u : State, exec (.roleSettle ended) s =
        .next ((u.raise 0x0901 srcPkg [(1, s.roleCode), (1, role)]).finishDesc q 0 0 0) ∧ u.role.setup = setup ∧ u.role.change = none ∧
        u.role.moor = (if discard || s.roleCode != 3 then [] else s.role.moor) ∧ u.role.used = []) ∧
    (∀ (src : Fin 1024) (b : Fin 6144) (op : BitVec 32) (hdr recs : List Byte),
      let v := if !s.berthRole ∨ s.changing ∨ s.rd F.LVS_STATUS_STATE = 5 then 0x42
        else if (s.berth b).state ≠ 1 ∨ (s.berth b).mode ≠ 1 then 0x20 else s.headerCheck b hdr
      (v ≠ 0 → exec (.berthHeaderReceive src b op hdr recs []) s = .next (s.tell src (.berthAck src op.toNat v))) ∧
      (v = 0 → exec (.berthHeaderReceive src b op hdr recs []) s =
        .next ((((s.placeImage b 0 (at_ hdr 8 4) recs).commitBerth b hdr).boundary b).tell src (.berthAck src op.toNat 0)))) ∧
    (∀ o (st : BitVec 8), s.bop seq.toNat = some o → o.kind = 1 →
      (st = 0 → exec (.berthMoveCommitAck seq st) s =
        .next ((s.setBerth o.berth { s.berth o.berth with committed := true }).settleBerth o.berth)) ∧
      (st ≠ 0 → exec (.berthMoveCommitAck seq st) s =
        .next (((s.setBerth o.berth { s.berth o.berth with state := 2, committed := false }).dropBop o.seq).finishDesc o.seq st.toNat 0 0)))

/-- MOOR_PUT, MOOR_GET, MOOR_DROP and MOOR_TOUCH at the device that posts them, and the answers that end them. When its descriptor
starts: MOOR_PUT of an ACTIVE berth with nothing pending, toward a device that R297 lets it reach, records a PUT; MOOR_GET of a
FREE berth toward a device that is reached opens the berth in state OPENING and sends the request, and toward one that is not
ends with TARGET_UNREACHABLE; MOOR_DROP of a key and MOOR_TOUCH send their request to the session home, or end with
TARGET_UNREACHABLE; MOOR_DROP by age on the CACHE device itself evicts the old sessions, at most its number, and ends with their
count, and elsewhere ends with ROLE_MISMATCH. MOOR_COMMIT_ACK with DONE marks the berth of a PUT committed and frees it once no
step is in flight; with a failure the berth is ACTIVE again; it ends a DROP or TOUCH with its status. A segment that reaches the
requester of a GET after its header is placed; a failure frees the berth. (R137, R141, R142, R143, R144) -/
def Obligations.MooringRequests : Prop :=
  ∀ (s : State) (seq : BitVec 32),
    (∀ d : Desc, starts s seq d → let t := begun s d
      let b := d.f 0x10 2
      let dst := d.f 0x12 2 % 1024
      let key := BitVec.ofNat 64 (d.f 0x18 8)
      (descType d.bytes = 7 → b < 6144 → (t.berth b).state = 2 → (t.berth b).pending = 0 → t.partyClass dst = true →
        exec (.moorPut seq) s = .next ((t.setBerth b { t.berth b with pending := 3, opSeq := d.seq }).takePending b)) ∧
      (descType d.bytes = 8 → b < 6144 → (t.berth b).state = 0 →
        (t.partyReach dst = false → exec (.moorGet seq) s = .next (t.finishDesc d.seq 0x12 0 0)) ∧
        (t.partyReach dst = true → ∀ u, t.allocate b (d.f 0x14 4) = .ok u →
          ∀ v, v = u.setBerth b { u.berth b with state := 1, mode := 2, openSeq := d.seq, kvFmt := u.role.setup.kvFmt } →
          exec (.moorGet seq) s = .next ((v.setRole { v.role with bops := v.role.bops ++ [⟨d.seq, 3, b, dst, key, [], [], []⟩] }).mail dst 2 b d.seq
            [[.moor dst 3 d.seq key 0 0 []]]))) ∧
      (∀ o ∈ ([(9, 4, Instr.moorDropKey seq), (0x0A, 5, .moorTouch seq)] : List (Nat × Nat × Instr)), descType d.bytes = o.1 →
        (o.1 = 9 → d.f 0x10 1 = 0) → exec o.2.2 s = .next (if t.partyReach dst then t.mail dst 3 0 d.seq [[.moor dst o.2.1 d.seq key 0 0 []]]
          else t.finishDesc d.seq 0x12 0 0)) ∧
      (∀ ended, descType d.bytes = 9 → d.f 0x10 1 = 1 →
        (t.cacheRole = false ∨ dst ≠ t.device → exec (.moorDropAge seq ended) s = .next (t.finishDesc d.seq 0x42 0 0)) ∧
        (t.cacheRole = true → dst = t.device → ∀ u old, u = t.dropEnded ended →
          old = u.moorWhere (fun e => e.state == 2 && e.seg == 0 && decide (e.stamp + d.f 0x20 4 ≤ u.bt / 2 ^ 32)) →
          exec (.moorDropAge seq ended) s =
            .next ((State.evict old (min old.length (d.f 0x14 4)) u).finishDesc d.seq 0 0 (min old.length (d.f 0x14 4)))))) ∧
    (∀ o (st : BitVec 8), s.bop seq.toNat = some o → o.kind = 2 →
      exec (.moorCommitAck seq st) s = .next (if st = 0 then
          (s.setBerth o.berth { s.berth o.berth with committed := true }).settleBerth o.berth
        else ((s.setBerth o.berth { s.berth o.berth with state := 2, committed := false }).dropBop o.seq).finishDesc o.seq st.toNat 0 0)) ∧
    (∀ d (st : BitVec 8), s.bop seq.toNat = none → s.desc seq.toNat = some d → (descType d.bytes = 9 ∨ descType d.bytes = 0x0A) → d.phase = 1 →
      exec (.moorCommitAck seq st) s = .next (s.finishDesc d.seq st.toNat 0 0)) ∧
    (∀ o (st : BitVec 8) (seg : BitVec 16) (data : List Byte), s.bop seq.toNat = some o → o.kind = 3 →
      (st ≠ 0 → exec (.moorGetSegmentArrive seq st seg data) s =
        .next (((s.freeBerth o.berth).getEnded o).finishDesc o.seq st.toNat 0 0)) ∧
      (seg ≠ 0 → o.header ≠ [] → exec (.moorGetSegmentArrive seq 0 seg data) s =
        .next ((s.placeSeg o o.header seg.toNat data).getSettle { o with arrived := o.arrived.add seg.toNat })) ∧
      (s.headerCheck o.berth data = 0 → o.held = [] → exec (.moorGetSegmentArrive seq 0 0 data) s =
        .next ((s.placeSeg o (data.take 64) 0 data).getSettle { o with header := data.take 64, held := [], arrived := o.arrived.add 0 })))

/-- The session home: announcements, segments and commits of a PUT, GETs, drops, touches, reclaiming and the age histogram. On a
device in role CACHE that is not CHANGING: an announcement defeats what is in flight on the session and gives the PUT the next
GEN; a segment of a PUT in flight that fits its slot and finds an EMPTY way and a free slot is inserted FILLING, and the one
with which segment 0 and every segment its header counts are recorded commits; one that does not is refused, the PUT ending with
NOT_MOORED; a GET of no session answers NOT_MOORED, of one whose segments are good sends them; a DROP makes segment 0 EMPTY at
once; a TOUCH sets STAMP to beacon time / 2^32; in any other role all are answered ROLE_MISMATCH. MOOR_SEGMENT_RECLAIM empties
the dropped segments of its key. MOR_AGE_HIST_REFRESH writes the counts of committed sessions by age class. (R126, R140, R141,
R142, R143, R145) -/
def Obligations.MooringHome : Prop :=
  ∀ (s : State) (src : Fin 1024) (op : BitVec 32) (key : BitVec 64) (ended : List (Fin 1024 × BitVec 32)),
    (s.cacheRole = false → ∀ i ∈ [Instr.moorAnnounce src op key ended, .moorGetRequest src op key, .moorDropArrive src op key ended,
      .moorTouchArrive src op key], exec i s = .next (s.moorResult src op.toNat key 0x42)) ∧
    (s.cacheRole = true →
      (∀ u, u = (s.dropEnded ended).defeat key false → exec (.moorAnnounce src op key ended) s =
        .next (u.setRole { u.role with sess := u.role.sess ++ [⟨0, key, src, op.toNat,
          match u.committed key with | some g => (g + 1) % 65536 | none => 0⟩] })) ∧
      (s.moorFind key 0 2 none = none → exec (.moorGetRequest src op key) s = .next (s.moorResult src op.toNat key 0x14) ∧
        exec (.moorTouchArrive src op key) s = .next (s.moorResult src op.toNat key 0x14)) ∧
      (∀ i, s.moorFind key 0 2 none = some i →
        exec (.moorTouchArrive src op key) s =
          .next ((s.setMoor i { s.moorAt i with stamp := s.bt / 2 ^ 32 }).moorResult src op.toNat key 0) ∧
        (∀ u l, u = s.defeat key true → l = i :: ((List.range (u.num ((u.moorAt i).location % 2 ^ 42 + 0x16) 2 - 1)).filterMap
            (fun x => u.moorFind key (x + 1) 2 (some (u.moorAt i).gen))) → u.sessStop l = 0 →
          ∀ v, v = u.setRole { u.role with sess := u.role.sess ++ [⟨1, key, src, op.toNat, (u.moorAt i).gen⟩] } →
          exec (.moorGetRequest src op key) s = .next (v.mail src 4 0 op.toNat [l.map (fun j => Msg.moorSeg src op.toNat (v.moorAt j).seg
            (v.bytes ((v.moorAt j).location % 2 ^ 42) (v.moorAt j).length))]))) ∧
      (∀ t ok, (s.dropEnded ended).dropSession key = (t, ok) →
        exec (.moorDropArrive src op key ended) s = .next (t.moorResult src op.toNat key (if ok then 0 else 0x14)))) ∧
    (∀ (o : SessOp) (seg : BitVec 16) (fmt : BitVec 4) (data : List Byte), s.putOf src op.toNat = some o →
      (data.length ≤ s.role.setup.slot → ∀ u, s.moorInsert o.key seg.toNat fmt.toNat o.gen data = some u →
        exec (.moorSegmentReceive src op seg fmt data) s = .next (if u.putWhole o then u.commitPut o else u)) ∧
      (data.length ≤ s.role.setup.slot → s.moorInsert o.key seg.toNat fmt.toNat o.gen data = none →
        exec (.moorSegmentReceive src op seg fmt data) s = .next (s.refusePut o seg.toNat true)) ∧
      (data.length ≤ s.role.setup.slot → ∀ u, s.moorInsert o.key 0 (at_ data 6 1 % 16) o.gen data = some u →
        exec (.moorSegment0Commit src op data) s = .next (if u.putWhole o then u.commitPut o else u)) ∧
      (s.role.setup.slot < data.length → exec (.moorSegmentReceive src op seg fmt data) s = .next (s.refusePut o seg.toNat false) ∧
        exec (.moorSegment0Commit src op data) s = .next (s.refusePut o 0 false))) ∧
    exec (.moorSegmentReclaim key) s = .next (s.moorFreeAll (s.role.reclaim.filter (fun i => (s.moorAt i).key == key))) ∧
    (∀ ages, ages = (s.moorWhere (fun e => e.state == 2 && e.seg == 0)).map (fun i => ageClass ((s.bt / 2 ^ 32 + 2 ^ 32 - (s.moorAt i).stamp) % 2 ^ 32)) →
      exec .morAgeHistRefresh s = .next ((List.range 16).foldl
        (fun (t : State) i => t.wr F.MOR_AGE_HIST_SESSIONS i (if s.roleCode = 3 then ages.count i else 0)) s)) ∧
    ageClass 0 = 0 ∧ ageClass 1 = 0 ∧ ageClass 2 = 1 ∧ ageClass 32767 = 14 ∧ ageClass 32768 = 15 ∧ ageClass (2 ^ 31) = 15

/-- DESCRIPTOR_FETCH accepts or refuses the next descriptor of the ring whose turn it is; DESCRIPTOR_COMPLETE ends one. For the ring
whose turn it is, in no error: the fetch index counts on modulo 2^32; a descriptor that breaks its layout ends with
DESCRIPTOR_MALFORMED and one that needs a feature outside the accepted mask with FEATURE_NOT_COMMITTED, each with a record only;
another is appended to the accepted descriptors with the next acceptance number, and IDLE of its ring clears (stated for one
that is no step launch; its mirror is current). A ring in an error of R347 is disabled. When a descriptor has ended and nothing
keeps it, completing it takes it out of the list, sets IDLE of its ring where no other remains, adds 1 to its counter where
DONE_CTR is set, and writes its record, unless it is QUIET and DONE. (R347, R348, R349, R357, R128, R132) -/
def Obligations.DescriptorsAreFetched : Prop :=
  ∀ (s : State) (r : Fin 32) (b : List Byte), s.bit F.RNG_CMD_CFG_ENABLE r = true → s.hostOpen = true → 0 < s.backlog r →
    (s.ringBad r = true → exec (.descriptorFetch r b) s = .next (s.ringError r)) ∧
    (s.ringBad r = false → s.nextRing = some r.val → s.rd F.LVS_STATUS_STATE ≠ 7 →
      ∀ u, u = s.wr F.RNG_CMD_FETCH_F r ((s.rd F.RNG_CMD_FETCH_F r + 1) % 2 ^ 32) →
      (s.descOk b = false → exec (.descriptorFetch r b) s = .next ((u.served r false).writeRecord r (at_ b 8 8) 0 0x40 (descType b) 0 0)) ∧
      (s.descOk b = true → (s.featuresNeeded b).all s.feature = false →
        exec (.descriptorFetch r b) s = .next ((u.served r false).writeRecord r (at_ b 8 8) 0 0x41 (descType b) 0 0)) ∧
      (s.descOk b = true → (s.featuresNeeded b).all s.feature = true → descType b ≠ 1 → ∀ v, v = (u.served r true).mirror →
        exec (.descriptorFetch r b) s = .next ((v.setCmd { v.cmd with
          descs := v.cmd.descs ++ [{ ring := r, seq := s.cmd.nextSeq, bytes := b }], nextSeq := (s.cmd.nextSeq + 1) % 2 ^ 32 }).wr F.RNG_CMD_CFG_IDLE r 0))) ∧
    (∀ (q : BitVec 32) (d : Desc), (s.settleDesc q.toNat).desc q.toNat = some d → d.phase = 2 → d.copy = false →
      ∀ t, t = s.settleDesc q.toNat → t.rd F.LVS_STATUS_STATE ≠ 3 → t.rd F.LVS_STATUS_STATE ≠ 7 → t.noService = false → t.pwr.ioHalt = [] →
        (t.lv.holds.any (fun (h : Nat × Nat × Nat) => h.1 == d.seq)) = false →
      ∀ u, u = t.setCmd { t.cmd with descs := t.cmd.descs.filter (fun e => e.seq != d.seq) } →
      ∀ v, v = (if u.cmd.descs.any (fun e => e.ring == d.ring) then u else u.wr F.RNG_CMD_CFG_IDLE d.ring 1) →
      ∀ w, w = (if bitAt (descFlags d.bytes) 2 then v.setCounter (d.f 2 1) ((v.counter (d.f 2 1) + 1) % 2 ^ 64) else v) →
      exec (.descriptorComplete q) s = .next (if d.quiet ∧ d.status = 0 then w
        else w.writeRecord d.ring (d.f 8 8) d.seq d.status (descType d.bytes) d.detail d.value))

/-- Host lines and CXL.mem accesses, MSI-X timer, event delivery, and command-port links, repair, reset and retrain timeout.
HOST_RESET takes each link that is up down, as COMMAND_PORT_LINK_DOWN does, and enters HOST_ABSENT, raising HOST_ABSENT where
the host was present. COMMAND_PORT_LINK_DOWN of a link that is up and COMMAND_PORT_LINK_UP of a port whose die is in service
change LINK_UP, the latter sending the records that waited (R343); PORT_RETRAIN_TIMEOUT leaves the active port whose link is
down; UCIE_LANE_REPAIR counts the lane and raises LANE_REPAIRED. A watch line write sets COUNT of its ring, a head line write
the records consumed. The coalescing timer sends the vector of unsignalled records. EVENT_DELIVER writes the oldest record at
the next slot of an enabled ring with room. A CXL.mem read of a decoded line answers its 64 bytes, or zeros with poison where
the line is poisoned or its stack is gone or in reset; a write stores its bytes, or is counted as DROPPED there. Both wait,
changing nothing, where R217, R218 or R302 holds the line or no path to it is open. (R336, R337, R338, R340, R341, R346, R361,
R367) -/
def Obligations.HostPathCommands : Prop :=
  ∀ (s : State) (p : Fin 2),
    (∀ u v, u = (if s.bit F.HST_PORT_LINK_UP 0 = true then (s.wr F.HST_PORT_LINK_UP 0 0).showReady.raise 0x0541 (dieIO 0) [(1, 0)] else s) →
      v = (if u.bit F.HST_PORT_LINK_UP 1 = true then (u.wr F.HST_PORT_LINK_UP 1 0).showReady.raise 0x0541 (dieIO 1) [(1, 1)] else u) →
      exec .hostReset s = .next (if s.absent then v.dropHost.showReady else v.dropHost.showReady.raise 0x0544 srcPkg [])) ∧
    (s.bit F.HST_PORT_LINK_UP p = true →
      exec (.commandPortLinkDown p) s = .next ((s.wr F.HST_PORT_LINK_UP p 0).showReady.raise 0x0541 (dieIO p) [(1, p)])) ∧
    exec (.commandPortLinkUp p) s = .next (if s.inService (dieIO p) then (s.wr F.HST_PORT_LINK_UP p 1).showReady.rewrite else s) ∧
    (s.bit F.HST_PORT_LINK_UP (s.rd F.HST_CTRL_ACTIVE) = false → s.cmd.noPort = false → exec .portRetrainTimeout s = .next (s.switchPort 0)) ∧
    (∀ lane : Fin 128, exec (.ucieLaneRepair p lane) s =
      .next ((s.bump F.HST_PORT_REPAIRED p 1).raise 0x0542 (dieIO p) [(1, p), (1, lane)])) ∧
    (∀ (r : Fin 32) (n : BitVec 32) u, u = s.setCmd { s.cmd with watch := tput (fun _ => 0) s.cmd.watch r n.toNat } →
      (u.ringBad r = false → exec (.watchLineWrite r n) s = .next u) ∧
      (u.bit F.RNG_CMD_CFG_ENABLE r = true → u.hostOpen = true → u.ringBad r = true → exec (.watchLineWrite r n) s = .next (u.ringError r))) ∧
    (∀ (c : Fin 33) (n : BitVec 32),
      exec (.headLineWrite c n) s = .next (s.setCmd { s.cmd with head := tput (fun _ => 0) s.cmd.head c n.toNat })) ∧
    (∀ c : Fin 32, 0 < tget (fun _ => 0) s.cmd.unsig c → s.rd F.RNG_CQ_CFG_COAL_US c ≠ 0 → s.bit F.RNG_CQ_CFG_MSIX_EN c = true → s.feature 1 = true →
      exec (.msixCoalesceTimer c) s =
        .next ((s.setCmd { s.cmd with unsig := tput (fun _ => 0) s.cmd.unsig c 0 }).sendMsix (s.rd F.RNG_CQ_CFG_VECTOR c))) ∧
    (∀ e l, s.evts = e :: l → s.hostOpen = true → s.bit F.EVT_CFG_ENABLE = true → s.unread 32 < s.evtSize → s.ddrOk s.evtHead 64 = true →
      ∀ n, n = tget (fun _ => 0) s.cmd.written 32 → s.ddrOk (s.evtBase + 32 * (n % s.evtSize)) 32 = true →
      ∀ u : State, u = ((({ s with evts := l } : State).setCmd { s.cmd with written := tput (fun _ => 0) s.cmd.written 32 ((n + 1) % 2 ^ 32) }).hostStore
          (s.evtBase + 32 * (n % s.evtSize)) (eventBytes e (phaseOf n s.evtSize))).slotFreed →
      exec .eventDeliver s = .next (if s.bit F.EVT_CFG_MSIX_EN = true ∧ s.feature 1 = true then u.sendMsix (s.rd F.EVT_CFG_VECTOR) else u)) ∧
    (∀ a : BitVec 48,
      (∀ b, b = a.toNat / 64 * 64 → s.hdmOk p b = true → exec (.cxlMemRead p a) s =
        .next (if (s.liveOk b 64 = false ∨ s.areaReset b 64 = true) ∨ (s.cxlWaits p b 64 false = false ∧ s.anyBad b 64 = true) then
            s.setCmd { s.cmd with cxl := s.cmd.cxl ++ [(List.replicate 64 0, true)] }
          else if s.cxlWaits p b 64 false then s
          else s.setCmd { s.cmd with cxl := s.cmd.cxl ++ [(s.bytes b 64, false)] })) ∧
      (∀ data : List Byte, s.hdmOk p a.toNat = true → data ≠ [] → a.toNat % 64 + data.length ≤ 64 →
        exec (.cxlMemWrite p a data) s = .next (
          if s.liveOk a.toNat data.length = false ∨ s.areaReset a.toNat data.length = true then s.bump F.HST_PORT_DROPPED p 1
          else if s.cxlWaits p a.toNat data.length true then s else s.store a.toNat data)))

/-- The ring states of R159: PARKED, SEEK, LOCKED and HOLD, and the row each condition takes. A ring in its state before: PARKED
with locking enabled and its region in range goes to SEEK with a cleared attempt count, at the code commissioned for it where
there is one; SEEK goes to PARKED where light is lost or the region out of range, else to LOCKED, or counts an attempt, the
third in a row retiring it where no repair of its unit waits; light lost takes LOCKED to HOLD; a detuning loss takes LOCKED to
SEEK with LOCK_LOST and withdraws its lane, which becomes suspect; a HOLD request takes LOCKED to HOLD, which ends in LOCKED on
release, in SEEK with the lane withdrawn when 200 µs have passed, and in PARKED after 20 ms without light. The lock loop of an
endpoint takes for a ring in SEEK or LOCKED the heater code (up to 4,000) and the junction trim (up to 6 °C), and then shows the
least headroom of the endpoint's LOCKED rings: below 4 °C it raises HEADROOM_LOW and asks for a cap. (R158, R159, R160, R162,
R284) -/
def Obligations.RingTransitions : Prop :=
  ∀ (s : State) (r : Ring), let k := ringKey r
    let g := s.ring k
    (g.st = 0 → s.fab.up = true → exec (.ringSeekBegin r) s =
      .next (if s.inRange r then s.setRing k { g with st := 1, fails := 0, dark := false, lift := tget (fun _ => 0) s.fab.codes k } else s)) ∧
    (g.st = 1 →
      exec (.ringLightLost r) s = .next (s.setRing k { g with st := 0, fails := 0, dark := true }) ∧
      (s.inRange r = false → ∀ u, u = s.setRing k { g with st := 0, fails := 0, dark := false } →
        exec (.ringSeekLock r) s = .next u ∧ exec (.ringSeekAttemptFail r) s = .next u) ∧
      (s.inRange r = true →
        exec (.ringSeekLock r) s = .next ((s.setRing k { g with st := 2, fails := 0, dark := false, seen := false }).ringChanged r false) ∧
        (g.fails < 2 → exec (.ringSeekAttemptFail r) s = .next (s.setRing k { g with fails := g.fails + 1 })) ∧
        (2 ≤ g.fails → (s.unit (s.place r).unit).jobs = [] → exec (.ringSeekAttemptFail r) s = .next (s.retireRing r)))) ∧
    (g.st = 2 →
      exec (.ringLightLost r) s = .next ((s.setRing k { g with st := 3, dark := true }).ringChanged r false) ∧
      ((s.place r).chan = none → (s.place r).fab = true → exec (.ringDetuneLoss r) s =
        .next ((s.setRing k { g with st := 1, fails := 0 }).raise 0x0301 (epDie (s.place r).ep)
          [(1, (s.place r).ep), (1, (s.place r).plane), (1, 16 * (s.place r).spare.getD 0)] |>.ringChanged r true)) ∧
      (∀ c n, (s.place r).chan = some c → (s.place r).fab = true → s.laneAt (ringPair (s.place r).ep c (s.place r).rx) (s.place r).plane c = some n →
        exec (.ringDetuneLoss r) s = .next ((((s.setRing k { g with st := 1, fails := 0 }).raise 0x0301 (epDie (s.place r).ep)
          [(1, (s.place r).ep), (1, (s.place r).plane), (1, c)]).markSuspect (ringPair (s.place r).ep c (s.place r).rx * 32 + n)).ringChanged r true)) ∧
      (∀ c, (s.place r).chan = some c → exec (.ringHoldRequest r) s = .next (let u := (s.holdPart r true).setRing k { g with st := 3, hold := true }
        if (s.place r).fab then u.ringChanged r false else u.linkPause (ringLink (s.place r).port c (s.place r).rx) 0))) ∧
    (g.st = 3 →
      (∀ c, (s.place r).chan = some c → (s.place r).fab = true → exec (.ringHoldRelease r) s =
        .next (((s.holdPart r false).setRing k { g with st := 2, hold := false, dark := false }).ringChanged r false)) ∧
      exec (.ringHoldExpire r) s =
        .next (((s.holdPart r false).setRing k { g with st := 1, fails := 0, hold := false, dark := false }).ringChanged r true) ∧
      (g.dark = true → exec (.ringHoldPark r) s = .next ((s.setRing k { g with st := 0, hold := false }).ringChanged r true))) ∧
    (∀ (ep : Fin 16) (m : RingMeas) u,
      (m.ring = r ∧ (∃ pl pos rx, r = .fab ep pl pos rx) ∧ (g.st = 1 ∨ g.st = 2) ∧
          u = s.setRing k { g with lift := min 4000 m.heater.toNat, trim := min 6000 m.trim.toNat, seen := true }) ∨
        ((∀ e pl pos rx, m.ring = .fab e pl pos rx → e ≠ ep) ∧ u = s) →
      (u.headroomOf ep = none → exec (.ringLockLoopUpdate ep [m]) s = .next u) ∧
      (∀ h v, u.headroomOf ep = some h → v = u.wr F.FAB_HEADROOM_HEADROOM ep h →
        (16 ≤ h → h < 24 → exec (.ringLockLoopUpdate ep [m]) s = .next v) ∧
        (h < 16 → ep.val < 12 → v.bit F.FAB_HEADROOM_LOW ep = false →
          ∀ w, w = (v.wr F.FAB_HEADROOM_LOW ep 1).raise 0x0309 (epDie ep) [(1, ep), (1, h)] →
          exec (.ringLockLoopUpdate ep [m]) s = .next { w with fab := { w.fab with capAsk := w.fab.capAsk.add ep } })))

/-- Substitutions, lane tests, lane quality windows and feed-forward. SUBSTITUTION_START begins the first waiting repair of its
plane or port. A spare that has reached its channel and locked starts the lane test; one that failed is retired and the next
step of R163 applies. A lane test passes by the figures of R173. Where it passes it ends the repair under test on its lane, or
waits with its result while a ring of the unit is in HOLD; a test of a reserve slot that fails makes the slot unusable; a lane
with no repair that fails is withdrawn and loses its transmit ring, or its receive filter where only that one's detuning is over
10 pm; a loopback test shows in LOOP_OK. After start-up a window notes both detunings; a lane in service over a threshold
becomes suspect, with its event, and a suspect lane whose figures all meet their clear levels is so no longer; a window of a
lane in neither case changes nothing. FEED_FORWARD_UPDATE takes the change of the die's power since the last one, lowers the
endpoint's target by GAIN, times 5/4 under CONSERVATIVE, of it, and changes nothing but the feed-forward values and ring
heaters; it changes nothing where feed-forward is off. (R161, R163, R164, R165, R173, R174) -/
def Obligations.RingRepairs : Prop :=
  ∀ (s : State) (u : SubPart), let k := unitKey u
    let x := s.unit k
    exec (.substitutionStart u) s = .next (State.repairNext k (x.jobs.length + 1) s) ∧
    (∀ j l, x.jobs = j :: l → j.step = 1 → x.held = [] →
      exec (.spareRetuneDone u true) s = .next ((s.setRing (unitSpare k j.rx j.spare)
        { s.ring (unitSpare k j.rx j.spare) with st := 2, fails := 0 }).setUnit k { x with jobs := { j with step := 2 } :: l }) ∧
      exec (.spareRetuneDone u false) s = .next (s.spareFailed k j)) ∧
    (∀ (t : LaneId) (m : TestRead) n j, (∀ p, t ≠ .loop p) → s.testJob t = some (n, j) → exec (.laneTestDone t m) s =
      .next (if (s.unit n).held = [] then
          (if m.errors ≤ 10 ∧ 24 ≤ m.eye ∧ m.detuneTx ≤ 10 ∧ m.detuneRx ≤ 10 then s.repairDone n j
            else if j.reserve then s.reserveFailed n j else s.spareFailed n j)
        else s.setUnit n { s.unit n with jobs := { j with step :=
          if m.errors ≤ 10 ∧ 24 ≤ m.eye ∧ m.detuneTx ≤ 10 ∧ m.detuneRx ≤ 10 then 3 else 4 } :: (s.unit n).jobs.drop 1 })) ∧
    (∀ (a b : Fin 16) (n : Fin 32) (m : TestRead), a ≠ b → s.testJob (.pair a b n) = none → exec (.laneTestDone (.pair a b n) m) s =
      .next (if m.errors ≤ 10 ∧ 24 ≤ m.eye ∧ m.detuneTx ≤ 10 ∧ m.detuneRx ≤ 10 then
          (s.setUntested (16 * a.val + b.val) n false).refreshPair (16 * a.val + b.val)
        else ((s.setUntested (16 * a.val + b.val) n true).refreshPair (16 * a.val + b.val)).retireRing
          (s.laneRing (.pair a b n) (decide (m.detuneTx ≤ 10) && decide (10 < m.detuneRx))))) ∧
    (∀ (p : Fin 24) (m : TestRead) u, u = (if m.errors ≤ 10 ∧ 24 ≤ m.eye ∧ m.detuneTx ≤ 10 ∧ m.detuneRx ≤ 10 then s.wr F.PRT_PORT_LOOP_OK p 1
        else (s.wr F.PRT_PORT_LOOP_OK p 0).raise 0x0506 (dieIO (p / 6)) [(1, p)]) →
      u.testJob (.loop p) = none → exec (.laneTestDone (.loop p) m) s = .next u) ∧
    (∀ (y : Fin 768) (fast slow : Quality), s.linkState y = 6 → s.bit F.GLB_START_DONE = true →
      ∀ v, v = (s.noteDetune (s.laneRing (.link y) false) fast.detuneTx).noteDetune (s.laneRing (.link y) true) fast.detuneRx →
      (v.fab.suspect.contains (laneKey (.link y)) = false → ∀ f, v.worstFigure fast = some f →
        exec (.laneQualityWindow (.link y) fast slow) s =
          .next ((v.markSuspect (laneKey (.link y))).raise 0x050B (dieIO (y / 192)) (linkData y ++ [(1, f)]))) ∧
      (v.fab.suspect.contains (laneKey (.link y)) = true → v.figuresClear slow = true →
        exec (.laneQualityWindow (.link y) fast slow) s = .next { v with fab := { v.fab with suspect := v.fab.suspect.del (laneKey (.link y)) } })) ∧
    (∀ (n : Fin 12) (p : BitVec 16), s.bit F.GLB_START_DONE = true → s.bit F.FAB_CTRL_FF_ENABLE = true → s.bit F.STK_PKG_FF_TELEMETRY = true →
      ∃ t, exec (.feedForwardUpdate n p) s = .next t ∧ t.fab.ffPower = tput (fun _ => 0) s.fab.ffPower n p.toNat ∧
        t.fab.ffTarget = tput (fun _ => 0) s.fab.ffTarget n (tget (fun _ => 0) s.fab.ffTarget n -
          (s.rd F.FAB_FF_GAIN n * (if s.rd F.FAB_CTRL_LOCK_PRESET = 1 then 1250 else 1000) : Nat) *
            ((p.toNat : Int) - tget (fun _ => 0) s.fab.ffPower n)) ∧
        t = { s with fab := { s.fab with ffPower := t.fab.ffPower, ffTarget := t.fab.ffTarget, ffOut := t.fab.ffOut, rings := t.fab.rings } }) ∧
    (∀ (n : Fin 12) (p : BitVec 16), s.bit F.FAB_CTRL_FF_ENABLE = false → exec (.feedForwardUpdate n p) s = .next s)

/-- A flit time sends one flit or an idle one, and a codeword received is counted, delivered or dropped. FLIT_SLOT of a pair with
lanes up takes the next lane in rotation, after the flits of a disabled multicast have joined the unicast queue: a lane a
multicast of this sender has taken sends nothing more; in a slot kept for multicast flits the first that is ready goes, else a
NULL flit; in any other the first flit of the control channel that holds a credit, else of the others in turn, else a NULL flit.
FLIT_SLOT of a link on a marker lane or not in training does nothing. The 1,088 levels received on a lane are its codeword: one
of a pair that does not decode counts a lost flit; of a NULL flit only takes the credits it returns; of the expected number
delivers it; of a later number holds it; a link that does not decode one counts LOST. FLIT_LOSS_TIMEOUT skips to the lowest held
number, counts the gap as lost and owes its credits. CREDIT_IDLE_RETURN sends a control flit where credits are owed.
MCAST_WAIT_RESERVE keeps the next slot of every member pair for the waiting multicast flit, where each has a lane. (R168, R169,
R170, R171, R264, R267, R278, R279, R284) -/
def Obligations.FlitsMove : Prop :=
  ∀ (s : State) (i j : Fin 16), let k := 16 * i.val + j.val
    let back := 16 * j.val + i.val
    let t := s.tx k
    let r := s.rx k
    (∀ a l ls y, a = (groupsOf j).foldl (fun (b : State) g => [0, 1, 2, 3].foldl (fun (c : State) vc => c.mcastConvert i g vc) b) s →
      a.lanesUp k = l :: ls → y = a.tx k → ∀ lane, lane = (l :: ls).getD (y.lane % (l :: ls).length) 0 →
      (y.taken.contains lane = true → exec (.flitSlot (.pair i j)) s = .next (a.setTx k { y with lane := y.lane + 1, taken := y.taken.del lane })) ∧
      (y.taken.contains lane = false → ∀ u due, u = a.setTx k { y with lane := y.lane + 1, reserved := [] } →
        due = y.reserved.filter (fun g => (groupMembers (g / 4) i).all (fun m => !(a.lanesUp (16 * i.val + m)).isEmpty)) →
        (∀ g, due.find? (fun g => u.mcastReady i (g / 4) (g % 4) lane) = some g →
          exec (.flitSlot (.pair i j)) s = .next (u.mcastSend i j (g / 4) (g % 4) lane)) ∧
        (due ≠ [] → due.find? (fun g => u.mcastReady i (g / 4) (g % 4) lane) = none →
          exec (.flitSlot (.pair i j)) s = .next (u.emit (.pair i j) lane i j y.null nullFlit)) ∧
        (due = [] →
          (∀ v, u.pairTry i j lane 3 = some v → exec (.flitSlot (.pair i j)) s = .next v) ∧
          (u.pairTry i j lane 3 = none → firstSend (u.pairTry i j lane) (vcOrder y.turn) = none →
            exec (.flitSlot (.pair i j)) s = .next (u.emit (.pair i j) lane i j y.null nullFlit)) ∧
          (u.pairTry i j lane 3 = none → ∀ v w, firstSend (u.pairTry i j lane) (vcOrder y.turn) = some (v, w) →
            exec (.flitSlot (.pair i j)) s = .next (w.setTx k { w.tx k with turn := (vcOrder 0).idxOf v + 1 }))))) ∧
    (∀ (x : Fin 768), x.val % 32 = 0 ∨ s.linkState x < 2 → exec (.flitSlot (.link x)) s = .next s) ∧
    (∀ lv, decodeFlit (laneBytes lv) = none → exec (.flitReceive (.pair i j) lv) s = .next (s.setRx k { r with lost := r.lost + 1 })) ∧
    (∀ lv f n h vcs, decodeFlit (laneBytes lv) = some (f, n) → h = hdrOf (leNat (f.take 8)) → vcs = h.stream % 8 * 4 + h.vc →
      (h.type = 0 → exec (.flitReceive (.pair i j) lv) s = .next (s.takeCredits back h)) ∧
      (h.type ≠ 0 → seqDist (tget (fun _ => 0) r.next vcs) h.seq = 0 → exec (.flitReceive (.pair i j) lv) s =
        .next (State.deliverRun k back vcs r.held.length ((s.takeCredits back h).deliver k back vcs h.seq f))) ∧
      (h.type ≠ 0 → 0 < seqDist (tget (fun _ => 0) r.next vcs) h.seq → seqDist (tget (fun _ => 0) r.next vcs) h.seq < 32768 →
        exec (.flitReceive (.pair i j) lv) s = .next ((s.takeCredits back h).setRx k { r with held := r.held ++ [⟨vcs, h.seq, f⟩] }))) ∧
    (∀ (x : Fin 768) lv, x.val % 32 ≠ 0 → s.linkState x = 6 → decodeFlit (laneBytes lv) = none → rsDecode (scramble ((laneBytes lv).map (·.toNat))) ≠ [] →
      exec (.flitReceive (.link x) lv) s = .next ((s.setRx (linkKey x) { s.rx (linkKey x) with bad := 0 }).bump F.PRT_LINK_LOST x 1)) ∧
    (∀ (vc : Fin 4) (st : Fin 8) h l m, r.held.filter (fun e => e.vc == st.val * 4 + vc.val) = h :: l → ∀ nx, nx = tget (fun _ => 0) r.next (st.val * 4 + vc.val) →
      m = (l.map (fun e => seqDist nx e.seq)).foldl min (seqDist nx h.seq) →
      exec (.flitLossTimeout (.pair i j) vc st) s = .next (State.deliverRun k back (st.val * 4 + vc.val) r.held.length
        ((s.setRx k { r with next := tput (fun _ => 0) r.next (st.val * 4 + vc.val) ((nx + m) % 65536), part := tput (fun _ => []) r.part (st.val * 4 + vc.val) [], lost := r.lost + m }).oweCredits back vc m))) ∧
    (∀ l ls, s.lanesUp k = l :: ls → t.oweOf t.oweVc ≠ 0 → t.grants 3 = true →
      exec (.creditIdleReturn i j) s =
        .next ((s.setTx k { t with lane := t.lane + 1 }).emit (.pair i j) ((l :: ls).getD (t.lane % (l :: ls).length) 0) i j 3 ⟨8, 0, 240, 0, []⟩)) ∧
    (∀ (g : Fin 7) (vc : Fin 4), s.mcastQueue i g vc ≠ [] → (∀ m ∈ groupMembers g i, s.lanesUp (16 * i.val + m) ≠ []) → exec (.mcastWaitReserve i g vc) s = .next ((groupMembers g i).foldl (fun (a : State) m =>
      a.setTx (16 * i.val + m) { a.tx (16 * i.val + m) with reserved := (a.tx (16 * i.val + m)).reserved.add (g * 4 + vc) }) s))

/-- Tap samples, level updates, advisories, dark lines and module polls of a laser module. A tap sample enters its source's record
in front; where the active source meets no emergency condition, or the source is not the active one and the module is not in
EMERGENCY, nothing else changes; where it meets one, a module in RUN or SWITCHING whose other source is ready goes to EMERGENCY
and one in SINGLE goes DARK, as does one in EMERGENCY whose other source loses light. A level update takes L over the last
second, writes L − P0 of both sources, then judges advisories and, after start-up, the switch level. An ADVISORY ends where L is
at the clear level or above. A dark line of the active source, while its short level is above the switch level and its channel's
rings and filters are without light, is recorded with LINE_DARK. With an ACTIVE watch room a poll is logged and sets PRESENT and
readiness; a ready module that shows a fault, or has been silent for 1 s, raises SUPPLY_MODULE_FAULT. Without one it does
nothing. (R183, R188, R189, R191, R196, R200) -/
def Obligations.LaserLevels : Prop :=
  ∀ (s : State) (m : Fin 12), let l := s.laser m
    (∀ (b : Bool) (x : Int) (n : Lamp) (u : State), n = { l.lamp (b2n b) with samples := (x :: (l.lamp (b2n b)).samples).take 100000 } →
      u = s.setLaser m (l.setLamp (b2n b) n) →
      (b2n b = u.activeLamp m → u.emergency n = none → exec (.laserTapSample m b x) s = .next u) ∧
      (b2n b ≠ u.activeLamp m → exec (.laserTapSample m b x) s = .next (if u.modState m = 2 ∧ n.lost then u.darkModule m 0x0409 else u)) ∧
      (∀ c, b2n b = u.activeLamp m → u.emergency n = some c →
        (u.modState m = 0 ∨ u.modState m = 1 →
          exec (.laserTapSample m b x) s = .next (if u.lampReady m (1 - b2n b) then u.startEmergency m c else u.settleLaser m)) ∧
        (u.modState m = 3 → exec (.laserTapSample m b x) s = .next (u.darkModule m 0x0409)) ∧
        (u.modState m = 2 ∨ 4 ≤ u.modState m → exec (.laserTapSample m b x) s = .next u))) ∧
    (∀ v, v = ((((s.setLaser m { l with a := l.a.update, b := l.b.update }).wr F.LSR_LEVEL_A_DELTA m l.a.update.delta).wr F.LSR_LEVEL_B_DELTA m
        l.b.update.delta).advise m 0).advise m 1 →
      exec (.laserLevelUpdate m) s = .next (if s.bit F.GLB_START_DONE then v.settleLaser m else v)) ∧
    (∀ (b : Bool) p, (l.lamp (b2n b)).p0 = some p → (l.lamp (b2n b)).advisory = true → 0 < (l.lamp (b2n b)).level.2 →
      (p - s.adv + 50) * (l.lamp (b2n b)).level.2 ≤ (l.lamp (b2n b)).level.1 →
      exec (.laserAdvisoryClearTimer m b) s = .next (((s.setLaser m (l.setLamp (b2n b) { l.lamp (b2n b) with advisory := false })).raise
        0x0402 (laserDie m) [(1, m)]).settleLaser m)) ∧
    (∀ (c : Fin 32) p, (l.lamp (s.activeLamp m)).p0 = some p → (l.lamp (s.activeLamp m)).short ≠ [] →
      avgLe (l.lamp (s.activeLamp m)).short (p - s.sw) = false → s.lineDark m c = true →
      (l.lamp (s.activeLamp m)).dark.contains c.val = false → s.modState m ≠ 4 → exec (.lineDarkDetect m c) s =
        .next (((s.setLaser m (l.setLamp (s.activeLamp m) { l.lamp (s.activeLamp m) with dark := (l.lamp (s.activeLamp m)).dark.add c })).raise
          0x0408 (laserDie m) [(1, m), (1, c)]).settleLaser m)) ∧
    (∀ r : CmisRead, (s.activeRoom = none → exec (.cmisPoll m r) s = .next s) ∧ (l.ready = true → s.activeRoom ≠ none →
      (r.answered = true → ∀ v, v = (s.wr F.LSR_MOD_PRESENT m 1).setLaser m
          { l with ready := r.moduleReady && !r.fault, heard := s.now + 1, log := l.log ++ [(s.now, r)] } →
        exec (.cmisPoll m r) s = .next (if r.moduleReady && !r.fault then v.settleLaser m else (v.raise 0x040C (laserDie m) [(1, m)]).settleLaser m)) ∧
      (r.answered = false → ∀ v, v = (s.wr F.LSR_MOD_PRESENT m 0).setLaser m
          { l with ready := decide (s.now + 1 < l.heard + nsSec), log := l.log ++ [(s.now, r)] } →
        exec (.cmisPoll m r) s = .next (if s.now + 1 < l.heard + nsSec then v.settleLaser m else (v.raise 0x040C (laserDie m) [(1, m)]).settleLaser m))))

/-- Source switch-over, emergency restore, removal, insertion and commissioning of a laser module. A switch-over that waits goes on
to its next group once it may. A drained group of a removal is switched off its light and the next one drains, with REMOVE_OK
after the last; of a switch-over it is switched to the other source. A verified group is restored; after the last the sources
change places, SWITCHED is raised and the module is in RUN again; where no lane passed, the groups return and the module is
SINGLE. An emergency restored makes the module SINGLE on the other source; one where every lane failed makes it DARK. A removed
module, or one whose sources both lose light, goes DARK; one inserted into a DARK position is commissioned by the ACTIVE watch
room. Commissioning takes the sources its tests found lit and, unless the module stays DARK, tests the lanes on the active one,
retiring what fails. (R192, R193, R194, R195, R196, R197) -/
def Obligations.LaserSwitching : Prop :=
  ∀ (s : State) (m : Fin 12), let l := s.laser m
    (l.phase = 1 → exec (.switchOverStart m) s = .next (s.nextGroup m)) ∧
    (∀ g r, l.todo = g :: r →
      (l.phase = 2 → s.modState m ≠ 5 → ∀ u, u = s.switchGroup m g l.dest →
        exec (.switchGroupDrained m) s = .next (u.setLaser m { u.laser m with phase := 3 })) ∧
      (l.phase = 2 → s.modState m = 5 → ∀ u v, u = s.switchGroup m g (b2n (l.sel.contains g)) → v = u.setLaser m { u.laser m with todo := r, phase := 0 } →
        exec (.switchGroupDrained m) s = .next (if r = [] then v.wr F.LSR_MOD_REMOVE_OK m 1 else v.nextGroup m)) ∧
      (l.phase = 3 → s.modState m = 1 → ∀ failed : List LaneId, exec (.switchGroupVerified m failed false) s = .next (s.failSwitch m) ∧
        ∀ u v, u = s.verifyGroup m g failed → v = u.setLaser m { u.laser m with todo := r, phase := 0 } →
          exec (.switchGroupVerified m failed true) s = .next (if r = [] then (((v.switched m).setModState m 0).settleLaser m) else v.nextGroup m))) ∧
    (s.modState m = 2 →
      ∀ failed : List LaneId, exec (.emergencyRestoreDone m failed true) s =
        .next ((((((laserGroups m).foldl (fun (t : State) g => t.restoreGroup m g) s).failLanes failed).switched m).setModState m 3).raise
          0x0407 (laserDie m) [(1, m)]) ∧
      exec (.emergencyRestoreDone m failed false) s = .next (s.darkModule m 0x0409)) ∧
    (∀ u, u = (s.wr F.LSR_MOD_PRESENT m 0).darkModule m 0x040A →
      exec (.laserModuleRemoved m true) s = .next ((u.setLaser m { log := (u.laser m).log }).showLaser m)) ∧
    exec (.laserModuleRemoved m false) s = .next ((s.darkModule m 0x0409).showLaser m) ∧
    (s.modState m = 4 → s.activeRoom ≠ none →
      exec (.laserModuleInserted m) s = .next ((s.wr F.LSR_MOD_PRESENT m 1).setLaser m { l with commissioning := true }) ∧
      (l.commissioning = true → ∀ a b u, u = s.commission m a.isSome b.isSome →
        exec (.commissioningDone m (if s.rd F.LSR_MOD_PREFER m = 0 then a else b) (if s.rd F.LSR_MOD_PREFER m = 0 then b else a)) s =
          .next (if u.modState m = 4 then u
            else ((if u.activeLamp m = 0 then a else b).getD []).foldl (fun (t : State) e => t.judgeTest e.1 e.2 true) (u.passLanes m))))

/-- Home accesses, patrol scrubs, refresh bands and page retirement. A request to a mapped, live address is applied at its home: a
read answers its bytes with the poisoned units among them, a write stores, after the errors its units show are judged; it waits
in band H3, while its page retires, and a write behind earlier ones to its line. A scrub of a stack in service outside H3 judges
its unit by the sums of R214, in which a poisoned unit adds its syndrome: none, a correctable symbol, which is XORed and written
back, or uncorrectable. A scrub of SRAM in service counts a single error and poisons the unit of a double error in the direct
part. A temperature reading sets TEMP and the band of R217, raising the change. The next candidate of a stack begins retirement
while it has spare pages; at 4,096 retired pages it stays, with RETIRE_FULL once. A finished retirement judges the errors its
copy met, raises PAGE_RETIRED, counts the page and resumes what waited. (R208, R210, R211, R214, R215, R216, R217, R218) -/
def Obligations.MemoryHomes : Prop :=
  ∀ (s : State),
    (∀ (a : BitVec 42) (op : HomeOp) errs, s.mapOk a.toNat (max (homeLen op) 1) (isWrite op) = true → s.liveOk a.toNat (max (homeLen op) 1) = true →
      (s.homeWaits a.toNat (homeLen op) (isWrite op) = true → exec (.homeAccess a op errs) s =
        .next { s with mem := { s.mem with waiting := s.mem.waiting ++
          [⟨a.toNat, op, errs, if isWrite op then s.queuedOn a.toNat (homeLen op) else []⟩] } }) ∧
      (s.homeWaits a.toNat (homeLen op) (isWrite op) = false →
        exec (.homeAccess a op errs) s = .next ((s.homeErrs a.toNat (homeLen op) errs).homeApply a.toNat op))) ∧
    (∀ a n, s.areaBusy a n = true → s.homeWaits a n false = true ∧ s.homeWaits a n true = true) ∧
    (∀ a n, (∃ st off, s.locate a = .hbm st off ∧ s.bad (hbmUnitAt st (off / 32)) = false ∧ off % 32 + n ≤ 32) ∨
        (∀ st off, s.locate a ≠ .hbm st off) → s.homeErrs a n [] = s) ∧
    (∀ (a : Nat) (d : List Byte), s.homeApply a (.write d) = s.store a d) ∧
    (∀ (st : Fin 12) (unit : BitVec 32), s.bit F.MEM_HBM_PRESENT st = true → s.bit F.MEM_HBM_RETIRED st = false → s.rd F.MEM_HBM_BAND st ≠ 3 →
      ∀ err s0 s1, s0 = (rsSyndrome err).1 ^^^ (if s.bad (hbmUnitAt st unit.toNat) then 0xA5 else 0) → s1 = (rsSyndrome err).2 →
      (s0 = 0 → s1 = 0 → exec (.hbmPatrolScrub st unit err) s = .next s) ∧
      (∀ j, rsSymbol s0 s1 = some j → exec (.hbmPatrolScrub st unit err) s = .next
        (((s.unmark (hbmUnitAt st unit.toNat)).xorUnit st unit.toNat (err ++ [(Fin.ofNat 34 j, s0)])).hbmCorrected st unit.toNat j s0 s1 true true)) ∧
      ((s0 ≠ 0 ∨ s1 ≠ 0) → rsSymbol s0 s1 = none →
        exec (.hbmPatrolScrub st unit err) s = .next (s.hbmUncorrectable st unit.toNat s0 s1))) ∧
    (∀ (d : Fin 12) (unit : BitVec 32), s.inService (dieSD d) = true → unit.toNat * 32 < 0x18000000 →
      ∀ old : Rate, old = tget (fun _ => {}) s.mem.sramRate d → ∀ u : State, u = { s with mem := { s.mem with sramRate := tput (fun _ => {}) s.mem.sramRate d.val (old.add nsHour s.now 1) } } →
        (old.add nsHour s.now 1).n ≤ 1000 → exec (.sramPatrolScrub (d.castLE (by decide)) unit false true) s = .next u ∧
      (∀ v : State, v = { s with mem := { s.mem with sramRate := tput (fun _ => {}) s.mem.sramRate d.val old } } → unit.toNat * 32 < s.directBytes d →
        exec (.sramPatrolScrub (d.castLE (by decide)) unit true false) s =
          .next (((v.mark (0x38000000000 + d * 0x20000000 + unit.toNat * 32)).drawn).raise 0x0602 (dieSD d)
            [(5, unit.toNat * 32), (2, v.freeVal.toNat % 65536), (1, 1)]))) ∧
    (∀ (st : Fin 12) (t : BitVec 8), s.bit F.MEM_HBM_PRESENT st = true → s.bit F.MEM_HBM_RETIRED st = false →
      ∀ old new, old = s.rd F.MEM_HBM_BAND st → new = max (bandFor t.toNat) (bandDown old t.toNat) →
      ∀ u, u = (s.wr F.MEM_HBM_TEMP st t.toNat).wr F.MEM_HBM_BAND st new →
      (new = old → exec (.hbmTempRead st t) s = .next u) ∧
      (new = 3 → new ≠ old → exec (.hbmTempRead st t) s = .next ((u.raise 0x0605 (dieSD st) [(1, old), (1, new)]).raise 0x0606 (dieSD st) [])) ∧
      (old = 3 → new ≠ old → exec (.hbmTempRead st t) s =
        .next ((u.raise 0x0605 (dieSD st) [(1, old), (1, new)]).raise 0x0607 (dieSD st) []).resumeWaiting)) ∧
    (∀ (st : Fin 12) k, s.mem.queue.find? (fun k => k / 2 ^ 25 == st.val) = some k → tget (fun _ => 0) s.mem.retiring st = 0 →
      (s.rd F.MEM_HBM_RETIRED_PAGES st < 4096 → exec (.pageRetireStart st) s = .next { s with mem := { s.mem with
        queue := s.mem.queue.erase k, retiring := tput (fun _ => 0) s.mem.retiring st (k % 2 ^ 25 + 1) } }) ∧
      (4096 ≤ s.rd F.MEM_HBM_RETIRED_PAGES st → s.mem.full.contains st.val = false → exec (.pageRetireStart st) s =
        .next ((({ s with mem := { s.mem with queue := s.mem.queue.erase k, full := s.mem.full.add st } } : State).raise 0x0604 (dieSD st) []).setCond 4 true))) ∧
    (∀ (st : Fin 12) p errs, tget (fun _ => 0) s.mem.retiring st = p + 1 → ∀ u, u = s.hbmRead st (p * 128) 128 errs →
      exec (.pageRetireDone st errs) s =
        .next ((({ u with mem := { u.mem with remap := u.mem.remap.add (pageKey st p), retiring := tput (fun _ => 0) u.mem.retiring st 0
                                              flashRows := u.mem.flashRows.add (pageKey st p) } } : State).bump F.MEM_HBM_RETIRED_PAGES st 1).raise
          0x0603 (dieSD st) [(5, p * 4096)]).resumeWaiting)

/-- A lower die closes, resets, returns and opens, or fails; bundle beats and NAKs. A silent OPEN die is reset by force; a CLOSING
one enters IN_RESET when it has drained or its time is over; a reset whose sequence is done enters RETURNING; when its checks
end it is OPEN or FAILED, FAILED too where a crossing of its die misses calibration. A good beat of data of a bundle with the
expected number is delivered after what its control word carries is taken, and the failed copy of a replayed one is compared
with it; one whose CRC fails has the number expected NAKed and its first copy is kept; a beat whose clock lane fails is a
sideband loss. A NAK counts a replay and sends the kept beats again from the number named, with VB_REPLAY_RATE at the first past
1,000 in a second. (R206, R233, R236, R250, R251, R252, R253, R255) -/
def Obligations.DieResets : Prop :=
  ∀ (s : State) (n : Fin 16),
    (s.dieState n = 0 → exec (.dieSilentTimeout n) s = .next (s.forcedReset n)) ∧
    (s.dieState n = 1 → (s.dieDrained n = true → exec (.dieClosingDrained n) s = .next (s.enterReset n)) ∧ exec (.dieClosingTimeout n) s = .next (s.enterReset n)) ∧
    (s.dieState n = 2 → exec (.dieResetSequenceDone n) s = .next (s.wr F.STK_DIE_STATE n 3)) ∧
    (s.dieState n = 3 → ∀ (tests : List (Fin 1536 × List (Fin 72))) (found : List StartTest) (cal : List Crossing),
      (n.val < 12 → cal.any (fun c => !crossingOk c && crossFixed c) = true → ∀ f, exec (.dieReturnChecksDone n f tests found cal) s = .next (s.dieFailed n 1)) ∧
      (12 ≤ n.val ∨ cal.any (fun c => !crossingOk c && crossFixed c) = false →
        exec (.dieReturnChecksDone n none tests found cal) s = .next (s.dieOpen n (tests.map (fun t => (t.1.val, t.2.map (·.val)))) found cal) ∧
        ∀ c : Fin 5, exec (.dieReturnChecksDone n (some c) tests found cal) s = .next (s.dieFailed n c))) ∧
    (s.dieState n = 0 → s.quadBusy n = false → s.forcedReset n = (s.resetStart n true).enterReset n) ∧
    (∀ (x : Fin 1536), s.bundleState x ≠ 2 → let b := s.bundle x
      (∀ (data : List Byte) (ctl crc : BitVec 16), exec (.bundleBeatReceive x data ctl crc false) s =
        .next ((s.setBundle x { b with side := b.side.add 0 }).plan x)) ∧
      (∀ (data : List Byte) (ctl crc : BitVec 16), crc16 (data ++ leBytes 2 ctl.toNat) = crc.toNat →
        ∀ u y last, u = s.takeWord x ctl.toNat → y = bundlePartner x → last = (ctl.toNat / 16384 == 2) →
        (ctl.toNat / 16384 = 0 ∨ ctl.toNat / 16384 = 3 ∨ ctl.toNat / 128 % 128 ≠ (u.bundle x).next →
          exec (.bundleBeatReceive x data ctl crc true) s = .next (u.turnBundle y)) ∧
        (ctl.toNat / 16384 = 1 ∨ ctl.toNat / 16384 = 2 → ctl.toNat / 128 % 128 = (u.bundle x).next →
          ((u.bundle x).nak = none → exec (.bundleBeatReceive x data ctl crc true) s = .next ((u.takeBeat x data last).turnBundle y)) ∧
          (∀ k f, (u.bundle x).nak = some k → (u.bundle x).failed = some f → exec (.bundleBeatReceive x data ctl crc true) s =
            .next (((((u.setBundle x { u.bundle x with nak := none, failed := none }).compareCopy x f data ctl.toNat).takeBeat x data last).turnBundle y))))) ∧
      (∀ (data : List Byte) (ctl crc : BitVec 16), crc16 (data ++ leBytes 2 ctl.toNat) ≠ crc.toNat →
        exec (.bundleBeatReceive x data ctl crc true) s =
          .next ((s.setBundle x (if b.nak.isSome then b else { b with nak := some b.next, failed := some (data, ctl.toNat) })).sendNak (bundlePartner x) b.next)) ∧
      (∀ (q : BitVec 6), ∃ prev u, u = ((s.setBundle x { b with replay := b.replay.add nsSec s.now 1, replayPrev := prev }).resendFrom x q.toNat).disturbDie
          (bundleStack x) ∧
        exec (.bundleNakReceive x q) s =
          .next (if (b.replay.add nsSec s.now 1).n = 1001 then u.raise 0x0705 (dieSD (bundleStack x)) [] else u)))

/-- Pauses of a vertical bundle: a spare is bound and trained, the width changes in a remap pause, a bundle pair retires, and
sending resumes. A bundle not RETIRED, not paused and not in a remap pause, with a worn data lane, pauses with its lowest-
numbered spare chosen; once drained, a spare that trains takes the lane's place with VB_LANE_SPARED, and one that fails (with
none left) leaves the bundle to narrow or retire. A resumed bundle takes up the lanes that waited. A planned narrowing or
retirement pauses the bundle, or the pair. A remap pause of a direction begins where some bundle has a plan and none is
substituting, and when drained worn lanes with a spare take it, the plans are applied, the beats held move to the new bundles
and the stack's counts are shown; where a pair is to leave, that waits until both directions have drained. The control word of
each change is sent, and a pause disturbs the die's cores. (R236, R237, R238, R242, R244) -/
def Obligations.BundleRepair : Prop :=
  ∀ (s : State) (x : Fin 1536), let b := s.bundle x
    (∀ l p q, s.bundleState x ≠ 2 → b.pause = 0 → s.inRemap x = false → b.worn = some l → l < 68 → s.spares x = p :: q →
      exec (.vbPauseSpare x) s =
        .next (((s.setBundle x { b with pause := 1, spare := some p, drained := false }).sendControl x 0).disturbDie (bundleStack x))) ∧
    (b.pause = 1 → exec (.vbSubstitutionDrained x) s = .next (s.setBundle x { b with drained := true })) ∧
    (∀ l p, b.worn = some l → b.spare = some p → b.pause = 1 → b.drained = true → l < 68 →
      exec (.vbSpareTrainDone x true) s = .next (((s.setBundle x { b with
        bind := b.bound.map (fun y => if y = l then p else y), pause := 4, drained := false, worn := none, spare := none }).showBundle x |>.sendControl x 3).raise 0x0701
          (dieSD (bundleStack x)) [(1, bundlePair x), (1, bundleDir x), (1, l), (1, p)]) ∧
      (p < 68 → ∀ u : State, u = ({ s with stack := { s.stack with wornFlash := s.stack.wornFlash.add (x * 128 + p) } } : State).setBundle x
          { b with bad := b.bad.add p, pause := 4, drained := false, spare := none } →
        ∀ v, v = (u.showBundle x).sendControl x 3 →
        exec (.vbSpareTrainDone x false) s = .next (if u.spares x = [] then v.plan x else v))) ∧
    (b.pause = 4 → exec (.vbResume x) s = .next (b.wait.foldl (fun (t : State) l => t.needLane x l) (s.setBundle x { b with pause := 0, wait := [] }) |>.turnBundle x)) ∧
    (b.pause = 0 → b.plan = 1 ∨ b.plan = 2 → exec (.vbPauseHalf x) s =
      .next (((s.setBundle x { b with pause := 2 }).sendControl x 1).disturbDie (bundleStack x))) ∧
    (b.pause = 0 → b.plan = 3 → ∀ u, u = s.setBundle x { b with pause := 3 } →
      exec (.vbPauseRetire x) s = .next ((((u.setBundle (bundlePartner x) { u.bundle (bundlePartner x) with pause := 3 }).sendControl x 2).sendControl
        (bundlePartner x) 2).disturbDie (bundleStack x))) ∧
    (∀ (n : Fin 12) (up : Bool), let k := 2 * n.val + b2n up
      (s.stack.remap.contains k = false → (dirBundles n (b2n up)).any (fun y => (s.bundle y).pause == 1) = false →
        (dirBundles n (b2n up)).any (fun y => (s.bundle y).plan != 0) = true →
        exec (.vbRemapPauseStart n up) s = .next (({ s with stack := { s.stack with remap := s.stack.remap.add k } } : State).disturbDie n)) ∧
      (s.stack.remap.contains k = true →
        (s.pairLeaves n = false → exec (.vbRemapDrained n up) s = .next (s.endRemap n [b2n up])) ∧
        (s.pairLeaves n = true → ∀ o, o = 2 * n.val + (1 - b2n up) → exec (.vbRemapDrained n up) s =
          .next (if s.stack.remap.contains o = true ∧ s.stack.remap.contains (24 + o) = true then s.endRemap n [0, 1]
            else { s with stack := { s.stack with remap := s.stack.remap.add (24 + k) } })))) ∧
    (∀ n ds xs u v, xs = List.flatMap (dirBundles n) ds → u = xs.foldl State.applyPlan (xs.foldl State.absorb s) →
      v = ds.foldl (fun (t : State) d => { t with stack := { t.stack with remap := (t.stack.remap.del (2 * n + d)).del (24 + 2 * n + d) } }) u →
      s.endRemap n ds = (((ds.map (fun d => (dirBundles n d).map (fun y => (y, s.bundle y)))).foldl State.moveHeld v).showStack n).cutCheck n)

/-- A port link trains from ALIGN over IDENT, TEST and CREDIT to ACTIVE, pauses, resumes and goes DARK. In ALIGN, alignment enters
IDENT and sends TRAIN_IDENT, which is sent again while in IDENT; a received TRAIN_IDENT that passes its check is acknowledged,
one that fails enters FAULT with WIRING_FAULT; TRAIN_ACK is remembered, and with both the link enters TEST; 10 ms in IDENT
return to ALIGN. A test that passes at both ends enters CREDIT; a first failure goes DARK and trains again; a fourth enters
FAULT. CREDIT_INIT makes a link in CREDIT ACTIVE and is kept in TEST. LANE_PAUSE takes ACTIVE to PAUSED, LANE_RESUME takes
PAUSED back to ACTIVE (PAUSED again where its port's group is drained) or, where its test failed, to DARK, and so does
PAUSED_TIMEOUT. (R284, R286, R287, R289) -/
def Obligations.LinksTrain : Prop :=
  ∀ (s : State) (x : Fin 768), let l := s.link x
    (s.linkState x = 2 → exec (.linkAligned x) s =
      .next (((s.setLinkState x 3).setLink x { l with ident := false, acked := false }).sendCtl x (s.identData 1 x))) ∧
    (s.linkState x = 3 →
      exec (.trainIdentResend x) s = .next (s.sendCtl x (s.identData 1 x)) ∧
      exec (.identTimeout x) s = .next ((s.setLinkState x 2).setLink x { l with ident := false, acked := false }) ∧
      ∀ f : TrainFields, (s.identOk x f = true → exec (.trainIdent x f) s =
          .next (((s.setLink x { l with ident := true, newBoot := f.bootId.toNat }).sendCtl x (trainBytes 2 f)).toTest x)) ∧
        (s.identOk x f = false → exec (.trainIdent x f) s = .next ((s.setLinkState x 8).raise 0x0503 (dieIO (x / 192)) (linkData x ++
          [(2, f.device.toNat), (1, f.port.toNat), (1, b2n f.spine + 2 * b2n f.multi), (1, f.version.toNat)]))) ∧
        exec (.trainAck x f) s = .next ((s.setLink x { l with acked := true }).toTest x)) ∧
    (s.linkState x = 4 →
      exec (.linkTestDone x true true) s = .next ((s.setLink x { l with fails := 0, steps := 0 }).toCredit x) ∧
      (∀ a b, (a && b) = false →
        (l.fails = 0 → exec (.linkTestDone x a b) s = .next (((s.setLink x { l with fails := 1 }).linkDark x).linkSettle x)) ∧
        (3 ≤ l.fails → exec (.linkTestDone x a b) s = .next ((s.setLink x { l with fails := l.fails + 1 }).linkFault x)))) ∧
    (∀ rq rs b c : BitVec 8,
      (s.linkState x = 5 → exec (.creditInit x rq rs b c) s = .next (s.linkActive x [rq.toNat, rs.toNat, b.toNat, c.toNat])) ∧
      (s.linkState x = 4 → exec (.creditInit x rq rs b c) s = .next (s.setLink x { l with initIn := some [rq.toNat, rs.toNat, b.toNat, c.toNat] }))) ∧
    (∀ r, s.linkState x = 6 → exec (.lanePause x r) s = .next ((s.setLinkState x 7).setLink x { l with pausedHere := false })) ∧
    (s.linkState x = 7 →
      exec (.laneResume x true) s = .next (((s.setLinkState x 6).setLink x { l with pausedHere := false }).linkShut x) ∧
      exec (.laneResume x false) s = .next ((s.linkDark x).linkSettle x) ∧ exec (.pausedTimeout x) s = .next ((s.linkDark x).linkSettle x))

/-- The mover commits or rewinds a received packet; egress queues take or discard; the throttle band falls at once and rises a step.
PACKET_COMMIT of the lane whose turn it is in the mover's rotation, with room in the commit FIFO for its oldest whole packet:
its credits return, and it enters the FIFO where it is whole and its CRC good, or is counted as rewound. EGRESS_ENQUEUE takes
the first packet that has reached the die and that the throttle lets pass into its queue where there is room, the band falling
to that of the new fill, with THROTTLE_STOP on entry to T4; a packet without room, and one over one flit toward another rack
below the bulk channel, is discarded and counted with EGRESS_DISCARD. Fill below a band's lower edge for its time raises the
band by one. The bands of a fill begin at START, at equal thirds up to STOP and at STOP, in sixteenths of 512 flits. (R279,
R281, R283) -/
def Obligations.PacketsAndEgress : Prop :=
  ∀ (s : State),
    (∀ (p : Fin 24) (lane : Fin 32) (vc : Fin 3) x e r, s.moverLane p vc = some lane.val → x = 32 * p.val + otherLane lane →
      ∀ b, b = ((s.link x).landing vc).swap vc lane → takePacket b.drain = some (e, r) →
      (s.fifo p vc).foldl (fun a (m : Nat × List Byte) => a + wordBytes m.2.length) 0 + wordBytes e.data.length ≤ 65536 →
      ∀ n, n = (e.data.length + 239) / 240 → ∀ v : State, v = { s with port := { s.port with mover := tput (fun _ => 0) s.port.mover (p * 4 + vc) lane } } →
      ∀ u, u = (((v.setLink x ((s.link x).setLanding vc (({ b with drain := r } : Landing).swap vc lane))).setRx (linkKey x)
        { s.rx (linkKey x) with used := tput (fun _ => 0) (s.rx (linkKey x)).used vc (tget (fun _ => 0) (s.rx (linkKey x)).used vc - n) }).oweCredits (linkKey x) vc n) →
      exec (.packetCommit p lane vc) s = .next (if e.status = 0 ∧ packetCrcOk e.data then u.setFifo p vc (s.fifo p vc ++ [(e.stream, e.data)])
        else u.bump F.PRT_DISCARD_REWIND (p / 6) 1)) ∧
    (∀ (p : Fin 24) (lane : Fin 32) (vc : Fin 3), s.moverLane p vc ≠ some lane.val → exec (.packetCommit p lane vc) s = .next s) ∧
    (∀ (q : Fin 4) o, (s.issuedTo q).find? (fun m => s.mayInject q m && s.pathOpen m.place (12 + q)) = some o →
      ∀ u, u = (s.setIssued q ((s.issuedTo q).erase o)).spendTokens q o →
      ((o.dst / 32 ≠ s.rd F.PRT_IDENT_RACK ∧ o.vc < 2 ∧ 1 < o.flits) ∨ u.egressRoom q o = false → ∀ v, v = u.bump F.PRT_DISCARD_EGRESS q 1 →
        exec (.egressEnqueue q) s = .next (v.raise 0x0508 (dieIO q) [(1, s.egressPort q o.dst), (2, o.dst), (2, v.rd F.PRT_DISCARD_EGRESS q)])) ∧
      (u.egressRoom q o = true → (o.dst / 32 = s.rd F.PRT_IDENT_RACK ∨ 2 ≤ o.vc ∨ o.flits ≤ 1) →
        ∀ v b, v = u.setEgress q o.dst o.vc (u.egress q o.dst o.vc ++ [o]) → b = v.bandOf (v.egressFill q o.dst) →
        exec (.egressEnqueue q) s = .next (if v.band q o.dst < b then
          (if b = 4 then (v.setBand q o.dst b).raise 0x0507 (dieIO q) [(1, s.egressPort q o.dst), (2, o.dst)] else v.setBand q o.dst b) else v))) ∧
    (∀ (q : Fin 4) (d : Fin 1024), s.bandOf (s.egressFill q d) < s.band q d → exec (.throttleBandRise q d) s = .next (s.setBand q d (s.band q d - 1))) ∧
    (∀ f, s.rd F.PRT_CTRL_START ≤ s.rd F.PRT_CTRL_STOP →
      (s.bandOf f = 0 ↔ f < 32 * s.rd F.PRT_CTRL_START) ∧ (s.bandOf f = 4 ↔ 32 * s.rd F.PRT_CTRL_STOP ≤ f))

/-- Probes, echoes, frames and the state of beacon time; its generator and 1PPS edges. On an ACTIVE link a probe is sent, and a
received probe is answered with an echo of its T1 and of T2, when it arrived; an echo gives the link offset (T2 − T1) − (T4 −
T3) and delay (T4 − T1) − (T3 − T2), and one from the parent in ACQUIRE or TRACK steers beacon time. A frame whose CRC-8 passes
and whose count disagrees is loaded by its die with BT_FRAME_ERROR. A failover from a generator that is lost to one in service
moves beacon time by 0 or 1 ns and sets GEN. Without exchanges a root, or a device without another parent, goes to HOLDOVER; 1 s
there raises BT_LOST. With PPS_EN an edge sets the root's trim within ±100 ppm (its value is free), and 2 s without one raise
PPS_LOST. (R288, R379, R380, R383, R384, R386) -/
def Obligations.BeaconTime : Prop :=
  ∀ (s : State) (x : Fin 768),
    (s.linkState x = 6 →
      exec (.btProbeSend x) s = .next (s.sendCtl x (leBytes 4 6)) ∧
      (∀ t1, exec (.btProbe x t1) s =
        .next (s.drawn.sendCtl x (leBytes 4 7 ++ [0, 0, 0, 0] ++ stampBytes t1 ++ List.replicate 7 0 ++ s.stamp))) ∧
      (∀ t1 t2 t3 t4 u, u = s.setLink x { s.link x with offset := (t2 - t1) - (t4 - t3), delay := (t4 - t1) - (t3 - t2) } →
        (s.btState ≠ 2 → s.btState ≠ 3 → exec (.btEcho x t1 t2 t3 t4) s = .next u) ∧
        (s.btState = 2 ∨ s.btState = 3 → s.linkPeer x = s.rd F.CLK_BT_STATUS_PARENT →
          exec (.btEcho x t1 t2 t3 t4) s = .next (u.exchange ((t2 - t1) - (t4 - t3)))))) ∧
    (∀ (d : Fin 33) (n : BitVec 64), s.btOf d ≠ n.toNat → exec (.btFrame d n (Config.crc8 (leBytes 8 n.toNat))) s =
      .next ((({ s with clk := { s.clk with die := tput (fun _ => 0) s.clk.die d ((n.toNat : Int) - s.bt) } } : State)).raise 0x0149 d [(1, d)])) ∧
    (∀ (g : Fin 3) a, s.bit F.CLK_BT_STATUS_GEN = false → s.genLost g = true → s.inService (dieIO 1) = true → ∀ u : State, u = { s with bt := (s.bt + b2n a) % 2 ^ 64 } →
      exec (.btGeneratorFailover g a) s = .next ((u.wr F.CLK_BT_STATUS_GEN 0 1).raise 0x0148 srcPkg [(1, g)])) ∧
    (s.btState = 2 ∨ s.btState = 3 → s.isRoot = true ∨ s.parentTo s.rootInUse = none →
      exec .btParentTimeout s = .next ((s.wr F.CLK_BT_STATUS_STATE 0 4).raise 0x0145 srcPkg [])) ∧
    (∀ p, s.btState = 2 ∨ s.btState = 3 → s.isRoot = false → s.parentTo s.rootInUse = some p → p ≠ s.rd F.CLK_BT_STATUS_PARENT →
      exec .btParentTimeout s = .next (s.takeParent p)) ∧
    (s.btState = 4 → exec .btHoldoverTimeout s = .next (s.raise 0x0146 srcPkg [(3, offsetBytes s.clk.last)])) ∧
    (s.btState = 1 → s.bit F.CLK_BT_CTRL_PPS_EN = true →
      exec .ppsTimeout s = .next (s.raise 0x014A srcPkg []) ∧ ∃ v : Int, -51200 ≤ v ∧ v ≤ 51200 ∧
      exec .ppsEdge s = .next { s.drawn with clk := { s.clk with trim := v } })

/-- Clock islands change step, stretch and measure margin; calibration windows open, end and adopt their results. ISLAND_STEP_CHANGE
begins a change to the lowest of TARGET and the two caps where it differs from STEP and none is in progress; a done change sets
STEP, keeps the latencies its crossings calibrated to and goes on, or fails the physical core where one did not calibrate. A
droop stretch of an island counts it. A margin is shown; after start-up one that is not below CRIT, before it has held above
WARN, only ends the time at the floor; one below CRIT for the first time lowers the cap to a step below the running one, not
below FLOOR, with MARGIN_CRIT. A window that may open opens, or is deferred where it would leave a pair or device without a
lane; an abort ends an open window, which runs again 1 s later; a done one adopts run 2 of each lane whose runs agree (stated
for windows with no other lane) and restores its rings. (R373, R374, R375, R376, R436, R437, R438) -/
def Obligations.IslandsAndCalibration : Prop :=
  ∀ (s : State),
    (∀ x : Fin 432, let i := s.isl x
      (i.goal = none → s.lowestStep x ≠ s.rd F.CLK_ISL_STEP x →
        exec (.islandStepChange x) s = .next (s.setIsl x { i with goal := some (s.lowestStep x) })) ∧
      (∀ g cal, i.goal = some g → ∀ u, u = ((s.wr F.CLK_ISL_STEP x g).setIsl x { i with goal := none }).calibrate cal →
        exec (.islandStepChangeDone x cal) s =
          .next (if cal.all crossingOk then (u.disturbIsl x).beginStep x else u.failPhysical (x / 36) (x % 36 / 2) true)) ∧
      (∀ r, r = (tget (fun _ => ({} : Rate)) s.clk.rate x).add nsSec s.now 1 → r.n ≠ 10001 → exec (.droopDetect (.island x)) s =
        .next (({ s with clk := { s.clk with rate := tput (fun _ => {}) s.clk.rate x r } } : State).bump F.CLK_STRETCH_COUNT x 1 |>.disturbIsl x)) ∧
      (∀ m : BitVec 8, ∀ u, u = (s.wr F.CLK_ISL_MARGIN x m.toNat).marginWarn x m.toNat →
        (s.bit F.GLB_START_DONE = false → exec (.replicaMeasure x m) s = .next u) ∧ (s.bit F.GLB_START_DONE = true →
        (m.toNat < u.rd F.CLK_CTRL_CRIT → (u.isl x).crit = false → ∀ v, v = (u.setIsl x { u.isl x with crit := true }).lowerCap x (u.rd F.CLK_ISL_STEP x - 1) →
          exec (.replicaMeasure x m) s = .next (v.raise 0x0141 (islDie x) [(2, x), (1, v.rd F.CLK_ISL_MCAP x)])) ∧
        (u.rd F.CLK_CTRL_CRIT ≤ m.toNat → (u.isl x).above = 0 →
          exec (.replicaMeasure x m) s = .next (u.setIsl x { u.isl x with floor := 0 }))))) ∧
    (∀ g : Fin 280,
      (s.windowFree g = true → exec (.calWindowStart g) s =
        .next (if s.windowCuts g then (s.deferWindow g).useSlot g else (s.useSlot g).openWindow g)) ∧
      (s.light.open_.contains g.val = true →
        (∀ u, u = s.closeWindow g (fun _ => true) →
          exec (.calWindowAbort g) s = .next { u with light := { u.light with again := tput (fun _ => 0) u.light.again g (u.now + nsSec + 1) } }) ∧
        (∀ runs : List CalLane, (∀ c ∈ runs, runsAgree c.run1 c.run2 = true) → (∀ c ∈ runs, c.locked = true) →
          ∃ u, exec (.calWindowDone g runs) s = .next (State.closeWindow u g (fun _ => true)) ∧
            u = runs.foldl (fun (t : State) c => t.adopt c.lane c.run2) s)))

/-- Feeds, supply dips, brown-outs, HBM rails and regulator phases. A feed whose OK bit is set fails: the bit clears and FEED_FAILED
is raised; one that is out returns. A supply voltage below its warning level steps the package limit down 4 steps from the lower
of the step in force and the one that contains the measured power, sets DIP and raises SUPPLY_DIP; the release clears DIP and
lets the source rise. A brown-out starts while a supply is low and ends once, with its events; an HBM rail's fault clears its
quadrant's OK bit and retires the present stacks; its return restores the bit. A failed cache-rail phase leaves the stack in
service from three good phases on; a compute-rail one sets PHASES, and below 23 holds the die's current limit. (R395, R396,
R397, R398, R401, R402, R404) -/
def Obligations.FeedsAndRails : Prop :=
  ∀ (s : State),
    (∀ f : Fin 6, (s.bit (feedFld f) = true → exec (.feedFail f) s = .next ((s.wr (feedFld f) 0 0).raise 0x0101 srcPkg [(1, f)]).showFeeds) ∧
      (s.bit (feedFld f) = false → exec (.feedReturn f) s = .next ((s.wr (feedFld f) 0 1).raise 0x0102 srcPkg [(1, f)]).showFeeds)) ∧
    (∀ (vph : Bool) (mv : BitVec 16), mv.toNat < (if vph then 1700 else 2800) →
      ∀ u, u = (s.putSource dipKey (stepDown 4 s.pkgStep (containing pkgWatts (s.rd F.PWR_PKG_POWER)) 31)).wr F.PWR_FEED_DIP 0 1 →
      exec (.supplyWarning vph mv) s = .next ((u.setPwr { u.pwr with rising := u.pwr.rising.del dipKey, low := u.pwr.low.add (b2n vph) }).showPkg.raise
        0x0103 srcPkg [(1, b2n vph), (2, mv.toNat)])) ∧
    (s.bit F.PWR_FEED_DIP = true → ∀ u, u = (s.wr F.PWR_FEED_DIP 0 0).release dipKey →
      exec .supplyDipRelease s = .next (u.setPwr { u.pwr with low := [] })) ∧
    (s.pwr.low ≠ [] → s.bit F.PWR_FEED_BROWNOUT = false → exec .brownoutTimer s = .next ((s.wr F.PWR_FEED_BROWNOUT 0 1).raise 0x0104 srcPkg [])) ∧
    (s.bit F.PWR_FEED_BROWNOUT = true → exec .brownoutRecoveryTimer s = .next ((s.wr F.PWR_FEED_BROWNOUT 0 0).raise 0x0105 srcPkg [])) ∧
    (∀ (q : Fin 4) (r : Fin 3),
      exec (.hbmRailFault q r) s = .next (([3 * q.val, 3 * q.val + 1, 3 * q.val + 2]).foldl (fun (t : State) st =>
        if t.bit F.MEM_HBM_PRESENT st then t.retireHbm st else t)
        (((s.setPwr { s.pwr with hbmBad := s.pwr.hbmBad.add (4 * q.val + r.val) }).showRails q).raise 0x0108 srcPkg [(1, q), (1, r)])) ∧
      exec (.hbmRailReturn q) s = .next ((s.setPwr { s.pwr with hbmBad := s.pwr.hbmBad.filter (fun k => k / 4 != q.val) }).showRails q)) ∧
    (∀ (d : Fin 12) (p : Fin 25),
      (p.val < 5 → s.pwr.phases.contains (64 * d.val + 32 + p.val) = false → ∀ u, u = (s.setPwr { s.pwr with phases := s.pwr.phases.add (64 * d.val + 32 + p.val) }).raise
          0x0106 (dieSD d) [(1, dieSD d), (1, 1), (1, p)] →
        exec (.phaseFail d true p) s = .next (if u.goodPhases d true < 3 then u.retireStack d 5 else u)) ∧
      (s.pwr.phases.contains (64 * d.val + p.val) = false → ∀ u, u = (s.setPwr { s.pwr with phases := s.pwr.phases.add (64 * d.val + p.val) }).raise
          0x0106 (dieCD d) [(1, dieCD d), (1, 0), (1, p)] → ∀ n v, n = u.goodPhases d false → v = u.wr F.PWR_DIE_PHASES d n →
        (23 ≤ n → exec (.phaseFail d false p) s = .next v) ∧
        (7 ≤ n → n < 23 → exec (.phaseFail d false p) s =
          .next ((v.setSource d 10 (min 20 ((448 - 20 * n + 15) / 16))).raise 0x0107 (dieCD d) [(1, dieCD d), (1, n)]).showLimits)))

/-- The package power loop, current samples, sensors, thermal and cap loops, source rise, rise hold, halt release and heater grid.
The power loop shows the mean of the last ten readings; while the mean is within the limit but less than 290 W below it, it
moves no source. A current within 16 A below the limit is shown and moves no cap. From the end of start-up on, a die at or above
TJ_TARGET goes a step down short of MIN_STEP. A released source rises a step and stops at 0. When the rate of rise is calm, the
rate sources are released. A halted die below 92 °C is released with HALT_RELEASE. After start-up the cap loop applies the
cache, headroom and HBM caps in turn. The heater grid acts from start-up step 7 on, drawing at most 60 W, at most what is called
for, and no more than 95 W leave over the die's other power. A sample of a die none of whose sensors broke now, with no region
broken, shows the highest region reading, moves its band and chooses the parameters of it. (R402, R403, R405, R408, R411, R412,
R413, R415) -/
def Obligations.PowerAndThermalLoops : Prop :=
  ∀ (s : State),
    (∀ (w : BitVec 14) ps m, ps = (w.toNat :: s.pwr.power).take 10 → m = ps.foldl (· + ·) 0 / ps.length → m ≤ pkgWatts s.pkgStep → pkgWatts s.pkgStep ≤ m + 290 →
      exec (.pkgPowerLoop w) s = .next ((s.setPwr { s.pwr with power := ps, pkgUnder := 0 }).wr F.PWR_PKG_POWER 0 m)) ∧
    (∀ (d : Fin 12) (a w : BitVec 9), a.toNat ≤ dieAmps (s.dieStep d) → dieAmps (s.dieStep d) ≤ a.toNat + 16 →
      ∀ u, u = (s.wr F.PWR_DIE_CURRENT d a.toNat).wr F.PWR_DIE_POWER d w.toNat → exec (.dieCurrentSample d a w) s =
        .next (u.setPwr { u.pwr with under := tput (fun _ => 0) u.pwr.under d 0,
                                     half := if a.toNat < dieAmps (s.dieStep d) then u.pwr.half.del d else u.pwr.half })) ∧
    (∀ (d : Fin 12), s.bit F.GLB_START_DONE = true → 4 * (s.rd F.THM_CTRL_TJ_TARGET : Int) ≤ s.temp (dieCD d) → s.src (srcKey d 2) < s.rd F.PWR_CTRL_MIN_STEP →
      exec (.thermalLoop d) s = .next (s.setSource d 2 (s.src (srcKey d 2) + 1))) ∧
    (∀ (d : Fin 12) (c : Fin 12), s.pwr.rising.contains (srcKey d c) = true → ∀ u v, u = s.putSource (srcKey d c) (s.src (srcKey d c) - 1) →
      v = (if s.src (srcKey d c) ≤ 1 then u.setPwr { u.pwr with rising := u.pwr.rising.del (srcKey d c) } else u) →
      exec (.limitSourceRise (d.castLE (by decide)) c) s = .next (v.showDie d)) ∧
    (∀ (d : Fin 12), s.riseOf (dieCD d) = none ∨ (∃ v, s.riseOf (dieCD d) = some v ∧ v < 4) → s.pwr.fast.contains d.val = true →
      exec (.riseHoldEnd d) s = .next ((((s.setPwr { s.pwr with fast := s.pwr.fast.del d, severe := s.pwr.severe.del d }).release (srcKey d 4)).release
        (srcKey d 5)).showCaps d)) ∧
    (∀ (d : Fin 12), s.stack.halted.contains d.val = true → s.temp (dieCD d) < 368 → exec (.dieHaltRelease d) s =
      .next ((((({ s with stack := { s.stack with halted := s.stack.halted.del d } } : State).release (srcKey d 11)).freeDie d)).raise 0x0204 (dieCD d) [])) ∧
    (∀ (d : Fin 12), s.bit F.GLB_START_DONE = true → exec (.stackCapLoop d) s = .next ((((s.setPwr { s.pwr with head := tput (fun _ => 0) s.pwr.head d (s.rd F.FAB_HEADROOM_HEADROOM d) }).stackCap
      d 6 (decide ((4 * s.rd F.THM_CTRL_CACHE_CAP : Int) ≤ s.temp (dieSD d))) true).stackCap
      d 7 (s.fab.capAsk.contains d.val) (!decide (tget (fun _ => 0) s.pwr.head d + 1 ≤ s.rd F.FAB_HEADROOM_HEADROOM d))).stackCap
      d 8 (decide (s.rd F.THM_CTRL_HBM_CAP ≤ s.rd F.MEM_HBM_TEMP d)) true)) ∧
    (∀ (b : Fin 4) (o w : BitVec 8), (s.rd F.GLB_START_STEP < 7 → exec (.heaterGridUpdate b o w) s = .next s) ∧
      (7 ≤ s.rd F.GLB_START_STEP → ∃ (h : NSet) (g : Nat), g ≤ 60 ∧ g ≤ w.toNat ∧ g + o.toNat ≤ max o.toNat 95 ∧
        exec (.heaterGridUpdate b o w) s = .next (s.setPwr { s.pwr with heat := h, grid := tput (fun _ => 0) s.pwr.grid b g }))) ∧
    (∀ (d : Fin 12), s.bit F.GLB_START_DONE = false → exec (.stackCapLoop d) s = .next s ∧ exec (.thermalLoop d) s = .next s) ∧
    (∀ (x : Fin 32) (temps : List Int) m, 28 ≤ x.val → sensorFaults x temps [] = [] → s.brokenRegions x = [] → maxInt ((s.readRegions x temps).map (·.2)) = some m →
      ∃ u, exec (.sensorSample x temps []) s = .next ((State.bandActs u x (u.rd F.THM_DIE_BAND x) (nextBand (edgesOf x) (u.rd F.THM_DIE_BAND x) m)).showParams x) ∧
        u.pwr.temp = tput (fun _ => 0) s.pwr.temp x m ∧ u.regs = (s.wr F.THM_DIE_TEMP x (m / 4 % 256).toNat).regs)

/-- Cold and warm starts, and what asks for a reset: pins, supplies, a halted I/O die and the reference clock. COLD_RST_N asks for a
cold reset with cause 1, WARM_RST_N for a warm one with cause 3, VIN or VPH below reset with cause 5, an I/O die that has cooled
after its halt with cause 6; VHOST below reset resets the host die alone. A lost reference is noted; after 1 ms every die is
held in reset, and until it returns no cold start runs; within 1 ms the device goes on, later a cold start runs. A cold start,
which after anything but a cold reset begins with one, and a warm start raise RESET_CAUSE first and go through steps 1 or 3 to
12, each only where the one before it passed within its Max. Feeds that do not rise end the start in step 1 or 2 with
START_FAILED set, START_STEP at that step and no start due. (R336, R401, R409, R427, R429, R431, R433, R439, R531, R533) -/
def Obligations.StartsAndBoardResets : Prop :=
  ∀ (s : State) (i : StartIn),
    exec .coldRstN s = .next (s.askReset true 1) ∧ exec .warmRstN s = .next (s.askReset false 3) ∧
    (∀ r : Fin 3, r.val < 2 → exec (.supplyBelowReset r) s = .next (s.askReset false 5)) ∧
    exec (.supplyBelowReset 2) s = .next s.resetHost ∧
    (∀ q : Fin 4, s.pwr.ioHalt.contains q.val = true → exec (.ioHaltRecovery q) s = .next (s.askReset false 6)) ∧
    exec .refclkLoss s = .next (s.setFw { s.fw with refLost := true }) ∧
    (s.fw.refLost = true → s.fw.refHeld = false →
      exec .refclkLossTimeout s = .next ((s.coldReset 0).setFw { (s.coldReset 0).fw with refHeld := true })) ∧
    (s.fw.refLost = true → ∀ u, u = s.setFw { s.fw with refLost := false, refHeld := false } →
      (s.fw.refHeld = false → exec (.refclkReturn i) s = .next u.missedExchanges) ∧
      (s.fw.refHeld = true → exec (.refclkReturn i) s = .next ((u.tellCause.startFeeds i).rest i true))) ∧
    (s.fw.refHeld = true → exec (.coldStart i) s = .next s) ∧
    (s.fw.refHeld = false → ∀ u, u = (if s.fw.due = 1 then s else s.coldReset 0).tellCause →
      exec (.coldStart i) s = .next ((u.startFeeds i).rest i true) ∧
      (∀ (k : Fin 2) p, i.feed = some (k, p) → ∃ v w, v = (u.wr F.GLB_START_STEP 0 (k.val + 1)).wr F.GLB_START_FAILED 0 1 ∧
        w = (v.setFw { v.fw with due := 0 }).raise 0x0B82 srcPkg [(1, k.val + 1), (2, p)] ∧ exec (.coldStart i) s = .next w.setLevel)) ∧
    (s.fw.due = 2 → s.fw.refHeld = false → exec (.warmStart i) s = .next (Started.rest (Started.inTime (s.tellCause, true) i false 0) i false)) ∧
    (∀ (r : Started) cold k, r.inTime i cold k = if r.2 = true ∧ stepMax i cold k < (i.times.getD k 0).toNat then r.1.startFail k 0 else r) ∧
    (∀ (r : Started) (f : State → Started), r.andThen f = if r.2 = true then f r.1 else r)

/-- A request packet for this device leaves the commit FIFO and goes through the checks of the landing die. LOAD, STORE, ATOMIC,
BULK_WRITE, BULK_READ and PARCEL each take a packet of their own code, for this device, from the head of the commit FIFO. A
FENCED device answers NAK FENCED. With no fence that stands against it: an entry that is not of the source's present life is
reset, with SOURCE_RESTARTED, for a SEQ below 64, and otherwise the packet is discarded; of a matching entry, a SEQ at or below
LCA or DONE is a duplicate, one above the window is discarded, one INFLIGHT is counted and discarded, one whose predecessor is
not DONE is counted as held; one that fails its check gets a NAK and is DONE, an atomic with its status remembered; part of a
message of chapter 4 is DONE and acknowledged; any other is INFLIGHT and forwarded. (R309, R310, R451, R458) -/
def Obligations.RequestsLand : Prop :=
  ∀ (s : State) (p : Fin 24) (vc : Fin 3) (k : Pkt),
    (∀ c ∈ [(Instr.load p vc, 1), (.store p vc, 2), (.atomic p vc, 3), (.bulkWrite p vc, 4), (.bulkRead p vc, 5), (.parcel p vc, 6)],
      arrived s p vc c.2 k → exec c.1 s = .next ((s.popPkt p vc).landRequest (p / 6) k)) ∧
    ∀ (q : Nat), (s.rd F.LVS_STATUS_STATE = 7 → s.landRequest q k = s.respond q k { op := 0x8F, status := 0x13 }) ∧
      ∀ n e d, n = k.source * 64 + k.e → e = s.srcEnt n → d = (k.seq + 2 ^ 33 - e.lca - 1) % 2 ^ 32 →
        s.rd F.LVS_STATUS_STATE ≠ 7 → s.superseded k.source k.epoch = false → e.fenced = false →
        (e.valid = false ∨ e.bootId ≠ k.bootId →
          (64 ≤ k.seq → s.landRequest q k = s) ∧
          (k.seq < 64 → s.landRequest q k =
            ((s.setSrc n { bootId := k.bootId, valid := true }).raise 0x0524 (dieIO q) [(2, k.source), (2, k.bootId)]).allow q k n)) ∧
        (e.valid = true → e.bootId = k.bootId →
          (2 ^ 31 ≤ d → s.landRequest q k = s.duplicate q k e) ∧
          (64 ≤ d → d < 2 ^ 31 → s.landRequest q k = s) ∧
          (d < 64 → (e.done.getLsbD d = true → s.landRequest q k = s.duplicate q k e) ∧
            (e.done.getLsbD d = false →
              (e.inflight.getLsbD d = true → s.landRequest q k = s.bump F.PRT_RM_CNT_A_DUPLICATE q 1) ∧
              (e.inflight.getLsbD d = false → k.pred ≠ 0 → k.pred ≤ d → e.done.getLsbD (d - k.pred) = false →
                s.landRequest q k = s.bump F.PRT_RM_CNT_B_ORDER_HOLD q 1) ∧
              (k.op < 7 → e.inflight.getLsbD d = false → k.pred = 0 → ∀ st, st = s.reqCheck k →
                (st ≠ 0 → ∀ e1 : SrcEnt, e1 = (if k.atomic = true then e.remember ⟨k.seq, st, 0⟩ else e) → s.landRequest q k =
                  ((s.windowFault q k.source k.window st).setSrc n
                    (SrcEnt.advance { e1 with done := setBit64 e1.done d true })).respond q k { op := 0x8F, status := st }) ∧
                (st = 0 → k.isMail = true → s.landRequest q k =
                  (s.setSrc n (SrcEnt.advance { e with done := setBit64 e.done d true })).respond q k { op := 0x81 }) ∧
                (st = 0 → k.isMail = false → s.landRequest q k =
                  (s.setSrc n { e with inflight := setBit64 e.inflight d true }).forward q k)))))

/-- A forward reaches its home once, a line applies its operations in order, the confirmation answers the source. A forward on its
way, with its paths open, whose tag the home has applied is answered from the home's record; any other joins the queue of every
line it touches, or is applied at once where it touches none. A line's first operation that may be applied, or with it a batch
of at most 64 atomics of that line alone, is applied in arrival order, and what waited behind goes on. The confirmation of an
applied forward takes it from the landing die; where the source's life is the same and the SEQ in the window, INFLIGHT is
cleared, DONE set, LCA advanced and the answer sent, an atomic's result first. A re-send keeps the tag. (R310, R311, R312, R313) -/
def Obligations.HomesApply : Prop :=
  ∀ (s : State) (q : Fin 4) (tag : Nat) (f : Fwd), s.fwdAt (q.val, tag) = some f →
    (f.phase = 0 → (∀ h ∈ s.fwdPlaces f.pkt, s.pathOpen (12 + q) h = true) → ∀ home, home = s.fwdHome f.pkt →
      (∀ e, (tget (fun _ => []) s.rack.homeLog (home * 4 + q)).find? (fun (e : Nat × Applied) => e.1 == tag) = some e →
        exec (.homeForwardReceive q tag) s = .next (s.setFwd q { f with phase := 2, result := e.2 })) ∧
      ((tget (fun _ => []) s.rack.homeLog (home * 4 + q)).find? (fun (e : Nat × Applied) => e.1 == tag) = none →
        (s.fwdLines f.pkt ≠ [] → exec (.homeForwardReceive q tag) s =
          .next ((s.fwdLines f.pkt).foldl (fun (t : State) k => t.joinLine q f k) (s.setFwd q { f with phase := 1 }))) ∧
        (s.fwdLines f.pkt = [] → exec (.homeForwardReceive q tag) s = .next (s.applyFwd q f)))) ∧
    (∀ t : State, t.applyFwd q f = (t.fwdPlaces f.pkt).foldl (fun (u : State) h =>
        u.post { kind := 10, src := h, dst := 12 + q, vc := 1, line := (f.pkt.areas.headD (0, 0)).1 / 256, body := leBytes 4 f.tag })
      (((t.applyPkt f.pkt).1.setFwd q { f with phase := 2, result := (t.applyPkt f.pkt).2 }).logApplied (t.fwdHome f.pkt) q f.tag (t.applyPkt f.pkt).2)) ∧
    exec (.forwardResendTimer q tag) s = .next ((s.setFwd q { f with sends := f.sends + 1 }).postFwd q f.pkt) ∧
    (f.phase = 2 → (∀ h ∈ s.fwdPlaces f.pkt, s.pathOpen h (12 + q) = true) → f.pkt.op ≠ 6 → ∀ fs u n e d, fs = (s.fwdList q).filter (fun x => x.tag != tag) →
      u = { s with rack := { s.rack with fwds := tput (fun _ => []) s.rack.fwds q fs } } → n = f.pkt.source * 64 + f.pkt.e → e = s.srcEnt n →
      d = (f.pkt.seq + 2 ^ 33 - e.lca - 1) % 2 ^ 32 →
      (e.bootId ≠ f.pkt.bootId ∨ 64 ≤ d → exec (.homeConfirm q tag) s = .next u) ∧
      (e.bootId = f.pkt.bootId → d < 64 → ∀ r, r = (if f.pkt.atomic = true then
            e.remember ⟨f.pkt.seq, f.result.status, if f.result.status = 0 then f.result.value else f.result.failRec⟩ else e) →
        ∀ x : SrcEnt, x = { r with inflight := setBit64 r.inflight d false, done := setBit64 r.done d true } →
        exec (.homeConfirm q tag) s = .next ((u.setSrc n x.advance).answer q f.pkt f.result))) ∧
    (∀ (x : BitVec 36) o g, (s.line x.toNat).ops.head? = some o → s.fwdAt o = some g →
      (s.fwdMay o g.pkt = false → exec (.homeLineApply x) s = .next s) ∧
      (s.fwdMay o g.pkt = true → ∀ b, b = s.batch x.toNat → 1 ≤ b.length ∧ b.length ≤ 64 ∧
        exec (.homeLineApply x) s = .next ((b.foldl (fun (t : State) (o : Nat × Nat) =>
          match t.fwdAt o with
          | some g => (t.leaveLines o (t.fwdLines g.pkt)).applyFwd o.1 g
          | none => t) s).resumeWaiting)))

/-- Answers complete the request they echo, re-sends run out, parcels are flushed and relays forward. ACK, LOAD_DATA, ATOMIC_DATA,
BULK_DATA and NAK that answer an unacknowledged request take the packet from the FIFO, close the request and complete each of
its operations, with the data, the old value or the status they hold, after which messages of chapter 4 whose packets have all
been answered go on; for a parcel packet ATOMIC_DATA and an ACK whose parcel waits for no data end it record by record. A re-
send timer within RETRIES sends the request again through its die, or leaves the copy that still waits there without a path;
after RETRIES the operation completes with E2E_RETRY_EXHAUSTED and its event, or PATH_RESET where a die on its way is in reset.
A flush timer flushes the open parcel. A relay forwards what it may carry through a die with links to the target on stream 0x10,
and drops and counts the rest with RELAY_DROP. (R254, R307, R308, R317, R318, R319, R320) -/
def Obligations.AnswersComplete : Prop :=
  ∀ (s : State) (p : Fin 24) (vc : Fin 3),
    (∀ r q u, u = (s.popPkt p vc).closeReq r.e r.responder r.seq →
      (answeredBy s p vc 0x8F r q → exec (.nak p vc) s = .next (u.doneAll q.owns r.status).settleMails) ∧
      (answeredBy s p vc 0x81 r q → (q.pkt.op ≠ 6 → exec (.ack p vc) s = .next (u.doneAll q.owns r.status).settleMails) ∧
        (q.pkt.op = 6 → (r.failRec ≠ 0xFFFF ∨ q.data = true) → exec (.ack p vc) s = .next ((s.popPkt p vc).parcelAck q r).settleMails)) ∧
      (answeredBy s p vc 0x82 r q → exec (.loadData p vc) s = .next (q.owns.foldl (fun (a : State) o => a.ownDone o 0 0 r.data) u).settleMails) ∧
      (answeredBy s p vc 0x83 r q →
        (q.pkt.op ≠ 6 → exec (.atomicData p vc) s = .next (q.owns.foldl (fun (a : State) o => a.ownDone o r.status r.value []) u).settleMails) ∧
        (q.pkt.op = 6 → exec (.atomicData p vc) s = .next ((s.popPkt p vc).parcelAck q r).settleMails)) ∧
      (answeredBy s p vc 0x84 r q →
        (q.pkt.op ≠ 6 → exec (.bulkData p vc) s = .next (q.owns.foldl (fun (a : State) o => a.ownDone o 0 0 r.data) u).settleMails) ∧
        (q.pkt.op = 6 → q.data = true → exec (.bulkData p vc) s = .next (s.popPkt p vc).settleMails))) ∧
    (∀ (e : Fin 64) (dst : Fin 1024) (n : BitVec 32) r, (s.pair e dst).sent.find? (fun x => x.pkt.seq == n.toNat) = some r →
      (r.tries < s.rd F.PRT_E2E_CTRL_RETRIES → ∀ u, u = s.setReq e dst { r with tries := r.tries + 1 } →
        (s.mayRemote = false ∨ (s.hasPath r.q dst = false ∧ s.waitsToLeave r = true) → exec (.e2eResendTimer e dst n) s = .next u) ∧
        (s.mayRemote = true → (s.hasPath r.q dst = true ∨ s.waitsToLeave r = false) → ∃ t : Rate, ∀ v : State,
          v = { u with rack := { u.rack with resend := tput (fun _ => {}) u.rack.resend r.q t } } →
          ∃ ev : State, ev = (v.launchReq { r with link := s.resendLink r }).bump F.PRT_RM_CNT_A_RESENT r.q 1 ∧
            (exec (.e2eResendTimer e dst n) s = .next ev ∨ exec (.e2eResendTimer e dst n) s = .next (ev.raise 0x0521 (dieIO r.q) [])))) ∧
      (s.rd F.PRT_E2E_CTRL_RETRIES ≤ r.tries → ∀ inReset, inReset = r.dies.any (fun k => decide (1 ≤ s.rd F.STK_DIE_STATE k) && decide (s.rd F.STK_DIE_STATE k ≤ 3)) →
        (inReset = false → exec (.e2eResendTimer e dst n) s =
          .next (((s.raise 0x0520 (dieIO r.q) [(1, e), (2, dst), (4, n.toNat)]).closeReq e dst n.toNat).doneAll r.owns 0x10).settleMails) ∧
        (inReset = true → exec (.e2eResendTimer e dst n) s = .next ((s.closeReq e dst n.toNat).doneAll r.owns 0x11).settleMails))) ∧
    (∀ (q : Fin 4) (rack : Fin 32), exec (.parcelFlushTimer q rack) s = .next (s.flushParcel q rack)) ∧
    (∀ x b u, s.headPkt p vc = some (x, b) → relayTarget b ≠ s.device → u = (s.popPkt p vc).noticeAck (parseRsp b) →
      (∀ k, ([0, 1, 2, 3].map (fun k => (p.val / 6 + k) % 4)).find? (fun k => !(s.activeLinks k (relayTarget b)).isEmpty) = some k →
        relayCarries b = true → s.bit F.STK_PKG_SPINE_ROLE = true →
        exec (.relayForward p vc) s = .next (u.issuePkt k ⟨relayTarget b, vc, 0x10, none, 12 + p.val / 6, b⟩)) ∧
      ((∀ k < 4, s.activeLinks k (relayTarget b) = []) →
        exec (.relayForward p vc) s = .next ((u.bump F.PRT_RM_CNT_C_RELAY_DROP (p.val / 6) 1).raise 0x0527 (dieIO (p.val / 6)) [(2, relayTarget b)])))

/-- Pairing and its failures, beats, silence, hold and takeover of the lightvessel. LIGHTVESSEL_PAIR from SOLO, or of the active
side from EXPOSED, under its conditions enters PAIRING with a beat, the pair before kept, else INVALID; UNPAIR from SOLO and
TAKEOVER outside STANDBY fail with ROLE_MISMATCH; UNPAIR from ACTIVE, EXPOSED or STANDBY ends in SOLO; TAKEOVER in STANDBY asks
the witness. A beat goes out in every state but SOLO. A received beat pairs or fails in PAIRING; takes HOLD back to ACTIVE; with
TAKEN, or an epoch above its own, fences ACTIVE, HOLD and EXPOSED; with UNPAIR takes ACTIVE to EXPOSED and STANDBY to SOLO; a
FENCED partner makes STANDBY take over. 10 ms in PAIRING fail it; silence takes ACTIVE to HOLD, which asks, and STANDBY to
TAKING_OVER; a HOLD that hears nothing is FENCED, an unanswered takeover goes back to STANDBY. (R450, R452, R455, R458, R459) -/
def Obligations.VesselPairs : Prop :=
  ∀ (s : State),
    (∀ seq d, starts s seq d → descType d.bytes = 0x0F → ∀ t : State, t = begun s d →
      (d.f 0x10 1 = 0 → ∀ pd, pd = d.f 0x12 2 % 1024 →
        (t.lvState = 0 ∨ (t.lvState = 4 ∧ d.f 0x11 1 = 0) → t.witnessOk pd = true → pd ≠ t.device → t.sameRack pd = true ∨ pd % 32 = t.rd F.PRT_IDENT_SLOT →
          ∀ l, l = { t.lv with side := d.f 0x11 1, pairId := d.f 0x14 4, witness := t.rd F.LVS_CTRL_WITNESS, pairSeq := some d.seq, fromExposed := t.lvState == 4, was := (t.partner, t.lv.pairId, t.lv.side, t.lv.witness) } →
          exec (.lightvesselPair seq) s = .next (((({ t with lv := l } : State).wr F.LVS_STATUS_PARTNER 0 pd).lvTo 1).sendBeat 0)) ∧
        (t.witnessOk pd = false ∨ pd = t.device ∨ t.lvState = 2 → exec (.lightvesselPair seq) s = .next (t.finishDesc d.seq 0x20 0 0))) ∧
      (d.f 0x10 1 = 1 →
        (t.lvState = 0 → exec (.lightvesselUnpair seq) s = .next (t.finishDesc d.seq 0x42 0 0)) ∧
        (t.lvState = 2 ∨ t.lvState = 4 → ∀ u, u = (((t.sendBeat 8).lvEvent 0x0A08 []).lvTo 0).dropCheckpoints →
          exec (.lightvesselUnpair seq) s = .next (({ u with lv := { u.lv with lease := 0 } } : State).finishDesc d.seq 0 0 0)) ∧
        (t.lvState = 5 → ∀ u, u = ((((t.sendBeat 8).lvEvent 0x0A08 []).closeMirrors).lvTo 0).dropCheckpoints →
          exec (.lightvesselUnpair seq) s = .next (({ u with lv := { u.lv with lease := 0 } } : State).finishDesc d.seq 0 0 0))) ∧
      (d.f 0x10 1 = 2 →
        (t.lvState ≠ 5 → exec (.lightvesselTakeover seq) s = .next (t.finishDesc d.seq 0x42 0 0)) ∧
        (t.lvState = 5 → ∀ l, l = { t.lv with takeSeq := some d.seq } →
          exec (.lightvesselTakeover seq) s = .next ((({ t with lv := l } : State).lvTo 6).lvAsk)))) ∧
    (s.lvState = 0 → exec .lvBeatSend s = .next s) ∧ (s.lvState ≠ 0 → exec .lvBeatSend s = .next (s.sendBeat 0)) ∧
    (∀ p vc k same berths u, vessel s p vc 0x0A k → u = s.popPkt p vc → k.source = u.partner → ∀ fl e, fl = at_ k.data 5 1 → e = at_ k.data 6 2 →
      (u.lvState = 1 → at_ k.data 0 4 = u.lv.pairId → at_ k.data 4 1 = 1 - u.lv.side → same = true →
        exec (.lvBeat p vc same berths) s = .next (u.paired e berths)) ∧
      (u.lvState = 1 → same = false → exec (.lvBeat p vc same berths) s = .next (u.pairFails 0x42)) ∧
      (2 ≤ u.lvState → u.lvState ≤ 4 → bitAt fl 0 = true → exec (.lvBeat p vc same berths) s = .next (u.lvFence 3)) ∧
      (2 ≤ u.lvState → u.lvState ≤ 4 → bitAt fl 0 = false → epochBelow u.epoch e = true → exec (.lvBeat p vc same berths) s = .next (u.lvFence 4)) ∧
      (bitAt fl 0 = false → epochBelow u.epoch e = false →
        (u.lvState = 2 → bitAt fl 3 = true → exec (.lvBeat p vc same berths) s =
          .next ((({ u with lv := { u.lv with lease := 0 } } : State).lvTo 4).dropCheckpoints)) ∧
        (u.lvState = 3 → exec (.lvBeat p vc same berths) s = .next ((u.lvTo 2).lvRelease))) ∧
      (u.lvState = 5 → bitAt fl 1 = true → exec (.lvBeat p vc same berths) s = .next ((u.lvTo 6).lvAsk)) ∧
      (u.lvState = 5 → bitAt fl 1 = false → bitAt fl 3 = true → exec (.lvBeat p vc same berths) s = .next (u.closeMirrors.lvTo 0))) ∧
    (s.lvState = 1 → exec .lvPairingTimeout s = .next (s.pairFails 0x12)) ∧
    (s.lvState = 2 → exec .lvActiveSilence s = .next (((s.lvTo 3).lvEvent 0x0A04 []).lvAsk)) ∧
    (s.lvState = 5 → exec .lvStandbySilence s = .next ((s.lvTo 6).lvAsk)) ∧
    (s.lvState = 3 ∨ s.lvState = 6 → exec .lvAskRepeat s = .next s.lvAsk) ∧
    (s.lvState = 3 → exec .lvHoldTimeout s = .next ((s.lvEvent 0x0A07 []).lvFence 0)) ∧
    (s.lvState = 6 → ∀ l u : State, l = ({ s with lv := { s.lv with takeSeq := none } } : State) → u = (l.lvTo 5).lvEvent 0x0A07 [] →
      exec .lvTakeoverTimeout s = .next (match s.lv.takeSeq with | some q => u.finishDesc q 0x12 0 0 | none => u)) ∧
    (s.lvState = 4 → s.lv.lease ≠ 0 → exec .lvLeaseRenew s = .next s.lvAsk ∧ exec .lvLeaseExpire s = .next (s.lvFence 6)) ∧
    (s.lvState = 4 → s.lv.lease = 0 → exec .lvLeaseRenew s = .next s ∧ exec .lvLeaseExpire s = .next s)

/-- The witness grants or refuses, answers take effect, notices fence and are acknowledged, checkpoints are acknowledged or late. A
witness in quarantine answers no TAKEOVER and no CONTINUE; out of it, it grants a TAKEOVER of a subject whose last CONTINUE is
not at or above the epoch before the one asked for and raises the fences of both, and a CONTINUE whose epoch is not below the
fence, which it records. A granted CONTINUE takes HOLD to EXPOSED under a lease, a refused one fences; a refused TAKEOVER ends
in SOLO, a refused renewal fences. A notice raises the fences of the old and the new active and is acknowledged; what is not
acknowledged is sent again. The quarantine ends. An acknowledged checkpoint moves LV_CURSOR and releases the records that waited
for it; a late one releases them, marks the berth overdue and raises LV_EXPOSED. (R451, R453, R454, R455, R457, R460, R462) -/
def Obligations.VesselWitness : Prop :=
  ∀ (s : State) (p : Fin 24) (vc : Fin 3) (k : Pkt) (u : State), u = s.popPkt p vc →
    (vessel s p vc 0x0C k → ∀ fl e subj, fl = at_ k.data 5 1 → e = at_ k.data 6 2 → subj = at_ k.data 8 2 → bitAt fl 5 = false →
      (u.lv.quarantine = true → exec (.lvAsk p vc) s = .next u) ∧
      (u.lv.quarantine = false → ∀ (g : Bool) d, d = k.data.take 5 ++ leBytes 1 (fl % 64 - fl / 16 % 2 * 16 + 16 * b2n g) ++ (k.data.drop 6).take 26 →
        (at_ k.data 4 1 = 1 → ∀ c old, c = tget (fun _ => 0) u.rack.cont subj → old = (e + 65535) % 65536 → g = (c == 0 || !(c == old || epochBelow old c)) →
          ∀ v, v = (if g then (u.raiseFence subj e).raiseFence k.source e else u) → exec (.lvAsk p vc) s = .next (v.lvIssue (v.lvPkt 0x8C k.source d))) ∧
        (at_ k.data 4 1 = 0 → g = (u.fenceOf k.source == 0 || !epochBelow e (u.fenceOf k.source)) →
          ∀ v : State, v = (if g then { u with rack := { u.rack with cont := tput (fun _ => 0) u.rack.cont k.source e } } else u) →
          exec (.lvAsk p vc) s = .next (v.lvIssue (v.lvPkt 0x8C k.source d))))) ∧
    (vessel s p vc 0x8C k → k.source = u.lv.witness → at_ k.data 0 4 = u.lv.pairId → ∀ fl e, fl = at_ k.data 5 1 → e = at_ k.data 6 2 →
      (u.lvState = 3 → bitAt fl 5 = false → e = u.epoch →
        (bitAt fl 4 = true → exec (.lvAnswer p vc) s = .next (((({ u with lv := { u.lv with lease := 1 } } : State).lvTo 4).lvEvent 0x0A05 []).lvRelease)) ∧
        (bitAt fl 4 = false → exec (.lvAnswer p vc) s = .next (u.lvFence 1))) ∧
      (u.lvState = 6 → bitAt fl 5 = false → e = (u.epoch + 1) % 65536 →
        (bitAt fl 4 = true → exec (.lvAnswer p vc) s = .next u.takeGranted) ∧
        (bitAt fl 4 = false → u.lv.takeSeq = none → exec (.lvAnswer p vc) s =
          .next ((({ u.closeMirrors with lv := { u.closeMirrors.lv with takeSeq := none } } : State).lvEvent 0x0A06 []).lvTo 0))) ∧
      (u.lvState = 4 → u.lv.lease ≠ 0 → bitAt fl 5 = true → e = u.epoch → bitAt fl 4 = false → exec (.lvAnswer p vc) s = .next (u.lvFence 2))) ∧
    (vessel s p vc 0x0B k → ∀ n v, n = at_ k.data 10 2 →
      v = ((u.raiseFence (at_ k.data 8 2 % 1024) n).raiseFence k.source n).respond (p / 6) k { op := 0x81 } → u.lvState ≤ 1 → u.spinePort p = false → v.spinePort p = false →
      exec (.lvNotice p vc) s = .next v) ∧
    exec .lvNoticeResend s = .next (s.lv.notices.foldl (fun (t : State) (n : Nat × Pkt) => t.lvIssue n.2) s) ∧
    exec .lvQuarantineEnd s = .next { s with lv := { s.lv with quarantine := false } } ∧
    (∀ (b : Fin 6144) f, f = tget (fun _ => 0) s.lv.flight b →
      (f = 0 → exec (.lvCheckpointAck b) s = .next s ∧ exec (.lvCheckpointTimeout b) s = .next s) ∧
      (f ≠ 0 → (s.berth b).state ≠ 0 → ∀ u1 l u2 : State, u1 = s.setBerth b { s.berth b with lvCursor := f - 1 } →
        l = { u1 with lv := { u1.lv with flight := tput (fun _ => 0) u1.lv.flight b 0, overdue := u1.lv.overdue.del b, first := u1.lv.first.del b,
                                         holds := u1.lv.holds.filter (fun (h : Nat × Nat × Nat) => !(h.2.1 == b.val && decide (h.2.2 ≤ f - 1))) } } →
        u2 = (if l.lv.due.contains b.val ∧ l.lvState = 2 then l.checkpoint b else l.takePending b) →
        exec (.lvCheckpointAck b) s = .next u2.pairDone.lvCond) ∧
      (f ≠ 0 → s.lv.overdue.contains b.val = false → 
        ∀ hs, hs = s.lv.holds.filter (fun (h : Nat × Nat × Nat) => !(h.2.1 == b.val && decide (h.2.2 ≤ f - 1))) →
        ∀ l : State, l = { s with lv := { s.lv with overdue := s.lv.overdue.add b, holds := hs } } →
        exec (.lvCheckpointTimeout b) s = .next (l.lvEvent 0x0A09 [(2, b)]).lvCond))

/-- Writes of set-up registers reach their register, wait for a handover or are dropped; CONFIG applies its entries; reads that
latch. Each named write of a register, and each command that writes a CMD field, is one 4-byte write of that register: without a
handover it is applied at once under the access rules; during one it waits in order in the log of 256, or is dropped with
SETUP_WRITE_DROPPED. A BAR0 write that is not aligned has no effect; an 8-byte write of a pair that is no counter writes its
halves. A counter takes its HI half first. A CONFIG without a handover applies its entries in order, each one masked write, and
completes; during one it does not start. A read of CLK_BT_LO latches the upper half of beacon time for the port, a read of a
berth's word 0 the entry. (R341, R356, R441, R473, R495, R498, R500, R504, R506, R509, R511, R514) -/
def Obligations.SetUpWrites : Prop :=
  ∀ (s : State) (v : BitVec 32) (env : FwEnv) (p : Fin 2),
    (∀ (m : Fin 12) (n : Fin 16) (r : Fin 32) (pt : Fin 24) (x : Fin 192) (y : Fin 432),
      ∀ c ∈ [(Instr.glbExpertWrite v, F.GLB_EXPERT_KEY.base, v, quietEnv), (Instr.glbSetupDoneWrite v, F.GLB_SETUP_DONE_DONE.base, v, quietEnv),
        (Instr.negCommit v, F.NEG_CTRL_COMMIT.base, v, quietEnv), (Instr.rngCmdCfgWrite r v, F.RNG_CMD_CFG_ENABLE.off r, v, quietEnv),
        (Instr.rngCqCfgWrite r v, F.RNG_CQ_CFG_ENABLE.off r, v, quietEnv), (Instr.evtCfgWrite v, F.EVT_CFG_ENABLE.base, v, quietEnv),
        (Instr.evtStatusClear v, F.EVT_STATUS_DROPPED.base, v, quietEnv), (Instr.prtIdentWrite v, F.PRT_IDENT_VALID.base, v, quietEnv),
        (Instr.prtPortEnableWrite pt v, F.PRT_PORT_ENABLE.off pt, v, quietEnv), (Instr.clkFtabWrite x v, F.CLK_FTAB_FREQ.off x, v, quietEnv),
        (Instr.clkIslTargetWrite y v, F.CLK_ISL_TARGET.off y, v, quietEnv), (Instr.prtE2eCtrlWrite v, F.PRT_E2E_CTRL_PRESET.base, v, quietEnv),
        (Instr.glbCalCtrlWrite v, F.GLB_CAL_CTRL_PRESET.base, v, quietEnv), (Instr.clkCtrlWrite v, F.CLK_CTRL_PRESET.base, v, quietEnv),
        (Instr.pwrCtrlWrite v, F.PWR_CTRL_PRESET.base, v, quietEnv), (Instr.thmCtrlWrite v, F.THM_CTRL_PRESET.base, v, quietEnv),
        (Instr.fabCtrlWrite v, F.FAB_CTRL_LOCK_PRESET.base, v, quietEnv), (Instr.lsrCtrlWrite v, F.LSR_CTRL_PRESET.base, v, quietEnv),
        (Instr.prtCtrlWrite v, F.PRT_CTRL_PRESET.base, v, quietEnv), (Instr.memCtrlWrite v, F.MEM_CTRL_PRESET.base, v, quietEnv),
        (Instr.stkVbCtrlWrite v, F.STK_VB_CTRL_PRESET.base, v, quietEnv), (Instr.fwuCtrlWrite v, F.FWU_CTRL_PRESET.base, v, quietEnv),
        (Instr.fwuCancel, F.FWU_CMD_CMD.base, (2 : Word), quietEnv), (Instr.fwuArm, F.FWU_CMD_CMD.base, (3 : Word), quietEnv),
        (Instr.fwuDisarm, F.FWU_CMD_CMD.base, (4 : Word), quietEnv), (Instr.lsrSwitch m, F.LSR_MOD_CMD.off m, bitsSet (s.reg (F.LSR_MOD_CMD.off m)) F.LSR_MOD_CMD.hi F.LSR_MOD_CMD.lo 1, quietEnv),
        (Instr.lsrPrepareRemove m, F.LSR_MOD_CMD.off m, bitsSet (s.reg (F.LSR_MOD_CMD.off m)) F.LSR_MOD_CMD.hi F.LSR_MOD_CMD.lo 2, quietEnv), (Instr.lsrCancelRemove m, F.LSR_MOD_CMD.off m, bitsSet (s.reg (F.LSR_MOD_CMD.off m)) F.LSR_MOD_CMD.hi F.LSR_MOD_CMD.lo 3, quietEnv),
        (Instr.stkDieOrderly n, F.STK_DIE_CMD.off n, bitsSet (s.reg (F.STK_DIE_CMD.off n)) F.STK_DIE_CMD.hi F.STK_DIE_CMD.lo 1, quietEnv), (Instr.stkDieForced n, F.STK_DIE_CMD.off n, bitsSet (s.reg (F.STK_DIE_CMD.off n)) F.STK_DIE_CMD.hi F.STK_DIE_CMD.lo 2, quietEnv),
        (Instr.hstSwitch, F.HST_CTRL_CMD.off 0, bitsSet (s.reg (F.HST_CTRL_CMD.off 0)) F.HST_CTRL_CMD.hi F.HST_CTRL_CMD.lo 1, quietEnv), (Instr.glbResetWarm, F.GLB_RESET_CMD.off 0, bitsSet (s.reg (F.GLB_RESET_CMD.off 0)) F.GLB_RESET_CMD.hi F.GLB_RESET_CMD.lo 1, quietEnv),
        (Instr.glbResetCold, F.GLB_RESET_CMD.off 0, bitsSet (s.reg (F.GLB_RESET_CMD.off 0)) F.GLB_RESET_CMD.hi F.GLB_RESET_CMD.lo 2, quietEnv), (Instr.memErrlogClear m, F.MEM_ERRLOG_HI_VALID.off m, bitsSet (s.reg (F.MEM_ERRLOG_HI_VALID.off m)) F.MEM_ERRLOG_HI_VALID.hi F.MEM_ERRLOG_HI_VALID.lo 1, quietEnv),
        (Instr.fwuOffer env, F.FWU_CMD_CMD.base, (1 : Word), env), (Instr.fwuCommitSvn env, F.FWU_CMD_CMD.base, (5 : Word), env),
        (Instr.fwuSaveSettings env, F.FWU_CMD_CMD.base, (6 : Word), env)],
        (s.bit F.FWU_STATUS_HANDOVER = false → exec c.1 s = .next (s.portWrite 0 c.2.1 c.2.2.1 0xFFFFFFFF false c.2.2.2)) ∧
        (s.bit F.FWU_STATUS_HANDOVER = true → s.fw.held.length < 256 →
          exec c.1 s = .next (s.setFw { s.fw with held := s.fw.held ++ [⟨0, c.2.1, c.2.2.1, none, c.2.2.2⟩] })) ∧
        (s.bit F.FWU_STATUS_HANDOVER = true → s.fw.held.length = 256 → exec c.1 s = .next (s.raise 0x0B06 s.fwSource [(4, c.2.1)]))) ∧
    (∀ (off : BitVec 26) (hi : BitVec 32),
      (off.toNat % 4 ≠ 0 → exec (.registerWrite p off v none env) s = .next s) ∧
      (off.toNat % 8 ≠ 0 → exec (.registerWrite p off v (some hi) env) s = .next s) ∧
      (s.bit F.FWU_STATUS_HANDOVER = false →
        (off.toNat % 4 = 0 → exec (.registerWrite p off v none env) s = .next (s.portWrite p off.toNat v 0xFFFFFFFF false env)) ∧
        (off.toNat % 8 = 0 → off.toNat < 0x302000 ∨ 0x302800 ≤ off.toNat → exec (.registerWrite p off v (some hi) env) s =
          .next ((s.portWrite p off.toNat v 0xFFFFFFFF false env).portWrite p (off.toNat + 4) hi 0xFFFFFFFF false env)))) ∧
    (∀ (k : Fin 256) (hi lo : BitVec 32) h, s.bit F.FWU_STATUS_HANDOVER = false →
      h = s.setCmd { s.cmd with ctrHi := tput (fun _ => 0) s.cmd.ctrHi k (hi.toNat + 1) } → exec (.rngCtrWrite k hi lo) s =
        .next (h.barWrite (F.RNG_CTR_LO_VALUE.off k) lo)) ∧
    (∀ seq, s.bit F.FWU_STATUS_HANDOVER = true → exec (.config seq env) s = .next s) ∧
    (∀ seq d, s.bit F.FWU_STATUS_HANDOVER = false → starts s seq d → descType d.bytes = 0x10 →
      exec (.config seq env) s = .next (((List.range (d.f 0x10 1)).foldl (fun (u : State) i =>
        u.portWrite (u.rd F.HST_CTRL_ACTIVE) (d.f (0x18 + 12 * i) 4) (BitVec.ofNat 32 (d.f (0x18 + 12 * i + 4) 4))
          (BitVec.ofNat 32 (d.f (0x18 + 12 * i + 8) 4)) false env) (begun s d)).finishDesc d.seq 0 0 0)) ∧
    exec (.clkBtLoRead p) s = .next (s.setCmd { s.cmd with btLatch := tput (fun _ => 0) s.cmd.btLatch p (s.bt / 2 ^ 32) }) ∧
    (∀ b : Fin 6144, exec (.brtEntryRead p b) s =
      .next (s.setCmd { s.cmd with brtLatch := tput (fun _ => (6144, [])) s.cmd.brtLatch p (b.val, s.berthBytes b) }))

/-- What the access codes of register fields let a write do, on one register of each kind. A write of FWU_STATUS, all of whose
fields are read only, leaves it; FWU_ACT_LO takes what is written. Writing 1 to VALID of an error log clears that bit alone,
writing 0 changes nothing. After GLB_SETUP_DONE a write of PRT_IDENT leaves the register and counts in DENIED where it would
change an RWL field; before, the RWL fields take it, and every link goes through OFF. While UNLOCKED is 0, a write of MEM_CTRL
that would change an expert field leaves the expert fields and counts in DENIED; while it is 1 they take values in their ranges.
KEY 0x4558 unlocks unless the same write sets DENY, which counts the refusal; another KEY locks. (R14, R508, R509, R510, R511,
R513) -/
def Obligations.RegisterAccess : Prop :=
  ∀ (s : State) (v : BitVec 32) (env : FwEnv) (p : Fin 2), s.bit F.FWU_STATUS_HANDOVER = false →
    exec (.registerWrite p 0x1100020 v none env) s = .next (s.setReg 0x1100020 (s.reg 0x1100020)) ∧
    exec (.registerWrite p 0x1100008 v none env) s = .next (s.setReg 0x1100008 v) ∧
    (v.getLsbD 31 = true → exec (.registerWrite p 0xB0020C v none env) s = .next (s.setReg 0xB0020C (s.reg 0xB0020C &&& 0x7FFFFFFF))) ∧
    (v.getLsbD 31 = false → exec (.registerWrite p 0xB0020C v none env) s = .next (s.setReg 0xB0020C (s.reg 0xB0020C))) ∧
    (s.bit F.GLB_SETUP_DONE_DONE = true → ∀ u, u = s.setReg 0xA00004 (s.reg 0xA00004) →
      ((v ^^^ s.reg 0xA00004) &&& 0x800003FF = 0 → exec (.registerWrite p 0xA00004 v none env) s = .next u) ∧
      ((v ^^^ s.reg 0xA00004) &&& 0x800003FF ≠ 0 → exec (.registerWrite p 0xA00004 v none env) s = .next (u.bump F.GLB_EXPERT_DENIED 0 1))) ∧
    (s.bit F.GLB_SETUP_DONE_DONE = false → exec (.registerWrite p 0xA00004 v none env) s =
      .next (s.setReg 0xA00004 ((s.reg 0xA00004 &&& 0x7FFFFC00) ||| (v &&& 0x800003FF))).relink) ∧
    (bitsGet v 1 0 = s.rd F.MEM_CTRL_PRESET → s.rd F.MEM_CTRL_PRESET < 2 → (v ^^^ s.reg 0xB00000) &&& 0xFFFF0000 ≠ 0 →
      (s.bit F.GLB_EXPERT_UNLOCKED = false → 1 ≤ s.rd F.MEM_CTRL_SCRUB_H → s.rd F.MEM_CTRL_SCRUB_H ≤ 24 → 1 ≤ s.rd F.MEM_CTRL_RETIRE_CE →
        s.rd F.MEM_CTRL_RETIRE_CE ≤ 16 → exec (.registerWrite p 0xB00000 v none env) s = .next ((s.setReg 0xB00000 (s.reg 0xB00000)).bump F.GLB_EXPERT_DENIED 0 1)) ∧
      (s.bit F.GLB_EXPERT_UNLOCKED = true → 1 ≤ bitsGet v 31 24 → bitsGet v 31 24 ≤ 24 → 1 ≤ bitsGet v 23 16 → bitsGet v 23 16 ≤ 16 →
        exec (.registerWrite p 0xB00000 v none env) s = .next (s.setReg 0xB00000 ((s.reg 0xB00000 &&& 0xFFFC) ||| (v &&& 0xFFFF0003))))) ∧
    (s.bit F.GLB_SETUP_DONE_DONE = false → ∀ u, u = s.wr F.GLB_EXPERT_DENY 0 (b2n (v.getLsbD 30)) →
      (v &&& 0xFFFF = 0x4558 → v.getLsbD 30 = false → exec (.registerWrite p 0xC v none env) s = .next (u.wr F.GLB_EXPERT_UNLOCKED 0 1)) ∧
      (v &&& 0xFFFF = 0x4558 → v.getLsbD 30 = true → exec (.registerWrite p 0xC v none env) s = .next (u.bump F.GLB_EXPERT_DENIED 0 1)) ∧
      (v &&& 0xFFFF ≠ 0x4558 → exec (.registerWrite p 0xC v none env) s = .next (u.wr F.GLB_EXPERT_UNLOCKED 0 0)))

/-- Watch rooms load, stand by, fail and recover; shadow and handover records; the watchdog; missed deadlines. A LOADING room whose
image verifies is verified, and STANDBY with a shadow record; one that fails, is late or has a header the checks refuse is
FAILED with WR_FAILED, and an activation that was staged is missed; a FAILED room that passes its self-test after its first
failure in 24 h is COLD. A good shadow record is kept, and makes a verified LOADING room STANDBY where there is none; a bad one
changes nothing. With a good record a handover makes the standby ACTIVE and the sender STANDBY, with WR_HANDOVER and the held
writes applied; with a bad one the sender stays ACTIVE. A watchdog of the ACTIVE room alone takes effect: without a standby the
package asks for a warm reset. A task that meets its deadline counts from 0, its third miss in a row raises TASK_OVERRUN. (R469,
R470, R471, R472, R473) -/
def Obligations.WatchRooms : Prop :=
  ∀ (s : State) (q : Fin 4) (sh : Bool) (env : FwEnv),
    ((s.room q).role = 1 →
      (s.headerGood (s.room q).hdr = true → ∀ u, u = s.setRoom q { s.room q with verified := true } →
        exec (.wrLoadDone q sh) s = .next (if sh then u.toStandby q else u)) ∧
      ∀ v, v = (s.failRoom q).raise 0x0B03 (dieIO q) [] → ∀ w, w = (if s.tender = 4 then v.actMissed else v.fwSettle) →
        exec (.wrLoadTimeout q) s = .next w ∧ (s.headerGood (s.room q).hdr = false → exec (.wrLoadDone q sh) s = .next w)) ∧
    ((s.room q).role ≠ 1 → exec (.wrLoadDone q sh) s = .next s ∧ exec (.wrLoadTimeout q) s = .next s) ∧
    ((s.room q).role = 4 → (s.room q).failPrev = 0 → exec (.wrFailedRecover q true) s = .next (s.setRoom q { s.room q with role := 0 }).fwSettle) ∧
    exec (.wrFailedRecover q false) s = .next s ∧
    (∀ a b bytes, s.activeRoom = some a → s.standbyRoom = some b →
      (recordGood (s.room b).hdr bytes = true → (s.room b).role ≠ 1 → exec (.shadowRecord bytes) s = .next (s.setFw { s.fw with shadow := bytes })) ∧
      (recordGood (s.room b).hdr bytes = false → exec (.shadowRecord bytes) s = .next s) ∧
      (s.bit F.FWU_STATUS_HANDOVER = false → exec (.handoverRecord bytes env) s = .next s) ∧
      (s.bit F.FWU_STATUS_HANDOVER = true →
        (recordGood (s.room b).hdr bytes = false → exec (.handoverRecord bytes env) s = .next (s.endHandover.raise 0x0B0C (dieIO b) [])) ∧
        (recordGood (s.room b).hdr bytes = true → sectionsGood (at_ bytes 6 2) (bytes.drop 0x40) = true → s.tender ≠ 4 →
          ∀ u, u = (s.setRoom a { s.room a with role := 2 }).setRoom b { s.room b with role := 3 } →
          exec (.handoverRecord bytes env) s = .next (((u.monLock 4).newBatch.fwShow.endHandover).raise 0x0B01 (dieIO b) [(1, a), (1, b)])))) ∧
    (∀ bytes, s.standbyRoom = none → (s.roomIn 1) = some q.val → (s.room q).verified = true → s.activeRoom.isSome = true → recordGood (s.room q).hdr bytes = true →
      (s.room q).role = 1 → exec (.shadowRecord bytes) s = .next ((s.setFw { s.fw with shadow := bytes }).toStandby q)) ∧
    (s.activeRoom ≠ some q.val → exec (.watchdogExpire q) s = .next s) ∧
    (s.activeRoom = some q.val → s.standbyRoom = none → exec (.watchdogExpire q) s = .next (s.askReset false 7)) ∧
    (∀ b, s.activeRoom = some q.val → s.standbyRoom = some b → s.bit F.FWU_STATUS_HANDOVER = false → s.tender ≠ 5 →
      exec (.watchdogExpire q) s = .next ((((((s.failRoom q).setRoom b { s.room b with role := 3 }).monLock 4).newBatch.fwShow).raise 0x0B02 (dieIO b) []).fwSettle)) ∧
    (∀ c ∈ [(Instr.thermalPowerTask, 0), (.laserSupervisionTask, 1), (.laneSupervisionTask, 2), (.ringSupervisionTask, 3), (.eventLoggingTask, 4)],
      s.activeRoom.isSome = true → ∀ n, n = tget (fun _ => 0) s.fw.missed c.2 →
        exec (c.1 false) s = .next (s.setFw { s.fw with missed := tput (fun _ => 0) s.fw.missed c.2 0 }) ∧
        (n < 2 → exec (c.1 true) s = .next (s.setFw { s.fw with missed := tput (fun _ => 0) s.fw.missed c.2 (n + 1) })) ∧
        (n = 2 → exec (c.1 true) s = .next ((s.setFw { s.fw with missed := tput (fun _ => 0) s.fw.missed c.2 0 }).raise 0x0B04 s.fwSource [(1, c.2)])))

/-- The tender: pieces arrive, staging, the activation epoch, its window and the confirmation. While ARRIVING and within CAP, a
fetch from device memory reads the next 4,096 bytes, and one from the BMC sends FW_GET once and takes a full answer; outside,
nothing changes. Staging of an ARMED image goes to ACTIVATING and loads the new image in the standby. At T, with the
preconditions, HANDOVER is set; without them nothing happens, and once the window ends the activation is missed. The
confirmation of a CONFIRMING image makes the new slot ACTIVE and the old FALLBACK on both flashes, goes to IDLE, migrates the
settings with FW_CONFIRMED and loads the standby. (R474, R478, R479, R480, R481, R483, R489) -/
def Obligations.ImageUpdates : Prop :=
  ∀ (s : State) (env : FwEnv),
    (s.tender ≠ 1 → exec (.tenderPieceFetch env) s = .next s ∧ ∀ bytes, exec (.fwGetResponse bytes env) s = .next s) ∧
    (s.tender = 1 → s.mayRead = true →
      (s.fw.src = 0 → exec (.tenderPieceFetch env) s = .next (s.chunk env
        (s.bytes (s.fw.addr + 5332 + 32 * hdrPieces s.newSlot.hdr + 65536 * s.nextPiece + s.fw.part.length) 4096))) ∧
      (s.fw.src = 1 → s.fw.asked = false → exec (.tenderPieceFetch env) s = .next ((s.setFw { s.fw with asked := true }).send
        (mctp 0x07 0x80 0 (leBytes 2 s.nextPiece ++ leBytes 4 s.fw.part.length ++ leBytes 2 4096))))) ∧
    (s.tender = 1 → s.fw.src = 1 → s.fw.asked = true → ∀ bytes,
      (bytes.length = 4096 → exec (.fwGetResponse bytes env) s = .next (s.chunk env bytes)) ∧
      (bytes.length ≠ 4096 → exec (.fwGetResponse bytes env) s = .next (s.setFw { s.fw with asked := false }))) ∧
    (s.tender ≠ 3 ∨ s.bt + s.rd F.FWU_ACT_CFG_STAGE_S * nsSec < s.actTime → exec .fwStageTimer s = .next s) ∧
    (∀ b, s.tender = 3 → s.actTime ≤ s.bt + s.rd F.FWU_ACT_CFG_STAGE_S * nsSec → s.standbyRoom = some b → ∀ u, u = s.setTender 4 → u.standbyRoom = some b →
      exec .fwStageTimer s = .next ((u.loadRoom b s.newSlot.hdr).fwShow)) ∧
    (s.tender = 4 → s.actTime ≤ s.bt → s.mayHandOver = true → exec .fwActivationEpoch s = .next (s.wr F.FWU_STATUS_HANDOVER 0 1)) ∧
    (s.mayHandOver = false ∨ s.bt < s.actTime → exec .fwActivationEpoch s = .next s) ∧
    (s.tender = 4 → s.actTime + s.rd F.FWU_ACT_CFG_ACT_WINDOW * 1000000 ≤ s.bt → s.bit F.FWU_STATUS_HANDOVER = false → exec .fwActWindowExpire s = .next s.actMissed) ∧
    (s.tender ≠ 5 → exec (.fwConfirmTimer env) s = .next s) ∧
    (s.tender = 5 → ∀ k v u, k = s.spareSlot → v = (s.writeSlots env (1 - k) (fun x => { x with state := 4 })).writeSlots env k (fun x => { x with state := 3 }) →
      u = ((v.setTender 0).migrateSettings s.running).raise 0x0B0D s.fwSource [] →
      exec (.fwConfirmTimer env) s = .next (match s.standbyRoom with | some q => u.loadRoom q s.running | none => u).fwSettle)

/-- What the management endpoint answers, and the signed report. With an ACTIVE watch room each request is answered under its code
and instance. GET_INFO and FW_STATUS answer what they name; GET_EVENTS answers INVALID outside 1 to 128 records, else the unread
records from the number asked; GET_CERT and GET_REPAIR answer INVALID past their area. ATTEST answers INVALID without 32
challenge bytes, BUSY with the wait while the bucket holds no token, EXHAUSTED with its event without a leaf, else the report
head, its signature with the next leaf, and takes a token; fewer than 65,536 leaves raise their event once. FW_OFFER answers
INVALID for a header of another length, else whether the offer was taken or the reason; FW_CMD answers INVALID for a code
outside 1 to 6, does what its code names and says whether it did. EVENT_NOTIFY is sent while a record is unread, at most once in
10 ms. Without an ACTIVE room nothing is answered. (R478, R485, R486, R487, R488, R489, R490) -/
def Obligations.ManagementAnswers : Prop :=
  ∀ (s : State) (i : BitVec 5) (env : FwEnv),
    (s.activeRoom = none → ∀ (off : BitVec 32) (len : BitVec 16) ch h m c t, ∀ x ∈ [Instr.getInfo i, .getCert i off len, .attest i ch, .getRepair i off len,
      .fwOffer i h m env, .fwStatus i, .fwCmd i c t env, .eventNotify], exec x s = .next s) ∧
    (s.activeRoom.isSome = true →
      (∀ b, b = (s.standbyRoom.map (fun q => hdrVersion (s.room q).hdr)).getD 0 → exec (.getInfo i) s = .next (s.send (mctp 0x01 i.toNat 0
        (serial ++ leBytes 4 0x4D31 ++ leBytes 8 (hdrVersion s.running) ++ leBytes 8 b ++ leBytes 1 s.svnFuse ++ leBytes 1 s.tender ++
          leBytes 1 (s.rd F.GLB_DEGRADED_LEVEL) ++ leBytes 4 s.leavesLeft ++ leBytes 4 s.evSeq)))) ∧
      exec (.fwStatus i) s = .next (s.send (mctp 0x08 i.toNat 0 (leBytes 4 (s.reg F.FWU_STATUS_TENDER.base).toNat ++
        leBytes 4 (s.rd F.FWU_ACT_LO_T_LO) ++ leBytes 4 (s.rd F.FWU_ACT_HI_T_HI)))) ∧
      (∀ (n : BitVec 32) (c : BitVec 8), (c = 0 ∨ 128 < c.toNat → exec (.getEvents i n c) s = .next (s.send (mctp 0x02 i.toNat 1 []))) ∧
        (1 ≤ c.toNat → c.toNat ≤ 128 → ∀ l hd lost nx, l = (s.bmcLog.filter (fun e => seqFrom n.toNat e.seq)).take c.toNat →
          hd = (l.head?.map (·.seq)).getD s.evSeq → lost = (hd + 2 ^ 32 - n.toNat) % 2 ^ 32 → nx = (l.getLast?.map (fun e => (e.seq + 1) % 2 ^ 32)).getD s.fw.bmcRead →
          lost < 2 ^ 24 → exec (.getEvents i n c) s = .next ((s.setFw { s.fw with bmcRead := nx }).send (mctp 0x02 i.toNat 0
            (leBytes 4 hd ++ leBytes 1 l.length ++ leBytes 3 lost ++ l.flatMap (fun e => eventBytes e 0)))))) ∧
      (∀ (off : BitVec 32) (len : BitVec 16),
        (4096 < len.toNat ∨ 0x100000 < off.toNat + len.toNat → exec (.getCert i off len) s = .next (s.send (mctp 0x03 i.toNat 1 []))) ∧
        (len.toNat ≤ 4096 → off.toNat + len.toNat ≤ 0x100000 → exec (.getCert i off len) s = .next (s.send (mctp 0x03 i.toNat 0
          ((List.range len.toNat).map (fun k => Config.certByte (off.toNat + k)))))) ∧
        (4096 < len.toNat ∨ s.fw.repair.length < off.toNat + len.toNat → exec (.getRepair i off len) s = .next (s.send (mctp 0x05 i.toNat 1 []))) ∧
        (len.toNat ≤ 4096 → off.toNat + len.toNat ≤ s.fw.repair.length → exec (.getRepair i off len) s = .next (s.send (mctp 0x05 i.toNat 0
          ((s.fw.repair.drop off.toNat).take len.toNat))))) ∧
      (∀ ch, ch.length ≠ 32 → exec (.attest i ch) s = .next (s.send (mctp 0x04 i.toNat 1 []))) ∧
      (∀ ch : List (BitVec 8), ch.length = 32 →
        (s.bucketFill < tokenNs → s.fw.busyAt ≠ 0 → s.now < s.fw.busyAt - 1 + nsHour → exec (.attest i ch) s =
          .next (s.send (mctp 0x04 i.toNat 2 (leBytes 2 (min 0xFFFF ((tokenNs - s.bucketFill + 999999) / 1000000)))))) ∧
        (s.bucketFill < tokenNs → s.fw.busyAt = 0 → ∀ v, v = s.raise 0x0C04 s.fwSource [] → exec (.attest i ch) s =
          .next ((v.setFw { v.fw with busyAt := s.now + 1 }).mctpAnswer 0x04 i 2 (leBytes 2 (min 0xFFFF ((tokenNs - s.bucketFill + 999999) / 1000000))))) ∧
        (tokenNs ≤ s.bucketFill → s.takeLeaf = none → exec (.attest i ch) s = .next ((s.raise 0x0C06 s.fwSource []).mctpAnswer 0x04 i 5 [])) ∧
        (tokenNs ≤ s.bucketFill → ∀ lf t hd u, s.takeLeaf = some (lf, t) → hd = s.reportHead ch s.repairRecord →
          u = t.setFw { t.fw with bucket := s.bucketFill - tokenNs, bucketAt := s.now, repair := s.repairRecord } →
          (65536 ≤ u.leavesLeft ∨ u.fw.leavesLow = true →
            exec (.attest i ch) s = .next (u.fwShow.mctpAnswer 0x04 i 0 (hd ++ (List.range 5076).map (Config.hssSign lf hd)))) ∧
          (u.leavesLeft < 65536 → u.fw.leavesLow = false → ∀ v, v = u.raise 0x0C05 u.fwSource [] →
            exec (.attest i ch) s = .next ((v.setFw { v.fw with leavesLow := true }).fwShow.mctpAnswer 0x04 i 0
              (hd ++ (List.range 5076).map (Config.hssSign lf hd)))))) ∧
      (∀ h m, (h.length ≠ 5332 → exec (.fwOffer i h m env) s = .next (s.send (mctp 0x06 i.toNat 1 []))) ∧
        (h.length = 5332 → ∀ r, r = s.offerRefusal h m env.sig →
          (r ≠ 0 → exec (.fwOffer i h m env) s = .next (((s.wr F.FWU_STATUS_REASON 0 r).raise 0x0B07 s.fwSource [(1, r)]).mctpAnswer 0x06 i 4 (leBytes 1 r))) ∧
          (r = 0 → exec (.fwOffer i h m env) s = .next ((s.offer env 1 0 h m).1.mctpAnswer 0x06 i 0 [])))) ∧
      (∀ (c : BitVec 8) t, (c = 0 ∨ 7 ≤ c.toNat → exec (.fwCmd i c t env) s = .next (s.send (mctp 0x09 i.toNat 1 []))) ∧
        (c = 1 → ∀ q, q = s.offerMem env → exec (.fwCmd i c t env) s =
          .next (if q.2 = 0 then q.1.mctpAnswer 0x09 i 0 [] else q.1.mctpAnswer 0x09 i 4 (leBytes 1 q.2))) ∧
        (c = 2 → ∀ u, u = s.cancelImage env → exec (.fwCmd i c t env) s = .next (u.mctpAnswer 0x09 i (if u.tender ≠ s.tender then 0 else 1) [])) ∧
        (c = 3 → ∀ u, u = ((s.wr F.FWU_ACT_LO_T_LO 0 (t.toNat % 2 ^ 32)).wr F.FWU_ACT_HI_T_HI 0 (t.toNat / 2 ^ 32)).arm →
          exec (.fwCmd i c t env) s = .next (u.mctpAnswer 0x09 i (if u.tender ≠ s.tender then 0 else 1) [])) ∧
        (c = 4 → s.tender = 3 → exec (.fwCmd i c t env) s = .next ((s.setTender 2).mctpAnswer 0x09 i 0 [])) ∧
        (c = 4 → s.tender ≠ 3 → exec (.fwCmd i c t env) s = .next (s.mctpAnswer 0x09 i 1 [])) ∧
        (c = 5 → ∀ q, q = s.commitSvn env → exec (.fwCmd i c t env) s = .next (q.1.mctpAnswer 0x09 i (if q.2 then 0 else 1) [])) ∧
        (c = 6 → exec (.fwCmd i c t env) s = .next ((s.saveSettings env).mctpAnswer 0x09 i 0 []))) ∧
      (s.bmcLog.any (fun e => seqFrom s.fw.bmcRead e.seq) = true → s.fw.notifyAt ≤ s.now →
        exec .eventNotify s = .next ((s.setFw { s.fw with notifyAt := s.now + 10000000 }).send (mctp 0x10 0x80 0 (leBytes 4 s.evSeq)))) ∧
      (s.now < s.fw.notifyAt → exec .eventNotify s = .next s) ∧
      (s.bmcLog.any (fun e => seqFrom s.fw.bmcRead e.seq) = false → exec .eventNotify s = .next s))

/-- Lines of the serial monitor: who serves them, what they print and do, scopes and errors. During a handover a line waits; without
an ACTIVE room none is served. Otherwise, with no signature awaited, each read command prints its lines; RD prints one line a
word or RANGE; an unlock asks for the signature or answers RANGE. An accepted signature over a fresh block opens the session
with its event; any other counts a failure, raises MON_UNLOCK_FAILED and answers AUTH. Lines of data gather. LOCK and an expiry
end a session with MON_LOCKED. A challenge is refused under lockout. A write or debug command without its scope answers LOCKED;
with it, it raises MON_COMMAND and acts, or answers RANGE, REFUSED or BUSY. A line that is no command answers SYNTAX, UNKNOWN or
OVERFLOW. (R203, R251, R518, R519, R520, R521, R522, R523, R524, R525, R526, R527) -/
def Obligations.MonitorCommands : Prop :=
  ∀ (s : State) (off v mask : BitVec 32) (n : Nat) (env : FwEnv) (st : Fin 16) (lc : Fin 192) (pt : Fin 24) (a : BitVec 64) (data : List (BitVec 8)),
    (∀ k, ∀ c ∈ [(Instr.help, MonCmd.help), (.memwr a data, .memwr a data), (.monUnknownCommand k, .unknown k)], s.bit F.FWU_STATUS_HANDOVER = true →
      exec c.1 s = .next { s with mon := { s.mon with waiting := s.mon.waiting ++ [c.2] } }) ∧
    (s.bit F.FWU_STATUS_HANDOVER = false → s.activeRoom = none → exec .help s = .next s ∧ exec (.memwr a data) s = .next s) ∧
    (s.bit F.FWU_STATUS_HANDOVER = false → s.activeRoom.isSome = true → s.mon.unlock = none →
      (∀ (l : Option (Fin 24)) (e : Fin 16), ∀ c ∈ [(Instr.help, s.monHelp), (.info, s.monInfo), (.inv, s.monInv), (.rd off n, s.monRd off.toNat n), (.status, s.monStatus), (.events n, s.monEvents n), (.thermal, s.monThermal),
      (.power, s.monPower), (.links l, s.monLinks (l.map (·.val))), (.fabric e, s.monFabric e), (.laser, s.monLaser), (.time, s.monTime)], exec c.1 s = .next c.2) ∧
      s.monRd 0x13 1 = s.monErr 4 ∧ s.monRd 0x10 1 = s.monOk [words [hex 8 0x10, hex 8 (s.regView 0x10).toNat]] ∧
      (∀ nc : BitVec 256, (s.bit F.MON_CTRL_LOCKOUT = true → exec (.chal nc) s = .next (s.monErr 9)) ∧
        (s.bit F.MON_CTRL_LOCKOUT = false → s.unlockHeld = false → ∀ u : State, u = { s with mon := { s.mon with block := some (s.challenge nc), blockAt := s.now } } →
          exec (.chal nc) s = .next (u.monOk [words (dataGroups ((s.challenge nc).take 32)), words (dataGroups ((s.challenge nc).drop 32))]))) ∧
      exec .lock s = .next ((s.monLock 0).monOk []) ∧
      (∀ (d : Bool) (m : BitVec 8), (m = 0 ∨ 240 < m.toNat → exec (.unlock d m) s = .next (s.monErr 4)) ∧
        (1 ≤ m.toNat → m.toNat ≤ 240 → exec (.unlock d m) s =
          .next (({ s with mon := { s.mon with unlock := some (if d then 2 else 1, m.toNat, []) } } : State).say ["SEND 5076"]))) ∧
      exec (.monUnknownCommand .malformed) s = .next (s.monErr 1) ∧ exec (.monUnknownCommand .unknown) s = .next (s.monErr 2) ∧
      exec (.monUnknownCommand .overrun) s = .next (s.monErr 8) ∧
      (s.mon.scope = 0 → ∀ (cold f : Bool) (k : Option (Fin 32)), ∀ c ∈ [Instr.wr off v mask env, .save env, .reset cold, .diereset st f, .corereset lc,
        .linkreset pt k, .memrd a n, .memwr a data], exec c s = .next (s.monErr 3)) ∧
      (s.mon.scope < 2 → exec (.memrd a n) s = .next (s.monErr 3) ∧ exec (.memwr a data) s = .next (s.monErr 3)) ∧
      (1 ≤ s.mon.scope →
        (off.toNat % 4 = 0 → off.toNat < 0x4000000 → ∀ u, u = (s.raise 0x0C23 s.fwSource [(1, 0), (4, off.toNat)]).portWrite (s.rd F.HST_CTRL_ACTIVE) off.toNat v mask true env →
          exec (.wr off v mask env) s = .next (u.monOk [words [hex 8 off.toNat, hex 8 (u.regView off.toNat).toNat]])) ∧
        (off.toNat % 4 ≠ 0 → exec (.wr off v mask env) s = .next (s.monErr 4)) ∧
        exec (.save env) s = .next (((s.raise 0x0C23 s.fwSource [(1, 1)]).saveSettings env).monOk []) ∧
        exec (.reset true) s = .next (((s.raise 0x0C23 s.fwSource [(1, 2), (1, 1)]).monOk []).askReset true 2) ∧
        exec (.reset false) s = .next (((s.raise 0x0C23 s.fwSource [(1, 2), (1, 0)]).monOk []).askReset false 4) ∧
        (s.bit F.GLB_START_DONE = false → ∀ f k, exec (.diereset st f) s = .next (s.monErr 5) ∧ exec (.corereset lc) s = .next (s.monErr 5) ∧
          exec (.linkreset pt (some 1)) s = .next (s.monErr 5) ∧ (k = some 0 → exec (.linkreset pt k) s = .next (s.monErr 4))) ∧
        (s.bit F.GLB_START_DONE = true →
          (s.dieState st = 0 → exec (.diereset st true) s = .next (((s.raise 0x0C23 s.fwSource [(1, 3), (1, st)]).forcedReset st).monOk []) ∧
            exec (.diereset st false) s = .next (((s.raise 0x0C23 s.fwSource [(1, 3), (1, st)]).orderlyReset st).monOk [])) ∧
          (s.dieState st = 1 → exec (.diereset st true) s = .next (((s.raise 0x0C23 s.fwSource [(1, 3), (1, st)]).forcedReset st).monOk []) ∧
            exec (.diereset st false) s = .next (s.monErr 6)) ∧
          (s.dieState st = 2 ∨ s.dieState st = 3 → ∀ f, exec (.diereset st f) s = .next (s.monErr 6)) ∧
          (s.dieState st = 4 → ∀ f, exec (.diereset st f) s = .next (s.monErr 5)) ∧
          ((s.core lc).cstate = .idle → (s.core lc).broken = false → exec (.corereset lc) s =
            .next (((s.raise 0x0C23 s.fwSource [(1, 4), (1, lc)]).resetCore lc).monOk [])) ∧
          ((s.core lc).cstate ≠ .idle → exec (.corereset lc) s = .next (s.monErr 5)) ∧
          (∀ k : Fin 32, k ≠ 0 → ∀ u, u = s.raise 0x0C23 s.fwSource [(1, 5), (1, pt)] → exec (.linkreset pt (some k)) s =
            .next (((u.linkOff (32 * pt + k) true).linkSettle (32 * pt + k)).monOk [])))) ∧
      (s.mon.scope = 2 →
        (a.toNat % 8 ≠ 0 → exec (.memrd a n) s = .next (s.monErr 4) ∧ exec (.memwr a data) s = .next (s.monErr 4)) ∧
        (s.bit F.GLB_START_DONE = true → a.toNat % 8 = 0 →
          (n % 8 = 0 → n ≠ 0 → n ≤ 4096 → s.monArea a.toNat n false = 0 → ∃ lines, exec (.memrd a n) s = .next ((s.raise 0x0C23 s.fwSource [(1, 6), (8, a.toNat)]).monOk lines) ∧
            lines.length = (touchedUnits a.toNat n).length) ∧
          (8 ≤ data.length → a.toNat % 64 + data.length ≤ 64 → s.monArea a.toNat data.length true = 0 →
            exec (.memwr a data) s = .next (((s.raise 0x0C23 s.fwSource [(1, 7), (8, a.toNat)]).store a.toNat data).monOk []))))) ∧
    (s.bit F.FWU_STATUS_HANDOVER = false → s.activeRoom.isSome = true → ∀ scope minutes got, s.mon.unlock = some (scope, minutes, got) →
      (data ≠ [] → ∀ g, exec (.monSignatureLine data g) s = .next { s with mon := { s.mon with unlock := some (scope, minutes, (got ++ data).take 5077) } }) ∧
      (got.length = 5076 → s.mon.block.isSome = true → s.now ≤ s.mon.blockAt + 60 * nsSec → s.bit F.MON_CTRL_LOCKOUT = false →
        ∀ u : State, u = { s with mon := { s.mon with block := none, unlock := none, scope := scope, fails := 0 } } →
        exec (.monSignatureLine [] true) s = .next (((u.wr F.MON_STATUS_SESSION 0 1).raise 0x0C20 s.fwSource [(1, scope), (1, minutes)]).monOk [])) ∧
      (∀ u : State, u = ({ s with mon := { s.mon with block := none, unlock := none, fails := s.mon.fails + 1, failAt := s.now + 1 } } : State).bump
          F.MON_STATUS_UNLOCK_FAIL 0 1 →
        exec (.monSignatureLine [] false) s = .next ((u.raise 0x0C21 s.fwSource [(2, u.rd F.MON_STATUS_UNLOCK_FAIL)]).monErr 10))) ∧
    (s.mon.scope = 0 → ∀ idle, exec (.monSessionExpire idle) s = .next s) ∧
    (s.mon.scope ≠ 0 → exec (.monSessionExpire true) s = .next (s.monLock 2) ∧ exec (.monSessionExpire false) s = .next (s.monLock 1))

/-- The value of an element under its block scale byte and trim code, and what a TB block costs. In a vector of n elements of a
block format at an address, element i, whose code stands for ± m × 2^e and whose block has the scale byte s: with s = 0xFF it
reads as NaN, whatever its code; otherwise it is ± m × 2^e × 2^(s - 127), times (4 + t) / 4 in TB4 and TB6, where t is the trim
code of its sub-block of eight elements. 32 elements take 18 bytes in TB4 (4.5 bits an element) and 26 in TB6 (6.5 bits). (R98,
R99) -/
def Obligations.BlockScales : Prop :=
  (∀ (rd : Nat → Byte) (fmt n base i sc : Nat), hasScale fmt = true → sc = (rd (base + (n * fmtWidth fmt + 7) / 8 + i / 32)).toNat →
    (sc = 0xFF → vecElem rd fmt n base i = .nan) ∧
    (∀ (g : Bool) (m : Nat) (e : Int), sc ≠ 0xFF → (elemOf fmt).value (packedAt rd base (fmtWidth fmt) i) = .fin g m e →
      (hasTrim fmt = false → vecElem rd fmt n base i = .fin g m (e + ((sc : Int) - 127))) ∧
      (hasTrim fmt = true → ∀ t, t = (rd (base + (n * fmtWidth fmt + 7) / 8 + n / 32 + i / 32)).toNat / 4 ^ (i % 32 / 8) % 4 →
        t < 4 ∧ vecElem rd fmt n base i = .fin g (m * (4 + t)) (e - 2 + ((sc : Int) - 127))))) ∧
  (∀ k, 8 * vecBytes 2 (32 * k) * 2 = 9 * (32 * k) ∧ 8 * vecBytes 7 (32 * k) * 2 = 13 * (32 * k)) ∧
  elemOf 2 = .e2m1 ∧ elemOf 7 = .e2m3 ∧ (∀ fmt, hasTrim fmt = true ↔ fmt = 2 ∨ fmt = 7)

/-- Raising an event: its record, its number, the buffer, the log, and the count of those dropped. An event that is raised spends
the next number modulo 2^32. While the buffer holds fewer than 4,096 records it is added last, with its code, its number, the
beacon time, its source and its data, and to the log, of which the last 8,192 stay; no register changes. While the buffer is
full it is dropped: the buffer and the log stay, and the count of dropped records and DROPPED of EVT_STATUS, which saturates,
rise by one. Data are the values in order, little-endian, then zeros, twelve bytes in all. Nothing else changes. (R360, R361,
R489, R543) -/
def Obligations.EventsRaised : Prop :=
  ∀ (s : State) (code source : Nat) (data : List (Nat × Nat)),
    (s.raise code source data).evSeq = (s.evSeq + 1) % 2 ^ 32 ∧
    (s.evts.length < 4096 → ∀ r, r = EvRec.mk code false s.evSeq s.bt source (evData data) → s.raise code source data =
      { s with evSeq := (s.evSeq + 1) % 2 ^ 32, evts := s.evts ++ [r], bmcLog := (s.bmcLog ++ [r]).drop (s.bmcLog.length + 1 - 8192) }) ∧
    (4096 ≤ s.evts.length → s.raise code source data =
      ({ s with evSeq := (s.evSeq + 1) % 2 ^ 32, evDropped := s.evDropped + 1 } : State).wr F.EVT_STATUS_DROPPED 0
        (min (s.rd F.EVT_STATUS_DROPPED + 1) (2 ^ F.EVT_STATUS_DROPPED.width - 1))) ∧
    (evData data).length = 12 ∧
    (∀ v, data.flatMap (fun (x : Nat × Nat) => leBytes x.1 x.2) = v → v.length ≤ 12 → evData data = v ++ List.replicate (12 - v.length) 0)

/-- What reset leaves. Right after reset no command waits, every set-up register holds the reset value of its field table, among
them the default frequency table in steps 0 to 15 of every die, no device memory and no host memory is listed, no unit is
poisoned, the event buffer is empty with number 0 next, every core is ABSENT, no watch room is ACTIVE, no descriptor, launch or
packet is in flight, the lightvessel is SOLO, a cold start is due and nothing has been sent; and the state has the form every
state of a run has. (That unwritten memory reads as zero, and that no image runs yet, are the model's choices, log entries 1 and
19.) (R203, R361, R372, R376, R429, R469, R507) -/
def Obligations.AfterReset : Prop :=
  State.reset.Sound ∧ State.reset.pending = [] ∧ (∀ off, State.reset.reg off = regReset off) ∧
    (∀ (d : Fin 12) (i : Fin 16), State.reset.rd F.CLK_FTAB_FREQ (16 * d + i) = defaultFreq.getD i 0) ∧
    (∀ off, regRow off = none → off < 0x501000 → State.reset.reg off = 0) ∧
    (∀ a, (State.reset.locate a).writable = true → State.reset.byteAt a = 0 ∧ State.reset.bad a = false) ∧
    State.reset.hmem = [] ∧ State.reset.evts = [] ∧ State.reset.evSeq = 0 ∧ State.reset.evDropped = 0 ∧
    (∀ lc, (State.reset.core lc).cstate = .absent) ∧ State.reset.activeRoom = none ∧ State.reset.standbyRoom = none ∧ State.reset.launches = [] ∧ State.reset.cmd.descs = [] ∧
    State.reset.lvState = 0 ∧ State.reset.fw.due = 1 ∧ State.reset.rd F.GLB_START_DONE = 0 ∧ State.reset.rd F.FWU_CTRL_CAP = 1000 ∧
    State.reset.rd F.MEM_CTRL_SCRUB_H = 24 ∧ State.reset.rd F.PRT_E2E_CTRL_RETRIES = 4 ∧ State.reset.rd F.PRT_E2E_CTRL_TIMER_RACK = 20 ∧ State.reset.out = []

/-- Every command answers a next state and leaves the queue of waiting commands and local time alone. For every command of the
table, with every operand, in every state: the command answers a next state, neither a fault nor a refusal, and in that state
the commands that wait and the local time are as they were. (That a command whose condition does not hold leaves the device as
it is, instead of stopping, is the model's choice, log entry 48.) (00_scope.md, R10, R342) -/
def Obligations.EveryCommandCompletes : Prop :=
  ∀ (c : Instr) (s : State), ∃ t, exec c s = .next t ∧ t.pending = s.pending ∧ t.now = s.now

/-- Every step keeps the form of the state: canonical registers and memories, bounded event buffer and log, event number and beacon
time in width. For every state that is sound (set-up registers and both byte memories are canonical tables, the event buffer
holds at most 4,096 records and the log at most 8,192, the event number is below 2^32 and beacon time below 2^64), the state a
step answers is sound, whatever command stands at the front of the queue. (R360, R361, R379, R489, R503) -/
def Obligations.SoundStays : Prop :=
  ∀ s t : State, s.Sound → step s = .next t → t.Sound
end

