-- ==== Sys2Proof/Laws/Table.lean ====
section
/-!
SUPPORT. Laws of the sparse tables: a read after a write, and that every write keeps the canonical form.
-/
namespace Sys2Proof.Machine

variable {α : Type}

theorem tget_tins_same (d : Nat → α) (t : Tbl α) (n : Nat) (x : α) : tget d (tins t n x) n = x := by
  induction t with
  | nil => simp [tins, tget]
  | cons e r ih =>
    obtain ⟨k, v⟩ := e
    simp only [tins]
    split
    · simp [tget]
    · split
      · simp [tget]
      · rename_i h1 h2
        simp [tget, h2, ih]

theorem tget_tins_ne (d : Nat → α) (t : Tbl α) (n m : Nat) (x : α) (h : m ≠ n) :
    tget d (tins t n x) m = tget d t m := by
  induction t with
  | nil => simp [tins, tget, h]
  | cons e r ih =>
    obtain ⟨k, v⟩ := e
    simp only [tins]
    split
    · simp [tget, h]
    · split
      · rename_i h1 h2
        subst h2
        simp [tget, h]
      · simp only [tget, ih]

theorem tget_of_lt (d : Nat → α) (t : Tbl α) (n : Nat) (h : ∀ e ∈ t, n < e.1) : tget d t n = d n := by
  induction t with
  | nil => rfl
  | cons e r ih =>
    obtain ⟨k, v⟩ := e
    have hk := h (k, v) (by simp)
    simp only [tget]
    rw [if_neg (by simp at hk; omega)]
    exact ih (fun e he => h e (by simp [he]))

theorem tget_tdel_ne (d : Nat → α) (t : Tbl α) (n m : Nat) (h : m ≠ n) : tget d (tdel t n) m = tget d t m := by
  induction t with
  | nil => rfl
  | cons e r ih =>
    obtain ⟨k, v⟩ := e
    simp only [tdel]
    split
    · rename_i h1
      subst h1
      simp [tget, h]
    · simp only [tget, ih]

variable [DecidableEq α]

theorem Tbl.wf_cons {d : Nat → α} {k : Nat} {v : α} {r : Tbl α} :
    Tbl.wf d ((k, v) :: r) = true ↔ v ≠ d k ∧ (∀ e ∈ r, k < e.1) ∧ Tbl.wf d r = true := by
  simp [Tbl.wf, and_assoc]

theorem tget_tdel_same (d : Nat → α) (t : Tbl α) (n : Nat) (h : Tbl.wf d t = true) : tget d (tdel t n) n = d n := by
  induction t with
  | nil => rfl
  | cons e r ih =>
    obtain ⟨k, v⟩ := e
    obtain ⟨_, h2, h3⟩ := Tbl.wf_cons.mp h
    simp only [tdel]
    split
    · rename_i h1
      subst h1
      exact tget_of_lt d r n h2
    · rename_i h1
      simp [tget, h1, ih h3]

/-- What a write can do: the written key reads the new value. -/
theorem tget_tput_same (d : Nat → α) (t : Tbl α) (n : Nat) (x : α) (h : Tbl.wf d t = true) :
    tget d (tput d t n x) n = x := by
  unfold tput
  split
  · rename_i hx
    rw [tget_tdel_same d t n h, hx]
  · exact tget_tins_same d t n x

/-- What a write can do: every other key reads as before. -/
theorem tget_tput_ne (d : Nat → α) (t : Tbl α) (n m : Nat) (x : α) (h : m ≠ n) :
    tget d (tput d t n x) m = tget d t m := by
  unfold tput
  split
  · exact tget_tdel_ne d t n m h
  · exact tget_tins_ne d t n m x h

omit [DecidableEq α] in
theorem mem_tdel {t : Tbl α} {n : Nat} {e : Nat × α} (h : e ∈ tdel t n) : e ∈ t := by
  induction t with
  | nil => simp [tdel] at h
  | cons a r ih =>
    obtain ⟨k, v⟩ := a
    simp only [tdel] at h
    split at h
    · simp [h]
    · simp only [List.mem_cons] at h ⊢
      exact h.imp id ih

theorem mem_tins {t : Tbl α} {n : Nat} {x : α} {e : Nat × α} (h : e ∈ tins t n x) : e = (n, x) ∨ e ∈ t := by
  induction t with
  | nil => simpa [tins] using h
  | cons a r ih =>
    obtain ⟨k, v⟩ := a
    simp only [tins] at h
    split at h
    · simp only [List.mem_cons] at h ⊢; tauto
    · split at h
      · simp only [List.mem_cons] at h ⊢; tauto
      · simp only [List.mem_cons] at h ⊢
        rcases h with h | h
        · tauto
        · have := ih h; tauto

theorem tdel_wf (d : Nat → α) (t : Tbl α) (n : Nat) (h : Tbl.wf d t = true) : Tbl.wf d (tdel t n) = true := by
  induction t with
  | nil => rfl
  | cons e r ih =>
    obtain ⟨k, v⟩ := e
    obtain ⟨h1, h2, h3⟩ := Tbl.wf_cons.mp h
    simp only [tdel]
    split
    · exact h3
    · exact Tbl.wf_cons.mpr ⟨h1, fun e he => h2 e (mem_tdel he), ih h3⟩

theorem tins_wf (d : Nat → α) (t : Tbl α) (n : Nat) (x : α) (hx : x ≠ d n) (h : Tbl.wf d t = true) :
    Tbl.wf d (tins t n x) = true := by
  induction t with
  | nil => exact Tbl.wf_cons.mpr ⟨hx, by simp, rfl⟩
  | cons e r ih =>
    obtain ⟨k, v⟩ := e
    obtain ⟨h1, h2, h3⟩ := Tbl.wf_cons.mp h
    simp only [tins]
    split
    · rename_i hlt
      refine Tbl.wf_cons.mpr ⟨hx, ?_, h⟩
      intro e he
      rcases List.mem_cons.mp he with rfl | he
      · exact hlt
      · exact lt_trans hlt (h2 e he)
    · split
      · rename_i _ heq
        subst heq
        exact Tbl.wf_cons.mpr ⟨hx, h2, h3⟩
      · rename_i hnlt hne
        refine Tbl.wf_cons.mpr ⟨h1, ?_, ih h3⟩
        intro e he
        rcases mem_tins he with rfl | he
        · simp; omega
        · exact h2 e he

/-- A write keeps the canonical form. -/
theorem tput_wf (d : Nat → α) (t : Tbl α) (n : Nat) (x : α) (h : Tbl.wf d t = true) : Tbl.wf d (tput d t n x) = true := by
  unfold tput
  split
  · exact tdel_wf d t n h
  · rename_i hx
    exact tins_wf d t n x hx h

/-- Rewriting every entry keeps the canonical form. -/
theorem tmap_wf (d : Nat → α) (f : Nat → α → α) (t : Tbl α) (h : Tbl.wf d t = true) : Tbl.wf d (tmap d f t) = true := by
  induction t with
  | nil => rfl
  | cons e r ih =>
    obtain ⟨k, v⟩ := e
    obtain ⟨_, h2, h3⟩ := Tbl.wf_cons.mp h
    have hr := ih h3
    by_cases hv : f k v = d k
    · simpa [tmap, hv] using hr
    · have : tmap d f ((k, v) :: r) = (k, f k v) :: tmap d f r := by simp [tmap, hv]
      rw [this]
      refine Tbl.wf_cons.mpr ⟨hv, ?_, hr⟩
      intro e he
      simp only [tmap, List.mem_filter, List.mem_map] at he
      obtain ⟨⟨a, ha, rfl⟩, _⟩ := he
      exact h2 a ha

theorem bitsGet_lt (w : Word) (hi lo : Nat) : bitsGet w hi lo < 2 ^ (hi - lo + 1) := Nat.mod_lt _ (by positivity)

theorem bitsGet_testBit (w : Word) (hi lo i : Nat) (h : lo ≤ hi) :
    (bitsGet w hi lo).testBit i = (decide (i ≤ hi - lo) && w.getLsbD (lo + i)) := by
  simp [bitsGet, Nat.testBit_mod_two_pow, BitVec.getLsbD, Nat.testBit_shiftRight]

theorem bitsSet_getLsbD (w : Word) (hi lo v i : Nat) (h : lo ≤ hi) (hh : hi < 32) :
    (bitsSet w hi lo v).getLsbD i =
      if lo ≤ i ∧ i ≤ hi then v.testBit (i - lo) else w.getLsbD i := by
  unfold bitsSet
  simp only [BitVec.getLsbD_or, BitVec.getLsbD_and, BitVec.getLsbD_not, BitVec.getLsbD_shiftLeft, BitVec.getLsbD_ofNat,
    Nat.testBit_mod_two_pow, Nat.testBit_two_pow_sub_one]
  by_cases h1 : i < 32
  · by_cases h2 : lo ≤ i
    · by_cases h3 : i ≤ hi
      · have : i - lo < hi - lo + 1 := by omega
        have h4 : i - lo < 32 := by omega
        have h5 : ¬ i < lo := by omega
        simp [h1, h2, h3, this, h4, h5]
      · have : ¬ i - lo < hi - lo + 1 := by omega
        simp [h1, h3, this]
    · have : i < lo := by omega
      simp [h1, h2, this]
  · have h5 : ¬ i ≤ hi := by omega
    have h6 : w.getLsbD i = false := BitVec.getLsbD_of_ge w i (by omega)
    simp [h1, h5, h6]

/-- A field reads what was last written to it. -/
theorem bitsGet_bitsSet_same (w : Word) (hi lo v : Nat) (h : lo ≤ hi) (hh : hi < 32) :
    bitsGet (bitsSet w hi lo v) hi lo = v % 2 ^ (hi - lo + 1) := by
  apply Nat.eq_of_testBit_eq
  intro i
  rw [bitsGet_testBit _ _ _ _ h, bitsSet_getLsbD _ _ _ _ _ h hh, Nat.testBit_mod_two_pow]
  by_cases h1 : i ≤ hi - lo
  · have : lo + i ≤ hi := by omega
    simp [h1, this]
  · have : ¬ i < hi - lo + 1 := by omega
    simp [h1, this]

/-- Writing one field leaves a field of other bits as it was. -/
theorem bitsGet_bitsSet_disjoint (w : Word) (hi lo hi2 lo2 v : Nat) (h : lo ≤ hi) (hh : hi < 32) (h2 : lo2 ≤ hi2)
    (hd : hi < lo2 ∨ hi2 < lo) : bitsGet (bitsSet w hi lo v) hi2 lo2 = bitsGet w hi2 lo2 := by
  apply Nat.eq_of_testBit_eq
  intro i
  rw [bitsGet_testBit _ _ _ _ h2, bitsGet_testBit _ _ _ _ h2, bitsSet_getLsbD _ _ _ _ _ h hh]
  by_cases h1 : i ≤ hi2 - lo2
  · have : ¬ (lo ≤ lo2 + i ∧ lo2 + i ≤ hi) := by omega
    simp [h1, this]
  · simp [h1]

end Sys2Proof.Machine
end

