-- ==== Sys2Proof/Laws/State.lean ====
section
/-!
SUPPORT. What each basic update of the state leaves as it was, one lemma for each field and update, and what the shared
operations on registers, events and degraded levels do.
-/
namespace Sys2Proof.Machine

@[simp] theorem State.setReg_pending (s : State) (off : Nat) (w : Word) : (s.setReg off w).pending = s.pending := rfl
@[simp] theorem State.setReg_free (s : State) (off : Nat) (w : Word) : (s.setReg off w).free = s.free := rfl
@[simp] theorem State.setReg_now (s : State) (off : Nat) (w : Word) : (s.setReg off w).now = s.now := rfl
@[simp] theorem State.setReg_bt (s : State) (off : Nat) (w : Word) : (s.setReg off w).bt = s.bt := rfl
@[simp] theorem State.setReg_dmem (s : State) (off : Nat) (w : Word) : (s.setReg off w).dmem = s.dmem := rfl
@[simp] theorem State.setReg_poison (s : State) (off : Nat) (w : Word) : (s.setReg off w).poison = s.poison := rfl
@[simp] theorem State.setReg_hmem (s : State) (off : Nat) (w : Word) : (s.setReg off w).hmem = s.hmem := rfl
@[simp] theorem State.setReg_cores (s : State) (off : Nat) (w : Word) : (s.setReg off w).cores = s.cores := rfl
@[simp] theorem State.setReg_tiles (s : State) (off : Nat) (w : Word) : (s.setReg off w).tiles = s.tiles := rfl
@[simp] theorem State.setReg_launches (s : State) (off : Nat) (w : Word) : (s.setReg off w).launches = s.launches := rfl
@[simp] theorem State.setReg_reports (s : State) (off : Nat) (w : Word) : (s.setReg off w).reports = s.reports := rfl
@[simp] theorem State.setReg_evts (s : State) (off : Nat) (w : Word) : (s.setReg off w).evts = s.evts := rfl
@[simp] theorem State.setReg_evSeq (s : State) (off : Nat) (w : Word) : (s.setReg off w).evSeq = s.evSeq := rfl
@[simp] theorem State.setReg_evDropped (s : State) (off : Nat) (w : Word) : (s.setReg off w).evDropped = s.evDropped := rfl
@[simp] theorem State.setReg_bmcLog (s : State) (off : Nat) (w : Word) : (s.setReg off w).bmcLog = s.bmcLog := rfl
@[simp] theorem State.setReg_mem (s : State) (off : Nat) (w : Word) : (s.setReg off w).mem = s.mem := rfl
@[simp] theorem State.setReg_role (s : State) (off : Nat) (w : Word) : (s.setReg off w).role = s.role := rfl
@[simp] theorem State.setReg_fab (s : State) (off : Nat) (w : Word) : (s.setReg off w).fab = s.fab := rfl
@[simp] theorem State.setReg_light (s : State) (off : Nat) (w : Word) : (s.setReg off w).light = s.light := rfl
@[simp] theorem State.setReg_clk (s : State) (off : Nat) (w : Word) : (s.setReg off w).clk = s.clk := rfl
@[simp] theorem State.setReg_pwr (s : State) (off : Nat) (w : Word) : (s.setReg off w).pwr = s.pwr := rfl
@[simp] theorem State.setReg_port (s : State) (off : Nat) (w : Word) : (s.setReg off w).port = s.port := rfl
@[simp] theorem State.setReg_rack (s : State) (off : Nat) (w : Word) : (s.setReg off w).rack = s.rack := rfl
@[simp] theorem State.setReg_stack (s : State) (off : Nat) (w : Word) : (s.setReg off w).stack = s.stack := rfl
@[simp] theorem State.setReg_cmd (s : State) (off : Nat) (w : Word) : (s.setReg off w).cmd = s.cmd := rfl
@[simp] theorem State.setReg_lv (s : State) (off : Nat) (w : Word) : (s.setReg off w).lv = s.lv := rfl
@[simp] theorem State.setReg_fw (s : State) (off : Nat) (w : Word) : (s.setReg off w).fw = s.fw := rfl
@[simp] theorem State.setReg_mon (s : State) (off : Nat) (w : Word) : (s.setReg off w).mon = s.mon := rfl
@[simp] theorem State.setReg_out (s : State) (off : Nat) (w : Word) : (s.setReg off w).out = s.out := rfl

@[simp] theorem State.wr_pending (s : State) (f : Fld) (i v : Nat) : (s.wr f i v).pending = s.pending := rfl
@[simp] theorem State.wr_free (s : State) (f : Fld) (i v : Nat) : (s.wr f i v).free = s.free := rfl
@[simp] theorem State.wr_now (s : State) (f : Fld) (i v : Nat) : (s.wr f i v).now = s.now := rfl
@[simp] theorem State.wr_bt (s : State) (f : Fld) (i v : Nat) : (s.wr f i v).bt = s.bt := rfl
@[simp] theorem State.wr_dmem (s : State) (f : Fld) (i v : Nat) : (s.wr f i v).dmem = s.dmem := rfl
@[simp] theorem State.wr_poison (s : State) (f : Fld) (i v : Nat) : (s.wr f i v).poison = s.poison := rfl
@[simp] theorem State.wr_hmem (s : State) (f : Fld) (i v : Nat) : (s.wr f i v).hmem = s.hmem := rfl
@[simp] theorem State.wr_cores (s : State) (f : Fld) (i v : Nat) : (s.wr f i v).cores = s.cores := rfl
@[simp] theorem State.wr_tiles (s : State) (f : Fld) (i v : Nat) : (s.wr f i v).tiles = s.tiles := rfl
@[simp] theorem State.wr_launches (s : State) (f : Fld) (i v : Nat) : (s.wr f i v).launches = s.launches := rfl
@[simp] theorem State.wr_reports (s : State) (f : Fld) (i v : Nat) : (s.wr f i v).reports = s.reports := rfl
@[simp] theorem State.wr_evts (s : State) (f : Fld) (i v : Nat) : (s.wr f i v).evts = s.evts := rfl
@[simp] theorem State.wr_evSeq (s : State) (f : Fld) (i v : Nat) : (s.wr f i v).evSeq = s.evSeq := rfl
@[simp] theorem State.wr_evDropped (s : State) (f : Fld) (i v : Nat) : (s.wr f i v).evDropped = s.evDropped := rfl
@[simp] theorem State.wr_bmcLog (s : State) (f : Fld) (i v : Nat) : (s.wr f i v).bmcLog = s.bmcLog := rfl
@[simp] theorem State.wr_mem (s : State) (f : Fld) (i v : Nat) : (s.wr f i v).mem = s.mem := rfl
@[simp] theorem State.wr_role (s : State) (f : Fld) (i v : Nat) : (s.wr f i v).role = s.role := rfl
@[simp] theorem State.wr_fab (s : State) (f : Fld) (i v : Nat) : (s.wr f i v).fab = s.fab := rfl
@[simp] theorem State.wr_light (s : State) (f : Fld) (i v : Nat) : (s.wr f i v).light = s.light := rfl
@[simp] theorem State.wr_clk (s : State) (f : Fld) (i v : Nat) : (s.wr f i v).clk = s.clk := rfl
@[simp] theorem State.wr_pwr (s : State) (f : Fld) (i v : Nat) : (s.wr f i v).pwr = s.pwr := rfl
@[simp] theorem State.wr_port (s : State) (f : Fld) (i v : Nat) : (s.wr f i v).port = s.port := rfl
@[simp] theorem State.wr_rack (s : State) (f : Fld) (i v : Nat) : (s.wr f i v).rack = s.rack := rfl
@[simp] theorem State.wr_stack (s : State) (f : Fld) (i v : Nat) : (s.wr f i v).stack = s.stack := rfl
@[simp] theorem State.wr_cmd (s : State) (f : Fld) (i v : Nat) : (s.wr f i v).cmd = s.cmd := rfl
@[simp] theorem State.wr_lv (s : State) (f : Fld) (i v : Nat) : (s.wr f i v).lv = s.lv := rfl
@[simp] theorem State.wr_fw (s : State) (f : Fld) (i v : Nat) : (s.wr f i v).fw = s.fw := rfl
@[simp] theorem State.wr_mon (s : State) (f : Fld) (i v : Nat) : (s.wr f i v).mon = s.mon := rfl
@[simp] theorem State.wr_out (s : State) (f : Fld) (i v : Nat) : (s.wr f i v).out = s.out := rfl

@[simp] theorem State.bump_pending (s : State) (f : Fld) (i k : Nat) : (s.bump f i k).pending = s.pending := rfl
@[simp] theorem State.bump_free (s : State) (f : Fld) (i k : Nat) : (s.bump f i k).free = s.free := rfl
@[simp] theorem State.bump_now (s : State) (f : Fld) (i k : Nat) : (s.bump f i k).now = s.now := rfl
@[simp] theorem State.bump_bt (s : State) (f : Fld) (i k : Nat) : (s.bump f i k).bt = s.bt := rfl
@[simp] theorem State.bump_dmem (s : State) (f : Fld) (i k : Nat) : (s.bump f i k).dmem = s.dmem := rfl
@[simp] theorem State.bump_poison (s : State) (f : Fld) (i k : Nat) : (s.bump f i k).poison = s.poison := rfl
@[simp] theorem State.bump_hmem (s : State) (f : Fld) (i k : Nat) : (s.bump f i k).hmem = s.hmem := rfl
@[simp] theorem State.bump_cores (s : State) (f : Fld) (i k : Nat) : (s.bump f i k).cores = s.cores := rfl
@[simp] theorem State.bump_tiles (s : State) (f : Fld) (i k : Nat) : (s.bump f i k).tiles = s.tiles := rfl
@[simp] theorem State.bump_launches (s : State) (f : Fld) (i k : Nat) : (s.bump f i k).launches = s.launches := rfl
@[simp] theorem State.bump_reports (s : State) (f : Fld) (i k : Nat) : (s.bump f i k).reports = s.reports := rfl
@[simp] theorem State.bump_evts (s : State) (f : Fld) (i k : Nat) : (s.bump f i k).evts = s.evts := rfl
@[simp] theorem State.bump_evSeq (s : State) (f : Fld) (i k : Nat) : (s.bump f i k).evSeq = s.evSeq := rfl
@[simp] theorem State.bump_evDropped (s : State) (f : Fld) (i k : Nat) : (s.bump f i k).evDropped = s.evDropped := rfl
@[simp] theorem State.bump_bmcLog (s : State) (f : Fld) (i k : Nat) : (s.bump f i k).bmcLog = s.bmcLog := rfl
@[simp] theorem State.bump_mem (s : State) (f : Fld) (i k : Nat) : (s.bump f i k).mem = s.mem := rfl
@[simp] theorem State.bump_role (s : State) (f : Fld) (i k : Nat) : (s.bump f i k).role = s.role := rfl
@[simp] theorem State.bump_fab (s : State) (f : Fld) (i k : Nat) : (s.bump f i k).fab = s.fab := rfl
@[simp] theorem State.bump_light (s : State) (f : Fld) (i k : Nat) : (s.bump f i k).light = s.light := rfl
@[simp] theorem State.bump_clk (s : State) (f : Fld) (i k : Nat) : (s.bump f i k).clk = s.clk := rfl
@[simp] theorem State.bump_pwr (s : State) (f : Fld) (i k : Nat) : (s.bump f i k).pwr = s.pwr := rfl
@[simp] theorem State.bump_port (s : State) (f : Fld) (i k : Nat) : (s.bump f i k).port = s.port := rfl
@[simp] theorem State.bump_rack (s : State) (f : Fld) (i k : Nat) : (s.bump f i k).rack = s.rack := rfl
@[simp] theorem State.bump_stack (s : State) (f : Fld) (i k : Nat) : (s.bump f i k).stack = s.stack := rfl
@[simp] theorem State.bump_cmd (s : State) (f : Fld) (i k : Nat) : (s.bump f i k).cmd = s.cmd := rfl
@[simp] theorem State.bump_lv (s : State) (f : Fld) (i k : Nat) : (s.bump f i k).lv = s.lv := rfl
@[simp] theorem State.bump_fw (s : State) (f : Fld) (i k : Nat) : (s.bump f i k).fw = s.fw := rfl
@[simp] theorem State.bump_mon (s : State) (f : Fld) (i k : Nat) : (s.bump f i k).mon = s.mon := rfl
@[simp] theorem State.bump_out (s : State) (f : Fld) (i k : Nat) : (s.bump f i k).out = s.out := rfl

@[simp] theorem State.drawn_pending (s : State) : (s.drawn).pending = s.pending := rfl
@[simp] theorem State.drawn_now (s : State) : (s.drawn).now = s.now := rfl
@[simp] theorem State.drawn_bt (s : State) : (s.drawn).bt = s.bt := rfl
@[simp] theorem State.drawn_regs (s : State) : (s.drawn).regs = s.regs := rfl
@[simp] theorem State.drawn_dmem (s : State) : (s.drawn).dmem = s.dmem := rfl
@[simp] theorem State.drawn_poison (s : State) : (s.drawn).poison = s.poison := rfl
@[simp] theorem State.drawn_hmem (s : State) : (s.drawn).hmem = s.hmem := rfl
@[simp] theorem State.drawn_cores (s : State) : (s.drawn).cores = s.cores := rfl
@[simp] theorem State.drawn_tiles (s : State) : (s.drawn).tiles = s.tiles := rfl
@[simp] theorem State.drawn_launches (s : State) : (s.drawn).launches = s.launches := rfl
@[simp] theorem State.drawn_reports (s : State) : (s.drawn).reports = s.reports := rfl
@[simp] theorem State.drawn_evts (s : State) : (s.drawn).evts = s.evts := rfl
@[simp] theorem State.drawn_evSeq (s : State) : (s.drawn).evSeq = s.evSeq := rfl
@[simp] theorem State.drawn_evDropped (s : State) : (s.drawn).evDropped = s.evDropped := rfl
@[simp] theorem State.drawn_bmcLog (s : State) : (s.drawn).bmcLog = s.bmcLog := rfl
@[simp] theorem State.drawn_mem (s : State) : (s.drawn).mem = s.mem := rfl
@[simp] theorem State.drawn_role (s : State) : (s.drawn).role = s.role := rfl
@[simp] theorem State.drawn_fab (s : State) : (s.drawn).fab = s.fab := rfl
@[simp] theorem State.drawn_light (s : State) : (s.drawn).light = s.light := rfl
@[simp] theorem State.drawn_clk (s : State) : (s.drawn).clk = s.clk := rfl
@[simp] theorem State.drawn_pwr (s : State) : (s.drawn).pwr = s.pwr := rfl
@[simp] theorem State.drawn_port (s : State) : (s.drawn).port = s.port := rfl
@[simp] theorem State.drawn_rack (s : State) : (s.drawn).rack = s.rack := rfl
@[simp] theorem State.drawn_stack (s : State) : (s.drawn).stack = s.stack := rfl
@[simp] theorem State.drawn_cmd (s : State) : (s.drawn).cmd = s.cmd := rfl
@[simp] theorem State.drawn_lv (s : State) : (s.drawn).lv = s.lv := rfl
@[simp] theorem State.drawn_fw (s : State) : (s.drawn).fw = s.fw := rfl
@[simp] theorem State.drawn_mon (s : State) : (s.drawn).mon = s.mon := rfl
@[simp] theorem State.drawn_out (s : State) : (s.drawn).out = s.out := rfl

@[simp] theorem State.record_pending (s : State) (r : EvRec) : (s.record r).pending = s.pending := rfl
@[simp] theorem State.record_free (s : State) (r : EvRec) : (s.record r).free = s.free := rfl
@[simp] theorem State.record_now (s : State) (r : EvRec) : (s.record r).now = s.now := rfl
@[simp] theorem State.record_bt (s : State) (r : EvRec) : (s.record r).bt = s.bt := rfl
@[simp] theorem State.record_regs (s : State) (r : EvRec) : (s.record r).regs = s.regs := rfl
@[simp] theorem State.record_dmem (s : State) (r : EvRec) : (s.record r).dmem = s.dmem := rfl
@[simp] theorem State.record_poison (s : State) (r : EvRec) : (s.record r).poison = s.poison := rfl
@[simp] theorem State.record_hmem (s : State) (r : EvRec) : (s.record r).hmem = s.hmem := rfl
@[simp] theorem State.record_cores (s : State) (r : EvRec) : (s.record r).cores = s.cores := rfl
@[simp] theorem State.record_tiles (s : State) (r : EvRec) : (s.record r).tiles = s.tiles := rfl
@[simp] theorem State.record_launches (s : State) (r : EvRec) : (s.record r).launches = s.launches := rfl
@[simp] theorem State.record_reports (s : State) (r : EvRec) : (s.record r).reports = s.reports := rfl
@[simp] theorem State.record_evSeq (s : State) (r : EvRec) : (s.record r).evSeq = s.evSeq := rfl
@[simp] theorem State.record_evDropped (s : State) (r : EvRec) : (s.record r).evDropped = s.evDropped := rfl
@[simp] theorem State.record_mem (s : State) (r : EvRec) : (s.record r).mem = s.mem := rfl
@[simp] theorem State.record_role (s : State) (r : EvRec) : (s.record r).role = s.role := rfl
@[simp] theorem State.record_fab (s : State) (r : EvRec) : (s.record r).fab = s.fab := rfl
@[simp] theorem State.record_light (s : State) (r : EvRec) : (s.record r).light = s.light := rfl
@[simp] theorem State.record_clk (s : State) (r : EvRec) : (s.record r).clk = s.clk := rfl
@[simp] theorem State.record_pwr (s : State) (r : EvRec) : (s.record r).pwr = s.pwr := rfl
@[simp] theorem State.record_port (s : State) (r : EvRec) : (s.record r).port = s.port := rfl
@[simp] theorem State.record_rack (s : State) (r : EvRec) : (s.record r).rack = s.rack := rfl
@[simp] theorem State.record_stack (s : State) (r : EvRec) : (s.record r).stack = s.stack := rfl
@[simp] theorem State.record_cmd (s : State) (r : EvRec) : (s.record r).cmd = s.cmd := rfl
@[simp] theorem State.record_lv (s : State) (r : EvRec) : (s.record r).lv = s.lv := rfl
@[simp] theorem State.record_fw (s : State) (r : EvRec) : (s.record r).fw = s.fw := rfl
@[simp] theorem State.record_mon (s : State) (r : EvRec) : (s.record r).mon = s.mon := rfl
@[simp] theorem State.record_out (s : State) (r : EvRec) : (s.record r).out = s.out := rfl

@[simp] theorem State.send_pending (s : State) (m : Msg) : (s.send m).pending = s.pending := rfl
@[simp] theorem State.send_free (s : State) (m : Msg) : (s.send m).free = s.free := rfl
@[simp] theorem State.send_now (s : State) (m : Msg) : (s.send m).now = s.now := rfl
@[simp] theorem State.send_bt (s : State) (m : Msg) : (s.send m).bt = s.bt := rfl
@[simp] theorem State.send_regs (s : State) (m : Msg) : (s.send m).regs = s.regs := rfl
@[simp] theorem State.send_dmem (s : State) (m : Msg) : (s.send m).dmem = s.dmem := rfl
@[simp] theorem State.send_poison (s : State) (m : Msg) : (s.send m).poison = s.poison := rfl
@[simp] theorem State.send_hmem (s : State) (m : Msg) : (s.send m).hmem = s.hmem := rfl
@[simp] theorem State.send_cores (s : State) (m : Msg) : (s.send m).cores = s.cores := rfl
@[simp] theorem State.send_tiles (s : State) (m : Msg) : (s.send m).tiles = s.tiles := rfl
@[simp] theorem State.send_launches (s : State) (m : Msg) : (s.send m).launches = s.launches := rfl
@[simp] theorem State.send_reports (s : State) (m : Msg) : (s.send m).reports = s.reports := rfl
@[simp] theorem State.send_evts (s : State) (m : Msg) : (s.send m).evts = s.evts := rfl
@[simp] theorem State.send_evSeq (s : State) (m : Msg) : (s.send m).evSeq = s.evSeq := rfl
@[simp] theorem State.send_evDropped (s : State) (m : Msg) : (s.send m).evDropped = s.evDropped := rfl
@[simp] theorem State.send_bmcLog (s : State) (m : Msg) : (s.send m).bmcLog = s.bmcLog := rfl
@[simp] theorem State.send_mem (s : State) (m : Msg) : (s.send m).mem = s.mem := rfl
@[simp] theorem State.send_role (s : State) (m : Msg) : (s.send m).role = s.role := rfl
@[simp] theorem State.send_fab (s : State) (m : Msg) : (s.send m).fab = s.fab := rfl
@[simp] theorem State.send_light (s : State) (m : Msg) : (s.send m).light = s.light := rfl
@[simp] theorem State.send_clk (s : State) (m : Msg) : (s.send m).clk = s.clk := rfl
@[simp] theorem State.send_pwr (s : State) (m : Msg) : (s.send m).pwr = s.pwr := rfl
@[simp] theorem State.send_port (s : State) (m : Msg) : (s.send m).port = s.port := rfl
@[simp] theorem State.send_rack (s : State) (m : Msg) : (s.send m).rack = s.rack := rfl
@[simp] theorem State.send_stack (s : State) (m : Msg) : (s.send m).stack = s.stack := rfl
@[simp] theorem State.send_cmd (s : State) (m : Msg) : (s.send m).cmd = s.cmd := rfl
@[simp] theorem State.send_lv (s : State) (m : Msg) : (s.send m).lv = s.lv := rfl
@[simp] theorem State.send_fw (s : State) (m : Msg) : (s.send m).fw = s.fw := rfl
@[simp] theorem State.send_mon (s : State) (m : Msg) : (s.send m).mon = s.mon := rfl

@[simp] theorem State.setCore_pending (s : State) (lc : Nat) (c : Core) : (s.setCore lc c).pending = s.pending := rfl
@[simp] theorem State.setCore_free (s : State) (lc : Nat) (c : Core) : (s.setCore lc c).free = s.free := rfl
@[simp] theorem State.setCore_now (s : State) (lc : Nat) (c : Core) : (s.setCore lc c).now = s.now := rfl
@[simp] theorem State.setCore_bt (s : State) (lc : Nat) (c : Core) : (s.setCore lc c).bt = s.bt := rfl
@[simp] theorem State.setCore_regs (s : State) (lc : Nat) (c : Core) : (s.setCore lc c).regs = s.regs := rfl
@[simp] theorem State.setCore_dmem (s : State) (lc : Nat) (c : Core) : (s.setCore lc c).dmem = s.dmem := rfl
@[simp] theorem State.setCore_poison (s : State) (lc : Nat) (c : Core) : (s.setCore lc c).poison = s.poison := rfl
@[simp] theorem State.setCore_hmem (s : State) (lc : Nat) (c : Core) : (s.setCore lc c).hmem = s.hmem := rfl
@[simp] theorem State.setCore_tiles (s : State) (lc : Nat) (c : Core) : (s.setCore lc c).tiles = s.tiles := rfl
@[simp] theorem State.setCore_launches (s : State) (lc : Nat) (c : Core) : (s.setCore lc c).launches = s.launches := rfl
@[simp] theorem State.setCore_reports (s : State) (lc : Nat) (c : Core) : (s.setCore lc c).reports = s.reports := rfl
@[simp] theorem State.setCore_evts (s : State) (lc : Nat) (c : Core) : (s.setCore lc c).evts = s.evts := rfl
@[simp] theorem State.setCore_evSeq (s : State) (lc : Nat) (c : Core) : (s.setCore lc c).evSeq = s.evSeq := rfl
@[simp] theorem State.setCore_evDropped (s : State) (lc : Nat) (c : Core) : (s.setCore lc c).evDropped = s.evDropped := rfl
@[simp] theorem State.setCore_bmcLog (s : State) (lc : Nat) (c : Core) : (s.setCore lc c).bmcLog = s.bmcLog := rfl
@[simp] theorem State.setCore_mem (s : State) (lc : Nat) (c : Core) : (s.setCore lc c).mem = s.mem := rfl
@[simp] theorem State.setCore_role (s : State) (lc : Nat) (c : Core) : (s.setCore lc c).role = s.role := rfl
@[simp] theorem State.setCore_fab (s : State) (lc : Nat) (c : Core) : (s.setCore lc c).fab = s.fab := rfl
@[simp] theorem State.setCore_light (s : State) (lc : Nat) (c : Core) : (s.setCore lc c).light = s.light := rfl
@[simp] theorem State.setCore_clk (s : State) (lc : Nat) (c : Core) : (s.setCore lc c).clk = s.clk := rfl
@[simp] theorem State.setCore_pwr (s : State) (lc : Nat) (c : Core) : (s.setCore lc c).pwr = s.pwr := rfl
@[simp] theorem State.setCore_port (s : State) (lc : Nat) (c : Core) : (s.setCore lc c).port = s.port := rfl
@[simp] theorem State.setCore_rack (s : State) (lc : Nat) (c : Core) : (s.setCore lc c).rack = s.rack := rfl
@[simp] theorem State.setCore_stack (s : State) (lc : Nat) (c : Core) : (s.setCore lc c).stack = s.stack := rfl
@[simp] theorem State.setCore_cmd (s : State) (lc : Nat) (c : Core) : (s.setCore lc c).cmd = s.cmd := rfl
@[simp] theorem State.setCore_lv (s : State) (lc : Nat) (c : Core) : (s.setCore lc c).lv = s.lv := rfl
@[simp] theorem State.setCore_fw (s : State) (lc : Nat) (c : Core) : (s.setCore lc c).fw = s.fw := rfl
@[simp] theorem State.setCore_mon (s : State) (lc : Nat) (c : Core) : (s.setCore lc c).mon = s.mon := rfl
@[simp] theorem State.setCore_out (s : State) (lc : Nat) (c : Core) : (s.setCore lc c).out = s.out := rfl

@[simp] theorem State.poke_pending (s : State) (a : Nat) (b : Byte) : (s.poke a b).pending = s.pending := rfl
@[simp] theorem State.poke_free (s : State) (a : Nat) (b : Byte) : (s.poke a b).free = s.free := rfl
@[simp] theorem State.poke_now (s : State) (a : Nat) (b : Byte) : (s.poke a b).now = s.now := rfl
@[simp] theorem State.poke_bt (s : State) (a : Nat) (b : Byte) : (s.poke a b).bt = s.bt := rfl
@[simp] theorem State.poke_regs (s : State) (a : Nat) (b : Byte) : (s.poke a b).regs = s.regs := rfl
@[simp] theorem State.poke_poison (s : State) (a : Nat) (b : Byte) : (s.poke a b).poison = s.poison := rfl
@[simp] theorem State.poke_hmem (s : State) (a : Nat) (b : Byte) : (s.poke a b).hmem = s.hmem := rfl
@[simp] theorem State.poke_cores (s : State) (a : Nat) (b : Byte) : (s.poke a b).cores = s.cores := rfl
@[simp] theorem State.poke_tiles (s : State) (a : Nat) (b : Byte) : (s.poke a b).tiles = s.tiles := rfl
@[simp] theorem State.poke_launches (s : State) (a : Nat) (b : Byte) : (s.poke a b).launches = s.launches := rfl
@[simp] theorem State.poke_reports (s : State) (a : Nat) (b : Byte) : (s.poke a b).reports = s.reports := rfl
@[simp] theorem State.poke_evts (s : State) (a : Nat) (b : Byte) : (s.poke a b).evts = s.evts := rfl
@[simp] theorem State.poke_evSeq (s : State) (a : Nat) (b : Byte) : (s.poke a b).evSeq = s.evSeq := rfl
@[simp] theorem State.poke_evDropped (s : State) (a : Nat) (b : Byte) : (s.poke a b).evDropped = s.evDropped := rfl
@[simp] theorem State.poke_bmcLog (s : State) (a : Nat) (b : Byte) : (s.poke a b).bmcLog = s.bmcLog := rfl
@[simp] theorem State.poke_mem (s : State) (a : Nat) (b : Byte) : (s.poke a b).mem = s.mem := rfl
@[simp] theorem State.poke_role (s : State) (a : Nat) (b : Byte) : (s.poke a b).role = s.role := rfl
@[simp] theorem State.poke_fab (s : State) (a : Nat) (b : Byte) : (s.poke a b).fab = s.fab := rfl
@[simp] theorem State.poke_light (s : State) (a : Nat) (b : Byte) : (s.poke a b).light = s.light := rfl
@[simp] theorem State.poke_clk (s : State) (a : Nat) (b : Byte) : (s.poke a b).clk = s.clk := rfl
@[simp] theorem State.poke_pwr (s : State) (a : Nat) (b : Byte) : (s.poke a b).pwr = s.pwr := rfl
@[simp] theorem State.poke_port (s : State) (a : Nat) (b : Byte) : (s.poke a b).port = s.port := rfl
@[simp] theorem State.poke_rack (s : State) (a : Nat) (b : Byte) : (s.poke a b).rack = s.rack := rfl
@[simp] theorem State.poke_stack (s : State) (a : Nat) (b : Byte) : (s.poke a b).stack = s.stack := rfl
@[simp] theorem State.poke_cmd (s : State) (a : Nat) (b : Byte) : (s.poke a b).cmd = s.cmd := rfl
@[simp] theorem State.poke_lv (s : State) (a : Nat) (b : Byte) : (s.poke a b).lv = s.lv := rfl
@[simp] theorem State.poke_fw (s : State) (a : Nat) (b : Byte) : (s.poke a b).fw = s.fw := rfl
@[simp] theorem State.poke_mon (s : State) (a : Nat) (b : Byte) : (s.poke a b).mon = s.mon := rfl
@[simp] theorem State.poke_out (s : State) (a : Nat) (b : Byte) : (s.poke a b).out = s.out := rfl

@[simp] theorem State.mark_pending (s : State) (a : Nat) : (s.mark a).pending = s.pending := rfl
@[simp] theorem State.mark_free (s : State) (a : Nat) : (s.mark a).free = s.free := rfl
@[simp] theorem State.mark_now (s : State) (a : Nat) : (s.mark a).now = s.now := rfl
@[simp] theorem State.mark_bt (s : State) (a : Nat) : (s.mark a).bt = s.bt := rfl
@[simp] theorem State.mark_regs (s : State) (a : Nat) : (s.mark a).regs = s.regs := rfl
@[simp] theorem State.mark_dmem (s : State) (a : Nat) : (s.mark a).dmem = s.dmem := rfl
@[simp] theorem State.mark_hmem (s : State) (a : Nat) : (s.mark a).hmem = s.hmem := rfl
@[simp] theorem State.mark_cores (s : State) (a : Nat) : (s.mark a).cores = s.cores := rfl
@[simp] theorem State.mark_tiles (s : State) (a : Nat) : (s.mark a).tiles = s.tiles := rfl
@[simp] theorem State.mark_launches (s : State) (a : Nat) : (s.mark a).launches = s.launches := rfl
@[simp] theorem State.mark_reports (s : State) (a : Nat) : (s.mark a).reports = s.reports := rfl
@[simp] theorem State.mark_evts (s : State) (a : Nat) : (s.mark a).evts = s.evts := rfl
@[simp] theorem State.mark_evSeq (s : State) (a : Nat) : (s.mark a).evSeq = s.evSeq := rfl
@[simp] theorem State.mark_evDropped (s : State) (a : Nat) : (s.mark a).evDropped = s.evDropped := rfl
@[simp] theorem State.mark_bmcLog (s : State) (a : Nat) : (s.mark a).bmcLog = s.bmcLog := rfl
@[simp] theorem State.mark_mem (s : State) (a : Nat) : (s.mark a).mem = s.mem := rfl
@[simp] theorem State.mark_role (s : State) (a : Nat) : (s.mark a).role = s.role := rfl
@[simp] theorem State.mark_fab (s : State) (a : Nat) : (s.mark a).fab = s.fab := rfl
@[simp] theorem State.mark_light (s : State) (a : Nat) : (s.mark a).light = s.light := rfl
@[simp] theorem State.mark_clk (s : State) (a : Nat) : (s.mark a).clk = s.clk := rfl
@[simp] theorem State.mark_pwr (s : State) (a : Nat) : (s.mark a).pwr = s.pwr := rfl
@[simp] theorem State.mark_port (s : State) (a : Nat) : (s.mark a).port = s.port := rfl
@[simp] theorem State.mark_rack (s : State) (a : Nat) : (s.mark a).rack = s.rack := rfl
@[simp] theorem State.mark_stack (s : State) (a : Nat) : (s.mark a).stack = s.stack := rfl
@[simp] theorem State.mark_cmd (s : State) (a : Nat) : (s.mark a).cmd = s.cmd := rfl
@[simp] theorem State.mark_lv (s : State) (a : Nat) : (s.mark a).lv = s.lv := rfl
@[simp] theorem State.mark_fw (s : State) (a : Nat) : (s.mark a).fw = s.fw := rfl
@[simp] theorem State.mark_mon (s : State) (a : Nat) : (s.mark a).mon = s.mon := rfl
@[simp] theorem State.mark_out (s : State) (a : Nat) : (s.mark a).out = s.out := rfl

@[simp] theorem State.unmark_pending (s : State) (a : Nat) : (s.unmark a).pending = s.pending := rfl
@[simp] theorem State.unmark_free (s : State) (a : Nat) : (s.unmark a).free = s.free := rfl
@[simp] theorem State.unmark_now (s : State) (a : Nat) : (s.unmark a).now = s.now := rfl
@[simp] theorem State.unmark_bt (s : State) (a : Nat) : (s.unmark a).bt = s.bt := rfl
@[simp] theorem State.unmark_regs (s : State) (a : Nat) : (s.unmark a).regs = s.regs := rfl
@[simp] theorem State.unmark_dmem (s : State) (a : Nat) : (s.unmark a).dmem = s.dmem := rfl
@[simp] theorem State.unmark_hmem (s : State) (a : Nat) : (s.unmark a).hmem = s.hmem := rfl
@[simp] theorem State.unmark_cores (s : State) (a : Nat) : (s.unmark a).cores = s.cores := rfl
@[simp] theorem State.unmark_tiles (s : State) (a : Nat) : (s.unmark a).tiles = s.tiles := rfl
@[simp] theorem State.unmark_launches (s : State) (a : Nat) : (s.unmark a).launches = s.launches := rfl
@[simp] theorem State.unmark_reports (s : State) (a : Nat) : (s.unmark a).reports = s.reports := rfl
@[simp] theorem State.unmark_evts (s : State) (a : Nat) : (s.unmark a).evts = s.evts := rfl
@[simp] theorem State.unmark_evSeq (s : State) (a : Nat) : (s.unmark a).evSeq = s.evSeq := rfl
@[simp] theorem State.unmark_evDropped (s : State) (a : Nat) : (s.unmark a).evDropped = s.evDropped := rfl
@[simp] theorem State.unmark_bmcLog (s : State) (a : Nat) : (s.unmark a).bmcLog = s.bmcLog := rfl
@[simp] theorem State.unmark_mem (s : State) (a : Nat) : (s.unmark a).mem = s.mem := rfl
@[simp] theorem State.unmark_role (s : State) (a : Nat) : (s.unmark a).role = s.role := rfl
@[simp] theorem State.unmark_fab (s : State) (a : Nat) : (s.unmark a).fab = s.fab := rfl
@[simp] theorem State.unmark_light (s : State) (a : Nat) : (s.unmark a).light = s.light := rfl
@[simp] theorem State.unmark_clk (s : State) (a : Nat) : (s.unmark a).clk = s.clk := rfl
@[simp] theorem State.unmark_pwr (s : State) (a : Nat) : (s.unmark a).pwr = s.pwr := rfl
@[simp] theorem State.unmark_port (s : State) (a : Nat) : (s.unmark a).port = s.port := rfl
@[simp] theorem State.unmark_rack (s : State) (a : Nat) : (s.unmark a).rack = s.rack := rfl
@[simp] theorem State.unmark_stack (s : State) (a : Nat) : (s.unmark a).stack = s.stack := rfl
@[simp] theorem State.unmark_cmd (s : State) (a : Nat) : (s.unmark a).cmd = s.cmd := rfl
@[simp] theorem State.unmark_lv (s : State) (a : Nat) : (s.unmark a).lv = s.lv := rfl
@[simp] theorem State.unmark_fw (s : State) (a : Nat) : (s.unmark a).fw = s.fw := rfl
@[simp] theorem State.unmark_mon (s : State) (a : Nat) : (s.unmark a).mon = s.mon := rfl
@[simp] theorem State.unmark_out (s : State) (a : Nat) : (s.unmark a).out = s.out := rfl

@[simp] theorem State.setTile_pending (s : State) (lc e t i : Nat) (v : Word) : (s.setTile lc e t i v).pending = s.pending := rfl
@[simp] theorem State.setTile_free (s : State) (lc e t i : Nat) (v : Word) : (s.setTile lc e t i v).free = s.free := rfl
@[simp] theorem State.setTile_now (s : State) (lc e t i : Nat) (v : Word) : (s.setTile lc e t i v).now = s.now := rfl
@[simp] theorem State.setTile_bt (s : State) (lc e t i : Nat) (v : Word) : (s.setTile lc e t i v).bt = s.bt := rfl
@[simp] theorem State.setTile_regs (s : State) (lc e t i : Nat) (v : Word) : (s.setTile lc e t i v).regs = s.regs := rfl
@[simp] theorem State.setTile_dmem (s : State) (lc e t i : Nat) (v : Word) : (s.setTile lc e t i v).dmem = s.dmem := rfl
@[simp] theorem State.setTile_poison (s : State) (lc e t i : Nat) (v : Word) : (s.setTile lc e t i v).poison = s.poison := rfl
@[simp] theorem State.setTile_hmem (s : State) (lc e t i : Nat) (v : Word) : (s.setTile lc e t i v).hmem = s.hmem := rfl
@[simp] theorem State.setTile_cores (s : State) (lc e t i : Nat) (v : Word) : (s.setTile lc e t i v).cores = s.cores := rfl
@[simp] theorem State.setTile_launches (s : State) (lc e t i : Nat) (v : Word) : (s.setTile lc e t i v).launches = s.launches := rfl
@[simp] theorem State.setTile_reports (s : State) (lc e t i : Nat) (v : Word) : (s.setTile lc e t i v).reports = s.reports := rfl
@[simp] theorem State.setTile_evts (s : State) (lc e t i : Nat) (v : Word) : (s.setTile lc e t i v).evts = s.evts := rfl
@[simp] theorem State.setTile_evSeq (s : State) (lc e t i : Nat) (v : Word) : (s.setTile lc e t i v).evSeq = s.evSeq := rfl
@[simp] theorem State.setTile_evDropped (s : State) (lc e t i : Nat) (v : Word) : (s.setTile lc e t i v).evDropped = s.evDropped := rfl
@[simp] theorem State.setTile_bmcLog (s : State) (lc e t i : Nat) (v : Word) : (s.setTile lc e t i v).bmcLog = s.bmcLog := rfl
@[simp] theorem State.setTile_mem (s : State) (lc e t i : Nat) (v : Word) : (s.setTile lc e t i v).mem = s.mem := rfl
@[simp] theorem State.setTile_role (s : State) (lc e t i : Nat) (v : Word) : (s.setTile lc e t i v).role = s.role := rfl
@[simp] theorem State.setTile_fab (s : State) (lc e t i : Nat) (v : Word) : (s.setTile lc e t i v).fab = s.fab := rfl
@[simp] theorem State.setTile_light (s : State) (lc e t i : Nat) (v : Word) : (s.setTile lc e t i v).light = s.light := rfl
@[simp] theorem State.setTile_clk (s : State) (lc e t i : Nat) (v : Word) : (s.setTile lc e t i v).clk = s.clk := rfl
@[simp] theorem State.setTile_pwr (s : State) (lc e t i : Nat) (v : Word) : (s.setTile lc e t i v).pwr = s.pwr := rfl
@[simp] theorem State.setTile_port (s : State) (lc e t i : Nat) (v : Word) : (s.setTile lc e t i v).port = s.port := rfl
@[simp] theorem State.setTile_rack (s : State) (lc e t i : Nat) (v : Word) : (s.setTile lc e t i v).rack = s.rack := rfl
@[simp] theorem State.setTile_stack (s : State) (lc e t i : Nat) (v : Word) : (s.setTile lc e t i v).stack = s.stack := rfl
@[simp] theorem State.setTile_cmd (s : State) (lc e t i : Nat) (v : Word) : (s.setTile lc e t i v).cmd = s.cmd := rfl
@[simp] theorem State.setTile_lv (s : State) (lc e t i : Nat) (v : Word) : (s.setTile lc e t i v).lv = s.lv := rfl
@[simp] theorem State.setTile_fw (s : State) (lc e t i : Nat) (v : Word) : (s.setTile lc e t i v).fw = s.fw := rfl
@[simp] theorem State.setTile_mon (s : State) (lc e t i : Nat) (v : Word) : (s.setTile lc e t i v).mon = s.mon := rfl
@[simp] theorem State.setTile_out (s : State) (lc e t i : Nat) (v : Word) : (s.setTile lc e t i v).out = s.out := rfl


/-! ## Registers -/

theorem State.wr_eq (s : State) (f : Fld) (i v : Nat) :
    s.wr f i v = { s with regs := tput regReset s.regs (f.off i) (bitsSet (s.reg (f.off i)) f.hi f.lo v) } := rfl

/-- A register written reads the word written. -/
theorem State.reg_setReg_same (s : State) (o : Nat) (w : Word) (h : Tbl.wf regReset s.regs = true) :
    (s.setReg o w).reg o = w := tget_tput_same regReset s.regs o w h

/-- A register write leaves every other register as it was. -/
theorem State.reg_setReg_ne (s : State) (o p : Nat) (w : Word) (h : p ≠ o) : (s.setReg o w).reg p = s.reg p :=
  tget_tput_ne regReset s.regs o p w h

/-- A field written reads the value written, cut to its width. -/
theorem State.rd_wr_same (s : State) (f : Fld) (i v : Nat) (hw : Tbl.wf regReset s.regs = true) (h : f.lo ≤ f.hi)
    (hh : f.hi < 32) : (s.wr f i v).rd f i = v % 2 ^ (f.hi - f.lo + 1) := by
  simp only [State.rd, State.wr, State.reg_setReg_same _ _ _ hw]
  exact bitsGet_bitsSet_same _ _ _ _ h hh

/-- A field write leaves the fields of other registers as they were. -/
theorem State.rd_wr_ne (s : State) (f g : Fld) (i j v : Nat) (h : g.off j ≠ f.off i) :
    (s.wr f i v).rd g j = s.rd g j := by
  simp only [State.rd, State.wr, State.reg_setReg_ne _ _ _ _ h]

/-- A field write leaves the other fields of its register as they were. -/
theorem State.rd_wr_disjoint (s : State) (f g : Fld) (i j v : Nat) (hw : Tbl.wf regReset s.regs = true) (h : f.lo ≤ f.hi)
    (hh : f.hi < 32) (h2 : g.lo ≤ g.hi) (hd : f.hi < g.lo ∨ g.hi < f.lo) (ho : g.off j = f.off i) :
    (s.wr f i v).rd g j = s.rd g j := by
  simp only [State.rd, State.wr, ho, State.reg_setReg_same _ _ _ hw]
  exact bitsGet_bitsSet_disjoint _ _ _ _ _ _ h hh h2 hd

/-- A register write keeps the register file canonical. -/
theorem State.setReg_wf (s : State) (o : Nat) (w : Word) (h : Tbl.wf regReset s.regs = true) :
    Tbl.wf regReset (s.setReg o w).regs = true := tput_wf regReset s.regs o w h

theorem State.wr_wf (s : State) (f : Fld) (i v : Nat) (h : Tbl.wf regReset s.regs = true) :
    Tbl.wf regReset (s.wr f i v).regs = true := State.setReg_wf s _ _ h

/-! ## Events -/

/-- Raising an event either records it or counts it as dropped (R361); nothing else of the state changes. -/
theorem State.raise_cases (s : State) (code src : Nat) (d : List (Nat × Nat)) :
    (s.evts.length < 4096 ∧ s.raise code src d =
      ({ s with evSeq := (s.evSeq + 1) % 2 ^ 32 } : State).record ⟨code, false, s.evSeq, s.bt, src, evData d⟩) ∨
    (4096 ≤ s.evts.length ∧ s.raise code src d =
      ({ s with evSeq := (s.evSeq + 1) % 2 ^ 32, evDropped := s.evDropped + 1 } : State).bump F.EVT_STATUS_DROPPED 0 1) := by
  unfold State.raise
  by_cases h : s.evts.length < 4096
  · exact .inl ⟨h, by simp [h]⟩
  · exact .inr ⟨by omega, by simp [h]⟩

@[simp] theorem State.raise_pending (s : State) (c q : Nat) (d : List (Nat × Nat)) : (s.raise c q d).pending = s.pending := by
  rcases s.raise_cases c q d with ⟨_, h⟩ | ⟨_, h⟩ <;> rw [h] <;> rfl
@[simp] theorem State.raise_free (s : State) (c q : Nat) (d : List (Nat × Nat)) : (s.raise c q d).free = s.free := by
  rcases s.raise_cases c q d with ⟨_, h⟩ | ⟨_, h⟩ <;> rw [h] <;> rfl
@[simp] theorem State.raise_now (s : State) (c q : Nat) (d : List (Nat × Nat)) : (s.raise c q d).now = s.now := by
  rcases s.raise_cases c q d with ⟨_, h⟩ | ⟨_, h⟩ <;> rw [h] <;> rfl
@[simp] theorem State.raise_bt (s : State) (c q : Nat) (d : List (Nat × Nat)) : (s.raise c q d).bt = s.bt := by
  rcases s.raise_cases c q d with ⟨_, h⟩ | ⟨_, h⟩ <;> rw [h] <;> rfl
@[simp] theorem State.raise_dmem (s : State) (c q : Nat) (d : List (Nat × Nat)) : (s.raise c q d).dmem = s.dmem := by
  rcases s.raise_cases c q d with ⟨_, h⟩ | ⟨_, h⟩ <;> rw [h] <;> rfl
@[simp] theorem State.raise_poison (s : State) (c q : Nat) (d : List (Nat × Nat)) : (s.raise c q d).poison = s.poison := by
  rcases s.raise_cases c q d with ⟨_, h⟩ | ⟨_, h⟩ <;> rw [h] <;> rfl
@[simp] theorem State.raise_hmem (s : State) (c q : Nat) (d : List (Nat × Nat)) : (s.raise c q d).hmem = s.hmem := by
  rcases s.raise_cases c q d with ⟨_, h⟩ | ⟨_, h⟩ <;> rw [h] <;> rfl
@[simp] theorem State.raise_cores (s : State) (c q : Nat) (d : List (Nat × Nat)) : (s.raise c q d).cores = s.cores := by
  rcases s.raise_cases c q d with ⟨_, h⟩ | ⟨_, h⟩ <;> rw [h] <;> rfl
@[simp] theorem State.raise_tiles (s : State) (c q : Nat) (d : List (Nat × Nat)) : (s.raise c q d).tiles = s.tiles := by
  rcases s.raise_cases c q d with ⟨_, h⟩ | ⟨_, h⟩ <;> rw [h] <;> rfl
@[simp] theorem State.raise_launches (s : State) (c q : Nat) (d : List (Nat × Nat)) : (s.raise c q d).launches = s.launches := by
  rcases s.raise_cases c q d with ⟨_, h⟩ | ⟨_, h⟩ <;> rw [h] <;> rfl
@[simp] theorem State.raise_reports (s : State) (c q : Nat) (d : List (Nat × Nat)) : (s.raise c q d).reports = s.reports := by
  rcases s.raise_cases c q d with ⟨_, h⟩ | ⟨_, h⟩ <;> rw [h] <;> rfl
@[simp] theorem State.raise_mem (s : State) (c q : Nat) (d : List (Nat × Nat)) : (s.raise c q d).mem = s.mem := by
  rcases s.raise_cases c q d with ⟨_, h⟩ | ⟨_, h⟩ <;> rw [h] <;> rfl
@[simp] theorem State.raise_role (s : State) (c q : Nat) (d : List (Nat × Nat)) : (s.raise c q d).role = s.role := by
  rcases s.raise_cases c q d with ⟨_, h⟩ | ⟨_, h⟩ <;> rw [h] <;> rfl
@[simp] theorem State.raise_fab (s : State) (c q : Nat) (d : List (Nat × Nat)) : (s.raise c q d).fab = s.fab := by
  rcases s.raise_cases c q d with ⟨_, h⟩ | ⟨_, h⟩ <;> rw [h] <;> rfl
@[simp] theorem State.raise_light (s : State) (c q : Nat) (d : List (Nat × Nat)) : (s.raise c q d).light = s.light := by
  rcases s.raise_cases c q d with ⟨_, h⟩ | ⟨_, h⟩ <;> rw [h] <;> rfl
@[simp] theorem State.raise_clk (s : State) (c q : Nat) (d : List (Nat × Nat)) : (s.raise c q d).clk = s.clk := by
  rcases s.raise_cases c q d with ⟨_, h⟩ | ⟨_, h⟩ <;> rw [h] <;> rfl
@[simp] theorem State.raise_pwr (s : State) (c q : Nat) (d : List (Nat × Nat)) : (s.raise c q d).pwr = s.pwr := by
  rcases s.raise_cases c q d with ⟨_, h⟩ | ⟨_, h⟩ <;> rw [h] <;> rfl
@[simp] theorem State.raise_port (s : State) (c q : Nat) (d : List (Nat × Nat)) : (s.raise c q d).port = s.port := by
  rcases s.raise_cases c q d with ⟨_, h⟩ | ⟨_, h⟩ <;> rw [h] <;> rfl
@[simp] theorem State.raise_rack (s : State) (c q : Nat) (d : List (Nat × Nat)) : (s.raise c q d).rack = s.rack := by
  rcases s.raise_cases c q d with ⟨_, h⟩ | ⟨_, h⟩ <;> rw [h] <;> rfl
@[simp] theorem State.raise_stack (s : State) (c q : Nat) (d : List (Nat × Nat)) : (s.raise c q d).stack = s.stack := by
  rcases s.raise_cases c q d with ⟨_, h⟩ | ⟨_, h⟩ <;> rw [h] <;> rfl
@[simp] theorem State.raise_cmd (s : State) (c q : Nat) (d : List (Nat × Nat)) : (s.raise c q d).cmd = s.cmd := by
  rcases s.raise_cases c q d with ⟨_, h⟩ | ⟨_, h⟩ <;> rw [h] <;> rfl
@[simp] theorem State.raise_lv (s : State) (c q : Nat) (d : List (Nat × Nat)) : (s.raise c q d).lv = s.lv := by
  rcases s.raise_cases c q d with ⟨_, h⟩ | ⟨_, h⟩ <;> rw [h] <;> rfl
@[simp] theorem State.raise_fw (s : State) (c q : Nat) (d : List (Nat × Nat)) : (s.raise c q d).fw = s.fw := by
  rcases s.raise_cases c q d with ⟨_, h⟩ | ⟨_, h⟩ <;> rw [h] <;> rfl
@[simp] theorem State.raise_mon (s : State) (c q : Nat) (d : List (Nat × Nat)) : (s.raise c q d).mon = s.mon := by
  rcases s.raise_cases c q d with ⟨_, h⟩ | ⟨_, h⟩ <;> rw [h] <;> rfl
@[simp] theorem State.raise_out (s : State) (c q : Nat) (d : List (Nat × Nat)) : (s.raise c q d).out = s.out := by
  rcases s.raise_cases c q d with ⟨_, h⟩ | ⟨_, h⟩ <;> rw [h] <;> rfl

/-- Raising an event touches no register but EVT_STATUS. -/
theorem State.raise_reg (s : State) (c q : Nat) (d : List (Nat × Nat)) (o : Nat) (h : o ≠ F.EVT_STATUS_DROPPED.off 0) :
    (s.raise c q d).reg o = s.reg o := by
  rcases s.raise_cases c q d with ⟨_, e⟩ | ⟨_, e⟩ <;> rw [e]
  · rfl
  · exact State.reg_setReg_ne _ _ _ _ h

theorem State.raise_rd (s : State) (c q : Nat) (d : List (Nat × Nat)) (f : Fld) (i : Nat)
    (h : f.off i ≠ F.EVT_STATUS_DROPPED.off 0) : (s.raise c q d).rd f i = s.rd f i := by
  simp only [State.rd, State.raise_reg _ _ _ _ _ h]

theorem State.raise_regs_wf (s : State) (c q : Nat) (d : List (Nat × Nat)) (h : Tbl.wf regReset s.regs = true) :
    Tbl.wf regReset (s.raise c q d).regs = true := by
  rcases s.raise_cases c q d with ⟨_, e⟩ | ⟨_, e⟩ <;> rw [e]
  · exact h
  · exact State.wr_wf _ _ _ _ h

/-! ## Degraded levels -/

/-- Bringing the level up to date marks running descriptors, and where the level changes writes it and raises one event
(R448, R449). -/
theorem State.setLevel_cases (s : State) : ∃ c : CmdSt, s.setLevel = { s with cmd := c } ∨
    ∃ n k d, s.setLevel = (({ s with cmd := c } : State).wr F.GLB_DEGRADED_LEVEL 0 n).raise k srcPkg d := by
  unfold State.setLevel
  generalize (if s.noService then 5 else levelOf (s.rd F.GLB_DEGRADED_CONDITIONS)) = n
  by_cases h : 0 < n ∧ n < 5
  · simp only [if_pos h]
    refine ⟨{ s.cmd with descs := s.cmd.descs.map (fun d => if d.phase = 1 then { d with degraded := true } else d) }, ?_⟩
    by_cases h2 : n = s.rd F.GLB_DEGRADED_LEVEL
    · exact .inl (if_pos h2)
    · exact .inr ⟨n, _, _, if_neg h2⟩
  · simp only [if_neg h]
    refine ⟨s.cmd, ?_⟩
    by_cases h2 : n = s.rd F.GLB_DEGRADED_LEVEL
    · exact .inl (if_pos h2)
    · exact .inr ⟨n, _, _, if_neg h2⟩

@[simp] theorem State.setLevel_pending (s : State) : s.setLevel.pending = s.pending := by
  obtain ⟨c, h | ⟨n, k, d, h⟩⟩ := s.setLevel_cases <;> rw [h]
  simp
@[simp] theorem State.setLevel_free (s : State) : s.setLevel.free = s.free := by
  obtain ⟨c, h | ⟨n, k, d, h⟩⟩ := s.setLevel_cases <;> rw [h]
  simp
@[simp] theorem State.setLevel_now (s : State) : s.setLevel.now = s.now := by
  obtain ⟨c, h | ⟨n, k, d, h⟩⟩ := s.setLevel_cases <;> rw [h]
  simp
@[simp] theorem State.setLevel_bt (s : State) : s.setLevel.bt = s.bt := by
  obtain ⟨c, h | ⟨n, k, d, h⟩⟩ := s.setLevel_cases <;> rw [h]
  simp
@[simp] theorem State.setLevel_dmem (s : State) : s.setLevel.dmem = s.dmem := by
  obtain ⟨c, h | ⟨n, k, d, h⟩⟩ := s.setLevel_cases <;> rw [h]
  simp
@[simp] theorem State.setLevel_poison (s : State) : s.setLevel.poison = s.poison := by
  obtain ⟨c, h | ⟨n, k, d, h⟩⟩ := s.setLevel_cases <;> rw [h]
  simp
@[simp] theorem State.setLevel_hmem (s : State) : s.setLevel.hmem = s.hmem := by
  obtain ⟨c, h | ⟨n, k, d, h⟩⟩ := s.setLevel_cases <;> rw [h]
  simp
@[simp] theorem State.setLevel_cores (s : State) : s.setLevel.cores = s.cores := by
  obtain ⟨c, h | ⟨n, k, d, h⟩⟩ := s.setLevel_cases <;> rw [h]
  simp
@[simp] theorem State.setLevel_tiles (s : State) : s.setLevel.tiles = s.tiles := by
  obtain ⟨c, h | ⟨n, k, d, h⟩⟩ := s.setLevel_cases <;> rw [h]
  simp
@[simp] theorem State.setLevel_launches (s : State) : s.setLevel.launches = s.launches := by
  obtain ⟨c, h | ⟨n, k, d, h⟩⟩ := s.setLevel_cases <;> rw [h]
  simp
@[simp] theorem State.setLevel_reports (s : State) : s.setLevel.reports = s.reports := by
  obtain ⟨c, h | ⟨n, k, d, h⟩⟩ := s.setLevel_cases <;> rw [h]
  simp
@[simp] theorem State.setLevel_mem (s : State) : s.setLevel.mem = s.mem := by
  obtain ⟨c, h | ⟨n, k, d, h⟩⟩ := s.setLevel_cases <;> rw [h]
  simp
@[simp] theorem State.setLevel_role (s : State) : s.setLevel.role = s.role := by
  obtain ⟨c, h | ⟨n, k, d, h⟩⟩ := s.setLevel_cases <;> rw [h]
  simp
@[simp] theorem State.setLevel_fab (s : State) : s.setLevel.fab = s.fab := by
  obtain ⟨c, h | ⟨n, k, d, h⟩⟩ := s.setLevel_cases <;> rw [h]
  simp
@[simp] theorem State.setLevel_light (s : State) : s.setLevel.light = s.light := by
  obtain ⟨c, h | ⟨n, k, d, h⟩⟩ := s.setLevel_cases <;> rw [h]
  simp
@[simp] theorem State.setLevel_clk (s : State) : s.setLevel.clk = s.clk := by
  obtain ⟨c, h | ⟨n, k, d, h⟩⟩ := s.setLevel_cases <;> rw [h]
  simp
@[simp] theorem State.setLevel_pwr (s : State) : s.setLevel.pwr = s.pwr := by
  obtain ⟨c, h | ⟨n, k, d, h⟩⟩ := s.setLevel_cases <;> rw [h]
  simp
@[simp] theorem State.setLevel_port (s : State) : s.setLevel.port = s.port := by
  obtain ⟨c, h | ⟨n, k, d, h⟩⟩ := s.setLevel_cases <;> rw [h]
  simp
@[simp] theorem State.setLevel_rack (s : State) : s.setLevel.rack = s.rack := by
  obtain ⟨c, h | ⟨n, k, d, h⟩⟩ := s.setLevel_cases <;> rw [h]
  simp
@[simp] theorem State.setLevel_stack (s : State) : s.setLevel.stack = s.stack := by
  obtain ⟨c, h | ⟨n, k, d, h⟩⟩ := s.setLevel_cases <;> rw [h]
  simp
@[simp] theorem State.setLevel_lv (s : State) : s.setLevel.lv = s.lv := by
  obtain ⟨c, h | ⟨n, k, d, h⟩⟩ := s.setLevel_cases <;> rw [h]
  simp
@[simp] theorem State.setLevel_fw (s : State) : s.setLevel.fw = s.fw := by
  obtain ⟨c, h | ⟨n, k, d, h⟩⟩ := s.setLevel_cases <;> rw [h]
  simp
@[simp] theorem State.setLevel_mon (s : State) : s.setLevel.mon = s.mon := by
  obtain ⟨c, h | ⟨n, k, d, h⟩⟩ := s.setLevel_cases <;> rw [h]
  simp
@[simp] theorem State.setLevel_out (s : State) : s.setLevel.out = s.out := by
  obtain ⟨c, h | ⟨n, k, d, h⟩⟩ := s.setLevel_cases <;> rw [h]
  simp
@[simp] theorem State.setCond_pending (s : State) (i : Nat) (b : Bool) : (s.setCond i b).pending = s.pending := by
  unfold State.setCond; simp only; split <;> simp
@[simp] theorem State.setCond_free (s : State) (i : Nat) (b : Bool) : (s.setCond i b).free = s.free := by
  unfold State.setCond; simp only; split <;> simp
@[simp] theorem State.setCond_now (s : State) (i : Nat) (b : Bool) : (s.setCond i b).now = s.now := by
  unfold State.setCond; simp only; split <;> simp
@[simp] theorem State.setCond_bt (s : State) (i : Nat) (b : Bool) : (s.setCond i b).bt = s.bt := by
  unfold State.setCond; simp only; split <;> simp
@[simp] theorem State.setCond_dmem (s : State) (i : Nat) (b : Bool) : (s.setCond i b).dmem = s.dmem := by
  unfold State.setCond; simp only; split <;> simp
@[simp] theorem State.setCond_poison (s : State) (i : Nat) (b : Bool) : (s.setCond i b).poison = s.poison := by
  unfold State.setCond; simp only; split <;> simp
@[simp] theorem State.setCond_hmem (s : State) (i : Nat) (b : Bool) : (s.setCond i b).hmem = s.hmem := by
  unfold State.setCond; simp only; split <;> simp
@[simp] theorem State.setCond_cores (s : State) (i : Nat) (b : Bool) : (s.setCond i b).cores = s.cores := by
  unfold State.setCond; simp only; split <;> simp
@[simp] theorem State.setCond_tiles (s : State) (i : Nat) (b : Bool) : (s.setCond i b).tiles = s.tiles := by
  unfold State.setCond; simp only; split <;> simp
@[simp] theorem State.setCond_launches (s : State) (i : Nat) (b : Bool) : (s.setCond i b).launches = s.launches := by
  unfold State.setCond; simp only; split <;> simp
@[simp] theorem State.setCond_reports (s : State) (i : Nat) (b : Bool) : (s.setCond i b).reports = s.reports := by
  unfold State.setCond; simp only; split <;> simp
@[simp] theorem State.setCond_mem (s : State) (i : Nat) (b : Bool) : (s.setCond i b).mem = s.mem := by
  unfold State.setCond; simp only; split <;> simp
@[simp] theorem State.setCond_role (s : State) (i : Nat) (b : Bool) : (s.setCond i b).role = s.role := by
  unfold State.setCond; simp only; split <;> simp
@[simp] theorem State.setCond_fab (s : State) (i : Nat) (b : Bool) : (s.setCond i b).fab = s.fab := by
  unfold State.setCond; simp only; split <;> simp
@[simp] theorem State.setCond_light (s : State) (i : Nat) (b : Bool) : (s.setCond i b).light = s.light := by
  unfold State.setCond; simp only; split <;> simp
@[simp] theorem State.setCond_clk (s : State) (i : Nat) (b : Bool) : (s.setCond i b).clk = s.clk := by
  unfold State.setCond; simp only; split <;> simp
@[simp] theorem State.setCond_pwr (s : State) (i : Nat) (b : Bool) : (s.setCond i b).pwr = s.pwr := by
  unfold State.setCond; simp only; split <;> simp
@[simp] theorem State.setCond_port (s : State) (i : Nat) (b : Bool) : (s.setCond i b).port = s.port := by
  unfold State.setCond; simp only; split <;> simp
@[simp] theorem State.setCond_rack (s : State) (i : Nat) (b : Bool) : (s.setCond i b).rack = s.rack := by
  unfold State.setCond; simp only; split <;> simp
@[simp] theorem State.setCond_stack (s : State) (i : Nat) (b : Bool) : (s.setCond i b).stack = s.stack := by
  unfold State.setCond; simp only; split <;> simp
@[simp] theorem State.setCond_lv (s : State) (i : Nat) (b : Bool) : (s.setCond i b).lv = s.lv := by
  unfold State.setCond; simp only; split <;> simp
@[simp] theorem State.setCond_fw (s : State) (i : Nat) (b : Bool) : (s.setCond i b).fw = s.fw := by
  unfold State.setCond; simp only; split <;> simp
@[simp] theorem State.setCond_mon (s : State) (i : Nat) (b : Bool) : (s.setCond i b).mon = s.mon := by
  unfold State.setCond; simp only; split <;> simp
@[simp] theorem State.setCond_out (s : State) (i : Nat) (b : Bool) : (s.setCond i b).out = s.out := by
  unfold State.setCond; simp only; split <;> simp

/-! ## Time -/

@[simp] theorem State.idle_pending (s : State) : s.idle.pending = s.pending := rfl
@[simp] theorem State.idle_free (s : State) : s.idle.free = s.free := rfl
@[simp] theorem State.idle_regs (s : State) : s.idle.regs = s.regs := rfl
@[simp] theorem State.idle_dmem (s : State) : s.idle.dmem = s.dmem := rfl
@[simp] theorem State.idle_poison (s : State) : s.idle.poison = s.poison := rfl
@[simp] theorem State.idle_hmem (s : State) : s.idle.hmem = s.hmem := rfl
@[simp] theorem State.idle_cores (s : State) : s.idle.cores = s.cores := rfl
@[simp] theorem State.idle_tiles (s : State) : s.idle.tiles = s.tiles := rfl
@[simp] theorem State.idle_launches (s : State) : s.idle.launches = s.launches := rfl
@[simp] theorem State.idle_reports (s : State) : s.idle.reports = s.reports := rfl
@[simp] theorem State.idle_evts (s : State) : s.idle.evts = s.evts := rfl
@[simp] theorem State.idle_evSeq (s : State) : s.idle.evSeq = s.evSeq := rfl
@[simp] theorem State.idle_evDropped (s : State) : s.idle.evDropped = s.evDropped := rfl
@[simp] theorem State.idle_bmcLog (s : State) : s.idle.bmcLog = s.bmcLog := rfl
@[simp] theorem State.idle_mem (s : State) : s.idle.mem = s.mem := rfl
@[simp] theorem State.idle_role (s : State) : s.idle.role = s.role := rfl
@[simp] theorem State.idle_fab (s : State) : s.idle.fab = s.fab := rfl
@[simp] theorem State.idle_light (s : State) : s.idle.light = s.light := rfl
@[simp] theorem State.idle_pwr (s : State) : s.idle.pwr = s.pwr := rfl
@[simp] theorem State.idle_port (s : State) : s.idle.port = s.port := rfl
@[simp] theorem State.idle_rack (s : State) : s.idle.rack = s.rack := rfl
@[simp] theorem State.idle_stack (s : State) : s.idle.stack = s.stack := rfl
@[simp] theorem State.idle_cmd (s : State) : s.idle.cmd = s.cmd := rfl
@[simp] theorem State.idle_lv (s : State) : s.idle.lv = s.lv := rfl
@[simp] theorem State.idle_fw (s : State) : s.idle.fw = s.fw := rfl
@[simp] theorem State.idle_mon (s : State) : s.idle.mon = s.mon := rfl
@[simp] theorem State.idle_out (s : State) : s.idle.out = s.out := rfl

/-! ## Cores -/

/-- The core written reads what was written. -/
theorem State.core_setCore_same (s : State) (lc : Nat) (c : Core) (h : Tbl.wf (fun _ => ({} : Core)) s.cores = true) :
    (s.setCore lc c).core lc = c := tget_tput_same _ s.cores lc c h

/-- Every other core is as it was. -/
theorem State.core_setCore_ne (s : State) (lc m : Nat) (c : Core) (h : m ≠ lc) : (s.setCore lc c).core m = s.core m :=
  tget_tput_ne _ s.cores lc m c h

end Sys2Proof.Machine
end

