-- ==== Sys2Proof/Laws/Ops.lean ====
section
/-!
SUPPORT. What the shared operations can do, each said once.
-/
namespace Sys2Proof.Machine

/-- What every step of a fold keeps, the fold keeps. -/
theorem foldl_kept {β γ : Type} (p : State → γ) (g : State → β → State) (h : ∀ t x, p (g t x) = p t) (l : List β) (s : State) :
    p (l.foldl g s) = p s := by
  induction l generalizing s with
  | nil => rfl
  | cons a r ih => rw [List.foldl_cons, ih, h]

/-- A descriptor that may start, on a device that is not FENCED and whose role admits it, runs its body once it is marked as
started. -/
theorem State.startDesc_go (s : State) (seq : BitVec 32) (d : Desc) (mine : Desc → Bool) (body : State → Desc → State)
    (h1 : s.desc seq.toNat = some d) (h2 : s.canStart seq.toNat = true) (h3 : s.lvHolds d = false)
    (h4 : s.rd F.LVS_STATUS_STATE ≠ 7) (h5 : s.roleOk d = true) (hm : mine d = true) :
    s.startDesc seq mine body = body (s.setDesc { d with phase := 1, degraded := s.degradedNow }) d := by
  unfold State.startDesc
  simp only [h1]
  rw [if_pos ⟨hm, h2, by simp [h3]⟩, if_neg h4, if_pos h5]

/-- A descriptor that may not start changes nothing. -/
theorem State.startDesc_held (s : State) (seq : BitVec 32) (d : Desc) (mine : Desc → Bool) (body : State → Desc → State)
    (h1 : s.desc seq.toNat = some d) (h2 : s.canStart seq.toNat = false) : s.startDesc seq mine body = s := by
  unfold State.startDesc
  simp [h1, h2]

theorem State.mayStart_phase (s : State) (seq : Nat) (d : Desc) (hp : d.phase ≠ 0) :
    ∀ (l before : List Desc), l.find? (fun e => e.seq == seq) = some d → s.mayStart seq before l = false := by
  intro l
  induction l with
  | nil => intro b h; rfl
  | cons a r ih =>
    intro b h
    unfold State.mayStart
    by_cases ha : a.seq = seq
    · simp only [List.find?_cons, ha, beq_self_eq_true] at h
      obtain rfl : a = d := by simpa using h
      simp [ha, hp]
    · have : (a.seq == seq) = false := by simpa using ha
      simp only [List.find?_cons, this] at h
      simp [ha, ih _ h]

/-- A descriptor starts once. -/
theorem State.startDesc_ran (s : State) (seq : BitVec 32) (d : Desc) (mine : Desc → Bool) (body : State → Desc → State)
    (h1 : s.desc seq.toNat = some d) (h2 : d.phase ≠ 0) : s.startDesc seq mine body = s :=
  State.startDesc_held s seq d mine body h1 (State.mayStart_phase s _ d h2 _ _ h1)

end Sys2Proof.Machine
end

