-- ==== Sys2Proof/Laws/Carry.lean ====
section
/-!
SUPPORT. What the carriage of messages can do: it changes the bundles, the endpoints of the fabric and what goes out, and nothing else.
-/
namespace Sys2Proof.Machine

/-- `t` is `s` but for the bundles, the fabric and what goes out. -/
def Carried (s t : State) : Prop := t = { s with stack := t.stack, fab := t.fab, out := t.out }

theorem Carried.refl (s : State) : Carried s s := rfl

theorem Carried.trans {s t u : State} (h : Carried s t) (k : Carried t u) : Carried s u := by
  unfold Carried at *
  rw [k, h]

theorem Carried.of (s : State) (k : StackSt) (f : FabSt) (o : List Msg) : Carried s { s with stack := k, fab := f, out := o } := rfl

theorem Carried.ite {s t u : State} {p : Prop} [Decidable p] (h : Carried s t) (k : Carried s u) : Carried s (if p then t else u) := by
  split <;> assumption

theorem Carried.foldl {β : Type} {g : State → β → State} (h : ∀ t x, Carried t (g t x)) (l : List β) (s : State) :
    Carried s (l.foldl g s) := by
  induction l generalizing s with
  | nil => rfl
  | cons a r ih => exact (h s a).trans (ih _)

theorem State.pumpBundle_carried (x n : Nat) : ∀ s : State, Carried s (State.pumpBundle x n s) := by
  induction n with
  | zero => exact fun s => rfl
  | succ n ih =>
    intro s
    simp only [State.pumpBundle]
    split
    · rfl
    · exact Carried.ite (Carried.trans (Carried.of s _ _ _) (ih _)) rfl

theorem State.onBundle_carried (s : State) (n d line : Nat) (m : List Byte) : Carried s (s.onBundle n d line m) := by
  unfold State.onBundle
  split
  · rfl
  · exact Carried.trans (Carried.of s _ _ _) (State.pumpBundle_carried _ _ _)

theorem State.onPair_carried (s : State) (i j vc : Nat) (fs : List OutFlit) : Carried s (s.onPair i j vc fs) := rfl

theorem State.onGroup_carried (s : State) (i g vc : Nat) (fs : List OutFlit) : Carried s (s.onGroup i g vc fs) :=
  Carried.ite rfl (Carried.foldl (fun t m => t.onPair_carried i m vc fs) _ _)

theorem State.fromEp_carried (s : State) (e : Nat) (m : Note) : Carried s (s.fromEp e m) :=
  Carried.ite rfl (Carried.ite rfl (Carried.ite (s.onBundle_carried _ _ _ _) rfl))

/-- Sending a message changes the bundles, the fabric and what goes out. -/
theorem State.post_carried (s : State) (m : Note) : Carried s (s.post m) :=
  Carried.ite rfl (Carried.ite (s.onBundle_carried _ _ _ _) (s.fromEp_carried _ _))

theorem State.askHomes_carried (s : State) (p : Nat) (areas : List (Nat × Nat)) : Carried s (s.askHomes p areas) :=
  Carried.foldl (fun t _ => t.post_carried _) _ _

theorem State.sendLaunch_carried (s : State) (l : Launch) : Carried s (s.sendLaunch l) :=
  Carried.foldl (fun t _ => Carried.ite (t.onGroup_carried _ _ _ _) (Carried.foldl (fun u _ => u.post_carried _) _ _)) _ _

/-- What the carriage of messages leaves as it was. -/
theorem Carried.fields {s t : State} (h : Carried s t) :
    t.regs = s.regs ∧ t.cores = s.cores ∧ t.dmem = s.dmem ∧ t.cmd = s.cmd ∧ t.launches = s.launches ∧ t.reports = s.reports := by
  rw [h]
  exact ⟨rfl, rfl, rfl, rfl, rfl, rfl⟩

end Sys2Proof.Machine
end

