-- ==== Sys2Proof/Laws/Core.lean ====
section
/-!
SUPPORT. What the accessors of a core leave as it was, and what moving to the next instruction does.
-/
namespace Sys2Proof.Machine

@[simp] theorem Core.setA_cstate (c : Core) (i : Nat) (v : BitVec 48) : (c.setA i v).cstate = c.cstate := rfl
@[simp] theorem Core.setA_broken (c : Core) (i : Nat) (v : BitVec 48) : (c.setA i v).broken = c.broken := rfl
@[simp] theorem Core.setA_launch (c : Core) (i : Nat) (v : BitVec 48) : (c.setA i v).launch = c.launch := rfl
@[simp] theorem Core.setA_tag (c : Core) (i : Nat) (v : BitVec 48) : (c.setA i v).tag = c.tag := rfl
@[simp] theorem Core.setA_prevTag (c : Core) (i : Nat) (v : BitVec 48) : (c.setA i v).prevTag = c.prevTag := rfl
@[simp] theorem Core.setA_arg (c : Core) (i : Nat) (v : BitVec 48) : (c.setA i v).arg = c.arg := rfl
@[simp] theorem Core.setA_resident (c : Core) (i : Nat) (v : BitVec 48) : (c.setA i v).resident = c.resident := rfl
@[simp] theorem Core.setA_loadCode (c : Core) (i : Nat) (v : BitVec 48) : (c.setA i v).loadCode = c.loadCode := rfl
@[simp] theorem Core.setA_image (c : Core) (i : Nat) (v : BitVec 48) : (c.setA i v).image = c.image := rfl
@[simp] theorem Core.setA_sregs (c : Core) (i : Nat) (v : BitVec 48) : (c.setA i v).sregs = c.sregs := rfl
@[simp] theorem Core.setA_pc (c : Core) (i : Nat) (v : BitVec 48) : (c.setA i v).pc = c.pc := rfl
@[simp] theorem Core.setA_loops (c : Core) (i : Nat) (v : BitVec 48) : (c.setA i v).loops = c.loops := rfl
@[simp] theorem Core.setA_sems (c : Core) (i : Nat) (v : BitVec 48) : (c.setA i v).sems = c.sems := rfl
@[simp] theorem Core.setA_code (c : Core) (i : Nat) (v : BitVec 48) : (c.setA i v).code = c.code := rfl
@[simp] theorem Core.setA_buildId (c : Core) (i : Nat) (v : BitVec 48) : (c.setA i v).buildId = c.buildId := rfl
@[simp] theorem Core.setA_wantId (c : Core) (i : Nat) (v : BitVec 48) : (c.setA i v).wantId = c.wantId := rfl
@[simp] theorem Core.setA_features (c : Core) (i : Nat) (v : BitVec 48) : (c.setA i v).features = c.features := rfl
@[simp] theorem Core.setA_waitLimit (c : Core) (i : Nat) (v : BitVec 48) : (c.setA i v).waitLimit = c.waitLimit := rfl
@[simp] theorem Core.setA_stall (c : Core) (i : Nat) (v : BitVec 48) : (c.setA i v).stall = c.stall := rfl
@[simp] theorem Core.setA_queues (c : Core) (i : Nat) (v : BitVec 48) : (c.setA i v).queues = c.queues := rfl
@[simp] theorem Core.setA_run (c : Core) (i : Nat) (v : BitVec 48) : (c.setA i v).run = c.run := rfl
@[simp] theorem Core.setA_nextId (c : Core) (i : Nat) (v : BitVec 48) : (c.setA i v).nextId = c.nextId := rfl
@[simp] theorem Core.setA_remote (c : Core) (i : Nat) (v : BitVec 48) : (c.setA i v).remote = c.remote := rfl
@[simp] theorem Core.setA_transit (c : Core) (i : Nat) (v : BitVec 48) : (c.setA i v).transit = c.transit := rfl
@[simp] theorem Core.setA_outq (c : Core) (i : Nat) (v : BitVec 48) : (c.setA i v).outq = c.outq := rfl
@[simp] theorem Core.setA_refused (c : Core) (i : Nat) (v : BitVec 48) : (c.setA i v).refused = c.refused := rfl
@[simp] theorem Core.setA_blocked (c : Core) (i : Nat) (v : BitVec 48) : (c.setA i v).blocked = c.blocked := rfl
@[simp] theorem Core.setA_pend (c : Core) (i : Nat) (v : BitVec 48) : (c.setA i v).pend = c.pend := rfl
@[simp] theorem Core.setA_stale (c : Core) (i : Nat) (v : BitVec 48) : (c.setA i v).stale = c.stale := rfl
@[simp] theorem Core.setA_aborted (c : Core) (i : Nat) (v : BitVec 48) : (c.setA i v).aborted = c.aborted := rfl
@[simp] theorem Core.setA_halted (c : Core) (i : Nat) (v : BitVec 48) : (c.setA i v).halted = c.halted := rfl
@[simp] theorem Core.setA_fault (c : Core) (i : Nat) (v : BitVec 48) : (c.setA i v).fault = c.fault := rfl
@[simp] theorem Core.setA_slip (c : Core) (i : Nat) (v : BitVec 48) : (c.setA i v).slip = c.slip := rfl
@[simp] theorem Core.setA_slips (c : Core) (i : Nat) (v : BitVec 48) : (c.setA i v).slips = c.slips := rfl
@[simp] theorem Core.setA_cyc (c : Core) (i : Nat) (v : BitVec 48) : (c.setA i v).cyc = c.cyc := rfl
@[simp] theorem Core.setA_ready (c : Core) (i : Nat) (v : BitVec 48) : (c.setA i v).ready = c.ready := rfl
@[simp] theorem Core.setA_lapse (c : Core) (i : Nat) (v : BitVec 48) : (c.setA i v).lapse = c.lapse := rfl
@[simp] theorem Core.setA_lostIn (c : Core) (i : Nat) (v : BitVec 48) : (c.setA i v).lostIn = c.lostIn := rfl
@[simp] theorem Core.setA_bankCe (c : Core) (i : Nat) (v : BitVec 48) : (c.setA i v).bankCe = c.bankCe := rfl
@[simp] theorem Core.setA_bankHit (c : Core) (i : Nat) (v : BitVec 48) : (c.setA i v).bankHit = c.bankHit := rfl
@[simp] theorem Core.setA_badGran (c : Core) (i : Nat) (v : BitVec 48) : (c.setA i v).badGran = c.badGran := rfl
@[simp] theorem Core.setA_scrubbed (c : Core) (i : Nat) (v : BitVec 48) : (c.setA i v).scrubbed = c.scrubbed := rfl
@[simp] theorem Core.setSem_cstate (c : Core) (i : Nat) (v : BitVec 32) : (c.setSem i v).cstate = c.cstate := rfl
@[simp] theorem Core.setSem_broken (c : Core) (i : Nat) (v : BitVec 32) : (c.setSem i v).broken = c.broken := rfl
@[simp] theorem Core.setSem_launch (c : Core) (i : Nat) (v : BitVec 32) : (c.setSem i v).launch = c.launch := rfl
@[simp] theorem Core.setSem_tag (c : Core) (i : Nat) (v : BitVec 32) : (c.setSem i v).tag = c.tag := rfl
@[simp] theorem Core.setSem_prevTag (c : Core) (i : Nat) (v : BitVec 32) : (c.setSem i v).prevTag = c.prevTag := rfl
@[simp] theorem Core.setSem_arg (c : Core) (i : Nat) (v : BitVec 32) : (c.setSem i v).arg = c.arg := rfl
@[simp] theorem Core.setSem_resident (c : Core) (i : Nat) (v : BitVec 32) : (c.setSem i v).resident = c.resident := rfl
@[simp] theorem Core.setSem_loadCode (c : Core) (i : Nat) (v : BitVec 32) : (c.setSem i v).loadCode = c.loadCode := rfl
@[simp] theorem Core.setSem_image (c : Core) (i : Nat) (v : BitVec 32) : (c.setSem i v).image = c.image := rfl
@[simp] theorem Core.setSem_sregs (c : Core) (i : Nat) (v : BitVec 32) : (c.setSem i v).sregs = c.sregs := rfl
@[simp] theorem Core.setSem_aregs (c : Core) (i : Nat) (v : BitVec 32) : (c.setSem i v).aregs = c.aregs := rfl
@[simp] theorem Core.setSem_pc (c : Core) (i : Nat) (v : BitVec 32) : (c.setSem i v).pc = c.pc := rfl
@[simp] theorem Core.setSem_loops (c : Core) (i : Nat) (v : BitVec 32) : (c.setSem i v).loops = c.loops := rfl
@[simp] theorem Core.setSem_code (c : Core) (i : Nat) (v : BitVec 32) : (c.setSem i v).code = c.code := rfl
@[simp] theorem Core.setSem_buildId (c : Core) (i : Nat) (v : BitVec 32) : (c.setSem i v).buildId = c.buildId := rfl
@[simp] theorem Core.setSem_wantId (c : Core) (i : Nat) (v : BitVec 32) : (c.setSem i v).wantId = c.wantId := rfl
@[simp] theorem Core.setSem_features (c : Core) (i : Nat) (v : BitVec 32) : (c.setSem i v).features = c.features := rfl
@[simp] theorem Core.setSem_waitLimit (c : Core) (i : Nat) (v : BitVec 32) : (c.setSem i v).waitLimit = c.waitLimit := rfl
@[simp] theorem Core.setSem_stall (c : Core) (i : Nat) (v : BitVec 32) : (c.setSem i v).stall = c.stall := rfl
@[simp] theorem Core.setSem_queues (c : Core) (i : Nat) (v : BitVec 32) : (c.setSem i v).queues = c.queues := rfl
@[simp] theorem Core.setSem_run (c : Core) (i : Nat) (v : BitVec 32) : (c.setSem i v).run = c.run := rfl
@[simp] theorem Core.setSem_nextId (c : Core) (i : Nat) (v : BitVec 32) : (c.setSem i v).nextId = c.nextId := rfl
@[simp] theorem Core.setSem_remote (c : Core) (i : Nat) (v : BitVec 32) : (c.setSem i v).remote = c.remote := rfl
@[simp] theorem Core.setSem_transit (c : Core) (i : Nat) (v : BitVec 32) : (c.setSem i v).transit = c.transit := rfl
@[simp] theorem Core.setSem_outq (c : Core) (i : Nat) (v : BitVec 32) : (c.setSem i v).outq = c.outq := rfl
@[simp] theorem Core.setSem_refused (c : Core) (i : Nat) (v : BitVec 32) : (c.setSem i v).refused = c.refused := rfl
@[simp] theorem Core.setSem_blocked (c : Core) (i : Nat) (v : BitVec 32) : (c.setSem i v).blocked = c.blocked := rfl
@[simp] theorem Core.setSem_pend (c : Core) (i : Nat) (v : BitVec 32) : (c.setSem i v).pend = c.pend := rfl
@[simp] theorem Core.setSem_stale (c : Core) (i : Nat) (v : BitVec 32) : (c.setSem i v).stale = c.stale := rfl
@[simp] theorem Core.setSem_aborted (c : Core) (i : Nat) (v : BitVec 32) : (c.setSem i v).aborted = c.aborted := rfl
@[simp] theorem Core.setSem_halted (c : Core) (i : Nat) (v : BitVec 32) : (c.setSem i v).halted = c.halted := rfl
@[simp] theorem Core.setSem_fault (c : Core) (i : Nat) (v : BitVec 32) : (c.setSem i v).fault = c.fault := rfl
@[simp] theorem Core.setSem_slip (c : Core) (i : Nat) (v : BitVec 32) : (c.setSem i v).slip = c.slip := rfl
@[simp] theorem Core.setSem_slips (c : Core) (i : Nat) (v : BitVec 32) : (c.setSem i v).slips = c.slips := rfl
@[simp] theorem Core.setSem_cyc (c : Core) (i : Nat) (v : BitVec 32) : (c.setSem i v).cyc = c.cyc := rfl
@[simp] theorem Core.setSem_ready (c : Core) (i : Nat) (v : BitVec 32) : (c.setSem i v).ready = c.ready := rfl
@[simp] theorem Core.setSem_lapse (c : Core) (i : Nat) (v : BitVec 32) : (c.setSem i v).lapse = c.lapse := rfl
@[simp] theorem Core.setSem_lostIn (c : Core) (i : Nat) (v : BitVec 32) : (c.setSem i v).lostIn = c.lostIn := rfl
@[simp] theorem Core.setSem_bankCe (c : Core) (i : Nat) (v : BitVec 32) : (c.setSem i v).bankCe = c.bankCe := rfl
@[simp] theorem Core.setSem_bankHit (c : Core) (i : Nat) (v : BitVec 32) : (c.setSem i v).bankHit = c.bankHit := rfl
@[simp] theorem Core.setSem_badGran (c : Core) (i : Nat) (v : BitVec 32) : (c.setSem i v).badGran = c.badGran := rfl
@[simp] theorem Core.setSem_scrubbed (c : Core) (i : Nat) (v : BitVec 32) : (c.setSem i v).scrubbed = c.scrubbed := rfl
@[simp] theorem Core.setQueue_cstate (c : Core) (q : Nat) (l : List EngOp) : (c.setQueue q l).cstate = c.cstate := rfl
@[simp] theorem Core.setQueue_broken (c : Core) (q : Nat) (l : List EngOp) : (c.setQueue q l).broken = c.broken := rfl
@[simp] theorem Core.setQueue_launch (c : Core) (q : Nat) (l : List EngOp) : (c.setQueue q l).launch = c.launch := rfl
@[simp] theorem Core.setQueue_tag (c : Core) (q : Nat) (l : List EngOp) : (c.setQueue q l).tag = c.tag := rfl
@[simp] theorem Core.setQueue_prevTag (c : Core) (q : Nat) (l : List EngOp) : (c.setQueue q l).prevTag = c.prevTag := rfl
@[simp] theorem Core.setQueue_arg (c : Core) (q : Nat) (l : List EngOp) : (c.setQueue q l).arg = c.arg := rfl
@[simp] theorem Core.setQueue_resident (c : Core) (q : Nat) (l : List EngOp) : (c.setQueue q l).resident = c.resident := rfl
@[simp] theorem Core.setQueue_loadCode (c : Core) (q : Nat) (l : List EngOp) : (c.setQueue q l).loadCode = c.loadCode := rfl
@[simp] theorem Core.setQueue_image (c : Core) (q : Nat) (l : List EngOp) : (c.setQueue q l).image = c.image := rfl
@[simp] theorem Core.setQueue_sregs (c : Core) (q : Nat) (l : List EngOp) : (c.setQueue q l).sregs = c.sregs := rfl
@[simp] theorem Core.setQueue_aregs (c : Core) (q : Nat) (l : List EngOp) : (c.setQueue q l).aregs = c.aregs := rfl
@[simp] theorem Core.setQueue_pc (c : Core) (q : Nat) (l : List EngOp) : (c.setQueue q l).pc = c.pc := rfl
@[simp] theorem Core.setQueue_loops (c : Core) (q : Nat) (l : List EngOp) : (c.setQueue q l).loops = c.loops := rfl
@[simp] theorem Core.setQueue_sems (c : Core) (q : Nat) (l : List EngOp) : (c.setQueue q l).sems = c.sems := rfl
@[simp] theorem Core.setQueue_code (c : Core) (q : Nat) (l : List EngOp) : (c.setQueue q l).code = c.code := rfl
@[simp] theorem Core.setQueue_buildId (c : Core) (q : Nat) (l : List EngOp) : (c.setQueue q l).buildId = c.buildId := rfl
@[simp] theorem Core.setQueue_wantId (c : Core) (q : Nat) (l : List EngOp) : (c.setQueue q l).wantId = c.wantId := rfl
@[simp] theorem Core.setQueue_features (c : Core) (q : Nat) (l : List EngOp) : (c.setQueue q l).features = c.features := rfl
@[simp] theorem Core.setQueue_waitLimit (c : Core) (q : Nat) (l : List EngOp) : (c.setQueue q l).waitLimit = c.waitLimit := rfl
@[simp] theorem Core.setQueue_stall (c : Core) (q : Nat) (l : List EngOp) : (c.setQueue q l).stall = c.stall := rfl
@[simp] theorem Core.setQueue_run (c : Core) (q : Nat) (l : List EngOp) : (c.setQueue q l).run = c.run := rfl
@[simp] theorem Core.setQueue_nextId (c : Core) (q : Nat) (l : List EngOp) : (c.setQueue q l).nextId = c.nextId := rfl
@[simp] theorem Core.setQueue_remote (c : Core) (q : Nat) (l : List EngOp) : (c.setQueue q l).remote = c.remote := rfl
@[simp] theorem Core.setQueue_transit (c : Core) (q : Nat) (l : List EngOp) : (c.setQueue q l).transit = c.transit := rfl
@[simp] theorem Core.setQueue_outq (c : Core) (q : Nat) (l : List EngOp) : (c.setQueue q l).outq = c.outq := rfl
@[simp] theorem Core.setQueue_refused (c : Core) (q : Nat) (l : List EngOp) : (c.setQueue q l).refused = c.refused := rfl
@[simp] theorem Core.setQueue_blocked (c : Core) (q : Nat) (l : List EngOp) : (c.setQueue q l).blocked = c.blocked := rfl
@[simp] theorem Core.setQueue_pend (c : Core) (q : Nat) (l : List EngOp) : (c.setQueue q l).pend = c.pend := rfl
@[simp] theorem Core.setQueue_stale (c : Core) (q : Nat) (l : List EngOp) : (c.setQueue q l).stale = c.stale := rfl
@[simp] theorem Core.setQueue_aborted (c : Core) (q : Nat) (l : List EngOp) : (c.setQueue q l).aborted = c.aborted := rfl
@[simp] theorem Core.setQueue_halted (c : Core) (q : Nat) (l : List EngOp) : (c.setQueue q l).halted = c.halted := rfl
@[simp] theorem Core.setQueue_fault (c : Core) (q : Nat) (l : List EngOp) : (c.setQueue q l).fault = c.fault := rfl
@[simp] theorem Core.setQueue_slip (c : Core) (q : Nat) (l : List EngOp) : (c.setQueue q l).slip = c.slip := rfl
@[simp] theorem Core.setQueue_slips (c : Core) (q : Nat) (l : List EngOp) : (c.setQueue q l).slips = c.slips := rfl
@[simp] theorem Core.setQueue_cyc (c : Core) (q : Nat) (l : List EngOp) : (c.setQueue q l).cyc = c.cyc := rfl
@[simp] theorem Core.setQueue_ready (c : Core) (q : Nat) (l : List EngOp) : (c.setQueue q l).ready = c.ready := rfl
@[simp] theorem Core.setQueue_lapse (c : Core) (q : Nat) (l : List EngOp) : (c.setQueue q l).lapse = c.lapse := rfl
@[simp] theorem Core.setQueue_lostIn (c : Core) (q : Nat) (l : List EngOp) : (c.setQueue q l).lostIn = c.lostIn := rfl
@[simp] theorem Core.setQueue_bankCe (c : Core) (q : Nat) (l : List EngOp) : (c.setQueue q l).bankCe = c.bankCe := rfl
@[simp] theorem Core.setQueue_bankHit (c : Core) (q : Nat) (l : List EngOp) : (c.setQueue q l).bankHit = c.bankHit := rfl
@[simp] theorem Core.setQueue_badGran (c : Core) (q : Nat) (l : List EngOp) : (c.setQueue q l).badGran = c.badGran := rfl
@[simp] theorem Core.setQueue_scrubbed (c : Core) (q : Nat) (l : List EngOp) : (c.setQueue q l).scrubbed = c.scrubbed := rfl
@[simp] theorem Core.setRunning_cstate (c : Core) (q : Nat) (l : List RunOp) : (c.setRunning q l).cstate = c.cstate := rfl
@[simp] theorem Core.setRunning_broken (c : Core) (q : Nat) (l : List RunOp) : (c.setRunning q l).broken = c.broken := rfl
@[simp] theorem Core.setRunning_launch (c : Core) (q : Nat) (l : List RunOp) : (c.setRunning q l).launch = c.launch := rfl
@[simp] theorem Core.setRunning_tag (c : Core) (q : Nat) (l : List RunOp) : (c.setRunning q l).tag = c.tag := rfl
@[simp] theorem Core.setRunning_prevTag (c : Core) (q : Nat) (l : List RunOp) : (c.setRunning q l).prevTag = c.prevTag := rfl
@[simp] theorem Core.setRunning_arg (c : Core) (q : Nat) (l : List RunOp) : (c.setRunning q l).arg = c.arg := rfl
@[simp] theorem Core.setRunning_resident (c : Core) (q : Nat) (l : List RunOp) : (c.setRunning q l).resident = c.resident := rfl
@[simp] theorem Core.setRunning_loadCode (c : Core) (q : Nat) (l : List RunOp) : (c.setRunning q l).loadCode = c.loadCode := rfl
@[simp] theorem Core.setRunning_image (c : Core) (q : Nat) (l : List RunOp) : (c.setRunning q l).image = c.image := rfl
@[simp] theorem Core.setRunning_sregs (c : Core) (q : Nat) (l : List RunOp) : (c.setRunning q l).sregs = c.sregs := rfl
@[simp] theorem Core.setRunning_aregs (c : Core) (q : Nat) (l : List RunOp) : (c.setRunning q l).aregs = c.aregs := rfl
@[simp] theorem Core.setRunning_pc (c : Core) (q : Nat) (l : List RunOp) : (c.setRunning q l).pc = c.pc := rfl
@[simp] theorem Core.setRunning_loops (c : Core) (q : Nat) (l : List RunOp) : (c.setRunning q l).loops = c.loops := rfl
@[simp] theorem Core.setRunning_sems (c : Core) (q : Nat) (l : List RunOp) : (c.setRunning q l).sems = c.sems := rfl
@[simp] theorem Core.setRunning_code (c : Core) (q : Nat) (l : List RunOp) : (c.setRunning q l).code = c.code := rfl
@[simp] theorem Core.setRunning_buildId (c : Core) (q : Nat) (l : List RunOp) : (c.setRunning q l).buildId = c.buildId := rfl
@[simp] theorem Core.setRunning_wantId (c : Core) (q : Nat) (l : List RunOp) : (c.setRunning q l).wantId = c.wantId := rfl
@[simp] theorem Core.setRunning_features (c : Core) (q : Nat) (l : List RunOp) : (c.setRunning q l).features = c.features := rfl
@[simp] theorem Core.setRunning_waitLimit (c : Core) (q : Nat) (l : List RunOp) : (c.setRunning q l).waitLimit = c.waitLimit := rfl
@[simp] theorem Core.setRunning_stall (c : Core) (q : Nat) (l : List RunOp) : (c.setRunning q l).stall = c.stall := rfl
@[simp] theorem Core.setRunning_queues (c : Core) (q : Nat) (l : List RunOp) : (c.setRunning q l).queues = c.queues := rfl
@[simp] theorem Core.setRunning_nextId (c : Core) (q : Nat) (l : List RunOp) : (c.setRunning q l).nextId = c.nextId := rfl
@[simp] theorem Core.setRunning_remote (c : Core) (q : Nat) (l : List RunOp) : (c.setRunning q l).remote = c.remote := rfl
@[simp] theorem Core.setRunning_transit (c : Core) (q : Nat) (l : List RunOp) : (c.setRunning q l).transit = c.transit := rfl
@[simp] theorem Core.setRunning_outq (c : Core) (q : Nat) (l : List RunOp) : (c.setRunning q l).outq = c.outq := rfl
@[simp] theorem Core.setRunning_refused (c : Core) (q : Nat) (l : List RunOp) : (c.setRunning q l).refused = c.refused := rfl
@[simp] theorem Core.setRunning_blocked (c : Core) (q : Nat) (l : List RunOp) : (c.setRunning q l).blocked = c.blocked := rfl
@[simp] theorem Core.setRunning_pend (c : Core) (q : Nat) (l : List RunOp) : (c.setRunning q l).pend = c.pend := rfl
@[simp] theorem Core.setRunning_stale (c : Core) (q : Nat) (l : List RunOp) : (c.setRunning q l).stale = c.stale := rfl
@[simp] theorem Core.setRunning_aborted (c : Core) (q : Nat) (l : List RunOp) : (c.setRunning q l).aborted = c.aborted := rfl
@[simp] theorem Core.setRunning_halted (c : Core) (q : Nat) (l : List RunOp) : (c.setRunning q l).halted = c.halted := rfl
@[simp] theorem Core.setRunning_fault (c : Core) (q : Nat) (l : List RunOp) : (c.setRunning q l).fault = c.fault := rfl
@[simp] theorem Core.setRunning_slip (c : Core) (q : Nat) (l : List RunOp) : (c.setRunning q l).slip = c.slip := rfl
@[simp] theorem Core.setRunning_slips (c : Core) (q : Nat) (l : List RunOp) : (c.setRunning q l).slips = c.slips := rfl
@[simp] theorem Core.setRunning_cyc (c : Core) (q : Nat) (l : List RunOp) : (c.setRunning q l).cyc = c.cyc := rfl
@[simp] theorem Core.setRunning_ready (c : Core) (q : Nat) (l : List RunOp) : (c.setRunning q l).ready = c.ready := rfl
@[simp] theorem Core.setRunning_lapse (c : Core) (q : Nat) (l : List RunOp) : (c.setRunning q l).lapse = c.lapse := rfl
@[simp] theorem Core.setRunning_lostIn (c : Core) (q : Nat) (l : List RunOp) : (c.setRunning q l).lostIn = c.lostIn := rfl
@[simp] theorem Core.setRunning_bankCe (c : Core) (q : Nat) (l : List RunOp) : (c.setRunning q l).bankCe = c.bankCe := rfl
@[simp] theorem Core.setRunning_bankHit (c : Core) (q : Nat) (l : List RunOp) : (c.setRunning q l).bankHit = c.bankHit := rfl
@[simp] theorem Core.setRunning_badGran (c : Core) (q : Nat) (l : List RunOp) : (c.setRunning q l).badGran = c.badGran := rfl
@[simp] theorem Core.setRunning_scrubbed (c : Core) (q : Nat) (l : List RunOp) : (c.setRunning q l).scrubbed = c.scrubbed := rfl
@[simp] theorem Core.setS_cstate (c : Core) (i : Nat) (v : W64) : (c.setS i v).cstate = c.cstate := by
  unfold Core.setS; split <;> rfl
@[simp] theorem Core.setS_broken (c : Core) (i : Nat) (v : W64) : (c.setS i v).broken = c.broken := by
  unfold Core.setS; split <;> rfl
@[simp] theorem Core.setS_launch (c : Core) (i : Nat) (v : W64) : (c.setS i v).launch = c.launch := by
  unfold Core.setS; split <;> rfl
@[simp] theorem Core.setS_tag (c : Core) (i : Nat) (v : W64) : (c.setS i v).tag = c.tag := by
  unfold Core.setS; split <;> rfl
@[simp] theorem Core.setS_prevTag (c : Core) (i : Nat) (v : W64) : (c.setS i v).prevTag = c.prevTag := by
  unfold Core.setS; split <;> rfl
@[simp] theorem Core.setS_arg (c : Core) (i : Nat) (v : W64) : (c.setS i v).arg = c.arg := by
  unfold Core.setS; split <;> rfl
@[simp] theorem Core.setS_resident (c : Core) (i : Nat) (v : W64) : (c.setS i v).resident = c.resident := by
  unfold Core.setS; split <;> rfl
@[simp] theorem Core.setS_loadCode (c : Core) (i : Nat) (v : W64) : (c.setS i v).loadCode = c.loadCode := by
  unfold Core.setS; split <;> rfl
@[simp] theorem Core.setS_image (c : Core) (i : Nat) (v : W64) : (c.setS i v).image = c.image := by
  unfold Core.setS; split <;> rfl
@[simp] theorem Core.setS_aregs (c : Core) (i : Nat) (v : W64) : (c.setS i v).aregs = c.aregs := by
  unfold Core.setS; split <;> rfl
@[simp] theorem Core.setS_pc (c : Core) (i : Nat) (v : W64) : (c.setS i v).pc = c.pc := by
  unfold Core.setS; split <;> rfl
@[simp] theorem Core.setS_loops (c : Core) (i : Nat) (v : W64) : (c.setS i v).loops = c.loops := by
  unfold Core.setS; split <;> rfl
@[simp] theorem Core.setS_sems (c : Core) (i : Nat) (v : W64) : (c.setS i v).sems = c.sems := by
  unfold Core.setS; split <;> rfl
@[simp] theorem Core.setS_code (c : Core) (i : Nat) (v : W64) : (c.setS i v).code = c.code := by
  unfold Core.setS; split <;> rfl
@[simp] theorem Core.setS_buildId (c : Core) (i : Nat) (v : W64) : (c.setS i v).buildId = c.buildId := by
  unfold Core.setS; split <;> rfl
@[simp] theorem Core.setS_wantId (c : Core) (i : Nat) (v : W64) : (c.setS i v).wantId = c.wantId := by
  unfold Core.setS; split <;> rfl
@[simp] theorem Core.setS_features (c : Core) (i : Nat) (v : W64) : (c.setS i v).features = c.features := by
  unfold Core.setS; split <;> rfl
@[simp] theorem Core.setS_waitLimit (c : Core) (i : Nat) (v : W64) : (c.setS i v).waitLimit = c.waitLimit := by
  unfold Core.setS; split <;> rfl
@[simp] theorem Core.setS_stall (c : Core) (i : Nat) (v : W64) : (c.setS i v).stall = c.stall := by
  unfold Core.setS; split <;> rfl
@[simp] theorem Core.setS_queues (c : Core) (i : Nat) (v : W64) : (c.setS i v).queues = c.queues := by
  unfold Core.setS; split <;> rfl
@[simp] theorem Core.setS_run (c : Core) (i : Nat) (v : W64) : (c.setS i v).run = c.run := by
  unfold Core.setS; split <;> rfl
@[simp] theorem Core.setS_nextId (c : Core) (i : Nat) (v : W64) : (c.setS i v).nextId = c.nextId := by
  unfold Core.setS; split <;> rfl
@[simp] theorem Core.setS_remote (c : Core) (i : Nat) (v : W64) : (c.setS i v).remote = c.remote := by
  unfold Core.setS; split <;> rfl
@[simp] theorem Core.setS_transit (c : Core) (i : Nat) (v : W64) : (c.setS i v).transit = c.transit := by
  unfold Core.setS; split <;> rfl
@[simp] theorem Core.setS_outq (c : Core) (i : Nat) (v : W64) : (c.setS i v).outq = c.outq := by
  unfold Core.setS; split <;> rfl
@[simp] theorem Core.setS_refused (c : Core) (i : Nat) (v : W64) : (c.setS i v).refused = c.refused := by
  unfold Core.setS; split <;> rfl
@[simp] theorem Core.setS_blocked (c : Core) (i : Nat) (v : W64) : (c.setS i v).blocked = c.blocked := by
  unfold Core.setS; split <;> rfl
@[simp] theorem Core.setS_pend (c : Core) (i : Nat) (v : W64) : (c.setS i v).pend = c.pend := by
  unfold Core.setS; split <;> rfl
@[simp] theorem Core.setS_stale (c : Core) (i : Nat) (v : W64) : (c.setS i v).stale = c.stale := by
  unfold Core.setS; split <;> rfl
@[simp] theorem Core.setS_aborted (c : Core) (i : Nat) (v : W64) : (c.setS i v).aborted = c.aborted := by
  unfold Core.setS; split <;> rfl
@[simp] theorem Core.setS_halted (c : Core) (i : Nat) (v : W64) : (c.setS i v).halted = c.halted := by
  unfold Core.setS; split <;> rfl
@[simp] theorem Core.setS_fault (c : Core) (i : Nat) (v : W64) : (c.setS i v).fault = c.fault := by
  unfold Core.setS; split <;> rfl
@[simp] theorem Core.setS_slip (c : Core) (i : Nat) (v : W64) : (c.setS i v).slip = c.slip := by
  unfold Core.setS; split <;> rfl
@[simp] theorem Core.setS_slips (c : Core) (i : Nat) (v : W64) : (c.setS i v).slips = c.slips := by
  unfold Core.setS; split <;> rfl
@[simp] theorem Core.setS_cyc (c : Core) (i : Nat) (v : W64) : (c.setS i v).cyc = c.cyc := by
  unfold Core.setS; split <;> rfl
@[simp] theorem Core.setS_ready (c : Core) (i : Nat) (v : W64) : (c.setS i v).ready = c.ready := by
  unfold Core.setS; split <;> rfl
@[simp] theorem Core.setS_lapse (c : Core) (i : Nat) (v : W64) : (c.setS i v).lapse = c.lapse := by
  unfold Core.setS; split <;> rfl
@[simp] theorem Core.setS_lostIn (c : Core) (i : Nat) (v : W64) : (c.setS i v).lostIn = c.lostIn := by
  unfold Core.setS; split <;> rfl
@[simp] theorem Core.setS_bankCe (c : Core) (i : Nat) (v : W64) : (c.setS i v).bankCe = c.bankCe := by
  unfold Core.setS; split <;> rfl
@[simp] theorem Core.setS_bankHit (c : Core) (i : Nat) (v : W64) : (c.setS i v).bankHit = c.bankHit := by
  unfold Core.setS; split <;> rfl
@[simp] theorem Core.setS_badGran (c : Core) (i : Nat) (v : W64) : (c.setS i v).badGran = c.badGran := by
  unfold Core.setS; split <;> rfl
@[simp] theorem Core.setS_scrubbed (c : Core) (i : Nat) (v : W64) : (c.setS i v).scrubbed = c.scrubbed := by
  unfold Core.setS; split <;> rfl
@[simp] theorem Core.atIssue_cstate (c : Core) (w : W64) : (c.atIssue w).cstate = c.cstate := rfl
@[simp] theorem Core.atIssue_broken (c : Core) (w : W64) : (c.atIssue w).broken = c.broken := rfl
@[simp] theorem Core.atIssue_launch (c : Core) (w : W64) : (c.atIssue w).launch = c.launch := rfl
@[simp] theorem Core.atIssue_tag (c : Core) (w : W64) : (c.atIssue w).tag = c.tag := rfl
@[simp] theorem Core.atIssue_prevTag (c : Core) (w : W64) : (c.atIssue w).prevTag = c.prevTag := rfl
@[simp] theorem Core.atIssue_arg (c : Core) (w : W64) : (c.atIssue w).arg = c.arg := rfl
@[simp] theorem Core.atIssue_resident (c : Core) (w : W64) : (c.atIssue w).resident = c.resident := rfl
@[simp] theorem Core.atIssue_loadCode (c : Core) (w : W64) : (c.atIssue w).loadCode = c.loadCode := rfl
@[simp] theorem Core.atIssue_image (c : Core) (w : W64) : (c.atIssue w).image = c.image := rfl
@[simp] theorem Core.atIssue_sregs (c : Core) (w : W64) : (c.atIssue w).sregs = c.sregs := rfl
@[simp] theorem Core.atIssue_aregs (c : Core) (w : W64) : (c.atIssue w).aregs = c.aregs := rfl
@[simp] theorem Core.atIssue_pc (c : Core) (w : W64) : (c.atIssue w).pc = c.pc := rfl
@[simp] theorem Core.atIssue_loops (c : Core) (w : W64) : (c.atIssue w).loops = c.loops := rfl
@[simp] theorem Core.atIssue_sems (c : Core) (w : W64) : (c.atIssue w).sems = c.sems := rfl
@[simp] theorem Core.atIssue_code (c : Core) (w : W64) : (c.atIssue w).code = c.code := rfl
@[simp] theorem Core.atIssue_buildId (c : Core) (w : W64) : (c.atIssue w).buildId = c.buildId := rfl
@[simp] theorem Core.atIssue_wantId (c : Core) (w : W64) : (c.atIssue w).wantId = c.wantId := rfl
@[simp] theorem Core.atIssue_features (c : Core) (w : W64) : (c.atIssue w).features = c.features := rfl
@[simp] theorem Core.atIssue_waitLimit (c : Core) (w : W64) : (c.atIssue w).waitLimit = c.waitLimit := rfl
@[simp] theorem Core.atIssue_stall (c : Core) (w : W64) : (c.atIssue w).stall = c.stall := rfl
@[simp] theorem Core.atIssue_queues (c : Core) (w : W64) : (c.atIssue w).queues = c.queues := rfl
@[simp] theorem Core.atIssue_run (c : Core) (w : W64) : (c.atIssue w).run = c.run := rfl
@[simp] theorem Core.atIssue_nextId (c : Core) (w : W64) : (c.atIssue w).nextId = c.nextId := rfl
@[simp] theorem Core.atIssue_remote (c : Core) (w : W64) : (c.atIssue w).remote = c.remote := rfl
@[simp] theorem Core.atIssue_transit (c : Core) (w : W64) : (c.atIssue w).transit = c.transit := rfl
@[simp] theorem Core.atIssue_outq (c : Core) (w : W64) : (c.atIssue w).outq = c.outq := rfl
@[simp] theorem Core.atIssue_refused (c : Core) (w : W64) : (c.atIssue w).refused = c.refused := rfl
@[simp] theorem Core.atIssue_blocked (c : Core) (w : W64) : (c.atIssue w).blocked = c.blocked := rfl
@[simp] theorem Core.atIssue_pend (c : Core) (w : W64) : (c.atIssue w).pend = c.pend := rfl
@[simp] theorem Core.atIssue_stale (c : Core) (w : W64) : (c.atIssue w).stale = c.stale := rfl
@[simp] theorem Core.atIssue_aborted (c : Core) (w : W64) : (c.atIssue w).aborted = c.aborted := rfl
@[simp] theorem Core.atIssue_halted (c : Core) (w : W64) : (c.atIssue w).halted = c.halted := rfl
@[simp] theorem Core.atIssue_fault (c : Core) (w : W64) : (c.atIssue w).fault = c.fault := rfl
@[simp] theorem Core.atIssue_slip (c : Core) (w : W64) : (c.atIssue w).slip = c.slip := rfl
@[simp] theorem Core.atIssue_lostIn (c : Core) (w : W64) : (c.atIssue w).lostIn = c.lostIn := rfl
@[simp] theorem Core.atIssue_bankCe (c : Core) (w : W64) : (c.atIssue w).bankCe = c.bankCe := rfl
@[simp] theorem Core.atIssue_bankHit (c : Core) (w : W64) : (c.atIssue w).bankHit = c.bankHit := rfl
@[simp] theorem Core.atIssue_badGran (c : Core) (w : W64) : (c.atIssue w).badGran = c.badGran := rfl
@[simp] theorem Core.atIssue_scrubbed (c : Core) (w : W64) : (c.atIssue w).scrubbed = c.scrubbed := rfl
@[simp] theorem Core.atIssue_s (c : Core) (w : W64) (i : Nat) : (c.atIssue w).s i = c.s i := rfl
@[simp] theorem Core.atIssue_a (c : Core) (w : W64) (i : Nat) : (c.atIssue w).a i = c.a i := rfl
@[simp] theorem Core.atIssue_sem (c : Core) (w : W64) (i : Nat) : (c.atIssue w).sem i = c.sem i := rfl
@[simp] theorem Core.atIssue_queue (c : Core) (w : W64) (i : Nat) : (c.atIssue w).queue i = c.queue i := rfl
@[simp] theorem Core.atIssue_running (c : Core) (w : W64) (i : Nat) : (c.atIssue w).running i = c.running i := rfl
@[simp] theorem Core.atIssue_quiet (c : Core) (w : W64) (i : Nat) : (c.atIssue w).quiet i = c.quiet i := rfl

/-- s0 reads zero (R37). -/
@[simp] theorem Core.s_zero (c : Core) : c.s 0 = 0 := rfl

/-- A write to s0 is ignored (R37). -/
@[simp] theorem Core.setS_zero (c : Core) (v : W64) : c.setS 0 v = c := rfl

theorem Core.s_setS_same (c : Core) (i : Nat) (v : W64) (h : Tbl.wf (fun _ => (0 : W64)) c.sregs = true) (hi : i ≠ 0) :
    (c.setS i v).s i = v := by
  simp only [Core.s, Core.setS, if_neg hi]
  exact tget_tput_same _ _ _ _ h

theorem Core.s_setS_ne (c : Core) (i j : Nat) (v : W64) (h : j ≠ i) : (c.setS i v).s j = c.s j := by
  unfold Core.s Core.setS
  by_cases hj : j = 0
  · simp [hj]
  · rw [if_neg hj, if_neg hj]
    by_cases hi : i = 0
    · simp [hi]
    · rw [if_neg hi]
      exact tget_tput_ne _ _ _ _ _ h

/-- Moving on to an index inside the code. -/
theorem State.fallTo_next (s : State) (lc : Nat) (c : Core) (p : Nat) (h : (loopArrive c.loops p).1 < c.code.length) :
    s.fallTo lc c p = s.setCore lc { c with pc := (loopArrive c.loops p).1, loops := (loopArrive c.loops p).2, stall := .none,
                                            cyc := c.cyc + 1, lapse := c.lapse || c.stall != .none } := by
  unfold State.fallTo
  simp only [if_pos h]

/-- Moving past the end of the code raises PC_RANGE at the instruction that led there (R52). -/
theorem State.fallTo_end (s : State) (lc : Nat) (c : Core) (p : Nat) (h : ¬ (loopArrive c.loops p).1 < c.code.length) :
    s.fallTo lc c p = (s.setCore lc c).coreFault lc 3 c.pc c.word := by
  unfold State.fallTo
  simp only [if_neg h]

/-- What issuing an instruction can do: nothing where the core does not issue it, else its body. -/
theorem issue_cases (s : State) (lc : Nat) (w : W64) (mine : Bool) (body : Core → State) :
    (mine = true ∧ s.canIssue lc w = true ∧ issue s lc w mine body = .next (body ((s.core lc).atIssue w))) ∨
    issue s lc w mine body = .next s := by
  unfold issue
  by_cases h : (mine && s.canIssue lc w) = true
  · rw [if_pos h]; rw [Bool.and_eq_true] at h; exact .inl ⟨h.1, h.2, rfl⟩
  · rw [if_neg h]; exact .inr rfl

theorem issue_pos (s : State) (lc : Nat) (w : W64) (mine : Bool) (body : Core → State) (h : s.canIssue lc w = true)
    (hm : mine = true) : issue s lc w mine body = .next (body ((s.core lc).atIssue w)) := by
  unfold issue; simp [h, hm]

/-- A fault of a core that runs a program: FAULTING, with cause, index, word and status recorded, and CORE_FAULT raised
(R84, R88, R89). -/
theorem State.faultWith_live (s : State) (lc cause idx : Nat) (word : W64) (status : Nat)
    (h : (s.core lc).cstate = .running ∨ (s.core lc).cstate = .loading ∨ (s.core lc).cstate = .draining) :
    s.faultWith lc cause idx word status =
      (s.setCore lc { s.core lc with cstate := .faulting, fault := some ⟨cause, idx, word, status, s.bt⟩, stall := .none,
                                     queues := [] }).raise 0x0801 (dieCD (lc / 16)) [(1, lc), (1, cause), (4, idx)] := by
  unfold State.faultWith
  simp only [if_pos h]

end Sys2Proof.Machine
end

