-- ==== Sys2Proof/Laws/Keeps.lean ====
section
/-!
SUPPORT. Byte memory keeps its canonical form under every operation that writes it, and `Keeps`: what every shared operation does to
the queue, to local time and to the form of the state, said once per operation in the files that follow.
-/
namespace Sys2Proof.Machine

/-! ## Byte memory -/

theorem Memory.wf_nil : Memory.wf [] = true := rfl

/-- Writing one byte keeps the form. -/
theorem Memory.wf_put {m : List Host.Cell} (h : Memory.wf m = true) (a : Nat) (b : Byte) :
    Memory.wf (tput (fun _ => (0 : Byte)) m a b) = true := tput_wf _ _ _ _ h

/-- Zeroing an area keeps the form. -/
theorem Memory.wf_filter {m : List Host.Cell} (h : Memory.wf m = true) (p : Host.Cell → Bool) : Memory.wf (m.filter p) = true := by
  induction m with
  | nil => rfl
  | cons e r ih =>
    obtain ⟨k, v⟩ := e
    have hw := Tbl.wf_cons.mp h
    rw [List.filter_cons]
    split
    · exact Tbl.wf_cons.mpr ⟨hw.1, fun x hx => hw.2.1 x (List.mem_filter.mp hx).1, ih hw.2.2⟩
    · exact ih hw.2.2

/-- Where an address lies depends on the set-up registers alone. -/
theorem State.locate_poke (s : State) (a x : Nat) (b : Byte) : (s.poke a b).locate x = s.locate x := rfl

/-- A byte written is the byte read. -/
theorem State.poke_same (s : State) (a : Nat) (b : Byte) (hw : Memory.wf s.dmem = true) (h : (s.locate a).writable = true) :
    (s.poke a b).byteAt a = b := by
  show (if (s.locate a).writable then tget (fun _ => 0) (tput (fun _ => (0 : Byte)) s.dmem (s.locate a).key b) (s.locate a).key
    else _) = b
  rw [if_pos h, tget_tput_same _ _ _ _ hw]

/-- A byte written leaves every byte of another canonical address as it was. -/
theorem State.poke_other (s : State) (a x : Nat) (b : Byte) (h : (s.locate x).writable = true) (hk : (s.locate x).key ≠ (s.locate a).key) :
    (s.poke a b).byteAt x = s.byteAt x := by
  show (if (s.locate x).writable then tget (fun _ => 0) (tput (fun _ => (0 : Byte)) s.dmem (s.locate a).key b) (s.locate x).key
    else _) = (if (s.locate x).writable then _ else _)
  rw [if_pos h, if_pos h, tget_tput_ne _ _ _ _ _ hk]

/-- A write keeps the form of memory, whatever it writes where. -/
theorem pokeAll_wf (bs : List Byte) (a : Nat) (s : State) (h : Memory.wf s.dmem = true) : Memory.wf (pokeAll bs a s).dmem = true := by
  induction bs generalizing a s with
  | nil => exact h
  | cons b r ih => exact ih _ _ (Memory.wf_put h _ _)

theorem unmarkAll_dmem (l : List Nat) (s : State) : (l.foldl State.unmark s).dmem = s.dmem := by
  induction l generalizing s with
  | nil => rfl
  | cons a r ih => rw [List.foldl_cons, ih]; rfl

theorem State.store_wf (s : State) (a : Nat) (bs : List Byte) (h : Memory.wf s.dmem = true) : Memory.wf (s.store a bs).dmem = true := by
  unfold State.store; rw [unmarkAll_dmem]; exact pokeAll_wf _ _ _ h

theorem hostFold_wf (bs : List Byte) (a : Nat) (m : List Host.Cell) (h : Memory.wf m = true) :
    Memory.wf (bs.foldl (fun (m : Nat × List Host.Cell) b => (m.1 + 1, tput (fun _ => 0) m.2 m.1 b)) (a, m)).2 = true := by
  induction bs generalizing a m with
  | nil => exact h
  | cons b r ih => exact ih _ _ (Memory.wf_put h _ _)

/-- Memory after reset has the form. -/
theorem State.reset_dmem_wf : Memory.wf State.reset.dmem = true := rfl

/-! ## What a step keeps -/

/-- From `s` to `t` the queue and local time stand, and a sound state stays sound. -/
structure Keeps (s t : State) : Prop where
  pending : t.pending = s.pending
  now : t.now = s.now
  sound : s.Sound → t.Sound

theorem Keeps.rfl' (s : State) : Keeps s s := ⟨rfl, rfl, id⟩

theorem Keeps.trans {s t u : State} (h : Keeps s t) (g : Keeps t u) : Keeps s u :=
  ⟨g.pending.trans h.pending, g.now.trans h.now, g.sound ∘ h.sound⟩

/-- A change of other fields than those of `State.Sound`, the queue and local time. -/
theorem Keeps.upd {s x t : State} (h : Keeps s x) (h1 : t.pending = x.pending) (h2 : t.now = x.now) (h3 : t.regs = x.regs)
    (h4 : t.dmem = x.dmem) (h5 : t.hmem = x.hmem) (h6 : t.evts = x.evts) (h7 : t.bmcLog = x.bmcLog) (h8 : t.evSeq = x.evSeq)
    (h9 : t.bt = x.bt) : Keeps s t :=
  h.trans ⟨h1, h2, fun g => ⟨h3 ▸ g.regs, h4 ▸ g.dmem, h5 ▸ g.hmem, h6 ▸ g.evts, h7 ▸ g.log, h8 ▸ g.seq, h9 ▸ g.bt⟩⟩

/-- A change of set-up registers that keeps their form. -/
theorem Keeps.updRegs {s x t : State} (h : Keeps s x) (h1 : t.pending = x.pending) (h2 : t.now = x.now)
    (h3 : Tbl.wf regReset x.regs = true → Tbl.wf regReset t.regs = true)
    (h4 : t.dmem = x.dmem) (h5 : t.hmem = x.hmem) (h6 : t.evts = x.evts) (h7 : t.bmcLog = x.bmcLog) (h8 : t.evSeq = x.evSeq)
    (h9 : t.bt = x.bt) : Keeps s t :=
  h.trans ⟨h1, h2, fun g => ⟨h3 g.regs, h4 ▸ g.dmem, h5 ▸ g.hmem, h6 ▸ g.evts, h7 ▸ g.log, h8 ▸ g.seq, h9 ▸ g.bt⟩⟩

/-- A change of the byte memories that keeps their form. -/
theorem Keeps.updMem {s x t : State} (h : Keeps s x) (h1 : t.pending = x.pending) (h2 : t.now = x.now) (h3 : t.regs = x.regs)
    (h4 : Memory.wf x.dmem = true → Memory.wf t.dmem = true) (h5 : Memory.wf x.hmem = true → Memory.wf t.hmem = true)
    (h6 : t.evts = x.evts) (h7 : t.bmcLog = x.bmcLog) (h8 : t.evSeq = x.evSeq) (h9 : t.bt = x.bt) : Keeps s t :=
  h.trans ⟨h1, h2, fun g => ⟨h3 ▸ g.regs, h4 g.dmem, h5 g.hmem, h6 ▸ g.evts, h7 ▸ g.log, h8 ▸ g.seq, h9 ▸ g.bt⟩⟩

/-- A change of beacon time within its width. -/
theorem Keeps.updBt {s x t : State} (h : Keeps s x) (h1 : t.pending = x.pending) (h2 : t.now = x.now) (h3 : t.regs = x.regs)
    (h4 : t.dmem = x.dmem) (h5 : t.hmem = x.hmem) (h6 : t.evts = x.evts) (h7 : t.bmcLog = x.bmcLog) (h8 : t.evSeq = x.evSeq)
    (h9 : t.bt < 2 ^ 64) : Keeps s t :=
  h.trans ⟨h1, h2, fun g => ⟨h3 ▸ g.regs, h4 ▸ g.dmem, h5 ▸ g.hmem, h6 ▸ g.evts, h7 ▸ g.log, h8 ▸ g.seq, h9⟩⟩

/-- A record update that leaves those fields as they are. -/
theorem Keeps.rec_ {s0 x : State} {free1 : Nat} {poison1 : NSet} {cores1 : Tbl Core} {tiles1 : Tbl Word} {launches1 :
    List Launch} {reports1 : List Report} {evDropped1 : Nat} {mem1 : MemSt} {role1 : RoleSt} {fab1 : FabSt} {light1 :
    LightSt} {clk1 : ClkSt} {pwr1 : PwrSt} {port1 : PortSt} {rack1 : RackSt} {stack1 : StackSt} {cmd1 : CmdSt} {lv1 : LvSt}
    {fw1 : FwSt} {mon1 : MonSt} {out1 : List Msg} (h : Keeps s0 x) :
    Keeps s0 (State.mk x.pending free1 x.now x.bt x.regs x.dmem poison1 x.hmem cores1 tiles1 launches1 reports1 x.evts
      x.evSeq evDropped1 x.bmcLog mem1 role1 fab1 light1 clk1 pwr1 port1 rack1 stack1 cmd1 lv1 fw1 mon1 out1) :=
  h.upd rfl rfl rfl rfl rfl rfl rfl rfl rfl

theorem Keeps.cut {s0 x t : State} (h : Keeps s0 x) (g : Keeps s0 x → Keeps s0 t) : Keeps s0 t := g h

theorem Keeps.cutP {β : Type} {s0 t : State} {x : State × β} (h : Keeps s0 x.1) (g : Keeps s0 x.1 → Keeps s0 t) : Keeps s0 t := g h

/-- Beacon time starts again from 0. -/
theorem Keeps.btZero {s0 x : State} {f : FabSt} (h : Keeps s0 x) : Keeps s0 { x with fab := f, bt := 0 } :=
  h.updBt rfl rfl rfl rfl rfl rfl rfl rfl (Nat.two_pow_pos 64)

theorem Keeps.foldl {α : Type} {s0 : State} {g : State → α → State} {l : List α} {s : State}
    (hg : ∀ t x, Keeps s0 t → Keeps s0 (g t x)) (h : Keeps s0 s) : Keeps s0 (l.foldl g s) := by
  induction l generalizing s with
  | nil => exact h
  | cons a r ih => exact ih (hg _ _ h)

theorem Keeps.foldl_fst {α β : Type} {s0 : State} {g : State × β → α → State × β} {l : List α} {p : State × β}
    (hg : ∀ t x, Keeps s0 t.1 → Keeps s0 (g t x).1) (h : Keeps s0 p.1) : Keeps s0 (l.foldl g p).1 := by
  induction l generalizing p with
  | nil => exact h
  | cons a r ih => exact ih (hg _ _ h)

theorem Keeps.ite {s0 a b : State} {c : Prop} [Decidable c] (h1 : c → Keeps s0 a) (h2 : ¬c → Keeps s0 b) :
    Keeps s0 (if c then a else b) := by
  split
  · exact h1 ‹_›
  · exact h2 ‹_›

theorem Keeps.ite_fst {β : Type} {s0 : State} {a b : State × β} {c : Prop} [Decidable c] (h1 : c → Keeps s0 a.1) (h2 : ¬c → Keeps s0 b.1) :
    Keeps s0 (if c then a else b).1 := by
  split
  · exact h1 ‹_›
  · exact h2 ‹_›

/-! ## The operations that write what `State.Sound` speaks of -/

variable {s0 s : State}

theorem State.setReg_keeps {off : Nat} {w : Word} (h : Keeps s0 s) : Keeps s0 (s.setReg off w) :=
  h.updRegs rfl rfl (fun g => tput_wf _ _ _ _ g) rfl rfl rfl rfl rfl rfl

theorem State.wr_keeps {f : Fld} {i v : Nat} (h : Keeps s0 s) : Keeps s0 (s.wr f i v) := State.setReg_keeps h

theorem State.bump_keeps {f : Fld} {i k : Nat} (h : Keeps s0 s) : Keeps s0 (s.bump f i k) := State.wr_keeps h

/-- A record enters the buffer while it has room. -/
theorem State.record_keeps {r : EvRec} (h : Keeps s0 s) (hl : s0.Sound → s.evts.length < 4096) : Keeps s0 (s.record r) :=
  ⟨h.pending, h.now, fun g0 =>
    have g := h.sound g0
    have l := hl g0
    ⟨g.regs, g.dmem, g.hmem, by simp only [State.record, List.length_append, List.length_singleton]; omega,
      by simp only [State.record, List.length_drop, List.length_append, List.length_singleton]; omega, g.seq, g.bt⟩⟩

theorem State.evSeq_keeps {n : Nat} (h : Keeps s0 s) : Keeps s0 { s with evSeq := n % 2 ^ 32 } :=
  h.trans ⟨rfl, rfl, fun g => ⟨g.regs, g.dmem, g.hmem, g.evts, g.log, Nat.mod_lt _ (by decide), g.bt⟩⟩

theorem State.raise_keeps {code source : Nat} {data : List (Nat × Nat)} (h : Keeps s0 s) : Keeps s0 (s.raise code source data) := by
  unfold State.raise
  dsimp only
  split
  · exact State.record_keeps (State.evSeq_keeps h) (fun _ => ‹_›)
  · exact State.bump_keeps ((State.evSeq_keeps h).upd rfl rfl rfl rfl rfl rfl rfl rfl rfl)

theorem State.poke_keeps {a : Nat} {b : Byte} (h : Keeps s0 s) : Keeps s0 (s.poke a b) :=
  h.updMem rfl rfl rfl (fun g => Memory.wf_put g _ _) id rfl rfl rfl rfl

theorem pokeAll_keeps {bs : List Byte} {a : Nat} (h : Keeps s0 s) : Keeps s0 (pokeAll bs a s) := by
  induction bs generalizing a s with
  | nil => exact h
  | cons b r ih => exact ih (State.poke_keeps h)

theorem State.mark_keeps {a : Nat} (h : Keeps s0 s) : Keeps s0 (s.mark a) := h.upd rfl rfl rfl rfl rfl rfl rfl rfl rfl

theorem State.unmark_keeps {a : Nat} (h : Keeps s0 s) : Keeps s0 (s.unmark a) := h.upd rfl rfl rfl rfl rfl rfl rfl rfl rfl

theorem State.store_keeps {a : Nat} {bs : List Byte} (h : Keeps s0 s) : Keeps s0 (s.store a bs) :=
  Keeps.foldl (fun _ _ => State.unmark_keeps) (pokeAll_keeps h)

theorem State.clearScratch_keeps {lc : Nat} (h : Keeps s0 s) : Keeps s0 (s.clearScratch lc) :=
  h.updMem rfl rfl rfl (fun g => Memory.wf_filter g _) id rfl rfl rfl rfl

theorem State.zeroSram_keeps {n : Nat} (h : Keeps s0 s) : Keeps s0 (s.zeroSram n) :=
  h.updMem rfl rfl rfl (fun g => Memory.wf_filter g _) id rfl rfl rfl rfl

theorem State.hostStore_keeps {a : Nat} {bs : List Byte} (h : Keeps s0 s) : Keeps s0 (s.hostStore a bs) :=
  h.updMem rfl rfl rfl id (fun g => hostFold_wf _ _ _ g) rfl rfl rfl rfl

theorem State.keepField_keeps {o : State} {f : Fld} {n : Nat} (h : Keeps s0 s) : Keeps s0 (o.keepField s f n) :=
  Keeps.foldl (fun _ _ => State.wr_keeps) h

/-- A cold reset empties all but what outlives it (R431, R432). -/
theorem State.coldReset_keeps {cause : Nat} (h : Keeps s0 s) : Keeps s0 (s.coldReset cause) := by
  refine State.wr_keeps (State.wr_keeps (Keeps.foldl (fun _ _ => State.keepField_keeps) (h.trans ⟨rfl, rfl, fun g => ?_⟩)))
  exact ⟨rfl, rfl, g.hmem, Nat.zero_le _, Nat.zero_le _, Nat.two_pow_pos 32, Nat.two_pow_pos 64⟩

theorem State.warmReset_keeps {cause : Nat} (h : Keeps s0 s) : Keeps s0 (s.warmReset cause) := by
  have hc := Keeps.foldl (g := fun (t : State) n => t.wr F.STK_DIE_STATE n 4)
    (l := (List.range 16).filter (fun n => s.rd F.STK_DIE_STATE n == 4)) (fun _ _ => State.wr_keeps)
    (Keeps.foldl (g := fun (t : State) (f : Fld × Nat) => s.keepField t f.1 f.2) (l := warmFields) (fun _ _ => State.keepField_keeps)
      (State.coldReset_keeps (cause := cause) h))
  unfold State.warmReset
  dsimp only
  refine State.wr_keeps (State.wr_keeps ?_)
  generalize List.foldl _ (List.foldl _ _ _) _ = c at hc ⊢
  refine ⟨hc.pending, hc.now, fun g => ?_⟩
  have g1 := hc.sound g
  exact ⟨g1.regs, Memory.wf_filter (h.sound g).dmem _, g1.hmem, g1.evts, g1.log, g1.seq, g1.bt⟩

end Sys2Proof.Machine
end

