-- ==== Sys2Proof/Laws/KeepsCore.lean ====
section
/-!
SUPPORT. `Keeps` of every shared operation, first half: what a prover cites in place of unfolding it.
-/
namespace Sys2Proof.Machine

/-! ## Flags -/

theorem State.send_keeps {k0 s : State} {m : Msg} (hk : Keeps k0 s) : Keeps k0 (State.send s m) := by
  unfold State.send
  with_reducible repeat' first | assumption | fail_if_no_progress apply Keeps.rec_

theorem State.setLevel_keeps {k0 s : State} (hk : Keeps k0 s) : Keeps k0 (State.setLevel s) := by
  unfold State.setLevel
  with_reducible repeat' first
    | assumption | apply State.raise_keeps | apply State.wr_keeps
    | (extract_lets +onlyGivenNames x; first | (refine Keeps.cut (x := x) ?_ ?_ <;> [dsimp -zeta only [x]; (intro _; clear_value x)]) | clear_value x)
    | (split) | fail_if_no_progress apply Keeps.rec_

theorem State.setCond_keeps {k0 s : State} {i : Nat} {b : Bool} (hk : Keeps k0 s) : Keeps k0 (State.setCond s i b) := by
  unfold State.setCond
  with_reducible repeat' first | assumption | apply State.setLevel_keeps | apply State.wr_keeps | apply Keeps.ite | intro _

theorem State.drawn_keeps {k0 s : State} (hk : Keeps k0 s) : Keeps k0 (State.drawn s) := by
  unfold State.drawn
  with_reducible repeat' first | assumption | fail_if_no_progress apply Keeps.rec_

/-! ## Beacon -/

theorem State.takeParent_keeps {k0 s : State} {p : Nat} (hk : Keeps k0 s) : Keeps k0 (State.takeParent s p) := by
  unfold State.takeParent
  with_reducible repeat' first | assumption | apply State.wr_keeps | apply State.raise_keeps | apply Keeps.ite | intro _

theorem State.acquire_keeps {k0 s : State} {p : Nat} (hk : Keeps k0 s) : Keeps k0 (State.acquire s p) := by
  unfold State.acquire
  with_reducible repeat' first | assumption | apply State.wr_keeps | apply State.takeParent_keeps | fail_if_no_progress apply Keeps.rec_

theorem State.btSettle_keeps {k0 s : State} (hk : Keeps k0 s) : Keeps k0 (State.btSettle s) := by
  unfold State.btSettle
  with_reducible repeat' first
    | assumption | apply State.wr_keeps | apply State.acquire_keeps | (extract_lets +onlyGivenNames x; clear_value x) | (split)

theorem State.newTrim_keeps {k0 s : State} (hk : Keeps k0 s) : Keeps k0 (State.newTrim s) := by
  unfold State.newTrim
  with_reducible repeat' first | assumption | apply State.drawn_keeps | fail_if_no_progress apply Keeps.rec_

theorem State.exchange_keeps {k0 s : State} {o : Int} (hk : Keeps k0 s) : Keeps k0 (s.exchange o) := by
  have hbt : ∀ (u : State) (n : Nat) (p : Prop) [Decidable p], Keeps k0 u → Keeps k0 (if p then { u with bt := n % 2 ^ 64 } else u)
      := by
    intro u n p _ hu
    split
    · exact hu.updBt rfl rfl rfl rfl rfl rfl rfl rfl (Nat.mod_lt _ (Nat.two_pow_pos 64))
    · exact hu
  have hc : ∀ (u : State) (c : ClkSt), Keeps k0 u → Keeps k0 { u with clk := c }
      := fun u c hu => hu.upd rfl rfl rfl rfl rfl rfl rfl rfl rfl
  have hend : ∀ (u : State) (p q : Prop) [Decidable p] [Decidable q], Keeps k0 u → Keeps k0 (if p then
      (({ u with clk := { u.clk with far := 0 } } : State).wr F.CLK_BT_STATUS_STATE 0 3).raise 0x0144 srcPkg [] else if q then
      (({ u with clk := { u.clk with good := 0 } }
          : State).wr F.CLK_BT_STATUS_STATE 0 2).raise 0x0146 srcPkg [(3, offsetBytes o)] else u) :=
    fun u p q _ _ hu => Keeps.ite (fun _ => State.raise_keeps (State.wr_keeps (hc _ _ hu)))
      (fun _ => Keeps.ite (fun _ => State.raise_keeps (State.wr_keeps (hc _ _ hu))) (fun _ => hu))
  unfold State.exchange
  exact hend _ _ _ (hbt _ _ _ (Keeps.ite (fun _ => State.newTrim_keeps (State.wr_keeps (hc _ _ hk))) (fun _ => hc _ _ hk)))

theorem State.holdover_keeps {k0 s : State} (hk : Keeps k0 s) : Keeps k0 (State.holdover s) := by
  unfold State.holdover
  with_reducible repeat' first | assumption | apply State.raise_keeps | apply State.wr_keeps

/-! ## HostPath -/

theorem State.showReady_keeps {k0 s : State} (hk : Keeps k0 s) : Keeps k0 (State.showReady s) := by
  unfold State.showReady
  with_reducible repeat' first | assumption | apply State.wr_keeps

theorem State.setCmd_keeps {k0 s : State} {c : CmdSt} (hk : Keeps k0 s) : Keeps k0 (State.setCmd s c) := by
  unfold State.setCmd
  with_reducible repeat' first | assumption | fail_if_no_progress apply Keeps.rec_

theorem State.negCommit_keeps {k0 s : State} (hk : Keeps k0 s) : Keeps k0 (State.negCommit s) := by
  unfold State.negCommit
  with_reducible repeat' first
    | assumption | apply State.wr_keeps | apply State.setReg_keeps | apply State.raise_keeps | apply State.showReady_keeps
    | apply State.setCmd_keeps | apply Keeps.ite | apply Keeps.foldl | intro _

theorem State.sendMsix_keeps {k0 s : State} {v : Nat} (hk : Keeps k0 s) : Keeps k0 (State.sendMsix s v) := by
  unfold State.sendMsix
  with_reducible repeat' first | assumption | apply State.setCmd_keeps | apply State.send_keeps | apply Keeps.ite | intro _

theorem State.signalCq_keeps {k0 s : State} {c : Nat} (hk : Keeps k0 s) : Keeps k0 (State.signalCq s c) := by
  unfold State.signalCq
  with_reducible repeat' first | assumption | apply State.sendMsix_keeps | apply State.setCmd_keeps | apply Keeps.ite | intro _

theorem State.putRecord_keeps {k0 s : State} {c : Nat} {a : Nat} {bs : List Byte} (hk : Keeps k0 s) :
    Keeps k0 (State.putRecord s c a bs) := by
  unfold State.putRecord
  with_reducible repeat' first | assumption | apply State.signalCq_keeps | apply State.hostStore_keeps

theorem State.rewrite_keeps {k0 s : State} (hk : Keeps k0 s) : Keeps k0 (State.rewrite s) := by
  unfold State.rewrite
  with_reducible repeat' first
    | assumption | apply State.putRecord_keeps | apply State.setCmd_keeps | apply Keeps.ite | apply Keeps.foldl | intro _

theorem State.dropHost_keeps {k0 : State} {s0 : State} (hk : Keeps k0 s0) : Keeps k0 (State.dropHost s0) := by
  unfold State.dropHost
  with_reducible repeat' first | assumption | apply State.setCmd_keeps | apply State.wr_keeps | apply Keeps.foldl | intro _

theorem State.switchPort_keeps {k0 s : State} {trigger : Nat} (hk : Keeps k0 s) : Keeps k0 (State.switchPort s trigger) := by
  unfold State.switchPort
  with_reducible repeat' first
    | assumption | apply State.rewrite_keeps | apply State.showReady_keeps | apply State.raise_keeps | apply State.wr_keeps
    | apply State.setCmd_keeps | apply State.dropHost_keeps | apply Keeps.ite | intro _

theorem State.hstSwitch_keeps {k0 s : State} (hk : Keeps k0 s) : Keeps k0 (State.hstSwitch s) := by
  unfold State.hstSwitch
  with_reducible repeat' first | assumption | apply State.switchPort_keeps | apply Keeps.ite | intro _

theorem State.portDies_keeps {k0 s : State} {trigger : Nat} (hk : Keeps k0 s) : Keeps k0 (State.portDies s trigger) := by
  unfold State.portDies
  with_reducible repeat' first
    | assumption | apply State.setCond_keeps | apply State.setCmd_keeps | apply State.showReady_keeps | apply State.switchPort_keeps
    | apply Keeps.ite | intro _

theorem State.discardHost_keeps {k0 s : State} {n : Nat} (hk : Keeps k0 s) : Keeps k0 (State.discardHost s n) := by
  unfold State.discardHost
  with_reducible repeat' first | assumption | apply State.setCmd_keeps

theorem State.portDown_keeps {k0 s : State} {p : Nat} (hk : Keeps k0 s) : Keeps k0 (State.portDown s p) := by
  unfold State.portDown
  with_reducible repeat' first
    | assumption | apply State.raise_keeps | apply State.showReady_keeps | apply State.wr_keeps | apply Keeps.ite | intro _

theorem State.resetHost_keeps {k0 s : State} (hk : Keeps k0 s) : Keeps k0 (State.resetHost s) := by
  unfold State.resetHost
  with_reducible repeat' first
    | assumption | apply State.portDown_keeps | apply State.showReady_keeps | apply State.dropHost_keeps | apply State.raise_keeps
    | apply Keeps.ite | intro _

theorem State.ringError_keeps {k0 s : State} {r : Nat} (hk : Keeps k0 s) : Keeps k0 (State.ringError s r) := by
  unfold State.ringError
  with_reducible repeat' first | assumption | apply State.raise_keeps | apply State.wr_keeps

theorem State.slotFreed_keeps {k0 s : State} (hl : k0.Sound → s.evts.length < 4096) (hk : Keeps k0 s) : Keeps k0 s.slotFreed := by
  unfold State.slotFreed
  split
  · exact hk
  · have h := State.evSeq_keeps (n := s.evSeq + 1) (State.record_keeps
      (r := ⟨0x0547, true, s.evSeq, s.bt, srcPkg, evData [(4, min s.evDropped (2 ^ 32 - 1))]⟩) hk hl)
    exact h.upd rfl rfl rfl rfl rfl rfl rfl rfl rfl

theorem State.writeRecord_keeps {k0 s : State} {ring : Nat} {tag : Nat} {seq : Nat} {status : Nat} {type : Nat} {detail : Nat}
    {value : Nat} (hk : Keeps k0 s) :
    Keeps k0 (State.writeRecord s ring tag seq status type detail value) := by
  unfold State.writeRecord
  with_reducible repeat' first
    | assumption | apply State.discardHost_keeps | apply State.ringError_keeps | apply State.setCmd_keeps
    | apply State.putRecord_keeps | apply Keeps.ite | intro _

/-! ## DescOps -/

theorem State.setDesc_keeps {k0 s : State} {d : Desc} (hk : Keeps k0 s) : Keeps k0 (State.setDesc s d) := by
  unfold State.setDesc
  with_reducible repeat' first | assumption | apply State.setCmd_keeps

theorem State.finishDesc_keeps {k0 s : State} {seq : Nat} {status : Nat} {detail : Nat} {value : Nat} (hk : Keeps k0 s) :
    Keeps k0 (State.finishDesc s seq status detail value) := by
  unfold State.finishDesc
  with_reducible repeat' first | assumption | apply State.setDesc_keeps | intro _ | (split)

theorem State.setCounter_keeps {k0 s : State} {k : Nat} {v : Nat} (hk : Keeps k0 s) : Keeps k0 (State.setCounter s k v) := by
  unfold State.setCounter
  with_reducible repeat' first | assumption | apply State.wr_keeps

theorem State.toHost_keeps {k0 s : State} {src : Nat} {dst : Nat} {n : Nat} (hk : Keeps k0 s) :
    Keeps k0 (State.toHost s src dst n).1 := by
  unfold State.toHost
  with_reducible repeat' first
    | assumption | apply State.discardHost_keeps | apply State.hostStore_keeps | apply Keeps.ite_fst | intro _

theorem State.resultCopy_keeps {k0 s : State} {d : Desc} (hk : Keeps k0 s) : Keeps k0 (State.resultCopy s d).1 := by
  unfold State.resultCopy
  with_reducible repeat' first | assumption | apply State.toHost_keeps | apply Keeps.ite_fst | intro _

theorem State.startDesc_keeps {k0 s : State} {seq : BitVec 32} {mine : Desc → Bool} {body : State → Desc → State}
    (hbody : ∀ t z0, Keeps k0 t → Keeps k0 (body t z0)) (hk : Keeps k0 s) :
    Keeps k0 (State.startDesc s seq mine body) := by
  unfold State.startDesc
  with_reducible repeat' first | assumption | apply hbody | apply State.setDesc_keeps | apply State.finishDesc_keeps | intro _ | (split)

/-! ## Ops -/

theorem State.setFw_keeps {k0 s : State} {f : FwSt} (hk : Keeps k0 s) : Keeps k0 (State.setFw s f) := by
  unfold State.setFw
  with_reducible repeat' first | assumption | fail_if_no_progress apply Keeps.rec_

theorem State.setRoom_keeps {k0 s : State} {q : Nat} {w : Watch} (hk : Keeps k0 s) : Keeps k0 (State.setRoom s q w) := by
  unfold State.setRoom
  with_reducible repeat' first | assumption | apply State.setFw_keeps

theorem State.setCore_keeps {k0 s : State} {lc : Nat} {c : Core} (hk : Keeps k0 s) : Keeps k0 (State.setCore s lc c) := by
  unfold State.setCore
  with_reducible repeat' first | assumption | fail_if_no_progress apply Keeps.rec_

theorem State.copyRaw_keeps {k0 s : State} {src : Nat} {dst : Nat} {n : Nat} (hk : Keeps k0 s) :
    Keeps k0 (State.copyRaw s src dst n) := by
  unfold State.copyRaw
  with_reducible repeat' first | assumption | apply State.mark_keeps | apply State.store_keeps | apply Keeps.foldl

theorem State.setTile_keeps {k0 s : State} {lc : Nat} {e : Nat} {t : Nat} {i : Nat} {v : Word} (hk : Keeps k0 s) :
    Keeps k0 (State.setTile s lc e t i v) := by
  unfold State.setTile
  with_reducible repeat' first | assumption | fail_if_no_progress apply Keeps.rec_

/-! ## Links -/

theorem State.setRing_keeps {k0 s : State} {k : Nat} {r : RingSt} (hk : Keeps k0 s) : Keeps k0 (State.setRing s k r) := by
  unfold State.setRing
  with_reducible repeat' first | assumption | fail_if_no_progress apply Keeps.rec_

theorem State.setLink_keeps {k0 s : State} {x : Nat} {l : LinkSt} (hk : Keeps k0 s) : Keeps k0 (State.setLink s x l) := by
  unfold State.setLink
  with_reducible repeat' first | assumption | fail_if_no_progress apply Keeps.rec_

theorem State.countLinks_keeps {k0 s : State} {p : Nat} (hk : Keeps k0 s) : Keeps k0 (State.countLinks s p) := by
  unfold State.countLinks
  with_reducible repeat' first | assumption | apply State.wr_keeps

theorem State.showShort_keeps {k0 s : State} (hk : Keeps k0 s) : Keeps k0 (State.showShort s) := by
  unfold State.showShort
  with_reducible repeat' first | assumption | apply State.setCond_keeps

theorem State.setLinkState_keeps {k0 s : State} {x : Nat} {v : Nat} (hk : Keeps k0 s) : Keeps k0 (State.setLinkState s x v) := by
  unfold State.setLinkState
  with_reducible repeat' first
    | assumption | apply State.countLinks_keeps | apply State.wr_keeps | apply State.showShort_keeps
    | (extract_lets +onlyGivenNames x; refine Keeps.cut (x := x) ?_ ?_ <;> [dsimp -zeta only [x]; (intro _; clear_value x)]) | (split)
    | fail_if_no_progress apply Keeps.rec_

theorem State.setRx_keeps {k0 s : State} {k : Nat} {t : FlitRx} (hk : Keeps k0 s) : Keeps k0 (State.setRx s k t) := by
  unfold State.setRx
  with_reducible repeat' first | assumption | fail_if_no_progress apply Keeps.rec_

theorem State.setTx_keeps {k0 s : State} {k : Nat} {t : FlitTx} (hk : Keeps k0 s) : Keeps k0 (State.setTx s k t) := by
  unfold State.setTx
  with_reducible repeat' first | assumption | fail_if_no_progress apply Keeps.rec_

theorem State.linkDark_keeps {k0 s : State} {x : Nat} (hk : Keeps k0 s) : Keeps k0 (State.linkDark s x) := by
  unfold State.linkDark
  with_reducible repeat' first
    | assumption | apply State.setLink_keeps | apply State.setLinkState_keeps | apply State.setRx_keeps | apply State.setTx_keeps
    | apply State.raise_keeps | apply Keeps.ite | intro _

theorem State.groupCheck_keeps {k0 s : State} {g : Nat} {sender : Nat} (hk : Keeps k0 s) :
    Keeps k0 (State.groupCheck s g sender) := by
  unfold State.groupCheck
  with_reducible repeat' first | assumption | apply State.raise_keeps | apply Keeps.ite | intro _ | fail_if_no_progress apply Keeps.rec_

theorem State.refreshPair_keeps {k0 s : State} {pr : Nat} (hk : Keeps k0 s) : Keeps k0 (State.refreshPair s pr) := by
  unfold State.refreshPair
  with_reducible repeat' first
    | assumption | apply State.wr_keeps | apply State.raise_keeps | apply State.showShort_keeps | apply State.groupCheck_keeps
    | apply Keeps.ite | intro _ | fail_if_no_progress apply Keeps.rec_

theorem State.sendCtl_keeps {k0 s : State} {x : Nat} {data : List Byte} (hk : Keeps k0 s) : Keeps k0 (State.sendCtl s x data) := by
  unfold State.sendCtl
  with_reducible repeat' first | assumption | apply State.setTx_keeps

theorem State.linkResume_keeps {k0 s : State} {x : Nat} (hk : Keeps k0 s) : Keeps k0 (State.linkResume s x) := by
  unfold State.linkResume
  with_reducible repeat' first | assumption | apply State.sendCtl_keeps | apply Keeps.ite | intro _

theorem State.linkSettle_keeps {k0 s : State} {x : Nat} (hk : Keeps k0 s) : Keeps k0 (State.linkSettle s x) := by
  unfold State.linkSettle
  with_reducible repeat' first | assumption | apply State.setLinkState_keeps | apply Keeps.ite | intro _

theorem State.linkRing_keeps {k0 s : State} {x : Nat} (hk : Keeps k0 s) : Keeps k0 (State.linkRing s x) := by
  unfold State.linkRing
  with_reducible repeat' first | assumption | apply State.linkSettle_keeps | apply State.linkDark_keeps | apply Keeps.ite | intro _

theorem State.linkPause_keeps {k0 s : State} {x : Nat} {reason : Nat} (hk : Keeps k0 s) :
    Keeps k0 (State.linkPause s x reason) := by
  unfold State.linkPause
  with_reducible repeat' first
    | assumption | apply State.setLink_keeps | apply State.setLinkState_keeps | apply State.sendCtl_keeps | apply Keeps.ite | intro _

theorem State.linkOff_keeps {k0 s : State} {x : Nat} {reset : Bool} (hk : Keeps k0 s) : Keeps k0 (State.linkOff s x reset) := by
  unfold State.linkOff
  with_reducible repeat' first
    | assumption | apply State.setLinkState_keeps | apply State.linkDark_keeps | apply State.setLink_keeps | apply Keeps.ite | intro _

theorem State.linkShut_keeps {k0 s : State} {x : Nat} (hk : Keeps k0 s) : Keeps k0 (State.linkShut s x) := by
  unfold State.linkShut
  with_reducible repeat' first | assumption | apply State.linkPause_keeps | apply Keeps.ite | intro _

/-! ## Carry -/

theorem State.setBundle_keeps {k0 s : State} {x : Nat} {b : Bundle} (hk : Keeps k0 s) : Keeps k0 (State.setBundle s x b) := by
  unfold State.setBundle
  with_reducible repeat' first | assumption | fail_if_no_progress apply Keeps.rec_

theorem State.putBeat_keeps {k0 s : State} {x : Nat} {kind : Nat} {seq : Nat} {data : List Byte} (hk : Keeps k0 s) :
    Keeps k0 (State.putBeat s x kind seq data) := by
  unfold State.putBeat
  with_reducible repeat' first | assumption | apply State.send_keeps | apply State.setBundle_keeps

theorem State.pumpBundle_keeps {k0 : State} {x n : Nat} {s : State} (hk : Keeps k0 s) : Keeps k0 (State.pumpBundle x n s) := by
  induction n generalizing s with
  | zero => exact hk
  | succ n ih =>
    unfold State.pumpBundle
    with_reducible repeat' first
      | assumption | apply ih | apply State.putBeat_keeps | apply State.setBundle_keeps
      | (extract_lets +onlyGivenNames x; first | (refine Keeps.cut (x := x) ?_ ?_ <;> [dsimp -zeta only [x]; (intro _; clear_value x)]) | clear_value x)
      | (split)

theorem State.queueBeats_keeps {k0 s : State} {x : Nat} {bs : List Beat} (hk : Keeps k0 s) :
    Keeps k0 (State.queueBeats s x bs) := by
  unfold State.queueBeats
  with_reducible repeat' first | assumption | apply State.pumpBundle_keeps | apply State.setBundle_keeps

theorem State.onBundle_keeps {k0 s : State} {n : Nat} {d : Nat} {line : Nat} {m : List Byte} (hk : Keeps k0 s) :
    Keeps k0 (State.onBundle s n d line m) := by
  unfold State.onBundle
  with_reducible repeat' first | assumption | apply State.queueBeats_keeps | (split)

theorem State.onPair_keeps {k0 s : State} {i : Nat} {j : Nat} {vc : Nat} {fs : List OutFlit} (hk : Keeps k0 s) :
    Keeps k0 (State.onPair s i j vc fs) := by
  unfold State.onPair
  with_reducible repeat' first | assumption | apply State.setTx_keeps

theorem State.fromEp_keeps {k0 s : State} {e : Nat} {m : Note} (hk : Keeps k0 s) : Keeps k0 (State.fromEp s e m) := by
  unfold State.fromEp
  with_reducible repeat' first | assumption | apply State.onPair_keeps | apply State.onBundle_keeps | apply Keeps.ite | intro _

theorem State.post_keeps {k0 s : State} {m : Note} (hk : Keeps k0 s) : Keeps k0 (State.post s m) := by
  unfold State.post
  with_reducible repeat' first | assumption | apply State.onBundle_keeps | apply State.fromEp_keeps | apply Keeps.ite | intro _

theorem State.askHomes_keeps {k0 s : State} {p : Nat} {areas : List (Nat × Nat)} (hk : Keeps k0 s) :
    Keeps k0 (State.askHomes s p areas) := by
  unfold State.askHomes
  with_reducible repeat' first | assumption | apply State.post_keeps | apply Keeps.foldl | intro _

theorem State.launchUp_keeps {k0 s : State} {n : Nat} {m : Note} (hk : Keeps k0 s) : Keeps k0 (State.launchUp s n m) := by
  unfold State.launchUp
  with_reducible repeat' first | assumption | apply State.fromEp_keeps | apply Keeps.foldl | intro _

theorem State.atEp_keeps {k0 s : State} {e : Nat} {m : Note} (hk : Keeps k0 s) : Keeps k0 (State.atEp s e m) := by
  unfold State.atEp
  with_reducible repeat' first | assumption | apply State.launchUp_keeps | apply State.fromEp_keeps | apply Keeps.ite | intro _

theorem State.setMcastWait_keeps {k0 s : State} {i : Nat} {g : Nat} {vc : Nat} {l : List OutFlit} (hk : Keeps k0 s) :
    Keeps k0 (State.setMcastWait s i g vc l) := by
  unfold State.setMcastWait
  with_reducible repeat' first | assumption | fail_if_no_progress apply Keeps.rec_

theorem State.setMcast_keeps {k0 s : State} {i : Nat} {g : Nat} {vc : Nat} {l : List OutFlit} (hk : Keeps k0 s) :
    Keeps k0 (State.setMcast s i g vc l) := by
  unfold State.setMcast
  with_reducible repeat' first | assumption | fail_if_no_progress apply Keeps.rec_

theorem State.mcastFill_keeps {k0 s : State} {i : Nat} {g : Nat} {vc : Nat} (hk : Keeps k0 s) :
    Keeps k0 (State.mcastFill s i g vc) := by
  unfold State.mcastFill
  with_reducible repeat' first | assumption | apply State.setMcastWait_keeps | apply State.setMcast_keeps

theorem State.offBundle_keeps {k0 s : State} {n : Nat} {d : Nat} {m : Note} (hk : Keeps k0 s) :
    Keeps k0 (State.offBundle s n d m) := by
  unfold State.offBundle
  with_reducible repeat' first | assumption | apply State.atEp_keeps | apply State.post_keeps | apply Keeps.ite | intro _

theorem State.onGroup_keeps {k0 s : State} {i : Nat} {g : Nat} {vc : Nat} {fs : List OutFlit} (hk : Keeps k0 s) :
    Keeps k0 (State.onGroup s i g vc fs) := by
  unfold State.onGroup
  with_reducible repeat' first
    | assumption | apply State.mcastFill_keeps | apply State.setMcastWait_keeps | apply State.onPair_keeps | apply Keeps.ite
    | apply Keeps.foldl | intro _

/-! ## Fabric -/

theorem State.setUnit_keeps {k0 s : State} {u : Nat} {x : SubUnit} (hk : Keeps k0 s) : Keeps k0 (State.setUnit s u x) := by
  unfold State.setUnit
  with_reducible repeat' first | assumption | fail_if_no_progress apply Keeps.rec_

theorem State.setUntested_keeps {k0 s : State} {pr : Nat} {n : Nat} {u : Bool} (hk : Keeps k0 s) :
    Keeps k0 (State.setUntested s pr n u) := by
  unfold State.setUntested
  with_reducible repeat' first | assumption | fail_if_no_progress apply Keeps.rec_

theorem State.showOut_keeps {k0 s : State} {pr : Nat} (hk : Keeps k0 s) : Keeps k0 (State.showOut s pr) := by
  unfold State.showOut
  with_reducible repeat' first | assumption | apply State.wr_keeps

theorem State.laneOut_keeps {k0 s : State} {u : Nat} {j : Repair} (hk : Keeps k0 s) : Keeps k0 (State.laneOut s u j) := by
  unfold State.laneOut
  with_reducible repeat' first
    | assumption | apply State.raise_keeps | apply State.showOut_keeps | apply State.linkDark_keeps | (split)
    | fail_if_no_progress apply Keeps.rec_

theorem State.useSpare_keeps {k0 s : State} {u : Nat} {rx : Bool} {k : Nat} (hk : Keeps k0 s) :
    Keeps k0 (State.useSpare s u rx k) := by
  unfold State.useSpare
  with_reducible repeat' first | assumption | apply State.wr_keeps | apply Keeps.ite | intro _

theorem State.repairNext_keeps {k0 s : State} {u n : Nat} (hk : Keeps k0 s) : Keeps k0 (State.repairNext u n s) := by
  induction n generalizing s with
  | zero => exact hk
  | succ n ih =>
    unfold State.repairNext
    dsimp only
    split
    · exact hk
    · refine Keeps.ite (fun _ => hk) (fun _ => ?_)
      split
      · exact State.setUnit_keeps (State.useSpare_keeps (State.setRing_keeps hk))
      · split
        · exact State.setUnit_keeps (State.setUntested_keeps (hk.upd rfl rfl rfl rfl rfl rfl rfl rfl rfl))
        · exact ih (State.laneOut_keeps (State.setUnit_keeps hk))

theorem State.repairEnd_keeps {k0 s : State} {u : Nat} (hk : Keeps k0 s) : Keeps k0 (State.repairEnd s u) := by
  unfold State.repairEnd
  with_reducible repeat' first | assumption | apply State.repairNext_keeps | apply State.setUnit_keeps

theorem State.repairDone_keeps {k0 s : State} {u : Nat} {j : Repair} (hk : Keeps k0 s) : Keeps k0 (State.repairDone s u j) := by
  unfold State.repairDone
  with_reducible repeat' first
    | assumption | apply State.setUntested_keeps | apply State.raise_keeps | apply State.bump_keeps | apply State.repairEnd_keeps
    | apply State.refreshPair_keeps | apply State.linkResume_keeps | apply State.linkRing_keeps | apply Keeps.ite | intro _

theorem State.reserveFailed_keeps {k0 s : State} {u : Nat} {j : Repair} (hk : Keeps k0 s) :
    Keeps k0 (State.reserveFailed s u j) := by
  unfold State.reserveFailed
  with_reducible repeat' first
    | assumption | apply State.repairNext_keeps | apply State.setUnit_keeps | fail_if_no_progress apply Keeps.rec_

theorem State.spareFailed_keeps {k0 s : State} {u : Nat} {j : Repair} (hk : Keeps k0 s) : Keeps k0 (State.spareFailed s u j) := by
  unfold State.spareFailed
  with_reducible repeat' first
    | assumption | apply State.setRing_keeps | apply State.raise_keeps | apply State.repairNext_keeps | apply State.setUnit_keeps
    | apply Keeps.ite | intro _

theorem State.testEnd_keeps {k0 s : State} {u : Nat} {j : Repair} {pass : Bool} (hk : Keeps k0 s) :
    Keeps k0 (State.testEnd s u j pass) := by
  unfold State.testEnd
  with_reducible repeat' first
    | assumption | apply State.repairDone_keeps | apply State.reserveFailed_keeps | apply State.spareFailed_keeps | apply Keeps.ite
    | intro _

theorem State.unitResume_keeps {k0 s : State} {u : Nat} (hk : Keeps k0 s) : Keeps k0 (State.unitResume s u) := by
  unfold State.unitResume
  with_reducible repeat' first
    | assumption | apply State.testEnd_keeps | apply State.repairNext_keeps | (extract_lets +onlyGivenNames x; clear_value x)
    | (split)

theorem State.repair_keeps {k0 s : State} {u : Nat} {j : Repair} (hk : Keeps k0 s) : Keeps k0 (State.repair s u j) := by
  unfold State.repair
  with_reducible repeat' first | assumption | apply State.repairNext_keeps | apply State.setUnit_keeps

theorem State.retireRing_keeps {k0 s : State} {r : Ring} (hk : Keeps k0 s) : Keeps k0 (State.retireRing s r) := by
  unfold State.retireRing
  with_reducible repeat' first
    | assumption | apply State.setRing_keeps | apply State.raise_keeps | apply State.useSpare_keeps | apply State.repair_keeps
    | apply State.refreshPair_keeps | apply State.setUntested_keeps | apply State.linkPause_keeps | apply State.linkRing_keeps
    | (extract_lets +onlyGivenNames x; first | (refine Keeps.cut (x := x) ?_ ?_ <;> [dsimp -zeta only [x]; (intro _; clear_value x)]) | clear_value x)
    | (split) | fail_if_no_progress apply Keeps.rec_

theorem State.loopTest_keeps {k0 s : State} {t : LaneId} {pass : Bool} (hk : Keeps k0 s) : Keeps k0 (State.loopTest s t pass) := by
  unfold State.loopTest
  with_reducible repeat' first | assumption | apply State.wr_keeps | apply State.raise_keeps | intro _ | (split)

theorem State.laneTest_keeps {k0 : State} {s0 : State} {t : LaneId} {pass : Bool} {rx : Bool} (hk : Keeps k0 s0) :
    Keeps k0 (State.laneTest s0 t pass rx) := by
  unfold State.laneTest
  with_reducible repeat' first
    | assumption | apply State.loopTest_keeps | apply State.testEnd_keeps | apply State.setUnit_keeps | apply State.refreshPair_keeps
    | apply State.setUntested_keeps | apply State.retireRing_keeps
    | (extract_lets +onlyGivenNames x; first | (refine Keeps.cut (x := x) ?_ ?_ <;> [dsimp -zeta only [x]; (intro _; clear_value x)]) | clear_value x)
    | (split)

theorem State.judgeTest_keeps {k0 s : State} {t : LaneId} {r : TestRead} {start : Bool} (hk : Keeps k0 s) :
    Keeps k0 (State.judgeTest s t r start) := by
  unfold State.judgeTest
  with_reducible repeat' first | assumption | apply State.laneTest_keeps

theorem State.retuneDone_keeps {k0 s : State} {k : Nat} {ok : Bool} (hk : Keeps k0 s) : Keeps k0 (State.retuneDone s k ok) := by
  unfold State.retuneDone
  with_reducible repeat' first
    | assumption | apply State.setUnit_keeps | apply State.setRing_keeps | apply State.spareFailed_keeps
    | (extract_lets +onlyGivenNames x; clear_value x) | (split)

theorem State.markSuspect_keeps {k0 s : State} {k : Nat} (hk : Keeps k0 s) : Keeps k0 (State.markSuspect s k) := by
  unfold State.markSuspect
  with_reducible repeat' first | assumption | fail_if_no_progress apply Keeps.rec_

theorem State.condemn_keeps {k0 s : State} {l : LaneId} (hk : Keeps k0 s) : Keeps k0 (State.condemn s l) := by
  unfold State.condemn
  with_reducible repeat' first | assumption | apply State.laneTest_keeps

theorem State.holdPart_keeps {k0 s : State} {r : Ring} {on : Bool} (hk : Keeps k0 s) : Keeps k0 (State.holdPart s r on) := by
  unfold State.holdPart
  with_reducible repeat' first | assumption | apply State.setUnit_keeps | apply State.unitResume_keeps | apply Keeps.ite | intro _

theorem State.noteDetune_keeps {k0 s : State} {r : Ring} {d : Nat} (hk : Keeps k0 s) : Keeps k0 (State.noteDetune s r d) := by
  unfold State.noteDetune
  with_reducible repeat' first | assumption | apply State.setRing_keeps

theorem State.parkSeek_keeps {k0 s : State} {k : Nat} {dark : Bool} (hk : Keeps k0 s) : Keeps k0 (State.parkSeek s k dark) := by
  unfold State.parkSeek
  with_reducible repeat' first | assumption | apply State.setRing_keeps

theorem State.ringChanged_keeps {k0 s : State} {r : Ring} {withdraw : Bool} (hk : Keeps k0 s) :
    Keeps k0 (State.ringChanged s r withdraw) := by
  unfold State.ringChanged
  with_reducible repeat' first
    | assumption | apply State.refreshPair_keeps | apply State.setUntested_keeps | apply State.linkRing_keeps
    | (extract_lets +onlyGivenNames x; clear_value x) | (split)

/-! ## Ports -/

theorem State.toTest_keeps {k0 s : State} {x : Nat} (hk : Keeps k0 s) : Keeps k0 (State.toTest s x) := by
  unfold State.toTest
  with_reducible repeat' first | assumption | apply State.wr_keeps | apply State.setLinkState_keeps | apply Keeps.ite | intro _

theorem State.identIn_keeps {k0 s : State} {x : Nat} {f : TrainFields} (hk : Keeps k0 s) : Keeps k0 (State.identIn s x f) := by
  unfold State.identIn
  with_reducible repeat' first
    | assumption | apply State.toTest_keeps | apply State.sendCtl_keeps | apply State.setLink_keeps | apply State.raise_keeps
    | apply State.setLinkState_keeps | apply Keeps.ite | intro _

theorem State.linkAlign_keeps {k0 s : State} {x : Nat} (hk : Keeps k0 s) : Keeps k0 (State.linkAlign s x) := by
  unfold State.linkAlign
  with_reducible repeat' first
    | assumption | apply State.sendCtl_keeps | apply State.setLink_keeps | apply State.setLinkState_keeps | apply Keeps.ite | intro _

theorem State.setIssued_keeps {k0 s : State} {q : Nat} {l : List OutPkt} (hk : Keeps k0 s) : Keeps k0 (State.setIssued s q l) := by
  unfold State.setIssued
  with_reducible repeat' first | assumption | fail_if_no_progress apply Keeps.rec_

theorem State.issuePkt_keeps {k0 s : State} {q : Nat} {p : OutPkt} (hk : Keeps k0 s) : Keeps k0 (State.issuePkt s q p) := by
  unfold State.issuePkt
  with_reducible repeat' first | assumption | apply State.post_keeps | apply State.setIssued_keeps

theorem State.setFifo_keeps {k0 s : State} {p : Nat} {vc : Nat} {l : List (Nat × List Byte)} (hk : Keeps k0 s) :
    Keeps k0 (State.setFifo s p vc l) := by
  unfold State.setFifo
  with_reducible repeat' first | assumption | fail_if_no_progress apply Keeps.rec_

theorem State.linkActive_keeps {k0 s : State} {x : Nat} {given : List Nat} (hk : Keeps k0 s) :
    Keeps k0 (State.linkActive s x given) := by
  unfold State.linkActive
  with_reducible repeat' first
    | assumption | apply State.setLink_keeps | apply State.setLinkState_keeps | apply State.setTx_keeps | apply State.raise_keeps
    | apply State.linkShut_keeps | apply State.btSettle_keeps | intro _ | (split)

theorem State.linkFault_keeps {k0 s : State} {x : Nat} (hk : Keeps k0 s) : Keeps k0 (State.linkFault s x) := by
  unfold State.linkFault
  with_reducible repeat' first | assumption | apply State.raise_keeps | apply State.setLinkState_keeps | apply State.linkDark_keeps

theorem State.linkSubstitute_keeps {k0 s : State} {x : Nat} {rx : Bool} (hk : Keeps k0 s) :
    Keeps k0 (State.linkSubstitute s x rx) := by
  unfold State.linkSubstitute
  with_reducible repeat' first
    | assumption | apply State.linkFault_keeps | apply State.retireRing_keeps | apply State.linkDark_keeps
    | (extract_lets +onlyGivenNames x; clear_value x) | (split)

theorem State.setBand_keeps {k0 s : State} {q : Nat} {dst : Nat} {b : Nat} (hk : Keeps k0 s) :
    Keeps k0 (State.setBand s q dst b) := by
  unfold State.setBand
  with_reducible repeat' first | assumption | fail_if_no_progress apply Keeps.rec_

theorem State.spendTokens_keeps {k0 s : State} {q : Nat} {p : OutPkt} (hk : Keeps k0 s) : Keeps k0 (State.spendTokens s q p) := by
  unfold State.spendTokens
  with_reducible repeat' first | assumption | apply Keeps.ite_fst | (split) | fail_if_no_progress apply Keeps.rec_

theorem State.toCredit_keeps {k0 s : State} {x : Nat} (hk : Keeps k0 s) : Keeps k0 (State.toCredit s x) := by
  unfold State.toCredit
  with_reducible repeat' first
    | assumption | apply State.setRx_keeps | apply State.setLinkState_keeps | apply State.sendCtl_keeps | apply State.linkActive_keeps
    | (extract_lets +onlyGivenNames x; first | (refine Keeps.cut (x := x) ?_ ?_ <;> [dsimp -zeta only [x]; (intro _; clear_value x)]) | clear_value x)
    | (split)

/-! ## Rack -/

theorem State.setParcel_keeps {k0 s : State} {q : Nat} {rack : Nat} {l : List Rec} (hk : Keeps k0 s) :
    Keeps k0 (State.setParcel s q rack l) := by
  unfold State.setParcel
  with_reducible repeat' first | assumption | fail_if_no_progress apply Keeps.rec_

theorem State.launchReq_keeps {k0 s : State} {r : Req} (hk : Keeps k0 s) : Keeps k0 (State.launchReq s r) := by
  unfold State.launchReq
  with_reducible repeat' first | assumption | apply State.issuePkt_keeps

theorem State.setPair_keeps {k0 s : State} {e : Nat} {dst : Nat} {p : Pair} (hk : Keeps k0 s) :
    Keeps k0 (State.setPair s e dst p) := by
  unfold State.setPair
  with_reducible repeat' first | assumption | fail_if_no_progress apply Keeps.rec_

theorem State.pump_keeps {k0 : State} {e dst n : Nat} {s : State} (hk : Keeps k0 s) : Keeps k0 (State.pump e dst n s) := by
  induction n generalizing s with
  | zero => exact hk
  | succ n ih =>
    unfold State.pump
    with_reducible repeat' first
      | assumption | apply ih | apply State.launchReq_keeps | apply State.setPair_keeps
      | (extract_lets +onlyGivenNames x; clear_value x) | (split)

theorem State.pumpAll_keeps {k0 s : State} {e : Nat} {dst : Nat} (hk : Keeps k0 s) : Keeps k0 (State.pumpAll s e dst) := by
  unfold State.pumpAll
  with_reducible repeat' first | assumption | apply State.pump_keeps

theorem State.rackSend_keeps {k0 s : State} {e : Nat} {r : Req} (hk : Keeps k0 s) : Keeps k0 (State.rackSend s e r) := by
  unfold State.rackSend
  with_reducible repeat' first | assumption | apply State.pumpAll_keeps | apply State.setPair_keeps

theorem State.sendParcel_keeps {k0 : State} {q tag : Nat} {l : List (List Rec)} {s : State} (hk : Keeps k0 s) :
    Keeps k0 (State.sendParcel q tag l s) := by
  induction l generalizing s with
  | nil => exact hk
  | cons e r ih =>
    unfold State.sendParcel
    with_reducible repeat' first | assumption | apply ih | apply State.rackSend_keeps

theorem State.flushParcel_keeps {k0 s : State} {q : Nat} {rack : Nat} (hk : Keeps k0 s) :
    Keeps k0 (State.flushParcel s q rack) := by
  unfold State.flushParcel
  with_reducible repeat' first
    | assumption | apply State.setParcel_keeps | apply State.sendParcel_keeps
    | (extract_lets +onlyGivenNames x; first | (refine Keeps.cut (x := x) ?_ ?_ <;> [dsimp -zeta only [x]; (intro _; clear_value x)]) | clear_value x)
    | (split) | fail_if_no_progress apply Keeps.rec_

theorem State.addRec_keeps {k0 s : State} {q : Nat} {r : Rec} (hk : Keeps k0 s) : Keeps k0 (State.addRec s q r) := by
  unfold State.addRec
  with_reducible repeat' first | assumption | apply State.flushParcel_keeps | apply State.setParcel_keeps | apply Keeps.ite | intro _

theorem State.setMail_keeps {k0 s : State} {id : Nat} {m : Mail} (hk : Keeps k0 s) : Keeps k0 (State.setMail s id m) := by
  unfold State.setMail
  with_reducible repeat' first | assumption | fail_if_no_progress apply Keeps.rec_

theorem State.place1_keeps {k0 s : State} {q : Nat} {e : Nat} {kind : Nat} {link : Bool} {ep : Nat} {p : Pkt} {own : Own}
    (hk : Keeps k0 s) :
    Keeps k0 (State.place1 s q e kind link ep p own) := by
  unfold State.place1
  with_reducible repeat' first | assumption | apply State.rackSend_keeps | apply State.addRec_keeps | apply Keeps.ite | intro _

theorem State.sendMail_keeps {k0 : State} {dst id i : Nat} {data : List Byte} {l : List (Nat × Nat × Bool)} {s : State}
    (hk : Keeps k0 s) :
    Keeps k0 (State.sendMail dst id data i l s) := by
  induction l generalizing s i with
  | nil =>
    unfold State.sendMail
    exact hk
  | cons e r ih =>
    obtain ⟨off, n, last⟩ := e
    unfold State.sendMail
    with_reducible repeat' first | assumption | apply ih | apply State.place1_keeps

theorem State.nextStage_keeps {k0 s : State} {id : Nat} {m : Mail} (hk : Keeps k0 s) : Keeps k0 (State.nextStage s id m) := by
  unfold State.nextStage
  with_reducible repeat' first
    | assumption | apply State.setMail_keeps | apply State.sendMail_keeps | apply Keeps.foldl | intro _ | (split)

theorem State.mail_keeps {k0 s : State} {dst : Nat} {job : Nat} {a : Nat} {seq : Nat} {stages : List (List Msg)} (hk : Keeps k0 s) :
    Keeps k0 (State.mail s dst job a seq stages) := by
  unfold State.mail
  with_reducible repeat' first
    | assumption | apply State.send_keeps | apply State.nextStage_keeps | apply Keeps.foldl | (split)
    | fail_if_no_progress apply Keeps.rec_

theorem State.closeReq_keeps {k0 s : State} {e : Nat} {dst : Nat} {seq : Nat} (hk : Keeps k0 s) :
    Keeps k0 (State.closeReq s e dst seq) := by
  unfold State.closeReq
  with_reducible repeat' first | assumption | apply State.pumpAll_keeps | apply State.setPair_keeps

theorem State.tell_keeps {k0 s : State} {dst : Nat} {m : Msg} (hk : Keeps k0 s) : Keeps k0 (State.tell s dst m) := by
  unfold State.tell
  with_reducible repeat' first | assumption | apply State.mail_keeps

theorem State.sendPieces_keeps {k0 : State} {lc st id tag i : Nat} {op : EngOp} {data : List Byte} {more : Bool}
    {l : List (Nat × Nat)} {s : State} (hk : Keeps k0 s) :
    Keeps k0 (State.sendPieces lc st id op data tag more i l s) := by
  induction l generalizing s i with
  | nil =>
    unfold State.sendPieces
    exact hk
  | cons e r ih =>
    obtain ⟨off, n⟩ := e
    unfold State.sendPieces
    with_reducible repeat' first | assumption | apply ih | apply State.place1_keeps

theorem State.sendMore_keeps {k0 : State} {lc : Nat} {st : Nat} {s : State} {id : Nat} (hk : Keeps k0 s) :
    Keeps k0 (State.sendMore lc st s id) := by
  unfold State.sendMore
  with_reducible repeat' first
    | assumption | apply State.sendPieces_keeps | apply State.setCore_keeps | (extract_lets +onlyGivenNames x; clear_value x)
    | (split)

theorem State.sendOn_keeps {k0 s : State} {lc : Nat} (hk : Keeps k0 s) : Keeps k0 (State.sendOn s lc) := by
  unfold State.sendOn
  with_reducible repeat' first | assumption | apply State.sendMore_keeps | apply Keeps.foldl | intro _

theorem State.ownTe_keeps {k0 s : State} {o : Own} {atomic : Bool} {status : Nat} {value : Nat} {data : List Byte} (hk : Keeps k0 s) :
    Keeps k0 (State.ownTe s o atomic status value data) := by
  unfold State.ownTe
  with_reducible repeat' first
    | assumption | apply State.sendOn_keeps | apply State.setCore_keeps | apply State.store_keeps
    | (extract_lets +onlyGivenNames x; first | (refine Keeps.cut (x := x) ?_ ?_ <;> [dsimp -zeta only [x]; (intro _; clear_value x)]) | clear_value x)
    | (split)

theorem State.ownDesc_keeps {k0 s : State} {o : Own} {status : Nat} {data : List Byte} {write : Bool} (hk : Keeps k0 s) :
    Keeps k0 (State.ownDesc s o status data write) := by
  unfold State.ownDesc
  with_reducible repeat' first | assumption | apply State.store_keeps | apply Keeps.ite | intro _ | fail_if_no_progress apply Keeps.rec_

theorem State.ownColl_keeps {k0 s : State} {o : Own} {status : Nat} (hk : Keeps k0 s) : Keeps k0 (State.ownColl s o status) := by
  unfold State.ownColl
  with_reducible repeat' first | assumption | fail_if_no_progress apply Keeps.rec_

theorem State.ownMail_keeps {k0 s : State} {o : Own} {status : Nat} (hk : Keeps k0 s) : Keeps k0 (State.ownMail s o status) := by
  unfold State.ownMail
  with_reducible repeat' first | assumption | apply State.setMail_keeps

theorem State.ownDone_keeps {k0 s : State} {o : Own} {status : Nat} {value : Nat} {data : List Byte} (hk : Keeps k0 s) :
    Keeps k0 (State.ownDone s o status value data) := by
  unfold State.ownDone
  with_reducible repeat' first
    | assumption | apply State.ownTe_keeps | apply State.ownDesc_keeps | apply State.ownColl_keeps | apply State.ownMail_keeps
    | (split)

theorem State.doneAll_keeps {k0 s : State} {os : List Own} {status : Nat} (hk : Keeps k0 s) :
    Keeps k0 (State.doneAll s os status) := by
  unfold State.doneAll
  with_reducible repeat' first | assumption | apply State.ownDone_keeps | apply Keeps.foldl | intro _

theorem State.flushStream_keeps {k0 s : State} {lc : Nat} {st : Nat} (hk : Keeps k0 s) : Keeps k0 (State.flushStream s lc st) := by
  unfold State.flushStream
  with_reducible repeat' first
    | assumption | apply State.flushParcel_keeps | apply Keeps.ite | apply Keeps.ite_fst | apply Keeps.foldl | apply Keeps.foldl_fst
    | intro _

theorem State.popPkt_keeps {k0 s : State} {p : Nat} {vc : Nat} (hk : Keeps k0 s) : Keeps k0 (State.popPkt s p vc) := by
  unfold State.popPkt
  with_reducible repeat' first | assumption | apply State.setFifo_keeps

/-! ## BerthOps -/

theorem State.setRole_keeps {k0 s : State} {r : RoleSt} (hk : Keeps k0 s) : Keeps k0 (State.setRole s r) := by
  unfold State.setRole
  with_reducible repeat' first | assumption | fail_if_no_progress apply Keeps.rec_

theorem State.setBerth_keeps {k0 s : State} {b : Nat} {e : Berth} (hk : Keeps k0 s) : Keeps k0 (State.setBerth s b e) := by
  unfold State.setBerth
  with_reducible repeat' first | assumption | apply State.setRole_keeps

theorem State.stepAccept_keeps {k0 s : State} {seq : Nat} {adv : Nat} {bs : List Nat} (hk : Keeps k0 s) :
    Keeps k0 (State.stepAccept s seq adv bs) := by
  unfold State.stepAccept
  with_reducible repeat' first | assumption | apply State.setBerth_keeps | apply State.setRole_keeps | apply Keeps.foldl | intro _

theorem State.usePages_keeps {k0 s : State} {st : Nat} {ps : List Nat} (hk : Keeps k0 s) : Keeps k0 (State.usePages s st ps) := by
  unfold State.usePages
  with_reducible repeat' first | assumption | apply State.setRole_keeps

theorem State.takePage_keeps {k0 s t : State} {st p : Nat} (he : s.takePage st = some (p, t)) (hk : Keeps k0 s) : Keeps k0 t := by
  unfold State.takePage at he
  dsimp only at he
  split at he
  · cases he
  · cases he
    exact State.usePages_keeps (State.drawn_keeps hk)

theorem State.takeRun_keeps {k0 s t : State} {st n p : Nat} (he : s.takeRun st n = some (p, t)) (hk : Keeps k0 s) : Keeps k0 t := by
  unfold State.takeRun at he
  dsimp only at he
  split at he
  · exact State.takePage_keeps he hk
  · split at he
    · cases he
    · split at he
      · cases he
      · cases he
        exact State.usePages_keeps (State.drawn_keeps hk)

theorem State.takeGroups_keeps {k0 s t : State} {sts l : List Nat} {b list : Nat} {acc q : List (Nat × Nat)}
    (he : State.takeGroups sts b list l acc s = .ok (q, t)) (hk : Keeps k0 s) : Keeps k0 t := by
  induction l generalizing acc s with
  | nil => cases he; exact hk
  | cons i r ih =>
    unfold State.takeGroups at he
    dsimp only at he
    split at he
    · cases he
    · exact ih he (State.store_keeps (State.takePage_keeps (by assumption) hk))

theorem State.allocate_keeps {k0 s t : State} {b n : Nat} (he : s.allocate b n = .ok t) (hk : Keeps k0 s) : Keeps k0 t := by
  unfold State.allocate at he
  dsimp only at he
  split at he
  · cases he
  · split at he
    · cases he
    · cases he
      exact State.setBerth_keeps (State.takeGroups_keeps (by assumption) (State.takeRun_keeps (by assumption) hk))

theorem State.freeBerth_keeps {k0 s : State} {b : Nat} (hk : Keeps k0 s) : Keeps k0 (State.freeBerth s b) := by
  unfold State.freeBerth
  with_reducible repeat' first
    | assumption | apply State.setBerth_keeps | apply State.setRole_keeps | fail_if_no_progress apply Keeps.rec_

theorem State.dropBop_keeps {k0 s : State} {seq : Nat} (hk : Keeps k0 s) : Keeps k0 (State.dropBop s seq) := by
  unfold State.dropBop
  with_reducible repeat' first | assumption | apply State.setRole_keeps

theorem State.berthOpFail_keeps {k0 s : State} {b : Nat} {seq : Nat} {status : Nat} (hk : Keeps k0 s) :
    Keeps k0 (State.berthOpFail s b seq status) := by
  unfold State.berthOpFail
  with_reducible repeat' first | assumption | apply State.finishDesc_keeps | apply State.dropBop_keeps | apply State.setBerth_keeps

theorem State.sendMove_keeps {k0 s : State} {b : Nat} {seq : Nat} (hk : Keeps k0 s) : Keeps k0 (State.sendMove s b seq) := by
  unfold State.sendMove
  with_reducible repeat' first
    | assumption | apply State.setBerth_keeps | apply State.setRole_keeps | apply State.finishDesc_keeps
    | apply State.berthOpFail_keeps | apply State.mail_keeps
    | (extract_lets +onlyGivenNames x; first | (refine Keeps.cut (x := x) ?_ ?_ <;> [dsimp -zeta only [x]; (intro _; clear_value x)]) | clear_value x)
    | (split)

theorem State.sendPut_keeps {k0 s : State} {b : Nat} {seq : Nat} (hk : Keeps k0 s) : Keeps k0 (State.sendPut s b seq) := by
  unfold State.sendPut
  with_reducible repeat' first
    | assumption | apply State.setBerth_keeps | apply State.setRole_keeps | apply State.finishDesc_keeps
    | apply State.berthOpFail_keeps | apply State.mail_keeps
    | (extract_lets +onlyGivenNames x; first | (refine Keeps.cut (x := x) ?_ ?_ <;> [dsimp -zeta only [x]; (intro _; clear_value x)]) | clear_value x)
    | (split)

theorem State.takePending_keeps {k0 s : State} {b : Nat} (hk : Keeps k0 s) : Keeps k0 (State.takePending s b) := by
  unfold State.takePending
  with_reducible repeat' first
    | assumption | apply State.finishDesc_keeps | apply State.freeBerth_keeps | apply State.sendMove_keeps | apply State.sendPut_keeps
    | apply Keeps.ite | intro _

theorem State.checkpoint_keeps {k0 s : State} {b : Nat} (hk : Keeps k0 s) : Keeps k0 (State.checkpoint s b) := by
  unfold State.checkpoint
  with_reducible repeat' first
    | assumption | apply State.mail_keeps | apply Keeps.ite | intro _ | (split) | fail_if_no_progress apply Keeps.rec_

theorem State.stepBerth_keeps {k0 : State} {seq : Nat} {adv : Nat} {ok : Bool} {s : State} {b : Nat} (hk : Keeps k0 s) :
    Keeps k0 (State.stepBerth seq adv ok s b) := by
  unfold State.stepBerth
  with_reducible repeat' first
    | assumption | apply State.setBerth_keeps | apply State.raise_keeps | apply State.checkpoint_keeps
    | (extract_lets +onlyGivenNames x; first | (refine Keeps.cut (x := x) ?_ ?_ <;> [dsimp -zeta only [x]; (intro _; clear_value x)]) | clear_value x)
    | (split) | fail_if_no_progress apply Keeps.rec_

theorem State.settleBerth_keeps {k0 s : State} {b : Nat} (hk : Keeps k0 s) : Keeps k0 (State.settleBerth s b) := by
  unfold State.settleBerth
  with_reducible repeat' first | assumption | apply State.finishDesc_keeps | apply State.freeBerth_keeps | apply Keeps.ite | intro _

theorem State.stepDone_keeps {k0 s : State} {seq : Nat} {status : Nat} (hk : Keeps k0 s) :
    Keeps k0 (State.stepDone s seq status) := by
  unfold State.stepDone
  with_reducible repeat' first
    | assumption | apply State.stepBerth_keeps | apply State.setRole_keeps | apply State.settleBerth_keeps
    | apply State.takePending_keeps | apply Keeps.foldl | intro _ | (split)

theorem State.commitBerth_keeps {k0 s : State} {b : Nat} {h : List Byte} (hk : Keeps k0 s) :
    Keeps k0 (State.commitBerth s b h) := by
  unfold State.commitBerth
  with_reducible repeat' first | assumption | apply State.setBerth_keeps

theorem State.loseBerths_keeps {k0 s : State} {st : Nat} (hk : Keeps k0 s) : Keeps k0 (State.loseBerths s st) := by
  unfold State.loseBerths
  with_reducible repeat' first
    | assumption | apply State.raise_keeps | apply State.freeBerth_keeps | apply State.finishDesc_keeps | apply Keeps.ite
    | apply Keeps.foldl | intro _

theorem State.putLayer_keeps {k0 : State} {plist layer n t : Nat} {d : List Byte} {s : State} (hk : Keeps k0 s) :
    Keeps k0 (State.putLayer plist layer n t d s) := by
  induction n generalizing s t d with
  | zero => exact hk
  | succ n ih =>
    unfold State.putLayer
    with_reducible repeat' first
      | assumption | apply ih | apply State.store_keeps | (extract_lets +onlyGivenNames x; clear_value x) | (split)

theorem State.putRecords_keeps {k0 : State} {plist t0 n : Nat} {l : List Nat} {d : List Byte} {s : State} (hk : Keeps k0 s) :
    Keeps k0 (State.putRecords plist t0 n l d s) := by
  induction l generalizing s d with
  | nil => exact hk
  | cons e r ih =>
    unfold State.putRecords
    with_reducible repeat' first | assumption | apply ih | apply State.putLayer_keeps

/-! ## CoreOps -/

theorem State.reportFor_keeps {k0 s : State} {lc : Nat} {status : Nat} {cause : Nat} (hk : Keeps k0 s) :
    Keeps k0 (State.reportFor s lc status cause) := by
  unfold State.reportFor
  with_reducible repeat' first | assumption | fail_if_no_progress apply Keeps.rec_

theorem State.parkCore_keeps {k0 s : State} {lc : Nat} {status : Nat} (hk : Keeps k0 s) :
    Keeps k0 (State.parkCore s lc status) := by
  unfold State.parkCore
  with_reducible repeat' first | assumption | apply State.reportFor_keeps | apply State.setCore_keeps | apply Keeps.ite | intro _

theorem State.faultWith_keeps {k0 s : State} {lc : Nat} {cause : Nat} {idx : Nat} {word : W64} {status : Nat} (hk : Keeps k0 s) :
    Keeps k0 (State.faultWith s lc cause idx word status) := by
  unfold State.faultWith
  with_reducible repeat' first | assumption | apply State.raise_keeps | apply State.setCore_keeps | apply Keeps.ite | intro _

theorem State.coreFault_keeps {k0 s : State} {lc : Nat} {cause : Nat} {idx : Nat} {word : W64} (hk : Keeps k0 s) :
    Keeps k0 (State.coreFault s lc cause idx word) := by
  unfold State.coreFault
  with_reducible repeat' first | assumption | apply State.faultWith_keeps

theorem State.fallTo_keeps {k0 s : State} {lc : Nat} {c : Core} {p : Nat} (hk : Keeps k0 s) : Keeps k0 (State.fallTo s lc c p) := by
  unfold State.fallTo
  with_reducible repeat' first | assumption | apply State.setCore_keeps | apply State.coreFault_keeps | apply Keeps.ite | intro _

theorem State.nextPc_keeps {k0 s : State} {lc : Nat} {c : Core} (hk : Keeps k0 s) : Keeps k0 (State.nextPc s lc c) := by
  unfold State.nextPc
  with_reducible repeat' first | assumption | apply State.fallTo_keeps

theorem State.drainSigs_keeps {k0 : State} {lc n : Nat} {s : State} (hk : Keeps k0 s) : Keeps k0 (State.drainSigs lc n s) := by
  induction n generalizing s with
  | zero => exact hk
  | succ n ih =>
    unfold State.drainSigs
    with_reducible repeat' first
      | assumption | apply ih | apply State.post_keeps | apply State.setCore_keeps | (extract_lets +onlyGivenNames x; clear_value x)
      | (split)

theorem State.putSig_keeps {k0 s : State} {lc : Nat} {c : Core} {g : Sig} (hk : Keeps k0 s) : Keeps k0 (State.putSig s lc c g) := by
  unfold State.putSig
  with_reducible repeat' first | assumption | apply State.drainSigs_keeps | apply State.nextPc_keeps

theorem State.wake_keeps {k0 s : State} {lc : Nat} (hk : Keeps k0 s) : Keeps k0 (State.wake s lc) := by
  unfold State.wake
  with_reducible repeat' first
    | assumption | apply State.nextPc_keeps | apply State.setCore_keeps | apply State.putSig_keeps
    | (extract_lets +onlyGivenNames x; clear_value x) | (split)

theorem State.addSem_keeps {k0 s : State} {lc : Nat} {i : Nat} {v : Nat} {idx : Nat} {word : W64} (hk : Keeps k0 s) :
    Keeps k0 (State.addSem s lc i v idx word) := by
  unfold State.addSem
  with_reducible repeat' first
    | assumption | apply State.wake_keeps | apply State.setCore_keeps | apply State.coreFault_keeps | apply Keeps.ite | intro _

theorem State.branchTo_keeps {k0 s : State} {lc : Nat} {c : Core} {target : Int} (hk : Keeps k0 s) :
    Keeps k0 (State.branchTo s lc c target) := by
  unfold State.branchTo
  with_reducible repeat' first | assumption | apply State.setCore_keeps | apply State.coreFault_keeps | apply Keeps.ite | intro _

theorem State.releaseCore_keeps {k0 s : State} {lc : Nat} (hk : Keeps k0 s) : Keeps k0 (State.releaseCore s lc) := by
  unfold State.releaseCore
  with_reducible repeat' first | assumption | apply State.setCore_keeps | apply Keeps.ite | intro _

theorem State.disturbDie_keeps {k0 s : State} {d : Nat} (hk : Keeps k0 s) : Keeps k0 (State.disturbDie s d) := by
  unfold State.disturbDie
  with_reducible repeat' first | assumption | fail_if_no_progress apply Keeps.rec_

theorem State.drainCore_keeps {k0 s : State} {lc : Nat} (hk : Keeps k0 s) : Keeps k0 (State.drainCore s lc) := by
  unfold State.drainCore
  with_reducible repeat' first | assumption | apply State.setCore_keeps

theorem State.enqueue_keeps {k0 s : State} {lc : Nat} {c : Core} {q : Nat} {op : EngOp} (hk : Keeps k0 s) :
    Keeps k0 (State.enqueue s lc c q op) := by
  unfold State.enqueue
  with_reducible repeat' first | assumption | apply State.nextPc_keeps | apply State.setCore_keeps | apply Keeps.ite | intro _

theorem State.report_keeps {k0 s : State} {lc : Nat} {kind : Nat} {status : Nat} {bt : Nat} (hk : Keeps k0 s) :
    Keeps k0 (State.report s lc kind status bt) := by
  unfold State.report
  with_reducible repeat' first | assumption | apply State.post_keeps | fail_if_no_progress apply Keeps.rec_

/-! ## Roles -/

theorem State.pend_keeps {k0 s : State} {seq : Nat} {b : Nat} {kind : Nat} {dst : Nat} (hk : Keeps k0 s) :
    Keeps k0 (State.pend s seq b kind dst) := by
  unfold State.pend
  with_reducible repeat' first
    | assumption | apply State.finishDesc_keeps | apply State.takePending_keeps | apply State.setBerth_keeps | apply Keeps.ite
    | intro _

theorem State.boundary_keeps {k0 s : State} {b : Nat} (hk : Keeps k0 s) : Keeps k0 (State.boundary s b) := by
  unfold State.boundary
  with_reducible repeat' first | assumption | apply State.checkpoint_keeps | apply Keeps.ite | intro _

theorem State.getEnded_keeps {k0 s : State} {o : BerthOp} (hk : Keeps k0 s) : Keeps k0 (State.getEnded s o) := by
  unfold State.getEnded
  with_reducible repeat' first | assumption | apply State.tell_keeps

theorem State.openBerth_keeps {k0 s : State} {seq b max : Nat} {f : State → State} (hf : ∀ t, Keeps k0 t → Keeps k0 (f t))
    (hk : Keeps k0 s) :
    Keeps k0 (s.openBerth seq b max f) := by
  unfold State.openBerth
  with_reducible repeat' first
    | assumption | apply hf | apply State.finishDesc_keeps | refine State.allocate_keeps (by assumption) ?_ | apply State.raise_keeps
    | intro _ | (split)

theorem State.placeImage_keeps {k0 s : State} {b : Nat} {t0 : Nat} {n : Nat} {recs : List Byte} (hk : Keeps k0 s) :
    Keeps k0 (State.placeImage s b t0 n recs) := by
  unfold State.placeImage
  with_reducible repeat' first | assumption | apply State.putRecords_keeps

theorem State.takeCheckpoint_keeps {k0 s : State} {src : Nat} {b : Nat} {hdr : List Byte} {recs : List Byte} {tail : List Byte}
    (hk : Keeps k0 s) :
    Keeps k0 (State.takeCheckpoint s src b hdr recs tail) := by
  unfold State.takeCheckpoint
  with_reducible repeat' first
    | assumption | apply State.placeImage_keeps | apply State.tell_keeps | (split) | fail_if_no_progress apply Keeps.rec_

/-! ## Scratch -/

theorem State.loseCore_keeps {k0 s : State} {lc : Nat} {cause : Nat} (hk : Keeps k0 s) : Keeps k0 (State.loseCore s lc cause) := by
  unfold State.loseCore
  with_reducible repeat' first | assumption | apply State.reportFor_keeps | apply State.setCore_keeps | apply Keeps.ite | intro _

theorem State.failPhysical_keeps {k0 s : State} {d : Nat} {pc : Nat} {check : Bool} (hk : Keeps k0 s) :
    Keeps k0 (State.failPhysical s d pc check) := by
  unfold State.failPhysical
  with_reducible repeat' first
    | assumption | apply State.wr_keeps | apply State.raise_keeps | apply State.loseCore_keeps
    | (extract_lets +onlyGivenNames x; first | (refine Keeps.cut (x := x) ?_ ?_ <;> [dsimp -zeta only [x]; (intro _; clear_value x)]) | clear_value x)
    | (split)

theorem State.calibrate_keeps {k0 s : State} {cal : List Crossing} (hk : Keeps k0 s) : Keeps k0 (State.calibrate s cal) := by
  unfold State.calibrate
  with_reducible repeat' first | assumption | fail_if_no_progress apply Keeps.rec_

theorem State.failCrossed_keeps {k0 s : State} {cal : List Crossing} (hk : Keeps k0 s) : Keeps k0 (State.failCrossed s cal) := by
  unfold State.failCrossed
  with_reducible repeat' first | assumption | apply State.failPhysical_keeps | apply Keeps.foldl | intro _

theorem State.failUnder_keeps {k0 s : State} {lc : Nat} (hk : Keeps k0 s) : Keeps k0 (State.failUnder s lc) := by
  unfold State.failUnder
  with_reducible repeat' first | assumption | apply State.failPhysical_keeps

theorem State.scratchCorrected_keeps {k0 s : State} {lc : Nat} {bank : Nat} {n : Nat} (hk : Keeps k0 s) :
    Keeps k0 (State.scratchCorrected s lc bank n) := by
  unfold State.scratchCorrected
  with_reducible repeat' first
    | assumption | apply State.raise_keeps | apply State.setCore_keeps | apply State.failUnder_keeps | apply Keeps.ite | intro _

theorem State.scratchDouble_keeps {k0 s : State} {lc : Nat} {granule : Nat} {w : Nat} (hk : Keeps k0 s) :
    Keeps k0 (State.scratchDouble s lc granule w) := by
  unfold State.scratchDouble
  with_reducible repeat' first
    | assumption | apply State.setCore_keeps | apply State.mark_keeps | apply State.failUnder_keeps | apply Keeps.ite | intro _

theorem State.scratchErr_keeps {k0 s : State} {lc : Nat} {e : ScratchErr} (hk : Keeps k0 s) :
    Keeps k0 (State.scratchErr s lc e) := by
  unfold State.scratchErr
  with_reducible repeat' first
    | assumption | apply State.scratchDouble_keeps | apply State.scratchCorrected_keeps | apply Keeps.ite | intro _

theorem State.scratchErrs_keeps {k0 s : State} {lc : Nat} {areas : List (Nat × Nat)} {errs : List ScratchErr} (hk : Keeps k0 s) :
    Keeps k0 (State.scratchErrs s lc areas errs) := by
  unfold State.scratchErrs
  with_reducible repeat' first | assumption | apply State.scratchErr_keeps | apply Keeps.foldl | intro _

/-! ## Sync -/

theorem State.staleSig_keeps {k0 s : State} {lc : Nat} {c : Core} (hk : Keeps k0 s) : Keeps k0 (State.staleSig s lc c) := by
  unfold State.staleSig
  with_reducible repeat' first | assumption | apply State.setCore_keeps | apply State.raise_keeps | apply Keeps.ite | intro _

theorem State.landSig_keeps {k0 s : State} {g : Sig} (hk : Keeps k0 s) : Keeps k0 (State.landSig s g).1 := by
  unfold State.landSig
  with_reducible repeat' first
    | assumption | apply State.addSem_keeps | apply State.staleSig_keeps | apply State.setCore_keeps | apply Keeps.ite_fst | intro _

theorem State.sendSig_keeps {k0 s : State} {lc : Nat} {c : Core} {target : Nat} {sem : Nat} {v : Nat} (hk : Keeps k0 s) :
    Keeps k0 (State.sendSig s lc c target sem v) := by
  unfold State.sendSig
  with_reducible repeat' first | assumption | apply State.putSig_keeps | apply State.setCore_keeps | apply Keeps.ite | intro _

/-! ## CoreEvents -/

theorem State.absentCore_keeps {k0 s : State} {lc : Nat} (hk : Keeps k0 s) : Keeps k0 (State.absentCore s lc) := by
  unfold State.absentCore
  with_reducible repeat' first
    | assumption | apply State.setCore_keeps | apply State.wr_keeps | apply State.setCond_keeps | apply State.raise_keeps
    | fail_if_no_progress apply Keeps.rec_

theorem State.retireCores_keeps {k0 s : State} {d : Nat} (hk : Keeps k0 s) : Keeps k0 (State.retireCores s d) := by
  unfold State.retireCores
  with_reducible repeat' first
    | assumption | apply State.failPhysical_keeps | apply State.absentCore_keeps | apply State.loseCore_keeps | apply Keeps.ite
    | apply Keeps.foldl | intro _

theorem State.applyHeld_keeps {k0 : State} {lc tag : Nat} {l : List Sig} {s : State} (hk : Keeps k0 s) :
    Keeps k0 (State.applyHeld lc tag l s) := by
  induction l generalizing s with
  | nil => exact hk
  | cons e r ih =>
    unfold State.applyHeld
    with_reducible repeat' first
      | assumption | apply ih | apply State.addSem_keeps | apply State.setCore_keeps | apply State.staleSig_keeps | apply Keeps.ite
      | intro _

theorem State.bindSpare_keeps {k0 s : State} {lc : Nat} {p : Nat} (hk : Keeps k0 s) : Keeps k0 (State.bindSpare s lc p) := by
  unfold State.bindSpare
  with_reducible repeat' first
    | assumption | apply State.setCore_keeps | apply State.clearScratch_keeps | apply State.wr_keeps | apply State.raise_keeps

theorem State.resetCore_keeps {k0 s : State} {lc : Nat} (hk : Keeps k0 s) : Keeps k0 (State.resetCore s lc) := by
  unfold State.resetCore
  with_reducible repeat' first | assumption | apply State.setCore_keeps | apply State.clearScratch_keeps

theorem State.loadInit_keeps {k0 : State} {lc : Nat} {l : List (Nat × Nat × Nat)} {s : State} (hk : Keeps k0 s) :
    Keeps k0 (State.loadInit lc l s).1 := by
  induction l generalizing s with
  | nil => exact hk
  | cons e r ih =>
    obtain ⟨a, off, n⟩ := e
    unfold State.loadInit
    with_reducible repeat' first | assumption | apply ih | apply State.copyRaw_keeps | apply Keeps.ite_fst | intro _

/-! ## Bundles -/

theorem State.retireDie_keeps {k0 s : State} {d : Nat} {cause : Nat} (hk : Keeps k0 s) : Keeps k0 (State.retireDie s d cause) := by
  unfold State.retireDie
  with_reducible repeat' first | assumption | apply State.wr_keeps | apply Keeps.ite | intro _

theorem State.retireCd_keeps {k0 s : State} {n : Nat} {cause : Nat} (hk : Keeps k0 s) : Keeps k0 (State.retireCd s n cause) := by
  unfold State.retireCd
  with_reducible repeat' first
    | assumption | apply State.setCond_keeps | apply State.retireCores_keeps | apply State.retireDie_keeps | apply Keeps.ite | intro _

theorem State.showBundle_keeps {k0 s : State} {x : Nat} (hk : Keeps k0 s) : Keeps k0 (State.showBundle s x) := by
  unfold State.showBundle
  with_reducible repeat' first | assumption | apply State.wr_keeps

theorem State.setWidth_keeps {k0 s : State} {x : Nat} {st : Nat} {sel : Nat} {bind : List Nat} (hk : Keeps k0 s) :
    Keeps k0 (State.setWidth s x st sel bind) := by
  unfold State.setWidth
  with_reducible repeat' first
    | assumption | apply State.setBundle_keeps | apply State.wr_keeps | apply State.showBundle_keeps
    | fail_if_no_progress apply Keeps.rec_

theorem State.buildBundle_keeps {k0 s : State} {x : Nat} {bad : List Nat} {cold : Bool} (hk : Keeps k0 s) :
    Keeps k0 (State.buildBundle s x bad cold).1 := by
  unfold State.buildBundle
  with_reducible repeat' first
    | assumption | apply State.setBundle_keeps | apply State.setWidth_keeps | apply State.wr_keeps
    | (extract_lets +onlyGivenNames x; first | (refine Keeps.cut (x := x) ?_ ?_ <;> [dsimp -zeta only [x]; (intro _; clear_value x)]) | clear_value x)
    | (split)

theorem State.pairGone_keeps {k0 s : State} {x : Nat} (hk : Keeps k0 s) : Keeps k0 (State.pairGone s x) := by
  unfold State.pairGone
  with_reducible repeat' first | assumption | apply State.raise_keeps | fail_if_no_progress apply Keeps.rec_

theorem State.retirePair_keeps {k0 s : State} {x : Nat} (hk : Keeps k0 s) : Keeps k0 (State.retirePair s x) := by
  unfold State.retirePair
  with_reducible repeat' first | assumption | apply State.setWidth_keeps | apply State.setBundle_keeps | apply State.pairGone_keeps

theorem State.cutCheck_keeps {k0 s : State} {n : Nat} (hk : Keeps k0 s) : Keeps k0 (State.cutCheck s n) := by
  unfold State.cutCheck
  with_reducible repeat' first
    | assumption | apply State.raise_keeps | apply State.retireCd_keeps | apply State.wr_keeps | apply Keeps.ite | intro _

theorem State.showStack_keeps {k0 s : State} {n : Nat} (hk : Keeps k0 s) : Keeps k0 (State.showStack s n) := by
  unfold State.showStack
  with_reducible repeat' first | assumption | apply State.setCond_keeps | apply State.wr_keeps

theorem State.buildStack_keeps {k0 s : State} {n : Nat} {tests : List (Nat × List Nat)} {cold : Bool} (hk : Keeps k0 s) :
    Keeps k0 (State.buildStack s n tests cold).1 := by
  unfold State.buildStack
  with_reducible repeat' first
    | assumption | apply State.buildBundle_keeps | apply State.retirePair_keeps | apply State.cutCheck_keeps
    | apply State.showStack_keeps | apply Keeps.foldl | apply Keeps.foldl_fst | intro _ | fail_if_no_progress apply Keeps.rec_

theorem State.plan_keeps {k0 s : State} {x : Nat} (hk : Keeps k0 s) : Keeps k0 (State.plan s x) := by
  unfold State.plan
  with_reducible repeat' first | assumption | apply State.setBundle_keeps | apply Keeps.ite | intro _

theorem State.absorb_keeps {k0 s : State} {x : Nat} (hk : Keeps k0 s) : Keeps k0 (State.absorb s x) := by
  unfold State.absorb
  with_reducible repeat' first
    | assumption | apply State.raise_keeps | apply State.showBundle_keeps | apply State.setBundle_keeps | apply State.plan_keeps
    | apply Keeps.foldl | intro _ | (extract_lets +onlyGivenNames x; clear_value x) | (split)

theorem State.sendControl_keeps {k0 s : State} {x : Nat} {code : Nat} (hk : Keeps k0 s) :
    Keeps k0 (State.sendControl s x code) := by
  unfold State.sendControl
  with_reducible repeat' first | assumption | apply State.putBeat_keeps

theorem State.applyPlan_keeps {k0 s : State} {x : Nat} (hk : Keeps k0 s) : Keeps k0 (State.applyPlan s x) := by
  unfold State.applyPlan
  with_reducible repeat' first
    | assumption | apply State.retirePair_keeps | apply State.setWidth_keeps | apply State.raise_keeps | apply State.sendControl_keeps
    | apply State.setBundle_keeps | (extract_lets +onlyGivenNames x; clear_value x) | (split)

theorem State.needLane_keeps {k0 s : State} {x : Nat} {lane : Nat} (hk : Keeps k0 s) : Keeps k0 (State.needLane s x lane) := by
  unfold State.needLane
  with_reducible repeat' first
    | assumption | apply State.showBundle_keeps | apply State.setBundle_keeps | apply State.plan_keeps | apply Keeps.ite | intro _

theorem State.wearLane_keeps {k0 s : State} {x : Nat} {lane : Nat} (hk : Keeps k0 s) : Keeps k0 (State.wearLane s x lane) := by
  unfold State.wearLane
  with_reducible repeat' first
    | assumption | apply State.needLane_keeps | apply State.setBundle_keeps | (split) | fail_if_no_progress apply Keeps.rec_

theorem State.laneError_keeps {k0 s : State} {x : Nat} {lane : Nat} {k : Nat} (hk : Keeps k0 s) :
    Keeps k0 (State.laneError s x lane k) := by
  unfold State.laneError
  with_reducible repeat' first | assumption | apply State.setBundle_keeps | apply State.wearLane_keeps | apply Keeps.ite | intro _

theorem State.compareCopy_keeps {k0 s : State} {x : Nat} {old : List Byte × Nat} {data : List Byte} {ctl : Nat} (hk : Keeps k0 s) :
    Keeps k0 (State.compareCopy s x old data ctl) := by
  unfold State.compareCopy
  with_reducible repeat' first | assumption | apply State.laneError_keeps | apply Keeps.ite | apply Keeps.foldl | intro _

theorem State.moveHeld_keeps {k0 s : State} {old : List (Nat × Bundle)} (hk : Keeps k0 s) : Keeps k0 (State.moveHeld s old) := by
  unfold State.moveHeld
  with_reducible repeat' first
    | assumption | apply State.setBundle_keeps | apply State.onBundle_keeps | apply Keeps.foldl | intro _ | (split)

theorem State.endRemap_keeps {k0 s : State} {n : Nat} {ds : List Nat} (hk : Keeps k0 s) : Keeps k0 (State.endRemap s n ds) := by
  unfold State.endRemap
  with_reducible repeat' first
    | assumption | apply State.applyPlan_keeps | apply State.absorb_keeps | apply State.cutCheck_keeps | apply State.showStack_keeps
    | apply State.moveHeld_keeps | apply Keeps.foldl | intro _ | fail_if_no_progress apply Keeps.rec_

theorem State.resendFrom_keeps {k0 s : State} {x : Nat} {seq : Nat} (hk : Keeps k0 s) : Keeps k0 (State.resendFrom s x seq) := by
  unfold State.resendFrom
  with_reducible repeat' first
    | assumption | apply State.putBeat_keeps | apply Keeps.ite | apply Keeps.ite_fst | apply Keeps.foldl | apply Keeps.foldl_fst
    | intro _

theorem State.nakBundle_keeps {k0 s : State} {x : Nat} {seq : Nat} (hk : Keeps k0 s) : Keeps k0 (State.nakBundle s x seq) := by
  unfold State.nakBundle
  with_reducible repeat' first
    | assumption | apply State.disturbDie_keeps | apply State.resendFrom_keeps | apply State.setBundle_keeps | apply State.raise_keeps
    | apply Keeps.ite | apply Keeps.ite_fst | apply Keeps.foldl | apply Keeps.foldl_fst | intro _

theorem State.pauseHalf_keeps {k0 s : State} {x : Nat} (hk : Keeps k0 s) : Keeps k0 (State.pauseHalf s x) := by
  unfold State.pauseHalf
  with_reducible repeat' first
    | assumption | apply State.disturbDie_keeps | apply State.sendControl_keeps | apply State.setBundle_keeps | apply Keeps.ite
    | apply Keeps.ite_fst | apply Keeps.foldl | apply Keeps.foldl_fst | intro _

theorem State.pauseRetire_keeps {k0 s : State} {x : Nat} (hk : Keeps k0 s) : Keeps k0 (State.pauseRetire s x) := by
  unfold State.pauseRetire
  with_reducible repeat' first
    | assumption | apply State.setBundle_keeps | apply State.disturbDie_keeps | apply State.sendControl_keeps | apply Keeps.ite
    | apply Keeps.ite_fst | apply Keeps.foldl | apply Keeps.foldl_fst | intro _

theorem State.pauseSpare_keeps {k0 s : State} {x : Nat} (hk : Keeps k0 s) : Keeps k0 (State.pauseSpare s x) := by
  unfold State.pauseSpare
  with_reducible repeat' first
    | assumption | apply State.disturbDie_keeps | apply State.sendControl_keeps | apply State.setBundle_keeps | apply State.plan_keeps
    | (extract_lets +onlyGivenNames x; clear_value x) | (split)

theorem State.turnBundle_keeps {k0 s : State} {x : Nat} (hk : Keeps k0 s) : Keeps k0 (State.turnBundle s x) := by
  unfold State.turnBundle
  with_reducible repeat' first
    | assumption | apply State.pumpBundle_keeps | apply State.putBeat_keeps | apply Keeps.ite | apply Keeps.ite_fst
    | apply Keeps.foldl | apply Keeps.foldl_fst | intro _

theorem State.resumeBundle_keeps {k0 s : State} {x : Nat} (hk : Keeps k0 s) : Keeps k0 (State.resumeBundle s x) := by
  unfold State.resumeBundle
  with_reducible repeat' first
    | assumption | apply State.turnBundle_keeps | apply State.needLane_keeps | apply State.setBundle_keeps | apply Keeps.ite
    | apply Keeps.ite_fst | apply Keeps.foldl | apply Keeps.foldl_fst | intro _

theorem State.sendNak_keeps {k0 s : State} {x : Nat} {seq : Nat} (hk : Keeps k0 s) : Keeps k0 (State.sendNak s x seq) := by
  unfold State.sendNak
  with_reducible repeat' first | assumption | apply State.send_keeps

theorem State.takeBeat_keeps {k0 s : State} {x : Nat} {data : List Byte} {last : Bool} (hk : Keeps k0 s) :
    Keeps k0 (State.takeBeat s x data last) := by
  unfold State.takeBeat
  with_reducible repeat' first
    | assumption | apply State.setBundle_keeps | apply State.offBundle_keeps | apply Keeps.ite | apply Keeps.ite_fst
    | apply Keeps.foldl | apply Keeps.foldl_fst | intro _

theorem State.takeControl_keeps {k0 s : State} {x : Nat} {code : Nat} (hk : Keeps k0 s) :
    Keeps k0 (State.takeControl s x code) := by
  unfold State.takeControl
  with_reducible repeat' first
    | assumption | apply State.pauseSpare_keeps | apply State.pauseHalf_keeps | apply State.pauseRetire_keeps
    | apply State.resumeBundle_keeps | apply Keeps.ite | apply Keeps.ite_fst | apply Keeps.foldl | apply Keeps.foldl_fst | intro _

theorem State.takeWord_keeps {k0 s : State} {x : Nat} {c : Nat} (hk : Keeps k0 s) : Keeps k0 (State.takeWord s x c) := by
  unfold State.takeWord
  with_reducible repeat' first
    | assumption | apply State.nakBundle_keeps | apply State.setBundle_keeps | apply State.takeControl_keeps | apply Keeps.ite
    | apply Keeps.ite_fst | apply Keeps.foldl | apply Keeps.foldl_fst | intro _

/-! ## Calib -/

theorem State.markUnit_keeps {k0 s : State} {u : Nat} {held : Bool} {window : Bool} (hk : Keeps k0 s) :
    Keeps k0 (State.markUnit s u held window) := by
  unfold State.markUnit
  with_reducible repeat' first | assumption | apply State.setUnit_keeps | apply State.unitResume_keeps | apply Keeps.ite | intro _

theorem State.freeRings_keeps {k0 s : State} {ks : List Nat} {ok : Nat → Bool} (hk : Keeps k0 s) :
    Keeps k0 (State.freeRings s ks ok) := by
  unfold State.freeRings
  with_reducible repeat' first | assumption | apply State.setRing_keeps | apply Keeps.ite | apply Keeps.foldl | intro _

theorem State.drainRow_keeps {k0 s : State} {ep : Nat} {plane : Nat} {on : Bool} (hk : Keeps k0 s) :
    Keeps k0 (State.drainRow s ep plane on) := by
  unfold State.drainRow
  with_reducible repeat' first | assumption | fail_if_no_progress apply Keeps.rec_

theorem State.closeWindow_keeps {k0 s : State} {g : Nat} {ok : Nat → Bool} (hk : Keeps k0 s) :
    Keeps k0 (State.closeWindow s g ok) := by
  unfold State.closeWindow
  with_reducible repeat' first
    | assumption | apply State.freeRings_keeps | apply State.markUnit_keeps | apply State.drainRow_keeps
    | apply State.refreshPair_keeps | apply State.linkResume_keeps | apply Keeps.ite | apply Keeps.foldl | intro _
    | fail_if_no_progress apply Keeps.rec_

theorem State.cutWindow_keeps {k0 s : State} {g : Nat} (hk : Keeps k0 s) : Keeps k0 (State.cutWindow s g) := by
  unfold State.cutWindow
  with_reducible repeat' first
    | assumption | apply State.closeWindow_keeps | apply Keeps.ite | intro _ | fail_if_no_progress apply Keeps.rec_

theorem State.adopt_keeps {k0 s : State} {l : LaneId} {r : CalRun} (hk : Keeps k0 s) : Keeps k0 (s.adopt l r) := by
  have hp : ∀ (t : State) (f : FabSt) (k : Nat) (x : RingSt), Keeps k0 t → Keeps k0 (({ t with fab := f } : State).setRing k x) :=
    fun t f k x h => State.setRing_keeps (h.upd rfl rfl rfl rfl rfl rfl rfl rfl rfl)
  unfold State.adopt
  dsimp only
  split
  · exact hp _ _ _ _ (hp _ _ _ _ hk)
  · exact hk

theorem State.calCondemn_keeps {k0 s : State} {g : Nat} {l : LaneId} (hk : Keeps k0 s) : Keeps k0 (State.calCondemn s g l) := by
  unfold State.calCondemn
  with_reducible repeat' first
    | assumption | apply State.raise_keeps | apply State.markSuspect_keeps | apply State.drawn_keeps | apply State.condemn_keeps
    | apply State.bump_keeps | (split)

theorem State.deferWindow_keeps {k0 s : State} {g : Nat} (hk : Keeps k0 s) : Keeps k0 (State.deferWindow s g) := by
  unfold State.deferWindow
  with_reducible repeat' first | assumption | apply State.raise_keeps | apply Keeps.ite | intro _ | fail_if_no_progress apply Keeps.rec_

theorem State.holdRings_keeps {k0 s : State} {ks : List Nat} (hk : Keeps k0 s) : Keeps k0 (State.holdRings s ks) := by
  unfold State.holdRings
  with_reducible repeat' first | assumption | apply State.setRing_keeps | apply Keeps.ite | apply Keeps.foldl | intro _

theorem State.openWindow_keeps {k0 s : State} {g : Nat} (hk : Keeps k0 s) : Keeps k0 (State.openWindow s g) := by
  unfold State.openWindow
  with_reducible repeat' first
    | assumption | apply State.holdRings_keeps | apply State.markUnit_keeps | apply State.drainRow_keeps
    | apply State.refreshPair_keeps | apply State.linkPause_keeps | apply Keeps.foldl | intro _ | (split)
    | fail_if_no_progress apply Keeps.rec_

theorem State.useSlot_keeps {k0 s : State} {g : Nat} (hk : Keeps k0 s) : Keeps k0 (State.useSlot s g) := by
  unfold State.useSlot
  with_reducible repeat' first | assumption | apply Keeps.ite_fst | (split) | fail_if_no_progress apply Keeps.rec_

/-! ## Clock -/

theorem State.setIsl_keeps {k0 s : State} {x : Nat} {i : Island} (hk : Keeps k0 s) : Keeps k0 (State.setIsl s x i) := by
  unfold State.setIsl
  with_reducible repeat' first | assumption | fail_if_no_progress apply Keeps.rec_

theorem State.beginStep_keeps {k0 s : State} {x : Nat} (hk : Keeps k0 s) : Keeps k0 (State.beginStep s x) := by
  unfold State.beginStep
  with_reducible repeat' first | assumption | apply State.setIsl_keeps | apply Keeps.ite | intro _

theorem State.disturbIsl_keeps {k0 s : State} {x : Nat} (hk : Keeps k0 s) : Keeps k0 (State.disturbIsl s x) := by
  unfold State.disturbIsl
  with_reducible repeat' first | assumption | apply State.setCore_keeps | (split)

theorem State.lowerCap_keeps {k0 s : State} {x : Nat} {cap : Nat} (hk : Keeps k0 s) : Keeps k0 (State.lowerCap s x cap) := by
  unfold State.lowerCap
  with_reducible repeat' first
    | assumption | apply State.setIsl_keeps | apply State.wr_keeps | apply State.raise_keeps | apply Keeps.ite | intro _

theorem State.marginCap_keeps {k0 s : State} {x : Nat} {m : Nat} (hk : Keeps k0 s) : Keeps k0 (State.marginCap s x m) := by
  unfold State.marginCap
  with_reducible repeat' first
    | assumption | apply State.lowerCap_keeps | apply State.setIsl_keeps | apply State.raise_keeps | apply State.failPhysical_keeps
    | apply State.wr_keeps | apply Keeps.ite | intro _

theorem State.marginWarn_keeps {k0 s : State} {x : Nat} {m : Nat} (hk : Keeps k0 s) : Keeps k0 (State.marginWarn s x m) := by
  unfold State.marginWarn
  with_reducible repeat' first | assumption | apply State.setIsl_keeps | apply State.raise_keeps | apply Keeps.ite | intro _

/-! ## Collect -/

theorem State.setColl_keeps {k0 s : State} {c : Coll} (hk : Keeps k0 s) : Keeps k0 (State.setColl s c) := by
  unfold State.setColl
  with_reducible repeat' first | assumption | fail_if_no_progress apply Keeps.rec_

theorem State.collBad_keeps {k0 s : State} {id : Nat} (hk : Keeps k0 s) : Keeps k0 (State.collBad s id) := by
  unfold State.collBad
  with_reducible repeat' first | assumption | apply State.setColl_keeps | (split)

theorem State.collSend_keeps {k0 s : State} {id : Nat} {m : Nat} {op : Nat} {b0 : Nat} {i : Nat} {data : List Byte} (hk : Keeps k0 s) :
    Keeps k0 (State.collSend s id m op b0 i data) := by
  unfold State.collSend
  with_reducible repeat' first | assumption | apply State.rackSend_keeps | apply State.setColl_keeps | (split)

theorem State.collSendRuns_keeps {k0 s : State} {id : Nat} {m : Nat} {op : Nat} {k : Nat} {bs : List Nat} {f : Nat → List Byte}
    (hk : Keeps k0 s) :
    Keeps k0 (State.collSendRuns s id m op k bs f) := by
  unfold State.collSendRuns
  with_reducible repeat' first | assumption | apply State.collSend_keeps | apply Keeps.foldl | intro _

theorem State.collGather_keeps {k0 s : State} {id : Nat} (hk : Keeps k0 s) : Keeps k0 (State.collGather s id) := by
  unfold State.collGather
  with_reducible repeat' first
    | assumption | apply State.collSendRuns_keeps | apply State.setColl_keeps | apply Keeps.foldl | intro _ | (split)

theorem State.collWrite_keeps {k0 s : State} {c : Coll} {b : Nat} {d : List Byte} (hk : Keeps k0 s) :
    Keeps k0 (State.collWrite s c b d).1 := by
  unfold State.collWrite
  with_reducible repeat' first | assumption | apply State.store_keeps | apply Keeps.ite_fst | intro _

theorem State.collFinish_keeps {k0 : State} {id : Nat} {l : List Nat} {s : State} (hk : Keeps k0 s) :
    Keeps k0 (State.collFinish id l s) := by
  induction l generalizing s with
  | nil => exact hk
  | cons e r ih =>
    unfold State.collFinish
    dsimp only
    with_reducible repeat' first | assumption | apply ih | apply State.collWrite_keeps | apply State.setColl_keeps | split

theorem State.collFix_keeps {k0 s : State} {id : Nat} {bs : List Nat} (hk : Keeps k0 s) : Keeps k0 (State.collFix s id bs) := by
  unfold State.collFix
  with_reducible repeat' first
    | assumption | apply State.collSendRuns_keeps | apply State.setColl_keeps | apply State.collFinish_keeps | apply Keeps.foldl
    | intro _ | (split)

theorem State.collTake_keeps {k0 s : State} {id : Nat} {op : Nat} {pos : Nat} {n : Nat} {d : List Byte} (hk : Keeps k0 s) :
    Keeps k0 (State.collTake s id op pos n d) := by
  unfold State.collTake
  with_reducible repeat' first
    | assumption | apply State.collGather_keeps | apply State.collFix_keeps | apply State.setColl_keeps
    | apply State.collSendRuns_keeps | apply State.collFinish_keeps | apply State.collWrite_keeps | apply Keeps.foldl | intro _
    | (split)

/-! ## Launches -/

theorem State.abortOthers_keeps {k0 s : State} {l : Launch} (hk : Keeps k0 s) : Keeps k0 (State.abortOthers s l).1 := by
  unfold State.abortOthers
  with_reducible repeat' first | assumption | apply State.post_keeps | apply Keeps.foldl | intro _

theorem State.endLaunch_keeps {k0 s : State} {l : Launch} (hk : Keeps k0 s) : Keeps k0 (State.endLaunch s l) := by
  unfold State.endLaunch
  with_reducible repeat' first
    | assumption | apply State.finishDesc_keeps | apply State.stepDone_keeps | apply State.setDesc_keeps
    | apply State.resultCopy_keeps | apply Keeps.ite | intro _
    | (extract_lets +onlyGivenNames x; first | (refine Keeps.cut (x := x) ?_ ?_ <;> [dsimp -zeta only [x]; (intro _; clear_value x)]) | clear_value x)
    | (split) | fail_if_no_progress apply Keeps.rec_

theorem State.sendLaunch_keeps {k0 s : State} {l : Launch} (hk : Keeps k0 s) : Keeps k0 (State.sendLaunch s l) := by
  unfold State.sendLaunch
  with_reducible repeat' first
    | assumption | apply State.onGroup_keeps | apply State.post_keeps | apply Keeps.ite | apply Keeps.foldl | intro _

theorem State.startLaunch_keeps {k0 s : State} {d : Desc} (hk : Keeps k0 s) : Keeps k0 (State.startLaunch s d) := by
  unfold State.startLaunch
  with_reducible repeat' first
    | assumption | apply State.finishDesc_keeps | apply State.stepDone_keeps | apply State.sendLaunch_keeps
    | (extract_lets +onlyGivenNames x; clear_value x) | (split) | fail_if_no_progress apply Keeps.rec_

/-! ## LvOps -/

theorem State.lvCond_keeps {k0 s : State} (hk : Keeps k0 s) : Keeps k0 (State.lvCond s) := by
  unfold State.lvCond
  with_reducible repeat' first | assumption | apply State.setCond_keeps

theorem State.lvTo_keeps {k0 s : State} {st : Nat} (hk : Keeps k0 s) : Keeps k0 (State.lvTo s st) := by
  unfold State.lvTo
  with_reducible repeat' first | assumption | apply State.wr_keeps | apply State.lvCond_keeps | apply Keeps.ite | intro _

theorem State.lvEvent_keeps {k0 s : State} {code : Nat} {data : List (Nat × Nat)} (hk : Keeps k0 s) :
    Keeps k0 (State.lvEvent s code data) := by
  unfold State.lvEvent
  with_reducible repeat' first | assumption | apply State.raise_keeps

theorem State.lvFence_keeps {k0 s : State} {trigger : Nat} (hk : Keeps k0 s) : Keeps k0 (State.lvFence s trigger) := by
  unfold State.lvFence
  with_reducible repeat' first
    | assumption | apply State.lvTo_keeps | apply State.lvEvent_keeps | apply State.abortOthers_keeps | apply State.finishDesc_keeps
    | apply State.stepDone_keeps | apply Keeps.foldl | intro _ | (split) | fail_if_no_progress apply Keeps.rec_

theorem State.askNak_keeps {k0 s : State} {r : Rsp} (hk : Keeps k0 s) : Keeps k0 (State.askNak s r) := by
  unfold State.askNak
  with_reducible repeat' first | assumption | apply State.lvFence_keeps | apply Keeps.ite | intro _

theorem State.pairDone_keeps {k0 s : State} (hk : Keeps k0 s) : Keeps k0 (State.pairDone s) := by
  unfold State.pairDone
  with_reducible repeat' first | assumption | apply State.finishDesc_keeps | intro _ | (split) | fail_if_no_progress apply Keeps.rec_

theorem State.dropCheckpoints_keeps {k0 s : State} (hk : Keeps k0 s) : Keeps k0 (State.dropCheckpoints s) := by
  unfold State.dropCheckpoints
  with_reducible repeat' first
    | assumption | apply State.finishDesc_keeps | apply State.lvCond_keeps | apply State.takePending_keeps | apply Keeps.foldl
    | (split) | fail_if_no_progress apply Keeps.rec_

theorem State.lvRelease_keeps {k0 s : State} (hk : Keeps k0 s) : Keeps k0 (State.lvRelease s) := by
  unfold State.lvRelease
  with_reducible repeat' first | assumption | apply State.pumpAll_keeps | apply State.takePending_keeps | apply Keeps.foldl | intro _

theorem State.lvIssue_keeps {k0 s : State} {p : Pkt} (hk : Keeps k0 s) : Keeps k0 (State.lvIssue s p) := by
  unfold State.lvIssue
  with_reducible repeat' first | assumption | apply State.issuePkt_keeps | apply Keeps.ite | intro _

theorem State.lvAsk_keeps {k0 s : State} (hk : Keeps k0 s) : Keeps k0 (State.lvAsk s) := by
  unfold State.lvAsk
  with_reducible repeat' first | assumption | apply State.lvIssue_keeps

theorem State.closeMirrors_keeps {k0 s : State} (hk : Keeps k0 s) : Keeps k0 (State.closeMirrors s) := by
  unfold State.closeMirrors
  with_reducible repeat' first
    | assumption | apply State.freeBerth_keeps | apply Keeps.ite | apply Keeps.foldl | intro _ | fail_if_no_progress apply Keeps.rec_

theorem State.noticeAck_keeps {k0 s : State} {r : Rsp} (hk : Keeps k0 s) : Keeps k0 (State.noticeAck s r) := by
  unfold State.noticeAck
  with_reducible repeat' first | assumption | apply Keeps.ite_fst | (split) | fail_if_no_progress apply Keeps.rec_

theorem State.raiseFence_keeps {k0 s : State} {d : Nat} {n : Nat} (hk : Keeps k0 s) : Keeps k0 (State.raiseFence s d n) := by
  unfold State.raiseFence
  with_reducible repeat' first | assumption | apply Keeps.ite_fst | (split) | fail_if_no_progress apply Keeps.rec_

theorem State.sendBeat_keeps {k0 s : State} {flags : Nat} (hk : Keeps k0 s) : Keeps k0 (State.sendBeat s flags) := by
  unfold State.sendBeat
  with_reducible repeat' first | assumption | apply State.lvIssue_keeps | apply State.drawn_keeps

/-! ## Memory -/

theorem State.setLine_keeps {k0 s : State} {k : Nat} {l : LineQ} (hk : Keeps k0 s) : Keeps k0 (State.setLine s k l) := by
  unfold State.setLine
  with_reducible repeat' first | assumption | fail_if_no_progress apply Keeps.rec_

theorem State.errLog_keeps {k0 s : State} {st : Nat} {unit : Nat} {type : Nat} {symbol : Nat} {syndrome : Nat} (hk : Keeps k0 s) :
    Keeps k0 (State.errLog s st unit type symbol syndrome) := by
  unfold State.errLog
  with_reducible repeat' first | assumption | apply State.wr_keeps | apply Keeps.ite | intro _

theorem State.retireCandidate_keeps {k0 s : State} {st : Nat} {page : Nat} (hk : Keeps k0 s) :
    Keeps k0 (State.retireCandidate s st page) := by
  unfold State.retireCandidate
  with_reducible repeat' first
    | assumption | apply Keeps.ite_fst | (extract_lets +onlyGivenNames x; clear_value x) | (split)
    | fail_if_no_progress apply Keeps.rec_

theorem State.hbmCorrected_keeps {k0 s : State} {st : Nat} {unit : Nat} {sym : Nat} {s0 : Byte} {s1 : Byte} {scrub : Bool}
    {first : Bool} (hk : Keeps k0 s) :
    Keeps k0 (State.hbmCorrected s st unit sym s0 s1 scrub first) := by
  unfold State.hbmCorrected
  with_reducible repeat' first
    | assumption | apply State.bump_keeps | apply State.raise_keeps | apply State.errLog_keeps | apply State.retireCandidate_keeps
    | apply Keeps.ite | intro _ | fail_if_no_progress apply Keeps.rec_

theorem State.xorUnit_keeps {k0 s : State} {st : Nat} {unit : Nat} {err : List (Fin 34 × Byte)} (hk : Keeps k0 s) :
    Keeps k0 (State.xorUnit s st unit err) := by
  unfold State.xorUnit
  with_reducible repeat' first | assumption | apply State.poke_keeps | apply Keeps.ite | apply Keeps.foldl | intro _

theorem State.hbmUncorrectable_keeps {k0 s : State} {st : Nat} {unit : Nat} {s0 : Byte} {s1 : Byte} (hk : Keeps k0 s) :
    Keeps k0 (State.hbmUncorrectable s st unit s0 s1) := by
  unfold State.hbmUncorrectable
  with_reducible repeat' first
    | assumption | apply State.errLog_keeps | apply State.mark_keeps | apply State.raise_keeps | apply State.bump_keeps
    | apply State.retireCandidate_keeps | apply Keeps.ite | intro _

theorem State.hbmUnit_keeps {k0 s : State} {st : Nat} {unit : Nat} {err : List (Fin 34 × Byte)} {scrub : Bool} {first : Bool}
    (hk : Keeps k0 s) :
    Keeps k0 (State.hbmUnit s st unit err scrub first) := by
  unfold State.hbmUnit
  with_reducible repeat' first
    | assumption | apply State.hbmCorrected_keeps | apply State.xorUnit_keeps | apply State.unmark_keeps
    | apply State.hbmUncorrectable_keeps | (extract_lets +onlyGivenNames x; clear_value x) | (split)

theorem State.hbmUnits_keeps {k0 : State} {st : Nat} {l : List (Nat × List (Fin 34 × Byte))} {seen : List Nat} {s : State}
    (hk : Keeps k0 s) :
    Keeps k0 (State.hbmUnits st l seen s) := by
  induction l generalizing s seen with
  | nil => exact hk
  | cons e r ih =>
    obtain ⟨u, err⟩ := e
    unfold State.hbmUnits
    with_reducible repeat' first | assumption | apply ih | apply State.hbmUnit_keeps

theorem State.hbmRead_keeps {k0 s : State} {st : Nat} {u : Nat} {n : Nat} {errs : List UnitErr} (hk : Keeps k0 s) :
    Keeps k0 (State.hbmRead s st u n errs) := by
  unfold State.hbmRead
  with_reducible repeat' first | assumption | apply State.hbmUnits_keeps

theorem State.homeApply_keeps {k0 s : State} {a : Nat} {op : HomeOp} (hk : Keeps k0 s) : Keeps k0 (State.homeApply s a op) := by
  unfold State.homeApply
  with_reducible repeat' first | assumption | apply State.store_keeps | (split) | fail_if_no_progress apply Keeps.rec_

theorem State.sramUnit_keeps {k0 s : State} {d : Nat} {off : Nat} {double : Bool} {single : Bool} (hk : Keeps k0 s) :
    Keeps k0 (State.sramUnit s d off double single) := by
  unfold State.sramUnit
  with_reducible repeat' first
    | assumption | apply State.raise_keeps | apply State.drawn_keeps | apply State.mark_keeps
    | (extract_lets +onlyGivenNames x; first | (refine Keeps.cut (x := x) ?_ ?_ <;> [dsimp -zeta only [x]; (intro _; clear_value x)]) | clear_value x)
    | (split) | fail_if_no_progress apply Keeps.rec_

theorem State.sramRead_keeps {k0 s : State} {d : Nat} {u : Nat} {n : Nat} {errs : List UnitErr} (hk : Keeps k0 s) :
    Keeps k0 (State.sramRead s d u n errs) := by
  unfold State.sramRead
  with_reducible repeat' first | assumption | apply State.sramUnit_keeps | apply Keeps.foldl | intro _ | (split)

theorem State.homeErrs_keeps {k0 s : State} {a : Nat} {n : Nat} {errs : List UnitErr} (hk : Keeps k0 s) :
    Keeps k0 (State.homeErrs s a n errs) := by
  unfold State.homeErrs
  with_reducible repeat' first | assumption | apply State.hbmRead_keeps | apply State.sramRead_keeps | (split)

theorem State.resumeSome_keeps {k0 : State} {l stay : List Waiting} {s : State} (hk : Keeps k0 s) :
    Keeps k0 (State.resumeSome l stay s) := by
  induction l generalizing s stay with
  | nil =>
    unfold State.resumeSome
    exact hk.upd rfl rfl rfl rfl rfl rfl rfl rfl rfl
  | cons e r ih =>
    unfold State.resumeSome
    with_reducible repeat' first
      | assumption | apply ih | apply State.homeApply_keeps | apply State.homeErrs_keeps | apply Keeps.ite | intro _

theorem State.resumeWaiting_keeps {k0 s : State} (hk : Keeps k0 s) : Keeps k0 (State.resumeWaiting s) := by
  unfold State.resumeWaiting
  with_reducible repeat' first | assumption | apply State.resumeSome_keeps

/-! ## Mooring -/

theorem State.setMoor_keeps {k0 s : State} {i : Nat} {e : MoorEnt} (hk : Keeps k0 s) : Keeps k0 (State.setMoor s i e) := by
  unfold State.setMoor
  with_reducible repeat' first | assumption | apply State.setRole_keeps

theorem State.pressure_keeps {k0 s : State} (hk : Keeps k0 s) : Keeps k0 (State.pressure s) := by
  unfold State.pressure
  with_reducible repeat' first | assumption | apply State.raise_keeps | apply State.setRole_keeps | apply Keeps.ite | intro _

theorem State.moorFree_keeps {k0 s : State} {i : Nat} (hk : Keeps k0 s) : Keeps k0 (State.moorFree s i) := by
  unfold State.moorFree
  with_reducible repeat' first | assumption | apply State.setMoor_keeps | apply State.setRole_keeps

theorem State.moorFreeAll_keeps {k0 s : State} {is : List Nat} (hk : Keeps k0 s) : Keeps k0 (State.moorFreeAll s is) := by
  unfold State.moorFreeAll
  with_reducible repeat' first | assumption | apply State.pressure_keeps | apply State.moorFree_keeps | apply Keeps.foldl

theorem State.moorResult_keeps {k0 s : State} {dst : Nat} {op : Nat} {key : W64} {status : Nat} (hk : Keeps k0 s) :
    Keeps k0 (State.moorResult s dst op key status) := by
  unfold State.moorResult
  with_reducible repeat' first | assumption | apply State.tell_keeps

theorem State.commitPut_keeps {k0 s : State} {o : SessOp} (hk : Keeps k0 s) : Keeps k0 (State.commitPut s o) := by
  unfold State.commitPut
  with_reducible repeat' first
    | assumption | apply State.setMoor_keeps | apply State.moorFreeAll_keeps | apply State.moorResult_keeps
    | apply State.setRole_keeps | apply Keeps.foldl | intro _

theorem State.loseOp_keeps {k0 s : State} {o : SessOp} (hk : Keeps k0 s) : Keeps k0 (State.loseOp s o) := by
  unfold State.loseOp
  with_reducible repeat' first
    | assumption | apply State.setRole_keeps | apply State.moorFreeAll_keeps | apply State.moorResult_keeps | apply State.raise_keeps
    | apply Keeps.ite | intro _

theorem State.defeat_keeps {k0 s : State} {key : W64} {get : Bool} (hk : Keeps k0 s) : Keeps k0 (State.defeat s key get) := by
  unfold State.defeat
  with_reducible repeat' first | assumption | apply State.loseOp_keeps | apply Keeps.foldl

theorem State.dropEnded_keeps {k0 s : State} {ended : List (Fin 1024 × BitVec 32)} (hk : Keeps k0 s) :
    Keeps k0 (State.dropEnded s ended) := by
  unfold State.dropEnded
  with_reducible repeat' first | assumption | apply State.setRole_keeps

theorem State.dropSession_keeps {k0 s : State} {key : W64} (hk : Keeps k0 s) : Keeps k0 (State.dropSession s key).1 := by
  unfold State.dropSession
  with_reducible repeat' first
    | assumption | apply State.defeat_keeps | apply State.moorFreeAll_keeps | apply State.setRole_keeps
    | (extract_lets +onlyGivenNames x; refine Keeps.cut (x := x) ?_ ?_ <;> [dsimp -zeta only [x]; (intro _; clear_value x)]) | (split)

theorem State.evict_keeps {k0 : State} {l : List Nat} {n : Nat} {s : State} (hk : Keeps k0 s) : Keeps k0 (State.evict l n s) := by
  induction l generalizing s n with
  | nil =>
    unfold State.evict
    exact hk
  | cons e r ih =>
    cases n
    unfold State.evict
    exact hk
    unfold State.evict
    with_reducible repeat' first | assumption | apply ih | apply State.dropSession_keeps

theorem State.getFail_keeps {k0 s : State} {o : BerthOp} {status : Nat} (hk : Keeps k0 s) :
    Keeps k0 (State.getFail s o status) := by
  unfold State.getFail
  with_reducible repeat' first | assumption | apply State.finishDesc_keeps | apply State.getEnded_keeps | apply State.freeBerth_keeps

theorem State.getSettle_keeps {k0 s : State} {o : BerthOp} (hk : Keeps k0 s) : Keeps k0 (State.getSettle s o) := by
  unfold State.getSettle
  with_reducible repeat' first
    | assumption | apply State.finishDesc_keeps | apply State.getEnded_keeps | apply State.boundary_keeps | apply State.dropBop_keeps
    | apply State.commitBerth_keeps | apply State.setRole_keeps | apply Keeps.ite | intro _

theorem State.moorAsk_keeps {k0 s : State} {d : Desc} {kind : Nat} (hk : Keeps k0 s) : Keeps k0 (State.moorAsk s d kind) := by
  unfold State.moorAsk
  with_reducible repeat' first | assumption | apply State.finishDesc_keeps | apply State.mail_keeps | apply Keeps.ite | intro _

theorem State.moorInsert_keeps {k0 s t : State} {key : W64} {seg fmt gen : Nat} {data : List Byte}
    (he : s.moorInsert key seg fmt gen data = some t) (hk : Keeps k0 s) : Keeps k0 t := by
  unfold State.moorInsert at he
  dsimp only at he
  split at he
  · cases he
  · split at he
    · cases he
    · cases he
      exact State.pressure_keeps (State.store_keeps (State.setRole_keeps (State.setMoor_keeps (State.drawn_keeps hk))))

theorem State.placeSeg_keeps {k0 s : State} {o : BerthOp} {h : List Byte} {seg : Nat} {data : List Byte} (hk : Keeps k0 s) :
    Keeps k0 (State.placeSeg s o h seg data) := by
  unfold State.placeSeg
  with_reducible repeat' first | assumption | apply State.putRecords_keeps

theorem State.refusePut_keeps {k0 s : State} {o : SessOp} {seg : Nat} {count : Bool} (hk : Keeps k0 s) :
    Keeps k0 (State.refusePut s o seg count) := by
  unfold State.refusePut
  with_reducible repeat' first
    | assumption | apply State.setRole_keeps | apply State.moorFreeAll_keeps | apply State.bump_keeps | apply State.moorResult_keeps
    | apply State.raise_keeps | apply Keeps.ite | intro _

theorem State.settlePut_keeps {k0 s : State} {o : SessOp} (hk : Keeps k0 s) : Keeps k0 (State.settlePut s o) := by
  unfold State.settlePut
  with_reducible repeat' first | assumption | apply State.commitPut_keeps | apply Keeps.ite | intro _

theorem State.takeSegment_keeps {k0 s : State} {o : SessOp} {seg : Nat} {fmt : Nat} {data : List Byte} (hk : Keeps k0 s) :
    Keeps k0 (State.takeSegment s o seg fmt data) := by
  unfold State.takeSegment
  with_reducible repeat' first
    | assumption | apply State.refusePut_keeps | refine State.moorInsert_keeps (by assumption) ?_ | apply State.settlePut_keeps
    | intro _ | (split)

/-! ## RackHome -/

theorem State.setSrc_keeps {k0 s : State} {k : Nat} {e : SrcEnt} (hk : Keeps k0 s) : Keeps k0 (State.setSrc s k e) := by
  unfold State.setSrc
  with_reducible repeat' first | assumption | fail_if_no_progress apply Keeps.rec_

theorem State.coolLine_keeps {k0 s : State} {k : Nat} {q : Nat} (hk : Keeps k0 s) : Keeps k0 (State.coolLine s k q) := by
  unfold State.coolLine
  with_reducible repeat' first
    | assumption | apply State.setLine_keeps | apply State.raise_keeps
    | (extract_lets +onlyGivenNames x; first | (refine Keeps.cut (x := x) ?_ ?_ <;> [dsimp -zeta only [x]; (intro _; clear_value x)]) | clear_value x)
    | (split) | fail_if_no_progress apply Keeps.rec_

theorem State.leaveLines_keeps {k0 s : State} {o : Nat × Nat} {lines : List Nat} (hk : Keeps k0 s) :
    Keeps k0 (State.leaveLines s o lines) := by
  unfold State.leaveLines
  with_reducible repeat' first | assumption | apply State.coolLine_keeps | apply State.setLine_keeps | apply Keeps.foldl | intro _

theorem State.dropFwds_keeps {k0 s : State} {lost : Nat → Fwd → Bool} (hk : Keeps k0 s) : Keeps k0 (State.dropFwds s lost) := by
  unfold State.dropFwds
  with_reducible repeat' first
    | assumption | apply State.setSrc_keeps | apply State.leaveLines_keeps | apply Keeps.foldl | intro _ | (split)
    | fail_if_no_progress apply Keeps.rec_

theorem State.dropHomes_keeps {k0 s : State} {dies : List Nat} (hk : Keeps k0 s) : Keeps k0 (State.dropHomes s dies) := by
  unfold State.dropHomes
  with_reducible repeat' first | assumption | apply State.dropFwds_keeps | fail_if_no_progress apply Keeps.rec_

theorem State.respond_keeps {k0 s : State} {q : Nat} {p : Pkt} {r : Rsp} (hk : Keeps k0 s) : Keeps k0 (State.respond s q p r) := by
  unfold State.respond
  with_reducible repeat' first | assumption | apply State.issuePkt_keeps

theorem State.windowFault_keeps {k0 s : State} {q : Nat} {src : Nat} {w : Nat} {st : Nat} (hk : Keeps k0 s) :
    Keeps k0 (State.windowFault s q src w st) := by
  unfold State.windowFault
  with_reducible repeat' first | assumption | apply State.raise_keeps | apply Keeps.ite | intro _ | fail_if_no_progress apply Keeps.rec_

theorem State.answer_keeps {k0 s : State} {q : Nat} {p : Pkt} {a : Applied} (hk : Keeps k0 s) :
    Keeps k0 (State.answer s q p a) := by
  unfold State.answer
  with_reducible repeat' first | assumption | apply State.respond_keeps | apply Keeps.ite | apply Keeps.foldl | intro _

theorem State.applyAtomic_keeps {k0 s : State} {code : Nat} {addr : Nat} {data : List Byte} (hk : Keeps k0 s) :
    Keeps k0 (State.applyAtomic s code addr data).1 := by
  unfold State.applyAtomic
  with_reducible repeat' first | assumption | apply State.store_keeps

theorem State.applyRecs_keeps {k0 : State} {l : List Rec} {i : Nat} {a : Applied} {s : State} (hk : Keeps k0 s) :
    Keeps k0 (State.applyRecs l i a s).1 := by
  induction l generalizing s i a with
  | nil => exact hk
  | cons e r ih =>
    unfold State.applyRecs
    with_reducible repeat' first
      | assumption | apply ih | apply State.applyAtomic_keeps | apply State.store_keeps | apply Keeps.ite_fst | intro _

theorem State.applyPkt_keeps {k0 s : State} {p : Pkt} (hk : Keeps k0 s) : Keeps k0 (State.applyPkt s p).1 := by
  unfold State.applyPkt
  with_reducible repeat' first
    | assumption | apply State.applyAtomic_keeps | apply State.applyRecs_keeps | apply State.store_keeps | (split)

theorem State.duplicate_keeps {k0 s : State} {q : Nat} {p : Pkt} {e : SrcEnt} (hk : Keeps k0 s) :
    Keeps k0 (State.duplicate s q p e) := by
  unfold State.duplicate
  with_reducible repeat' first
    | assumption | apply State.bump_keeps | apply State.respond_keeps | apply State.windowFault_keeps | apply State.answer_keeps
    | (extract_lets +onlyGivenNames x; first | (refine Keeps.cut (x := x) ?_ ?_ <;> [dsimp -zeta only [x]; (intro _; clear_value x)]) | clear_value x)
    | (split)

theorem State.contribute_keeps {k0 s : State} {q : Nat} {p : Pkt} (hk : Keeps k0 s) : Keeps k0 (State.contribute s q p) := by
  unfold State.contribute
  with_reducible repeat' first
    | assumption | apply State.setSrc_keeps | apply State.respond_keeps | apply State.collBad_keeps | apply State.collTake_keeps
    | apply Keeps.ite | intro _

theorem State.postFwd_keeps {k0 s : State} {q : Nat} {p : Pkt} (hk : Keeps k0 s) : Keeps k0 (State.postFwd s q p) := by
  unfold State.postFwd
  with_reducible repeat' first | assumption | apply State.post_keeps | apply Keeps.foldl | intro _

theorem State.forward_keeps {k0 : State} {s0 : State} {q : Nat} {p : Pkt} (hk : Keeps k0 s0) : Keeps k0 (State.forward s0 q p) := by
  unfold State.forward
  with_reducible repeat' first | assumption | apply State.postFwd_keeps | fail_if_no_progress apply Keeps.rec_

theorem State.allow_keeps {k0 s : State} {q : Nat} {p : Pkt} {k : Nat} (hk : Keeps k0 s) : Keeps k0 (State.allow s q p k) := by
  unfold State.allow
  with_reducible repeat' first
    | assumption | apply State.duplicate_keeps | apply State.bump_keeps | apply State.respond_keeps | apply State.setSrc_keeps
    | apply State.windowFault_keeps | apply State.contribute_keeps | apply State.forward_keeps
    | (extract_lets +onlyGivenNames x; first | (refine Keeps.cut (x := x) ?_ ?_ <;> [dsimp -zeta only [x]; (intro _; clear_value x)]) | clear_value x)
    | (split) | fail_if_no_progress apply Keeps.rec_

theorem State.logApplied_keeps {k0 s : State} {home : Nat} {q : Nat} {tag : Nat} {a : Applied} (hk : Keeps k0 s) :
    Keeps k0 (State.logApplied s home q tag a) := by
  unfold State.logApplied
  with_reducible repeat' first | assumption | fail_if_no_progress apply Keeps.rec_

theorem State.setFwd_keeps {k0 s : State} {q : Nat} {f : Fwd} (hk : Keeps k0 s) : Keeps k0 (State.setFwd s q f) := by
  unfold State.setFwd
  with_reducible repeat' first | assumption | fail_if_no_progress apply Keeps.rec_

theorem State.applyFwd_keeps {k0 s : State} {q : Nat} {f : Fwd} (hk : Keeps k0 s) : Keeps k0 (State.applyFwd s q f) := by
  unfold State.applyFwd
  with_reducible repeat' first
    | assumption | apply State.applyPkt_keeps | apply State.logApplied_keeps | apply State.setFwd_keeps | apply State.post_keeps
    | apply Keeps.foldl | intro _

theorem State.applyQueued_keeps {k0 s : State} {o : Nat × Nat} (hk : Keeps k0 s) : Keeps k0 (State.applyQueued s o) := by
  unfold State.applyQueued
  with_reducible repeat' first | assumption | apply State.applyFwd_keeps | apply State.leaveLines_keeps | (split)

theorem State.dropStackHome_keeps {k0 s : State} {st : Nat} (hk : Keeps k0 s) : Keeps k0 (State.dropStackHome s st) := by
  unfold State.dropStackHome
  with_reducible repeat' first | assumption | apply State.dropFwds_keeps | fail_if_no_progress apply Keeps.rec_

theorem State.joinLine_keeps {k0 s : State} {q : Nat} {f : Fwd} {k : Nat} (hk : Keeps k0 s) :
    Keeps k0 (State.joinLine s q f k) := by
  unfold State.joinLine
  with_reducible repeat' first
    | assumption | apply State.setLine_keeps | apply State.raise_keeps | apply State.bump_keeps | apply Keeps.foldl | intro _
    | (extract_lets +onlyGivenNames x; first | (refine Keeps.cut (x := x) ?_ ?_ <;> [dsimp -zeta only [x]; (intro _; clear_value x)]) | clear_value x)
    | (split) | fail_if_no_progress apply Keeps.rec_

theorem State.enqueueLine_keeps {k0 s : State} {q : Nat} {f : Fwd} (hk : Keeps k0 s) : Keeps k0 (State.enqueueLine s q f) := by
  unfold State.enqueueLine
  with_reducible repeat' first
    | assumption | apply State.joinLine_keeps | apply State.setFwd_keeps | apply Keeps.ite | apply Keeps.ite_fst | apply Keeps.foldl
    | apply Keeps.foldl_fst | intro _

theorem State.landFence_keeps {k0 s pass : State} {q : Nat} {p : Pkt} (hp : Keeps k0 pass) (hk : Keeps k0 s) :
    Keeps k0 (s.landFence q p pass) := by
  unfold State.landFence
  with_reducible repeat' first
    | assumption | apply State.respond_keeps | apply State.bump_keeps | apply State.raise_keeps | apply State.setSrc_keeps
    | apply Keeps.ite | apply Keeps.ite_fst | apply Keeps.foldl | apply Keeps.foldl_fst | intro _

theorem State.landRequest_keeps {k0 s : State} {q : Nat} {p : Pkt} (hk : Keeps k0 s) : Keeps k0 (State.landRequest s q p) := by
  unfold State.landRequest
  with_reducible repeat' first
    | assumption | apply State.landFence_keeps | apply State.allow_keeps | apply State.raise_keeps | apply State.setSrc_keeps
    | apply Keeps.ite | apply Keeps.ite_fst | apply Keeps.foldl | apply Keeps.foldl_fst | intro _

theorem State.mailFailed_keeps {k0 s : State} {m : Mail} (hk : Keeps k0 s) : Keeps k0 (State.mailFailed s m) := by
  unfold State.mailFailed
  with_reducible repeat' first
    | assumption | apply State.berthOpFail_keeps | apply State.getFail_keeps | apply State.finishDesc_keeps
    | apply State.setRole_keeps | (split)

theorem Keeps.getD_map {α : Type} {k0 s : State} {o : Option α} {f : α → State} (hf : ∀ x, Keeps k0 (f x)) (hk : Keeps k0 s) :
    Keeps k0 ((o.map f).getD s) := by
  cases o
  · exact hk
  · exact hf _

theorem State.parcelAck_keeps {k0 s : State} {q : Req} {r : Rsp} (hk : Keeps k0 s) : Keeps k0 (s.parcelAck q r) := by
  unfold State.parcelAck
  with_reducible repeat' first
    | assumption | apply Keeps.getD_map | apply State.closeReq_keeps | apply State.ownDone_keeps | apply State.rackSend_keeps
    | apply Keeps.ite | apply Keeps.ite_fst | apply Keeps.foldl | apply Keeps.foldl_fst | intro _

theorem State.setReq_keeps {k0 s : State} {e : Nat} {dst : Nat} {r : Req} (hk : Keeps k0 s) :
    Keeps k0 (State.setReq s e dst r) := by
  unfold State.setReq
  with_reducible repeat' first | assumption | apply State.setPair_keeps

theorem State.settleMail_keeps {k0 s : State} {id : Nat} (hk : Keeps k0 s) : Keeps k0 (State.settleMail s id) := by
  unfold State.settleMail
  with_reducible repeat' first
    | assumption | apply State.mailFailed_keeps | apply State.setMail_keeps | apply State.nextStage_keeps | apply Keeps.ite
    | apply Keeps.ite_fst | apply Keeps.foldl | apply Keeps.foldl_fst | intro _

theorem State.settleMails_keeps {k0 s : State} (hk : Keeps k0 s) : Keeps k0 (State.settleMails s) := by
  unfold State.settleMails
  with_reducible repeat' first | assumption | apply State.settleMail_keeps | apply Keeps.ite | apply Keeps.ite_fst | apply Keeps.foldl

theorem State.takeRequest_keeps {k0 s : State} {op : Nat} {p : Fin 24} {vc : Fin 3} (hk : Keeps k0 s) :
    Keeps k0 (State.takeRequest s op p vc) := by
  unfold State.takeRequest
  with_reducible repeat' first
    | assumption | apply State.landRequest_keeps | apply State.popPkt_keeps | (extract_lets +onlyGivenNames x; clear_value x)
    | (split)

theorem State.takeResponse_keeps {k0 s : State} {op : Nat} {p : Fin 24} {vc : Fin 3} {act : State → Req → Rsp → State}
    (hact : ∀ t z0 z1, Keeps k0 t → Keeps k0 (act t z0 z1)) (hk : Keeps k0 s) :
    Keeps k0 (State.takeResponse s op p vc act) := by
  unfold State.takeResponse
  with_reducible repeat' first
    | assumption | apply hact | apply State.popPkt_keeps | apply State.settleMails_keeps | apply State.askNak_keeps
    | apply State.noticeAck_keeps
    | (extract_lets +onlyGivenNames x; first | (refine Keeps.cut (x := x) ?_ ?_ <;> [dsimp -zeta only [x]; (intro _; clear_value x)]) | clear_value x)
    | (split)

end Sys2Proof.Machine
end

