-- ==== Sys2Proof/Laws/KeepsRest.lean ====
section
/-!
SUPPORT. `Keeps` of every shared operation, second half: what a prover cites in place of unfolding it.
-/
namespace Sys2Proof.Machine

/-! ## Collectives -/

theorem State.collBegin_keeps {k0 s : State} {c : Coll} (hk : Keeps k0 s) : Keeps k0 (s.collBegin c) := by
  have key : ∀ u : State, Keeps k0 u → Keeps k0 ((u.rack.held.filter (fun (h : Nat × Nat × Pkt) => h.1 == c.id)).foldl
      (fun (t : State) (h : Nat × Nat × Pkt) => t.contribute h.2.1 h.2.2)
      { u with rack := { u.rack with held := u.rack.held.filter (fun (h : Nat × Nat × Pkt) => h.1 != c.id) } }) :=
    fun u hu => Keeps.foldl (fun _ _ => State.contribute_keeps) (hu.upd rfl rfl rfl rfl rfl rfl rfl rfl rfl)
  have h0 : ∀ r : RackSt, Keeps k0 { s with rack := r } := fun r => hk.upd rfl rfl rfl rfl rfl rfl rfl rfl rfl
  have hs : ∀ (u : State) (m op k : Nat) (bs : State → Nat → List Nat) (f : State → Nat → List Byte), Keeps k0 u →
      Keeps k0 (c.others.foldl (fun (t : State) m => t.collSendRuns c.id m op k (bs t m) (f t)) u) :=
    fun u _ _ _ _ _ hu => Keeps.foldl (fun _ _ => State.collSendRuns_keeps) hu
  unfold State.collBegin
  refine key _ (Keeps.ite (fun _ => ?_) (fun _ => Keeps.ite (fun _ => ?_) (fun _ => ?_)))
  · exact Keeps.foldl (fun _ _ => State.collSendRuns_keeps) (Keeps.foldl (fun _ _ => State.collWrite_keeps) (h0 _))
  · have h2 : Keeps k0 _ := Keeps.foldl (l := c.others) (g := fun (t : State) m => t.collSendRuns c.id m 9 32 (c.slice m)
      (t.collWords c))
      (fun _ _ => State.collSendRuns_keeps) (h0 { s.rack with colls := s.rack.colls ++ [c] })
    dsimp only
    split
    · exact h2
    · exact State.collGather_keeps (State.collFinish_keeps (State.setColl_keeps h2))
  · have h2 : Keeps k0 _ := Keeps.foldl (l := c.others)
      (g := fun (t : State) m => t.collSendRuns c.id m 7 4096 (c.slice m) (fun b => leBytes 1 (t.collExp c b)))
      (fun _ _ => State.collSendRuns_keeps) (h0 { s.rack with colls := s.rack.colls ++ [c] })
    dsimp only
    split
    · exact h2
    · exact State.collGather_keeps (State.setColl_keeps h2)

theorem State.collSettle_keeps {k0 : State} {n : Nat} {s : State} (hk : Keeps k0 s) : Keeps k0 (State.collSettle n s) := by
  induction n generalizing s with
  | zero => exact hk
  | succ n ih =>
    unfold State.collSettle
    with_reducible repeat' first
      | assumption | apply ih | apply State.collBegin_keeps | apply State.finishDesc_keeps
      | (extract_lets +onlyGivenNames x; first | (refine Keeps.cut (x := x) ?_ ?_ <;> [dsimp -zeta only [x]; (intro _; clear_value x)]) | clear_value x)
      | (split) | fail_if_no_progress apply Keeps.rec_

theorem State.collEnd_keeps {k0 s : State} (hk : Keeps k0 s) : Keeps k0 (State.collEnd s) := by
  unfold State.collEnd
  with_reducible repeat' first | assumption | apply State.collSettle_keeps

theorem State.startColl_keeps {k0 s : State} {seq : BitVec 32} {op : Nat} (hk : Keeps k0 s) :
    Keeps k0 (State.startColl s seq op) := by
  unfold State.startColl
  with_reducible repeat' first
    | assumption | apply State.startDesc_keeps | apply State.finishDesc_keeps | apply State.collBegin_keeps | intro _
    | (extract_lets +onlyGivenNames x; clear_value x) | (split) | fail_if_no_progress apply Keeps.rec_

/-! ## Complete -/

theorem State.settleDesc_keeps {k0 s : State} {seq : Nat} (hk : Keeps k0 s) : Keeps k0 (State.settleDesc s seq) := by
  unfold State.settleDesc
  with_reducible repeat' first
    | assumption | apply State.pairDone_keeps | apply State.collEnd_keeps | apply State.finishDesc_keeps
    | (extract_lets +onlyGivenNames x; first | (refine Keeps.cut (x := x) ?_ ?_ <;> [dsimp -zeta only [x]; (intro _; clear_value x)]) | clear_value x)
    | (split) | fail_if_no_progress apply Keeps.rec_

/-! ## Copies -/

theorem State.convToHost_keeps {k0 s : State} {d : Desc} (hk : Keeps k0 s) : Keeps k0 (State.convToHost s d) := by
  unfold State.convToHost
  with_reducible repeat' first
    | assumption | apply State.finishDesc_keeps | apply State.discardHost_keeps | apply State.hostStore_keeps | apply Keeps.ite
    | apply Keeps.foldl | intro _

theorem State.sendCopy_keeps {k0 : State} {seq x raddr laddr i : Nat} {w : Bool} {l : List (Nat × Nat × Bool)} {s : State}
    (hk : Keeps k0 s) :
    Keeps k0 (State.sendCopy seq x raddr laddr w i l s) := by
  induction l generalizing s i with
  | nil =>
    unfold State.sendCopy
    exact hk
  | cons e r ih =>
    obtain ⟨off, n, last⟩ := e
    unfold State.sendCopy
    with_reducible repeat' first | assumption | apply ih | apply State.place1_keeps

theorem State.startCopy_keeps {k0 s : State} {d : Desc} {write : Bool} (hk : Keeps k0 s) :
    Keeps k0 (State.startCopy s d write) := by
  unfold State.startCopy
  with_reducible repeat' first
    | assumption | apply State.finishDesc_keeps | apply State.store_keeps | apply State.sendCopy_keeps
    | (extract_lets +onlyGivenNames x; clear_value x) | (split) | fail_if_no_progress apply Keeps.rec_

/-! ## Descriptors -/

theorem State.acceptStep_keeps {k0 s : State} {d : Desc} (hk : Keeps k0 s) : Keeps k0 (State.acceptStep s d) := by
  unfold State.acceptStep
  with_reducible repeat' first | assumption | apply State.finishDesc_keeps | apply State.stepAccept_keeps | apply Keeps.ite | intro _

theorem State.mirror_keeps {k0 s : State} (hk : Keeps k0 s) : Keeps k0 (State.mirror s) := by
  unfold State.mirror
  with_reducible repeat' first
    | assumption | apply State.showReady_keeps | apply State.setCond_keeps | apply State.raise_keeps | apply State.setCmd_keeps
    | apply Keeps.ite | intro _

theorem State.served_keeps {k0 s : State} {r : Nat} {accepted : Bool} (hk : Keeps k0 s) : Keeps k0 (State.served s r accepted) := by
  unfold State.served
  with_reducible repeat' first | assumption | apply State.setCmd_keeps

/-! ## Engines -/

theorem State.finishOp_keeps {k0 s : State} {lc : Nat} {q : Nat} {r : RunOp} {sig : Bool} {sem : Nat} (hk : Keeps k0 s) :
    Keeps k0 (State.finishOp s lc q r sig sem) := by
  unfold State.finishOp
  with_reducible repeat' first
    | assumption | apply State.setCore_keeps | apply State.addSem_keeps | apply State.wake_keeps | apply Keeps.ite | intro _

theorem State.opFault_keeps {k0 s : State} {lc : Nat} {q : Nat} {op : EngOp} {rest : List EngOp} {cause : Nat} (hk : Keeps k0 s) :
    Keeps k0 (State.opFault s lc q op rest cause) := by
  unfold State.opFault
  with_reducible repeat' first | assumption | apply State.coreFault_keeps | apply State.setCore_keeps

theorem State.startEngine_keeps {k0 s : State} {lc : Nat} {q : Nat} {op : EngOp} {rest : List EngOp} {areas : List (Nat × Nat)}
    {errs : List ScratchErr} (hk : Keeps k0 s) :
    Keeps k0 (State.startEngine s lc q op rest areas errs) := by
  unfold State.startEngine
  with_reducible repeat' first
    | assumption | apply State.scratchErrs_keeps | apply State.opFault_keeps | apply State.wake_keeps | apply State.setCore_keeps
    | apply Keeps.ite | intro _

/-! ## Firmware -/

theorem State.setSlot_keeps {k0 s : State} {f : Nat} {k : Nat} {x : Slot} (hk : Keeps k0 s) : Keeps k0 (State.setSlot s f k x) := by
  unfold State.setSlot
  with_reducible repeat' first | assumption | apply State.setFw_keeps

theorem State.fwShow_keeps {k0 s : State} (hk : Keeps k0 s) : Keeps k0 (State.fwShow s) := by
  unfold State.fwShow
  with_reducible repeat' first | assumption | apply State.wr_keeps | apply State.setCond_keeps

theorem State.showPieces_keeps {k0 s : State} (hk : Keeps k0 s) : Keeps k0 (State.showPieces s) := by
  unfold State.showPieces
  with_reducible repeat' first | assumption | apply State.wr_keeps

theorem State.setTender_keeps {k0 s : State} {t : Nat} (hk : Keeps k0 s) : Keeps k0 (State.setTender s t) := by
  unfold State.setTender
  with_reducible repeat' first | assumption | apply State.wr_keeps

theorem State.loadSettings_keeps {k0 s : State} (hk : Keeps k0 s) : Keeps k0 (State.loadSettings s) := by
  unfold State.loadSettings
  with_reducible repeat' first | assumption | apply State.setReg_keeps | apply State.wr_keeps | apply Keeps.foldl | intro _

theorem State.checkLeaves_keeps {k0 s : State} (hk : Keeps k0 s) : Keeps k0 (State.checkLeaves s) := by
  unfold State.checkLeaves
  with_reducible repeat' first | assumption | apply State.raise_keeps | apply State.setFw_keeps | apply Keeps.ite | intro _

theorem State.newBatch_keeps {k0 s : State} (hk : Keeps k0 s) : Keeps k0 (State.newBatch s) := by
  unfold State.newBatch
  with_reducible repeat' first | assumption | apply State.checkLeaves_keeps | apply State.setFw_keeps

theorem State.loadRoom_keeps {k0 s : State} {q : Nat} {hdr : List Byte} (hk : Keeps k0 s) : Keeps k0 (State.loadRoom s q hdr) := by
  unfold State.loadRoom
  with_reducible repeat' first | assumption | apply State.setRoom_keeps

theorem State.fwSettle_keeps {k0 s : State} (hk : Keeps k0 s) : Keeps k0 (State.fwSettle s) := by
  unfold State.fwSettle
  with_reducible repeat' first
    | assumption | apply State.fwShow_keeps | apply State.loadRoom_keeps | (extract_lets +onlyGivenNames x; clear_value x) | (split)

theorem State.writeSlots_keeps {k0 s : State} {env : FwEnv} {k : Nat} {f : Slot → Slot} (hk : Keeps k0 s) :
    Keeps k0 (State.writeSlots s env k f) := by
  unfold State.writeSlots
  with_reducible repeat' first
    | assumption | apply State.setSlot_keeps | apply State.raise_keeps | apply Keeps.foldl | intro _ | (split)
    | fail_if_no_progress apply Keeps.rec_

theorem State.offer_keeps {k0 s : State} {env : FwEnv} {src : Nat} {addr : Nat} {h : List Byte} {m : List Byte} (hk : Keeps k0 s) :
    Keeps k0 (State.offer s env src addr h m).1 := by
  unfold State.offer
  with_reducible repeat' first
    | assumption | apply State.raise_keeps | apply State.wr_keeps | apply State.setFw_keeps | apply State.showPieces_keeps
    | apply State.setTender_keeps | apply State.writeSlots_keeps | apply Keeps.ite_fst | intro _

theorem State.offerMem_keeps {k0 s : State} {env : FwEnv} (hk : Keeps k0 s) : Keeps k0 (State.offerMem s env).1 := by
  unfold State.offerMem
  with_reducible repeat' first | assumption | apply State.offer_keeps

theorem State.dropImage_keeps {k0 s : State} {env : FwEnv} (hk : Keeps k0 s) : Keeps k0 (State.dropImage s env) := by
  unfold State.dropImage
  with_reducible repeat' first
    | assumption | apply State.writeSlots_keeps | apply State.showPieces_keeps | apply State.setTender_keeps
    | fail_if_no_progress apply Keeps.rec_

theorem State.cancelImage_keeps {k0 s : State} {env : FwEnv} (hk : Keeps k0 s) : Keeps k0 (State.cancelImage s env) := by
  unfold State.cancelImage
  with_reducible repeat' first | assumption | apply State.dropImage_keeps | apply Keeps.ite | intro _

theorem State.arm_keeps {k0 s : State} (hk : Keeps k0 s) : Keeps k0 (State.arm s) := by
  unfold State.arm
  with_reducible repeat' first | assumption | apply State.raise_keeps | apply State.setTender_keeps | apply Keeps.ite | intro _

theorem State.disarm_keeps {k0 s : State} (hk : Keeps k0 s) : Keeps k0 (State.disarm s) := by
  unfold State.disarm
  with_reducible repeat' first | assumption | apply State.setTender_keeps | apply Keeps.ite | intro _

theorem State.commitSvn_keeps {k0 s : State} {env : FwEnv} (hk : Keeps k0 s) : Keeps k0 (State.commitSvn s env).1 := by
  unfold State.commitSvn
  with_reducible repeat' first
    | assumption | apply State.setFw_keeps | apply State.raise_keeps | apply State.fwShow_keeps | apply Keeps.ite
    | apply Keeps.ite_fst | intro _

theorem State.saveSettings_keeps {k0 s : State} {env : FwEnv} (hk : Keeps k0 s) : Keeps k0 (State.saveSettings s env) := by
  unfold State.saveSettings
  with_reducible repeat' first
    | assumption | apply State.raise_keeps | apply State.setFw_keeps | apply Keeps.foldl | intro _ | (split)
    | fail_if_no_progress apply Keeps.rec_

theorem State.monLock_keeps {k0 s : State} {reason : Nat} (hk : Keeps k0 s) : Keeps k0 (State.monLock s reason) := by
  unfold State.monLock
  with_reducible repeat' first
    | assumption | apply State.raise_keeps | apply State.wr_keeps | (split) | fail_if_no_progress apply Keeps.rec_

theorem State.actMissed_keeps {k0 s : State} (hk : Keeps k0 s) : Keeps k0 (State.actMissed s) := by
  unfold State.actMissed
  with_reducible repeat' first
    | assumption | apply State.loadRoom_keeps | apply State.fwSettle_keeps | apply State.raise_keeps | apply State.setTender_keeps
    | intro _ | (split)

theorem State.pieceDone_keeps {k0 s : State} {env : FwEnv} {data : List Byte} (hk : Keeps k0 s) :
    Keeps k0 (State.pieceDone s env data) := by
  unfold State.pieceDone
  with_reducible repeat' first
    | assumption | apply State.setFw_keeps | apply State.dropImage_keeps | apply State.writeSlots_keeps | apply State.showPieces_keeps
    | apply State.raise_keeps | apply State.setTender_keeps | apply Keeps.ite | intro _

theorem State.chunk_keeps {k0 s : State} {env : FwEnv} {data : List Byte} (hk : Keeps k0 s) :
    Keeps k0 (State.chunk s env data) := by
  unfold State.chunk
  with_reducible repeat' first
    | assumption | apply State.setFw_keeps | apply State.pieceDone_keeps | apply Keeps.ite | apply Keeps.ite_fst | apply Keeps.foldl
    | apply Keeps.foldl_fst | intro _

theorem State.failRoom_keeps {k0 s : State} {q : Nat} (hk : Keeps k0 s) : Keeps k0 (State.failRoom s q) := by
  unfold State.failRoom
  with_reducible repeat' first | assumption | apply State.setRoom_keeps

theorem State.loadFailed_keeps {k0 s : State} {q : Nat} (hk : Keeps k0 s) : Keeps k0 (State.loadFailed s q) := by
  unfold State.loadFailed
  with_reducible repeat' first
    | assumption | apply State.raise_keeps | apply State.failRoom_keeps | apply State.actMissed_keeps | apply State.fwSettle_keeps
    | apply Keeps.ite | apply Keeps.ite_fst | apply Keeps.foldl | apply Keeps.foldl_fst | intro _

theorem State.migrateSettings_keeps {k0 s : State} {h : List Byte} (hk : Keeps k0 s) : Keeps k0 (State.migrateSettings s h) := by
  unfold State.migrateSettings
  with_reducible repeat' first
    | assumption | apply State.setFw_keeps | apply State.raise_keeps | apply Keeps.ite | apply Keeps.ite_fst | apply Keeps.foldl
    | apply Keeps.foldl_fst | intro _

theorem State.task_keeps {k0 s : State} {t : Nat} {missed : Bool} (hk : Keeps k0 s) : Keeps k0 (State.task s t missed) := by
  unfold State.task
  with_reducible repeat' first
    | assumption | apply State.setFw_keeps | apply State.raise_keeps | apply Keeps.ite | apply Keeps.ite_fst | apply Keeps.foldl
    | apply Keeps.foldl_fst | intro _

theorem State.toStandby_keeps {k0 s : State} {q : Nat} (hk : Keeps k0 s) : Keeps k0 (State.toStandby s q) := by
  unfold State.toStandby
  with_reducible repeat' first | assumption | apply State.fwShow_keeps | apply State.setRoom_keeps

/-! ## Flits -/

theorem State.message_keeps {k0 s : State} {k : Nat} {j : Nat} {m : List Byte} (hk : Keeps k0 s) :
    Keeps k0 (State.message s k j m) := by
  unfold State.message
  with_reducible repeat' first | assumption | apply State.atEp_keeps | apply State.setRx_keeps

theorem State.assemble_keeps {k0 s : State} {k j vcs : Nat} {flit : List Byte} (hk : Keeps k0 s) : Keeps k0 (s.assemble k j vcs flit)
    := by
  unfold State.assemble
  dsimp only
  split
  · exact State.message_keeps (State.setRx_keeps hk)
  · exact State.setRx_keeps hk
  · exact State.setRx_keeps hk
  · exact State.message_keeps (State.setRx_keeps hk)
  · exact hk

theorem State.oweCredits_keeps {k0 s : State} {k : Nat} {vc : Nat} {n : Nat} (hk : Keeps k0 s) :
    Keeps k0 (State.oweCredits s k vc n) := by
  unfold State.oweCredits
  with_reducible repeat' first | assumption | apply State.setTx_keeps

theorem State.deliver_keeps {k0 s : State} {k : Nat} {back : Nat} {vcs : Nat} {seq : Nat} {flit : List Byte} (hk : Keeps k0 s) :
    Keeps k0 (State.deliver s k back vcs seq flit) := by
  unfold State.deliver
  with_reducible repeat' first | assumption | apply State.setRx_keeps | apply State.assemble_keeps | apply State.oweCredits_keeps

theorem State.deliverRun_keeps {k0 : State} {k back vcs n : Nat} {s : State} (hk : Keeps k0 s) :
    Keeps k0 (State.deliverRun k back vcs n s) := by
  induction n generalizing s with
  | zero => exact hk
  | succ n ih =>
    unfold State.deliverRun
    with_reducible repeat' first
      | assumption | apply ih | apply State.deliver_keeps | apply State.setRx_keeps | (extract_lets +onlyGivenNames x; clear_value x)
      | (split)

theorem State.emit_keeps {k0 s : State} {ch : Chan} {lane : Nat} {src : Nat} {dst : Nat} {vc : Nat} {f : OutFlit} (hk : Keeps k0 s) :
    Keeps k0 (State.emit s ch lane src dst vc f) := by
  unfold State.emit
  with_reducible repeat' first | assumption | apply State.send_keeps | apply State.setTx_keeps

theorem State.land_keeps {k0 s : State} {x : Nat} {h : FlitHdr} {data : List Byte} (hk : Keeps k0 s) :
    Keeps k0 (State.land s x h data) := by
  unfold State.land
  with_reducible repeat' first
    | assumption | apply State.setRx_keeps | apply State.setLink_keeps | apply State.oweCredits_keeps
    | (extract_lets +onlyGivenNames x; first | (refine Keeps.cut (x := x) ?_ ?_ <;> [dsimp -zeta only [x]; (intro _; clear_value x)]) | clear_value x)
    | (split)

theorem State.setEgress_keeps {k0 s : State} {q : Nat} {dst : Nat} {vc : Nat} {l : List OutPkt} (hk : Keeps k0 s) :
    Keeps k0 (State.setEgress s q dst vc l) := by
  unfold State.setEgress
  with_reducible repeat' first | assumption | fail_if_no_progress apply Keeps.rec_

theorem State.linkFeed_keeps {k0 s : State} {x : Nat} {vc : Nat} (hk : Keeps k0 s) : Keeps k0 (State.linkFeed s x vc) := by
  unfold State.linkFeed
  with_reducible repeat' first
    | assumption | apply State.setTx_keeps | apply State.setEgress_keeps
    | (extract_lets +onlyGivenNames x; first | (refine Keeps.cut (x := x) ?_ ?_ <;> [dsimp -zeta only [x]; (intro _; clear_value x)]) | clear_value x)
    | (split) | fail_if_no_progress apply Keeps.rec_

theorem State.linkGap_keeps {k0 s : State} {x : Nat} {vc : Nat} {seq : Nat} (hk : Keeps k0 s) :
    Keeps k0 (State.linkGap s x vc seq) := by
  unfold State.linkGap
  with_reducible repeat' first
    | assumption | apply State.oweCredits_keeps | apply State.setRx_keeps | apply State.setLink_keeps | apply Keeps.ite | intro _

theorem State.takeCredits_keeps {k0 s : State} {k : Nat} {h : FlitHdr} (hk : Keeps k0 s) : Keeps k0 (State.takeCredits s k h) := by
  unfold State.takeCredits
  with_reducible repeat' first | assumption | apply State.setTx_keeps | apply Keeps.ite | intro _

theorem State.takeFlit_keeps {k0 s : State} {x : Nat} {h : FlitHdr} {data : List Byte} (hk : Keeps k0 s) :
    Keeps k0 (State.takeFlit s x h data) := by
  unfold State.takeFlit
  with_reducible repeat' first
    | assumption | apply State.setRx_keeps | apply State.oweCredits_keeps | apply State.linkSettle_keeps | apply State.linkDark_keeps
    | apply State.raise_keeps | apply State.land_keeps | apply Keeps.ite | intro _

theorem State.linkReceive_keeps {k0 s : State} {x : Nat} {cw : List Byte} (hk : Keeps k0 s) :
    Keeps k0 (State.linkReceive s x cw) := by
  unfold State.linkReceive
  with_reducible repeat' first
    | assumption | apply State.bump_keeps | apply State.setRx_keeps | apply State.linkSettle_keeps | apply State.linkDark_keeps
    | apply State.takeCredits_keeps | apply State.linkGap_keeps | apply State.takeFlit_keeps
    | (extract_lets +onlyGivenNames x; first | (refine Keeps.cut (x := x) ?_ ?_ <;> [dsimp -zeta only [x]; (intro _; clear_value x)]) | clear_value x)
    | (split)

theorem State.testSlot_keeps {k0 s : State} {x : Fin 768} (hk : Keeps k0 s) : Keeps k0 (State.testSlot s x) := by
  unfold State.testSlot
  with_reducible repeat' first | assumption | apply State.send_keeps | apply State.setLink_keeps

theorem State.linkTry_keeps {k0 s t : State} {x : Fin 768} {vc : Nat} (he : s.linkTry x vc = some t) (hk : Keeps k0 s)
    : Keeps k0 t := by
  have h1 : Keeps k0 (if (s.tx (linkKey x)).queue vc = [] then s.linkFeed x vc else s) :=
    Keeps.ite (fun _ => State.linkFeed_keeps hk) (fun _ => hk)
  unfold State.linkTry at he
  extract_lets s1 at he
  have h2 : Keeps k0 s1 := h1
  clear_value s1
  split at he
  · split at he
    · cases he
      exact State.emit_keeps (Keeps.ite (fun _ => State.setTx_keeps h2) (fun _ => State.drawn_keeps (State.setTx_keeps h2)))
    · cases he
  · cases he

theorem firstSend_keeps {k0 t : State} {f : Nat → Option State} {l : List Nat} {v : Nat} (he : firstSend f l = some (v, t))
    (hf : ∀ w u, f w = some u → Keeps k0 u) : Keeps k0 t := by
  induction l with
  | nil => cases he
  | cons a r ih =>
    unfold firstSend at he
    split at he
    · cases he
      exact hf _ _ (by assumption)
    · exact ih he

theorem State.linkSlot_keeps {k0 s : State} {x : Fin 768} (hk : Keeps k0 s) : Keeps k0 (State.linkSlot s x) := by
  unfold State.linkSlot
  with_reducible repeat' first
    | assumption | apply State.emit_keeps | apply State.testSlot_keeps | refine State.linkTry_keeps (by assumption) ?_
    | refine firstSend_keeps (by assumption) ?_ | apply State.setTx_keeps | intro _
    | (extract_lets +onlyGivenNames x; first | (refine Keeps.cut (x := x) ?_ ?_ <;> [dsimp -zeta only [x]; (intro _; clear_value x)]) | clear_value x)
    | (split)

theorem State.mcastConvert_keeps {k0 s : State} {i : Nat} {g : Nat} {vc : Nat} (hk : Keeps k0 s) :
    Keeps k0 (State.mcastConvert s i g vc) := by
  unfold State.mcastConvert
  with_reducible repeat' first
    | assumption | apply State.onPair_keeps | apply State.setMcastWait_keeps | apply State.setMcast_keeps | apply Keeps.ite
    | apply Keeps.foldl | intro _

theorem State.mcastSend_keeps {k0 s : State} {i : Nat} {j : Nat} {g : Nat} {vc : Nat} {n : Nat} (hk : Keeps k0 s) :
    Keeps k0 (State.mcastSend s i j g vc n) := by
  unfold State.mcastSend
  with_reducible repeat' first
    | assumption | apply State.mcastFill_keeps | apply State.setMcast_keeps | apply State.send_keeps | apply State.setTx_keeps
    | apply Keeps.foldl | intro _ | (split) | fail_if_no_progress apply Keeps.rec_

theorem State.pairReceive_keeps {k0 s : State} {i : Fin 16} {j : Fin 16} {cw : List Byte} (hk : Keeps k0 s) :
    Keeps k0 (State.pairReceive s i j cw) := by
  unfold State.pairReceive
  with_reducible repeat' first
    | assumption | apply State.setRx_keeps | apply State.takeCredits_keeps | apply State.deliverRun_keeps | apply State.deliver_keeps
    | (extract_lets +onlyGivenNames x; first | (refine Keeps.cut (x := x) ?_ ?_ <;> [dsimp -zeta only [x]; (intro _; clear_value x)]) | clear_value x)
    | (split)

theorem State.pairTry_keeps {k0 s t : State} {i j : Fin 16} {lane vc : Nat} (he : s.pairTry i j lane vc = some t) (hk : Keeps k0 s) :
    Keeps k0 t := by
  unfold State.pairTry at he
  extract_lets k t0 uni multi at he
  have hu : ∀ u, uni = some u → Keeps k0 u := by
    intro u h
    simp only [uni] at h
    split at h
    · split at h
      · cases h
        exact State.emit_keeps (State.setTx_keeps hk)
      · cases h
    · cases h
  have hm : ∀ u, multi = some u → Keeps k0 u := by
    intro u h
    obtain ⟨g, _, rfl⟩ := Option.map_eq_some_iff.mp h
    exact State.mcastSend_keeps hk
  clear_value uni multi
  split at he
  · cases multi with
    | none => exact hu _ he
    | some m => exact hm _ he
  · cases uni with
    | none => exact hm _ he
    | some m => exact hu _ he

theorem State.pairSlot_keeps {k0 : State} {s0 : State} {i : Fin 16} {j : Fin 16} (hk : Keeps k0 s0) :
    Keeps k0 (State.pairSlot s0 i j) := by
  unfold State.pairSlot
  with_reducible repeat' first
    | assumption | apply State.mcastConvert_keeps | apply State.setTx_keeps | apply State.emit_keeps | apply State.mcastSend_keeps
    | refine State.pairTry_keeps (by assumption) ?_ | refine firstSend_keeps (by assumption) ?_ | apply Keeps.foldl | intro _
    | (extract_lets +onlyGivenNames x; first | (refine Keeps.cut (x := x) ?_ ?_ <;> [dsimp -zeta only [x]; (intro _; clear_value x)]) | clear_value x)
    | (split)

/-! ## Laser -/

theorem State.setLaser_keeps {k0 s : State} {m : Nat} {l : Laser} (hk : Keeps k0 s) : Keeps k0 (State.setLaser s m l) := by
  unfold State.setLaser
  with_reducible repeat' first | assumption | fail_if_no_progress apply Keeps.rec_

theorem State.lampRead_keeps {k0 s : State} {m : Nat} {cmis : CmisRead} {a : List Int} {b : List Int} (hk : Keeps k0 s) :
    Keeps k0 (State.lampRead s m cmis a b) := by
  unfold State.lampRead
  with_reducible repeat' first | assumption | apply State.setLaser_keeps | apply State.wr_keeps

theorem State.showLaser_keeps {k0 s : State} {m : Nat} (hk : Keeps k0 s) : Keeps k0 (State.showLaser s m) := by
  unfold State.showLaser
  with_reducible repeat' first | assumption | apply State.wr_keeps

theorem State.shutPort_keeps {k0 s : State} {p : Nat} {on : Bool} (hk : Keeps k0 s) : Keeps k0 (State.shutPort s p on) := by
  unfold State.shutPort
  with_reducible repeat' first | assumption | fail_if_no_progress apply Keeps.rec_

theorem State.restoreGroup_keeps {k0 s : State} {m : Nat} {g : Nat} (hk : Keeps k0 s) : Keeps k0 (State.restoreGroup s m g) := by
  unfold State.restoreGroup
  with_reducible repeat' first
    | assumption | apply State.markUnit_keeps | apply State.freeRings_keeps | apply State.refreshPair_keeps
    | apply State.drainRow_keeps | apply State.linkResume_keeps | apply State.linkRing_keeps | apply State.shutPort_keeps
    | apply Keeps.ite | apply Keeps.foldl | intro _

theorem State.lightGroups_keeps {k0 s : State} {m : Nat} (hk : Keeps k0 s) : Keeps k0 (State.lightGroups s m) := by
  unfold State.lightGroups
  with_reducible repeat' first
    | assumption | apply State.setRing_keeps | apply State.restoreGroup_keeps | apply Keeps.ite | apply Keeps.foldl | intro _

theorem State.setModState_keeps {k0 s : State} {m : Nat} {v : Nat} (hk : Keeps k0 s) : Keeps k0 (State.setModState s m v) := by
  unfold State.setModState
  with_reducible repeat' first | assumption | apply State.wr_keeps | apply State.setCond_keeps

theorem State.commission_keeps {k0 s : State} {m : Nat} {okA : Bool} {okB : Bool} (hk : Keeps k0 s) :
    Keeps k0 (State.commission s m okA okB) := by
  unfold State.commission
  with_reducible repeat' first
    | assumption | apply State.setLaser_keeps | apply State.showLaser_keeps | apply State.wr_keeps | apply State.raise_keeps
    | apply State.lightGroups_keeps | apply State.setModState_keeps | apply Keeps.ite | intro _

theorem State.markLanes_keeps {k0 s : State} {m : Nat} {untested : Bool} (hk : Keeps k0 s) :
    Keeps k0 (State.markLanes s m untested) := by
  unfold State.markLanes
  with_reducible repeat' first | assumption | apply State.setUntested_keeps | apply Keeps.ite | apply Keeps.foldl | intro _

theorem State.drainGroup_keeps {k0 s : State} {m : Nat} {g : Nat} (hk : Keeps k0 s) : Keeps k0 (State.drainGroup s m g) := by
  unfold State.drainGroup
  with_reducible repeat' first
    | assumption | apply State.cutWindow_keeps | apply State.refreshPair_keeps | apply State.drainRow_keeps
    | apply State.shutPort_keeps | apply State.linkPause_keeps | apply Keeps.ite | apply Keeps.foldl | intro _

theorem State.nextGroup_keeps {k0 s : State} {m : Nat} (hk : Keeps k0 s) : Keeps k0 (State.nextGroup s m) := by
  unfold State.nextGroup
  with_reducible repeat' first
    | assumption | apply State.setLaser_keeps | apply State.drainGroup_keeps | (extract_lets +onlyGivenNames x; clear_value x)
    | (split)

theorem State.startSwitch_keeps {k0 s : State} {m : Nat} {reason : Nat} (hk : Keeps k0 s) :
    Keeps k0 (State.startSwitch s m reason) := by
  unfold State.startSwitch
  with_reducible repeat' first
    | assumption | apply State.setLaser_keeps | apply State.setModState_keeps | apply State.nextGroup_keeps | apply State.raise_keeps

theorem State.lsrSwitch_keeps {k0 s : State} {m : Nat} (hk : Keeps k0 s) : Keeps k0 (State.lsrSwitch s m) := by
  unfold State.lsrSwitch
  with_reducible repeat' first | assumption | apply State.startSwitch_keeps | apply Keeps.ite | intro _

theorem State.lsrPrepareRemove_keeps {k0 s : State} {m : Nat} (hk : Keeps k0 s) : Keeps k0 (State.lsrPrepareRemove s m) := by
  unfold State.lsrPrepareRemove
  with_reducible repeat' first
    | assumption | apply State.setLaser_keeps | apply State.setModState_keeps | apply State.nextGroup_keeps | apply Keeps.ite
    | intro _

theorem State.lsrCancelRemove_keeps {k0 s : State} {m : Nat} (hk : Keeps k0 s) : Keeps k0 (State.lsrCancelRemove s m) := by
  unfold State.lsrCancelRemove
  with_reducible repeat' first
    | assumption | apply State.setLaser_keeps | apply State.wr_keeps | apply State.showLaser_keeps | apply State.setModState_keeps
    | apply State.nextGroup_keeps | apply Keeps.ite | intro _

theorem State.advise_keeps {k0 s : State} {m : Nat} {b : Nat} (hk : Keeps k0 s) : Keeps k0 (State.advise s m b) := by
  unfold State.advise
  with_reducible repeat' first
    | assumption | apply State.setLaser_keeps | apply State.raise_keeps
    | (extract_lets +onlyGivenNames x; first | (refine Keeps.cut (x := x) ?_ ?_ <;> [dsimp -zeta only [x]; (intro _; clear_value x)]) | clear_value x)
    | (split)

theorem State.darkGroup_keeps {k0 s : State} {m : Nat} {g : Nat} (hk : Keeps k0 s) : Keeps k0 (State.darkGroup s m g) := by
  unfold State.darkGroup
  with_reducible repeat' first
    | assumption | apply State.setRing_keeps | apply State.markUnit_keeps | apply State.refreshPair_keeps | apply State.drainRow_keeps
    | apply State.linkDark_keeps | apply State.shutPort_keeps | apply Keeps.ite | apply Keeps.foldl | intro _

theorem State.darkModule_keeps {k0 s : State} {m : Nat} {code : Nat} (hk : Keeps k0 s) : Keeps k0 (State.darkModule s m code) := by
  unfold State.darkModule
  with_reducible repeat' first
    | assumption | apply State.setLaser_keeps | apply State.setModState_keeps | apply State.raise_keeps | apply State.darkGroup_keeps
    | apply State.wr_keeps | apply Keeps.ite | apply Keeps.ite_fst | apply Keeps.foldl | apply Keeps.foldl_fst | intro _

theorem State.failLanes_keeps {k0 s : State} {failed : List LaneId} (hk : Keeps k0 s) : Keeps k0 (State.failLanes s failed) := by
  unfold State.failLanes
  with_reducible repeat' first | assumption | apply State.condemn_keeps | apply Keeps.ite | apply Keeps.ite_fst | apply Keeps.foldl

theorem State.failSwitch_keeps {k0 s : State} {m : Nat} (hk : Keeps k0 s) : Keeps k0 (State.failSwitch s m) := by
  unfold State.failSwitch
  with_reducible repeat' first
    | assumption | apply State.restoreGroup_keeps | apply State.setLaser_keeps | apply State.setModState_keeps
    | apply State.raise_keeps | apply State.nextGroup_keeps | apply Keeps.ite | apply Keeps.ite_fst | apply Keeps.foldl
    | apply Keeps.foldl_fst | intro _

theorem State.passLanes_keeps {k0 s : State} {m : Nat} (hk : Keeps k0 s) : Keeps k0 (State.passLanes s m) := by
  unfold State.passLanes
  with_reducible repeat' first
    | assumption | apply State.refreshPair_keeps | apply State.markLanes_keeps | apply Keeps.ite | apply Keeps.ite_fst
    | apply Keeps.foldl | apply Keeps.foldl_fst | intro _

theorem State.settleLaser_keeps {k0 s : State} {m : Nat} (hk : Keeps k0 s) : Keeps k0 (State.settleLaser s m) := by
  unfold State.settleLaser
  with_reducible repeat' first
    | assumption | apply State.showLaser_keeps | apply State.raise_keeps | apply State.setModState_keeps
    | apply State.startSwitch_keeps | apply State.failSwitch_keeps
    | (extract_lets +onlyGivenNames x; first | (refine Keeps.cut (x := x) ?_ ?_ <;> [dsimp -zeta only [x]; (intro _; clear_value x)]) | clear_value x)
    | (split)

theorem State.switchGroup_keeps {k0 s : State} {m : Nat} {g : Nat} {b : Nat} (hk : Keeps k0 s) :
    Keeps k0 (State.switchGroup s m g b) := by
  unfold State.switchGroup
  with_reducible repeat' first
    | assumption | apply State.markUnit_keeps | apply State.holdRings_keeps | apply State.setLaser_keeps | apply Keeps.ite
    | apply Keeps.ite_fst | apply Keeps.foldl | apply Keeps.foldl_fst | intro _

theorem State.startEmergency_keeps {k0 s : State} {m : Nat} {cond : Nat} (hk : Keeps k0 s) :
    Keeps k0 (State.startEmergency s m cond) := by
  unfold State.startEmergency
  with_reducible repeat' first
    | assumption | apply State.setLaser_keeps | apply State.setModState_keeps | apply State.raise_keeps
    | apply State.switchGroup_keeps | apply State.drainGroup_keeps | apply Keeps.ite | apply Keeps.ite_fst | apply Keeps.foldl
    | apply Keeps.foldl_fst | intro _

theorem State.switched_keeps {k0 s : State} {m : Nat} (hk : Keeps k0 s) : Keeps k0 (State.switched s m) := by
  unfold State.switched
  with_reducible repeat' first | assumption | apply State.showLaser_keeps | apply State.raise_keeps | apply State.wr_keeps

theorem State.verifyGroup_keeps {k0 s : State} {m : Nat} {g : Nat} {failed : List LaneId} (hk : Keeps k0 s) :
    Keeps k0 (State.verifyGroup s m g failed) := by
  unfold State.verifyGroup
  with_reducible repeat' first | assumption | apply State.failLanes_keeps | apply State.restoreGroup_keeps

/-! ## Stack -/

theorem State.startDegraded_keeps {k0 s : State} {n : Nat} {short : List Nat} (hk : Keeps k0 s) :
    Keeps k0 (State.startDegraded s n short) := by
  unfold State.startDegraded
  with_reducible repeat' first | assumption | apply State.raise_keeps | (split)

theorem State.startTest_keeps {k0 s : State} {t : StartTest} (hk : Keeps k0 s) : Keeps k0 (State.startTest s t) := by
  unfold State.startTest
  with_reducible repeat' first
    | assumption | apply State.retireRing_keeps | apply State.judgeTest_keeps | apply State.retuneDone_keeps | (split)

theorem State.resetStart_keeps {k0 s : State} {n : Nat} {forced : Bool} (hk : Keeps k0 s) :
    Keeps k0 (State.resetStart s n forced) := by
  unfold State.resetStart
  with_reducible repeat' first | assumption | apply State.raise_keeps

theorem State.orderlyReset_keeps {k0 s : State} {n : Nat} (hk : Keeps k0 s) : Keeps k0 (State.orderlyReset s n) := by
  unfold State.orderlyReset
  with_reducible repeat' first
    | assumption | apply State.resetStart_keeps | apply State.wr_keeps | apply State.portDies_keeps | (split)
    | fail_if_no_progress apply Keeps.rec_

theorem State.dropTraffic_keeps {k0 s : State} {n : Nat} (hk : Keeps k0 s) : Keeps k0 (State.dropTraffic s n) := by
  unfold State.dropTraffic
  with_reducible repeat' first
    | assumption | apply State.setRx_keeps | apply State.setTx_keeps | apply State.dropHomes_keeps | apply Keeps.foldl | intro _
    | fail_if_no_progress apply Keeps.rec_

theorem State.parkDie_keeps {k0 s : State} {d : Nat} {status : Nat} (hk : Keeps k0 s) : Keeps k0 (State.parkDie s d status) := by
  unfold State.parkDie
  with_reducible repeat' first | assumption | apply State.parkCore_keeps | apply Keeps.foldl | intro _

theorem State.dieLight_keeps {k0 s : State} {n : Nat} (hk : Keeps k0 s) : Keeps k0 (State.dieLight s n) := by
  unfold State.dieLight
  with_reducible repeat' first
    | assumption | apply State.refreshPair_keeps | apply State.linkRing_keeps | apply State.portDies_keeps | apply Keeps.ite
    | apply Keeps.foldl | intro _

theorem State.stopBundles_keeps {k0 s : State} {n : Nat} (hk : Keeps k0 s) : Keeps k0 (State.stopBundles s n) := by
  unfold State.stopBundles
  with_reducible repeat' first | assumption | apply State.setBundle_keeps | apply Keeps.foldl | intro _

theorem State.enterReset_keeps {k0 s : State} {n : Nat} (hk : Keeps k0 s) : Keeps k0 (State.enterReset s n) := by
  unfold State.enterReset
  with_reducible repeat' first
    | assumption | apply State.dropTraffic_keeps | apply State.wr_keeps | apply State.parkDie_keeps | apply State.dieLight_keeps
    | apply State.stopBundles_keeps | apply Keeps.ite | apply Keeps.foldl | intro _

theorem State.forcedReset_keeps {k0 s : State} {n : Nat} (hk : Keeps k0 s) : Keeps k0 (State.forcedReset s n) := by
  unfold State.forcedReset
  with_reducible repeat' first
    | assumption | apply State.enterReset_keeps | apply State.resetStart_keeps | (split) | fail_if_no_progress apply Keeps.rec_

theorem State.baseReady_keeps {k0 s : State} {q : Nat} (hk : Keeps k0 s) : Keeps k0 (State.baseReady s q) := by
  unfold State.baseReady
  with_reducible repeat' first
    | assumption | apply State.forcedReset_keeps | apply State.orderlyReset_keeps
    | (extract_lets +onlyGivenNames x; first | (refine Keeps.cut (x := x) ?_ ?_ <;> [dsimp -zeta only [x]; (intro _; clear_value x)]) | clear_value x)
    | (split) | fail_if_no_progress apply Keeps.rec_

theorem State.retireHbm_keeps {k0 s : State} {st : Nat} (hk : Keeps k0 s) : Keeps k0 (State.retireHbm s st) := by
  unfold State.retireHbm
  with_reducible repeat' first
    | assumption | apply State.dropStackHome_keeps | apply State.raise_keeps | apply State.wr_keeps | apply State.setCond_keeps
    | apply State.loseBerths_keeps | (split) | fail_if_no_progress apply Keeps.rec_

theorem State.retireStack_keeps {k0 s : State} {st : Nat} {cause : Nat} (hk : Keeps k0 s) :
    Keeps k0 (State.retireStack s st cause) := by
  unfold State.retireStack
  with_reducible repeat' first
    | assumption | apply State.dieLight_keeps | apply State.retireHbm_keeps | apply State.retireCd_keeps | apply State.retireDie_keeps

theorem State.dieFailed_keeps {k0 s : State} {n : Nat} {check : Nat} (hk : Keeps k0 s) : Keeps k0 (State.dieFailed s n check) := by
  unfold State.dieFailed
  with_reducible repeat' first
    | assumption | apply State.raise_keeps | apply State.wr_keeps | apply State.baseReady_keeps | apply State.retireStack_keeps
    | apply State.setLevel_keeps | apply State.portDies_keeps | apply Keeps.ite | intro _

theorem State.freeDie_keeps {k0 s : State} {d : Nat} (hk : Keeps k0 s) : Keeps k0 (State.freeDie s d) := by
  unfold State.freeDie
  with_reducible repeat' first | assumption | apply State.releaseCore_keeps | apply Keeps.ite | apply Keeps.foldl | intro _

theorem State.dieOpen_keeps {k0 s : State} {n : Nat} {tests : List (Nat × List Nat)} {found : List StartTest} {cal : List Crossing}
    (hk : Keeps k0 s) :
    Keeps k0 (State.dieOpen s n tests found cal) := by
  unfold State.dieOpen
  with_reducible repeat' first
    | assumption | apply State.calibrate_keeps | apply State.wr_keeps | apply State.buildStack_keeps | apply State.failCrossed_keeps
    | apply State.zeroSram_keeps | apply State.startDegraded_keeps | apply State.startTest_keeps | apply State.dieLight_keeps
    | apply State.freeDie_keeps | apply State.baseReady_keeps | apply State.raise_keeps | apply Keeps.ite | apply Keeps.foldl
    | intro _

/-! ## Power -/

theorem State.policyLimited_keeps {k0 s : State} {f : Fld} {i : Nat} (hk : Keeps k0 s) : Keeps k0 (State.policyLimited s f i) := by
  unfold State.policyLimited
  with_reducible repeat' first | assumption | apply State.raise_keeps

theorem State.showFeeds_keeps {k0 s : State} (hk : Keeps k0 s) : Keeps k0 (State.showFeeds s) := by
  unfold State.showFeeds
  with_reducible repeat' first | assumption | apply State.setCond_keeps

theorem State.showPkg_keeps {k0 s : State} (hk : Keeps k0 s) : Keeps k0 (State.showPkg s) := by
  unfold State.showPkg
  with_reducible repeat' first | assumption | apply State.wr_keeps

theorem State.setPwr_keeps {k0 s : State} {p : PwrSt} (hk : Keeps k0 s) : Keeps k0 (State.setPwr s p) := by
  unfold State.setPwr
  with_reducible repeat' first | assumption | fail_if_no_progress apply Keeps.rec_

theorem State.putSource_keeps {k0 s : State} {k : Nat} {v : Nat} (hk : Keeps k0 s) : Keeps k0 (State.putSource s k v) := by
  unfold State.putSource
  with_reducible repeat' first | assumption | apply State.setPwr_keeps

theorem State.showDie_keeps {k0 s : State} {d : Nat} (hk : Keeps k0 s) : Keeps k0 (State.showDie s d) := by
  unfold State.showDie
  with_reducible repeat' first | assumption | apply State.wr_keeps

theorem State.setSource_keeps {k0 s : State} {d : Nat} {code : Nat} {v : Nat} (hk : Keeps k0 s) :
    Keeps k0 (State.setSource s d code v) := by
  unfold State.setSource
  with_reducible repeat' first | assumption | apply State.putSource_keeps | apply State.showDie_keeps | apply State.setPwr_keeps

theorem State.release_keeps {k0 s : State} {k : Nat} (hk : Keeps k0 s) : Keeps k0 (State.release s k) := by
  unfold State.release
  with_reducible repeat' first | assumption | apply State.setPwr_keeps | apply Keeps.ite | intro _

theorem State.haltDie_keeps {k0 s : State} {d : Nat} {code : Nat} {die : Nat} (hk : Keeps k0 s) :
    Keeps k0 (State.haltDie s d code die) := by
  unfold State.haltDie
  with_reducible repeat' first
    | assumption | apply State.parkDie_keeps | apply State.raise_keeps | apply State.setSource_keeps | apply Keeps.ite | intro _
    | fail_if_no_progress apply Keeps.rec_

theorem State.showCaps_keeps {k0 s : State} {d : Nat} (hk : Keeps k0 s) : Keeps k0 (State.showCaps s d) := by
  unfold State.showCaps
  with_reducible repeat' first | assumption | apply State.wr_keeps | apply Keeps.foldl | intro _

theorem State.bandActs_keeps {k0 s : State} {x : Nat} {old : Nat} {new : Nat} (hk : Keeps k0 s) :
    Keeps k0 (State.bandActs s x old new) := by
  unfold State.bandActs
  with_reducible repeat' first
    | assumption | apply State.raise_keeps | apply State.wr_keeps | apply State.setSource_keeps | apply State.release_keeps
    | apply State.haltDie_keeps | apply State.showCaps_keeps | apply State.setPwr_keeps | apply Keeps.ite | intro _

theorem State.baseRange_keeps {k0 s : State} {x : Nat} {temps : List Int} (hk : Keeps k0 s) :
    Keeps k0 (State.baseRange s x temps) := by
  unfold State.baseRange
  with_reducible repeat' first
    | assumption | apply State.setPwr_keeps | apply State.raise_keeps | apply Keeps.ite | apply Keeps.foldl | intro _

theorem State.breakSensors_keeps {k0 s : State} {x : Nat} {l : List (Nat × Bool)} (hk : Keeps k0 s) :
    Keeps k0 (State.breakSensors s x l) := by
  unfold State.breakSensors
  with_reducible repeat' first
    | assumption | apply State.setPwr_keeps | apply State.wr_keeps | apply State.raise_keeps | apply Keeps.ite | apply Keeps.foldl
    | intro _

theorem State.showLimits_keeps {k0 s : State} (hk : Keeps k0 s) : Keeps k0 (State.showLimits s) := by
  unfold State.showLimits
  with_reducible repeat' first | assumption | apply State.setCond_keeps

theorem State.retireBroken_keeps {k0 s : State} {d : Nat} {lost : List Nat} (hk : Keeps k0 s) :
    Keeps k0 (State.retireBroken s d lost) := by
  unfold State.retireBroken
  with_reducible repeat' first | assumption | apply State.failPhysical_keeps | apply Keeps.ite | apply Keeps.foldl | intro _

theorem State.brokenActs_keeps {k0 s : State} {x : Nat} (hk : Keeps k0 s) : Keeps k0 (State.brokenActs s x) := by
  unfold State.brokenActs
  with_reducible repeat' first
    | assumption | apply State.showLimits_keeps | apply State.wr_keeps | apply State.setSource_keeps | apply State.retireBroken_keeps
    | apply State.showCaps_keeps | apply State.showPkg_keeps | apply Keeps.ite | apply Keeps.foldl | intro _

theorem State.mapCaps_keeps {k0 s : State} {d : Nat} {f : Nat → Nat → Nat} (hk : Keeps k0 s) : Keeps k0 (State.mapCaps s d f) := by
  unfold State.mapCaps
  with_reducible repeat' first | assumption | apply State.setPwr_keeps | apply State.showCaps_keeps | apply Keeps.foldl | intro _

theorem State.pkgMove_keeps {k0 s : State} {up : Bool} (hk : Keeps k0 s) : Keeps k0 (State.pkgMove s up) := by
  unfold State.pkgMove
  with_reducible repeat' first | assumption | apply State.setSource_keeps | apply Keeps.foldl | intro _

theorem State.riseActs_keeps {k0 s : State} {x : Nat} (hk : Keeps k0 s) : Keeps k0 (State.riseActs s x) := by
  unfold State.riseActs
  with_reducible repeat' first
    | assumption | apply State.wr_keeps | apply State.raise_keeps | apply State.setSource_keeps | apply State.setPwr_keeps
    | apply State.showCaps_keeps
    | (extract_lets +onlyGivenNames x; first | (refine Keeps.cut (x := x) ?_ ?_ <;> [dsimp -zeta only [x]; (intro _; clear_value x)]) | clear_value x)
    | (split)

theorem State.showParams_keeps {k0 s : State} {x : Nat} (hk : Keeps k0 s) : Keeps k0 (State.showParams s x) := by
  unfold State.showParams
  with_reducible repeat' first | assumption | apply State.setPwr_keeps | apply Keeps.ite | apply Keeps.foldl | intro _ | (split)

theorem State.showRails_keeps {k0 s : State} {q : Nat} (hk : Keeps k0 s) : Keeps k0 (State.showRails s q) := by
  unfold State.showRails
  with_reducible repeat' first | assumption | apply State.wr_keeps | apply Keeps.ite | intro _

theorem State.stackCap_keeps {k0 s : State} {d : Nat} {code : Nat} {on : Bool} {down : Bool} (hk : Keeps k0 s) :
    Keeps k0 (State.stackCap s d code on down) := by
  unfold State.stackCap
  with_reducible repeat' first
    | assumption | apply State.setPwr_keeps | apply State.setSource_keeps | apply State.raise_keeps | apply State.release_keeps
    | apply Keeps.ite | apply Keeps.ite_fst | apply Keeps.foldl | apply Keeps.foldl_fst | intro _

/-! ## Reset -/

theorem State.askReset_keeps {k0 s : State} {cold : Bool} {cause : Nat} (hk : Keeps k0 s) :
    Keeps k0 (State.askReset s cold cause) := by
  unfold State.askReset
  with_reducible repeat' first | assumption | apply State.coldReset_keeps | apply State.warmReset_keeps | apply Keeps.ite | intro _

/-! ## Registers -/

theorem State.showRoles_keeps {k0 s : State} (hk : Keeps k0 s) : Keeps k0 (State.showRoles s) := by
  unfold State.showRoles
  with_reducible repeat' first
    | assumption | apply State.wr_keeps | apply State.linkOff_keeps | apply State.policyLimited_keeps | apply State.linkSettle_keeps
    | apply Keeps.ite | apply Keeps.foldl | intro _

theorem State.writeMsix_keeps {k0 s : State} {p : Nat} {off : Nat} {v : Word} {mask : Word} (hk : Keeps k0 s) :
    Keeps k0 (State.writeMsix s p off v mask) := by
  unfold State.writeMsix
  with_reducible repeat' first | assumption | apply State.setCmd_keeps | apply State.send_keeps | apply Keeps.ite | intro _

theorem State.writeExpert_keeps {k0 s : State} {v : Word} {mask : Word} (hk : Keeps k0 s) :
    Keeps k0 (State.writeExpert s v mask) := by
  unfold State.writeExpert
  with_reducible repeat' first | assumption | apply State.wr_keeps | apply State.bump_keeps | apply Keeps.ite | intro _

theorem State.writeCtr_keeps {k0 s : State} {off : Nat} {v : Word} {mask : Word} (hk : Keeps k0 s) :
    Keeps k0 (State.writeCtr s off v mask) := by
  unfold State.writeCtr
  with_reducible repeat' first | assumption | apply State.setCmd_keeps | apply State.setCounter_keeps | apply Keeps.ite | intro _

theorem State.loadPreset_keeps {k0 s : State} {off : Nat} {code : Nat} (hk : Keeps k0 s) :
    Keeps k0 (State.loadPreset s off code) := by
  unfold State.loadPreset
  with_reducible repeat' first | assumption | apply State.wr_keeps | apply Keeps.ite | apply Keeps.foldl | intro _

theorem State.setupDone_keeps {k0 s : State} (hk : Keeps k0 s) : Keeps k0 (State.setupDone s) := by
  unfold State.setupDone
  with_reducible repeat' first
    | assumption | apply State.policyLimited_keeps | apply Keeps.ite | apply Keeps.foldl | intro _
    | fail_if_no_progress apply Keeps.rec_

theorem State.relink_keeps {k0 s : State} (hk : Keeps k0 s) : Keeps k0 (State.relink s) := by
  unfold State.relink
  with_reducible repeat' first
    | assumption | apply State.btSettle_keeps | apply State.linkSettle_keeps | apply State.linkOff_keeps | apply Keeps.foldl | intro _

theorem State.portEnable_keeps {k0 s : State} {p : Nat} {on : Bool} (hk : Keeps k0 s) : Keeps k0 (State.portEnable s p on) := by
  unfold State.portEnable
  with_reducible repeat' first
    | assumption | apply State.linkSettle_keeps | apply State.linkOff_keeps | apply Keeps.foldl | intro _ | (split)
    | fail_if_no_progress apply Keeps.rec_

theorem State.lsrCmd_keeps {k0 s : State} {m : Nat} {cmd : Nat} (hk : Keeps k0 s) : Keeps k0 (State.lsrCmd s m cmd) := by
  unfold State.lsrCmd
  with_reducible repeat' first
    | assumption | apply State.lsrSwitch_keeps | apply State.lsrPrepareRemove_keeps | apply State.lsrCancelRemove_keeps
    | apply Keeps.ite | intro _

theorem State.fwuCmd_keeps {k0 s : State} {cmd : Nat} {env : FwEnv} (hk : Keeps k0 s) : Keeps k0 (State.fwuCmd s cmd env) := by
  unfold State.fwuCmd
  with_reducible repeat' first
    | assumption | apply State.offerMem_keeps | apply State.cancelImage_keeps | apply State.arm_keeps | apply State.disarm_keeps
    | apply State.commitSvn_keeps | apply State.saveSettings_keeps | apply Keeps.ite | intro _

theorem State.wrote_keeps {k0 s : State} {off : Nat} {w : Word} {m : Word} {old : Word} {env : FwEnv} (hk : Keeps k0 s) :
    Keeps k0 (State.wrote s off w m old env) := by
  unfold State.wrote
  with_reducible repeat' first
    | assumption | apply State.setupDone_keeps | apply State.negCommit_keeps | apply State.hstSwitch_keeps | apply State.wr_keeps
    | apply State.setCmd_keeps | apply State.relink_keeps | apply State.portEnable_keeps | apply State.showRoles_keeps
    | apply State.btSettle_keeps | apply State.showPkg_keeps | apply State.lsrCmd_keeps | apply State.orderlyReset_keeps
    | apply State.forcedReset_keeps | apply State.askReset_keeps | apply State.fwuCmd_keeps | apply State.monLock_keeps
    | apply Keeps.ite | intro _

theorem State.applyWrite_keeps {k0 s : State} {off : Nat} {v : Word} {mask : Word} {mon : Bool} {env : FwEnv} (hk : Keeps k0 s) :
    Keeps k0 (State.applyWrite s off v mask mon env) := by
  unfold State.applyWrite
  with_reducible repeat' first
    | assumption | apply State.writeExpert_keeps | apply State.writeCtr_keeps | apply State.setReg_keeps
    | apply State.loadPreset_keeps | apply State.raise_keeps | apply State.bump_keeps | apply State.wrote_keeps | apply Keeps.ite
    | apply Keeps.foldl | intro _ | (split)

theorem State.portWrite_keeps {k0 s : State} {p : Nat} {off : Nat} {v : Word} {mask : Word} {mon : Bool} {env : FwEnv}
    (hk : Keeps k0 s) :
    Keeps k0 (State.portWrite s p off v mask mon env) := by
  unfold State.portWrite
  with_reducible repeat' first | assumption | apply State.writeMsix_keeps | apply State.applyWrite_keeps | apply Keeps.ite | intro _

theorem State.accessWrite_keeps {k0 s : State} {w : HeldWrite} (hk : Keeps k0 s) : Keeps k0 (State.accessWrite s w) := by
  unfold State.accessWrite
  with_reducible repeat' first | assumption | apply State.portWrite_keeps | intro _ | (split)

theorem State.barAccess_keeps {k0 s : State} {w : HeldWrite} (hk : Keeps k0 s) : Keeps k0 (State.barAccess s w) := by
  unfold State.barAccess
  with_reducible repeat' first
    | assumption | apply State.setFw_keeps | apply State.raise_keeps | apply State.accessWrite_keeps | apply Keeps.ite
    | apply Keeps.ite_fst | apply Keeps.foldl | apply Keeps.foldl_fst | intro _

theorem State.barWrite_keeps {k0 s : State} {off : Nat} {v : Word} {env : optParam FwEnv quietEnv} (hk : Keeps k0 s) :
    Keeps k0 (State.barWrite s off v env) := by
  unfold State.barWrite
  with_reducible repeat' first | assumption | apply State.barAccess_keeps

/-! ## Monitor -/

theorem State.say_keeps {k0 s : State} {l : List String} (hk : Keeps k0 s) : Keeps k0 (State.say s l) := by
  unfold State.say
  with_reducible repeat' first | assumption | apply State.send_keeps | apply Keeps.foldl | intro _

theorem State.monErr_keeps {k0 s : State} {code : Nat} (hk : Keeps k0 s) : Keeps k0 (State.monErr s code) := by
  unfold State.monErr
  with_reducible repeat' first | assumption | apply State.say_keeps

theorem State.monOk_keeps {k0 s : State} {l : List String} (hk : Keeps k0 s) : Keeps k0 (State.monOk s l) := by
  unfold State.monOk
  with_reducible repeat' first | assumption | apply State.say_keeps

theorem State.monVerify_keeps {k0 s : State} {scope : Nat} {minutes : Nat} {data : List Byte} {sig : Bool} (hk : Keeps k0 s) :
    Keeps k0 (State.monVerify s scope minutes data sig) := by
  unfold State.monVerify
  with_reducible repeat' first
    | assumption | apply State.monOk_keeps | apply State.raise_keeps | apply State.wr_keeps | apply State.bump_keeps
    | apply State.monErr_keeps
    | (extract_lets +onlyGivenNames x; first | (refine Keeps.cut (x := x) ?_ ?_ <;> [dsimp -zeta only [x]; (intro _; clear_value x)]) | clear_value x)
    | (split) | fail_if_no_progress apply Keeps.rec_

theorem State.monSignature_keeps {k0 s : State} {bytes : List Byte} {sig : Bool} (hk : Keeps k0 s) :
    Keeps k0 (State.monSignature s bytes sig) := by
  unfold State.monSignature
  with_reducible repeat' first
    | assumption | apply State.monErr_keeps | apply State.monVerify_keeps | intro _ | (split) | fail_if_no_progress apply Keeps.rec_

theorem State.monHelp_keeps {k0 s : State} (hk : Keeps k0 s) : Keeps k0 (State.monHelp s) := by
  unfold State.monHelp
  with_reducible repeat' first | assumption | apply State.monOk_keeps

theorem State.monInfo_keeps {k0 s : State} (hk : Keeps k0 s) : Keeps k0 (State.monInfo s) := by
  unfold State.monInfo
  with_reducible repeat' first | assumption | apply State.monOk_keeps

theorem State.monInv_keeps {k0 s : State} (hk : Keeps k0 s) : Keeps k0 (State.monInv s) := by
  unfold State.monInv
  with_reducible repeat' first | assumption | apply State.monOk_keeps

theorem State.monRd_keeps {k0 s : State} {off : Nat} {count : Nat} (hk : Keeps k0 s) : Keeps k0 (State.monRd s off count) := by
  unfold State.monRd
  with_reducible repeat' first | assumption | apply State.monErr_keeps | apply State.monOk_keeps | apply Keeps.ite | intro _

theorem State.monStatus_keeps {k0 s : State} (hk : Keeps k0 s) : Keeps k0 (State.monStatus s) := by
  unfold State.monStatus
  with_reducible repeat' first | assumption | apply State.monOk_keeps

theorem State.monEvents_keeps {k0 s : State} {n : Nat} (hk : Keeps k0 s) : Keeps k0 (State.monEvents s n) := by
  unfold State.monEvents
  with_reducible repeat' first | assumption | apply State.monErr_keeps | apply State.monOk_keeps | apply Keeps.ite | intro _

theorem State.monThermal_keeps {k0 s : State} (hk : Keeps k0 s) : Keeps k0 (State.monThermal s) := by
  unfold State.monThermal
  with_reducible repeat' first | assumption | apply State.monOk_keeps

theorem State.monPower_keeps {k0 s : State} (hk : Keeps k0 s) : Keeps k0 (State.monPower s) := by
  unfold State.monPower
  with_reducible repeat' first | assumption | apply State.monOk_keeps

theorem State.monLinks_keeps {k0 s : State} {p : Option Nat} (hk : Keeps k0 s) : Keeps k0 (State.monLinks s p) := by
  unfold State.monLinks
  with_reducible repeat' first | assumption | apply State.monOk_keeps | (split)

theorem State.monFabric_keeps {k0 s : State} {e : Nat} (hk : Keeps k0 s) : Keeps k0 (State.monFabric s e) := by
  unfold State.monFabric
  with_reducible repeat' first | assumption | apply State.monOk_keeps

theorem State.monLaser_keeps {k0 s : State} (hk : Keeps k0 s) : Keeps k0 (State.monLaser s) := by
  unfold State.monLaser
  with_reducible repeat' first | assumption | apply State.monOk_keeps

theorem State.monTime_keeps {k0 s : State} (hk : Keeps k0 s) : Keeps k0 (State.monTime s) := by
  unfold State.monTime
  with_reducible repeat' first | assumption | apply State.monOk_keeps

theorem State.monChal_keeps {k0 s : State} {nonce : BitVec 256} (hk : Keeps k0 s) : Keeps k0 (State.monChal s nonce) := by
  unfold State.monChal
  with_reducible repeat' first
    | assumption | apply State.monErr_keeps | apply State.monOk_keeps | (split) | fail_if_no_progress apply Keeps.rec_

theorem State.monUnlock_keeps {k0 s : State} {debug : Bool} {minutes : Nat} (hk : Keeps k0 s) :
    Keeps k0 (State.monUnlock s debug minutes) := by
  unfold State.monUnlock
  with_reducible repeat' first
    | assumption | apply State.monErr_keeps | apply State.say_keeps | (split) | fail_if_no_progress apply Keeps.rec_

theorem State.monScoped_keeps {k0 s : State} {scope : Nat} {f : State → State} (hf : ∀ t , Keeps k0 t → Keeps k0 (f t ))
    (hk : Keeps k0 s) :
    Keeps k0 (State.monScoped s scope f) := by
  unfold State.monScoped
  with_reducible repeat' first | assumption | apply hf | apply State.monErr_keeps | apply Keeps.ite | intro _

theorem State.monTell_keeps {k0 s : State} {c : Nat} {arg : List (Nat × Nat)} (hk : Keeps k0 s) :
    Keeps k0 (State.monTell s c arg) := by
  unfold State.monTell
  with_reducible repeat' first | assumption | apply State.raise_keeps

theorem State.monWr_keeps {k0 s : State} {off : Nat} {v : Word} {mask : Word} {env : FwEnv} (hk : Keeps k0 s) :
    Keeps k0 (State.monWr s off v mask env) := by
  unfold State.monWr
  with_reducible repeat' first
    | assumption | apply State.monErr_keeps | apply State.portWrite_keeps | apply State.monTell_keeps | apply State.monOk_keeps
    | apply Keeps.ite | intro _

theorem State.monSave_keeps {k0 s : State} {env : FwEnv} (hk : Keeps k0 s) : Keeps k0 (State.monSave s env) := by
  unfold State.monSave
  with_reducible repeat' first | assumption | apply State.monOk_keeps | apply State.saveSettings_keeps | apply State.monTell_keeps

theorem State.monReset_keeps {k0 s : State} {cold : Bool} (hk : Keeps k0 s) : Keeps k0 (State.monReset s cold) := by
  unfold State.monReset
  with_reducible repeat' first | assumption | apply State.askReset_keeps | apply State.monOk_keeps | apply State.monTell_keeps

theorem State.monDieReset_keeps {k0 s : State} {n : Nat} {forced : Bool} (hk : Keeps k0 s) :
    Keeps k0 (State.monDieReset s n forced) := by
  unfold State.monDieReset
  with_reducible repeat' first
    | assumption | apply State.monErr_keeps | apply State.monTell_keeps | apply State.monOk_keeps | apply State.forcedReset_keeps
    | apply State.orderlyReset_keeps | apply Keeps.ite | intro _

theorem State.monCoreReset_keeps {k0 s : State} {lc : Nat} (hk : Keeps k0 s) : Keeps k0 (State.monCoreReset s lc) := by
  unfold State.monCoreReset
  with_reducible repeat' first
    | assumption | apply State.monErr_keeps | apply State.monOk_keeps | apply State.resetCore_keeps | apply State.monTell_keeps
    | apply Keeps.ite | intro _

theorem State.monLinkReset_keeps {k0 s : State} {p : Nat} {c : Option Nat} (hk : Keeps k0 s) :
    Keeps k0 (State.monLinkReset s p c) := by
  unfold State.monLinkReset
  with_reducible repeat' first
    | assumption | apply State.monErr_keeps | apply State.linkOff_keeps | apply State.monTell_keeps | apply State.setFifo_keeps
    | apply State.monOk_keeps | apply State.linkSettle_keeps | apply Keeps.ite | apply Keeps.ite_fst | apply Keeps.foldl
    | apply Keeps.foldl_fst | intro _

theorem State.monMemrd_keeps {k0 s : State} {a : Nat} {len : Nat} (hk : Keeps k0 s) : Keeps k0 (State.monMemrd s a len) := by
  unfold State.monMemrd
  with_reducible repeat' first
    | assumption | apply State.monErr_keeps | apply State.monOk_keeps | apply State.monTell_keeps | apply Keeps.ite
    | apply Keeps.ite_fst | apply Keeps.foldl | apply Keeps.foldl_fst | intro _

theorem State.monMemwr_keeps {k0 s : State} {a : Nat} {data : List Byte} (hk : Keeps k0 s) :
    Keeps k0 (State.monMemwr s a data) := by
  unfold State.monMemwr
  with_reducible repeat' first
    | assumption | apply State.monErr_keeps | apply State.monOk_keeps | apply State.store_keeps | apply State.monTell_keeps
    | apply Keeps.ite | apply Keeps.ite_fst | apply Keeps.foldl | apply Keeps.foldl_fst | intro _

theorem State.monUnknown_keeps {k0 s : State} {why : MonErr} (hk : Keeps k0 s) : Keeps k0 (State.monUnknown s why) := by
  unfold State.monUnknown
  with_reducible repeat' first | assumption | apply State.monErr_keeps

theorem State.monDo_keeps {k0 s : State} {c : MonCmd} (hk : Keeps k0 s) : Keeps k0 (State.monDo s c) := by
  unfold State.monDo
  with_reducible repeat' first
    | assumption | apply State.monHelp_keeps | apply State.monInfo_keeps | apply State.monInv_keeps | apply State.monRd_keeps
    | apply State.monStatus_keeps | apply State.monEvents_keeps | apply State.monThermal_keeps | apply State.monPower_keeps
    | apply State.monLinks_keeps | apply State.monFabric_keeps | apply State.monLaser_keeps | apply State.monTime_keeps
    | apply State.monChal_keeps | apply State.monOk_keeps | apply State.monLock_keeps | apply State.monUnlock_keeps
    | apply State.monScoped_keeps | apply State.monWr_keeps | apply State.monSave_keeps | apply State.monReset_keeps
    | apply State.monDieReset_keeps | apply State.monCoreReset_keeps | apply State.monLinkReset_keeps | apply State.monMemrd_keeps
    | apply State.monMemwr_keeps | apply State.monSignature_keeps | apply State.monUnknown_keeps | intro _ | (split)

theorem State.monServe_keeps {k0 s : State} {c : MonCmd} (hk : Keeps k0 s) : Keeps k0 (State.monServe s c) := by
  unfold State.monServe
  with_reducible repeat' first
    | assumption | apply State.monSignature_keeps | apply State.monDo_keeps | (split) | fail_if_no_progress apply Keeps.rec_

theorem State.monLine_keeps {k0 s : State} {c : MonCmd} (hk : Keeps k0 s) : Keeps k0 (State.monLine s c) := by
  unfold State.monLine
  with_reducible repeat' first
    | assumption | apply State.monServe_keeps | apply Keeps.ite | intro _ | fail_if_no_progress apply Keeps.rec_

/-! ## Handover -/

theorem State.endHandover_keeps {k0 s : State} (hk : Keeps k0 s) : Keeps k0 (State.endHandover s) := by
  unfold State.endHandover
  with_reducible repeat' first
    | assumption | apply State.setFw_keeps | apply State.wr_keeps | apply State.barAccess_keeps | apply State.monServe_keeps
    | apply Keeps.foldl | fail_if_no_progress apply Keeps.rec_

/-! ## Lightvessel -/

theorem State.backExposed_keeps {k0 s : State} (hk : Keeps k0 s) : Keeps k0 (State.backExposed s) := by
  unfold State.backExposed
  with_reducible repeat' first | assumption | apply State.lvTo_keeps | apply State.wr_keeps | fail_if_no_progress apply Keeps.rec_

theorem State.openMirror_keeps {k0 s : State} {b : Nat} {max : Nat} (hk : Keeps k0 s) : Keeps k0 (State.openMirror s b max) := by
  unfold State.openMirror
  with_reducible repeat' first
    | assumption | apply State.lvEvent_keeps | refine State.allocate_keeps (by assumption) ?_ | apply State.setBerth_keeps
    | apply Keeps.ite | intro _ | (split) | fail_if_no_progress apply Keeps.rec_

theorem State.syncMirrors_keeps {k0 s : State} {berths : List (Fin 6144 × BitVec 24)} (hk : Keeps k0 s) :
    Keeps k0 (State.syncMirrors s berths) := by
  unfold State.syncMirrors
  with_reducible repeat' first
    | assumption | apply State.freeBerth_keeps | apply State.openMirror_keeps | apply Keeps.foldl | intro _ | (split)
    | fail_if_no_progress apply Keeps.rec_

theorem State.paired_keeps {k0 s : State} {epoch : Nat} {berths : List (Fin 6144 × BitVec 24)} (hk : Keeps k0 s) :
    Keeps k0 (s.paired epoch berths) := by
  have h1 : ∀ e side, Keeps k0 ((s.wr F.LVS_STATUS_EPOCH 0 e).lvEvent 0x0A01 [(1, side), (2, e)]) :=
    fun _ _ => State.lvEvent_keeps (State.wr_keeps hk)
  have h2 : ∀ (u : State) (l : LvSt) (n : Nat), Keeps k0 u → Keeps k0 (({ u with lv := l } : State).lvTo n) :=
    fun u l n hu => State.lvTo_keeps (hu.upd rfl rfl rfl rfl rfl rfl rfl rfl rfl)
  unfold State.paired
  refine Keeps.ite (fun _ => State.pairDone_keeps (Keeps.foldl (fun _ _ => State.checkpoint_keeps) (h2 _ _ _ (h1 _ _)))) (fun _ => ?_)
  dsimp only
  split
  · exact State.finishDesc_keeps (State.syncMirrors_keeps (h2 _ _ _ (h1 _ _)))
  · exact State.syncMirrors_keeps (h2 _ _ _ (h1 _ _))

theorem State.pairFails_keeps {k0 s : State} {status : Nat} (hk : Keeps k0 s) : Keeps k0 (s.pairFails status) := by
  unfold State.pairFails
  dsimp only
  have h0 : ∀ l : LvSt, Keeps k0 ({ s with lv := l } : State) := fun l => hk.upd rfl rfl rfl rfl rfl rfl rfl rfl rfl
  have h1 : ∀ l : LvSt, Keeps k0 (if s.lv.fromExposed = true then ({ s with lv := l } : State).backExposed else ({ s with lv := l }
      : State).lvTo 0) :=
    fun l => Keeps.ite (fun _ => State.backExposed_keeps (h0 l)) (fun _ => State.lvTo_keeps (h0 l))
  split
  · exact State.finishDesc_keeps (h1 _)
  · exact h1 _

theorem State.takeOver_keeps {k0 s : State} (hk : Keeps k0 s) : Keeps k0 (State.takeOver s) := by
  unfold State.takeOver
  with_reducible repeat' first | assumption | apply State.lvAsk_keeps | apply State.lvTo_keeps

theorem State.beat_keeps {k0 s : State} {d : List Byte} {same : Bool} {berths : List (Fin 6144 × BitVec 24)} (hk : Keeps k0 s) :
    Keeps k0 (s.beat d same berths) := by
  unfold State.beat
  dsimp only
  split
  · exact Keeps.ite (fun _ => State.paired_keeps hk) (fun _ => State.pairFails_keeps hk)
  · refine Keeps.ite (fun _ => State.lvFence_keeps hk) (fun _ => Keeps.ite (fun _ => State.lvFence_keeps hk) (fun _ =>
      Keeps.ite (fun _ => ?_) (fun _ => hk)))
    exact State.dropCheckpoints_keeps (State.lvTo_keeps (hk.upd rfl rfl rfl rfl rfl rfl rfl rfl rfl))
  · exact Keeps.ite (fun _ => State.lvFence_keeps hk) (fun _ => Keeps.ite (fun _ => State.lvFence_keeps hk)
      (fun _ => State.lvRelease_keeps (State.lvTo_keeps hk)))
  · exact Keeps.ite (fun _ => State.lvFence_keeps hk) (fun _ => Keeps.ite (fun _ => State.lvFence_keeps hk) (fun _ => hk))
  · exact Keeps.ite (fun _ => State.takeOver_keeps hk) (fun _ => Keeps.ite (fun _ => State.lvTo_keeps (State.closeMirrors_keeps hk))
      (fun _ => State.syncMirrors_keeps (State.wr_keeps hk)))
  · exact hk

theorem State.commitMirrors_keeps {k0 s : State} (hk : Keeps k0 s) : Keeps k0 (State.commitMirrors s) := by
  unfold State.commitMirrors
  with_reducible repeat' first
    | assumption | apply State.freeBerth_keeps | apply State.commitBerth_keeps | apply State.store_keeps | apply Keeps.foldl | intro _
    | (extract_lets +onlyGivenNames x; first | (refine Keeps.cut (x := x) ?_ ?_ <;> [dsimp -zeta only [x]; (intro _; clear_value x)]) | clear_value x)
    | (split) | fail_if_no_progress apply Keeps.rec_

theorem State.notify_keeps {k0 s : State} {p : Pkt} {to_ : List Nat} (hk : Keeps k0 s) : Keeps k0 (State.notify s p to_) := by
  unfold State.notify
  with_reducible repeat' first
    | assumption | apply State.lvIssue_keeps | apply Keeps.ite | apply Keeps.foldl | intro _ | fail_if_no_progress apply Keeps.rec_

theorem State.takeGranted_keeps {k0 s : State} (hk : Keeps k0 s) : Keeps k0 s.takeGranted := by
  have h2 : ∀ (u : State) (l : LvSt) (n : Nat), Keeps k0 u → Keeps k0 (({ u with lv := l } : State).lvTo n) :=
    fun u l n hu => State.lvTo_keeps (hu.upd rfl rfl rfl rfl rfl rfl rfl rfl rfl)
  have key : ∀ (u : State) (c : Nat) (d : List (Nat × Nat)) (p : Pkt) (l : List Nat), Keeps k0 u →
      Keeps k0 ((u.notify p l).commitMirrors.lvEvent c d) :=
    fun _ _ _ _ _ hu => State.lvEvent_keeps (State.commitMirrors_keeps (State.notify_keeps hu))
  have h1 : ∀ e l, Keeps k0 (({ ((s.wr F.LVS_STATUS_EPOCH 0 e).raiseFence s.partner e).raiseFence s.device e with lv := l }
      : State).lvTo 4) :=
    fun _ _ => h2 _ _ _ (State.raiseFence_keeps (State.raiseFence_keeps (State.wr_keeps hk)))
  unfold State.takeGranted
  dsimp only
  split
  · exact State.finishDesc_keeps (key _ _ _ _ _ (h1 _ _))
  · exact key _ _ _ _ _ (h1 _ _)

theorem State.takeLv_keeps {k0 s : State} {op : Nat} {p : Fin 24} {vc : Fin 3} {act : State → Pkt → State}
    (hact : ∀ t z0, Keeps k0 t → Keeps k0 (act t z0)) (hk : Keeps k0 s) :
    Keeps k0 (State.takeLv s op p vc act) := by
  unfold State.takeLv
  with_reducible repeat' first
    | assumption | apply hact | apply State.popPkt_keeps | apply State.landFence_keeps
    | (extract_lets +onlyGivenNames x; first | (refine Keeps.cut (x := x) ?_ ?_ <;> [dsimp -zeta only [x]; (intro _; clear_value x)]) | clear_value x)
    | (split)

/-! ## Management -/

theorem State.mctpAnswer_keeps {k0 s : State} {cmd : Nat} {inst : BitVec 5} {completion : Nat} {payload : List Byte} (hk : Keeps k0 s) :
    Keeps k0 (State.mctpAnswer s cmd inst completion payload) := by
  unfold State.mctpAnswer
  with_reducible repeat' first | assumption | apply State.send_keeps | apply Keeps.ite | intro _

theorem State.takeLeaf_keeps {k0 s t : State} {n : Nat} (he : s.takeLeaf = some (n, t)) (hk : Keeps k0 s) : Keeps k0 t := by
  unfold State.takeLeaf at he
  dsimp only at he
  split at he
  · cases he
  · cases he
    exact State.setFw_keeps hk

/-! ## Matrix -/

theorem State.mapTile_keeps {k0 s : State} {lc : Nat} {e : Nat} {t : Nat} {f : Nat → Word → Word} (hk : Keeps k0 s) :
    Keeps k0 (State.mapTile s lc e t f) := by
  unfold State.mapTile
  with_reducible repeat' first | assumption | apply State.setTile_keeps | apply Keeps.foldl | intro _

theorem State.mmaEffect_keeps {k0 s : State} {lc : Nat} {e : Nat} {op : EngOp} (hk : Keeps k0 s) :
    Keeps k0 (State.mmaEffect s lc e op) := by
  unfold State.mmaEffect
  with_reducible repeat' first
    | assumption | apply State.mapTile_keeps | apply State.store_keeps | (extract_lets +onlyGivenNames x; clear_value x) | (split)

/-! ## Scalar -/

theorem State.loadWord_keeps {k0 s : State} {lc : Nat} {c : Core} {w : W64} {off : Nat} {err : Option Bool} (hk : Keeps k0 s) :
    Keeps k0 (State.loadWord s lc c w off err) := by
  unfold State.loadWord
  with_reducible repeat' first
    | assumption | apply State.coreFault_keeps | apply State.nextPc_keeps | apply State.scratchCorrected_keeps
    | apply State.scratchDouble_keeps
    | (extract_lets +onlyGivenNames x; first | (refine Keeps.cut (x := x) ?_ ?_ <;> [dsimp -zeta only [x]; (intro _; clear_value x)]) | clear_value x)
    | (split)

/-! ## StartUp -/

theorem State.beginStart_keeps {k0 s : State} {k : Nat} (hk : Keeps k0 s) : Keeps k0 (State.beginStart s k) := by
  unfold State.beginStart
  with_reducible repeat' first | assumption | apply State.wr_keeps

theorem State.bootLine_keeps {k0 s : State} {q : Nat} {slot : Option Nat} (hk : Keeps k0 s) :
    Keeps k0 (State.bootLine s q slot) := by
  unfold State.bootLine
  with_reducible repeat' first | assumption | apply State.send_keeps

theorem State.startFail_keeps {k0 s : State} {k : Nat} {part : Nat} (hk : Keeps k0 s) : Keeps k0 (State.startFail s k part).1 := by
  unfold State.startFail
  with_reducible repeat' first
    | assumption | apply State.setFw_keeps | apply State.wr_keeps | apply State.setLevel_keeps | apply State.raise_keeps

theorem State.newBootId_keeps {k0 s : State} {good : BitVec 4} {took : BitVec 2} (hk : Keeps k0 s) :
    Keeps k0 (State.newBootId s good took) := by
  unfold State.newBootId
  with_reducible repeat' first
    | assumption | apply State.setFw_keeps | apply State.raise_keeps | apply State.wr_keeps | apply Keeps.ite | apply Keeps.foldl
    | intro _

theorem State.tenderAtStart_keeps {k0 s : State} (hk : Keeps k0 s) : Keeps k0 (State.tenderAtStart s) := by
  unfold State.tenderAtStart
  with_reducible repeat' first | assumption | apply State.showPieces_keeps | apply State.setTender_keeps

theorem State.startRoom_keeps {k0 s : State} {i : StartIn} {q : Nat} {k : Nat} {bad : List (Nat × Nat)} (hk : Keeps k0 s) :
    Keeps k0 (State.startRoom s i q k bad) := by
  unfold State.startRoom
  with_reducible repeat' first
    | assumption | apply State.setRoom_keeps | apply State.setSlot_keeps | apply State.raise_keeps | apply State.wr_keeps
    | apply State.newBootId_keeps | apply State.fwShow_keeps | apply State.tenderAtStart_keeps | apply State.loadSettings_keeps
    | apply State.newBatch_keeps | apply Keeps.foldl | intro _

theorem State.startImage_keeps {k0 s : State} {i : StartIn} (hk : Keeps k0 s) : Keeps k0 (State.startImage s i).1 := by
  unfold State.startImage
  with_reducible repeat' first
    | assumption | apply State.beginStart_keeps | apply State.setSlot_keeps | apply State.bootLine_keeps | apply State.startFail_keeps
    | apply State.startRoom_keeps | apply Keeps.ite | apply Keeps.foldl | intro _
    | (extract_lets +onlyGivenNames x; first | (refine Keeps.cut (x := x) ?_ ?_ <;> [dsimp -zeta only [x]; (intro _; clear_value x)]) | clear_value x)
    | (split)

theorem State.releaseDie_keeps {k0 s : State} {i : StartIn} {w : Nat → Nat} {d : Nat} (hk : Keeps k0 s) :
    Keeps k0 (State.releaseDie s i w d) := by
  unfold State.releaseDie
  with_reducible repeat' first | assumption | apply State.wr_keeps | apply State.retireDie_keeps | apply Keeps.ite | intro _

theorem State.keptCores_keeps {k0 s : State} (hk : Keeps k0 s) : Keeps k0 (State.keptCores s) := by
  unfold State.keptCores
  with_reducible repeat' first | assumption | apply State.setCore_keeps | apply Keeps.ite | apply Keeps.foldl | intro _

theorem State.dropStack_keeps {k0 s : State} {n : Nat} (hk : Keeps k0 s) : Keeps k0 (State.dropStack s n) := by
  unfold State.dropStack
  with_reducible repeat' first | assumption | apply State.setCond_keeps | apply State.retireCd_keeps

theorem State.degrade_keeps {k0 s : State} {k : Nat} {parts : List Nat} (hk : Keeps k0 s) : Keeps k0 (State.degrade s k parts) := by
  unfold State.degrade
  with_reducible repeat' first | assumption | apply State.raise_keeps | apply State.wr_keeps | (split)

theorem State.startDies_keeps {k0 s : State} {i : StartIn} {cold : Bool} (hk : Keeps k0 s) :
    Keeps k0 (State.startDies s i cold).1 := by
  unfold State.startDies
  with_reducible repeat' first
    | assumption | apply State.beginStart_keeps | apply State.releaseDie_keeps | apply State.startFail_keeps | apply State.wr_keeps
    | apply State.keptCores_keeps | apply State.dropStack_keeps | apply State.setCond_keeps | apply State.retireCores_keeps
    | apply State.degrade_keeps | apply Keeps.ite | apply Keeps.foldl | intro _
    | (extract_lets +onlyGivenNames x; first | (refine Keeps.cut (x := x) ?_ ?_ <;> [dsimp -zeta only [x]; (intro _; clear_value x)]) | clear_value x)
    | (split)

theorem State.showFeatures_keeps {k0 s : State} {i : StartIn} (hk : Keeps k0 s) : Keeps k0 (State.showFeatures s i) := by
  unfold State.showFeatures
  with_reducible repeat' first | assumption | apply State.wr_keeps

theorem State.startBundles_keeps {k0 s : State} {i : StartIn} {cold : Bool} (hk : Keeps k0 s) :
    Keeps k0 (State.startBundles s i cold).1 := by
  unfold State.startBundles
  with_reducible repeat' first
    | assumption | apply State.showFeatures_keeps | apply State.beginStart_keeps | apply State.buildStack_keeps
    | apply State.startDegraded_keeps | apply State.degrade_keeps | apply Keeps.ite_fst | apply Keeps.foldl_fst | intro _

theorem State.bindDie_keeps {k0 s : State} {d : Nat} (hk : Keeps k0 s) : Keeps k0 (State.bindDie s d) := by
  unfold State.bindDie
  with_reducible repeat' first
    | assumption | apply State.setCore_keeps | apply State.wr_keeps | apply State.setCond_keeps | apply Keeps.foldl | intro _
    | (split)

theorem State.startCrossings_keeps {k0 s : State} {i : StartIn} {cold : Bool} (hk : Keeps k0 s) :
    Keeps k0 (State.startCrossings s i cold).1 := by
  unfold State.startCrossings
  with_reducible repeat' first
    | assumption | apply State.calibrate_keeps | apply State.beginStart_keeps | apply State.startFail_keeps
    | apply State.dropStack_keeps | apply State.retireDie_keeps | apply State.retireCd_keeps | apply State.failCrossed_keeps
    | apply State.bindDie_keeps | apply State.setCond_keeps | apply State.degrade_keeps | apply Keeps.ite | apply Keeps.foldl
    | intro _
    | (extract_lets +onlyGivenNames x; first | (refine Keeps.cut (x := x) ?_ ?_ <;> [dsimp -zeta only [x]; (intro _; clear_value x)]) | clear_value x)
    | (split)

theorem State.startModule_keeps {k0 s : State} {i : StartLaser} (hk : Keeps k0 s) : Keeps k0 (State.startModule s i) := by
  unfold State.startModule
  with_reducible repeat' first
    | assumption | apply State.lampRead_keeps | apply State.commission_keeps | apply Keeps.ite | apply Keeps.ite_fst
    | apply Keeps.foldl | apply Keeps.foldl_fst | intro _

theorem State.keepModule_keeps {k0 : State} {s0 : State} {i : StartLaser} (hk : Keeps k0 s0) :
    Keeps k0 (State.keepModule s0 i) := by
  unfold State.keepModule
  with_reducible repeat' first
    | assumption | apply State.lampRead_keeps | apply State.setLaser_keeps | apply State.showLaser_keeps | apply State.wr_keeps
    | apply State.setModState_keeps | apply Keeps.ite | apply Keeps.ite_fst | apply Keeps.foldl | apply Keeps.foldl_fst | intro _

theorem State.startCodes_keeps {k0 s : State} {codes : List (Ring × BitVec 12)} (hk : Keeps k0 s) :
    Keeps k0 (State.startCodes s codes) := by
  unfold State.startCodes
  with_reducible repeat' first
    | assumption | apply State.setRing_keeps | apply Keeps.ite | apply Keeps.foldl | intro _ | fail_if_no_progress apply Keeps.rec_

theorem State.parkRing_keeps {k0 s : State} {k : Nat} (hk : Keeps k0 s) : Keeps k0 (State.parkRing s k) := by
  unfold State.parkRing
  with_reducible repeat' first
    | assumption | apply State.setRing_keeps | apply Keeps.ite | apply Keeps.ite_fst | apply Keeps.foldl | apply Keeps.foldl_fst
    | intro _

theorem State.parkModule_keeps {k0 s : State} {m : Nat} (hk : Keeps k0 s) : Keeps k0 (State.parkModule s m) := by
  unfold State.parkModule
  with_reducible repeat' first
    | assumption | apply State.markLanes_keeps | apply State.parkRing_keeps | apply Keeps.ite | apply Keeps.ite_fst
    | apply Keeps.foldl

theorem State.startLight_keeps {k0 s : State} {i : StartIn} {cold : Bool} (hk : Keeps k0 s) : Keeps k0 (s.startLight i cold).1 := by
  unfold State.startLight
  with_reducible repeat' first
    | assumption | apply Keeps.btZero | apply State.beginStart_keeps | apply State.startModule_keeps | apply State.keepModule_keeps
    | apply State.startCodes_keeps | apply State.parkModule_keeps | apply State.startFail_keeps | apply State.degrade_keeps
    | apply Keeps.ite_fst | apply Keeps.foldl | intro _ | (split)

theorem State.startLanes_keeps {k0 s : State} {i : StartIn} (hk : Keeps k0 s) : Keeps k0 (State.startLanes s i).1 := by
  unfold State.startLanes
  with_reducible repeat' first
    | assumption | apply State.beginStart_keeps | apply State.wr_keeps | apply State.startTest_keeps | apply State.refreshPair_keeps
    | apply State.startFail_keeps | apply State.degrade_keeps | apply Keeps.foldl | intro _
    | (extract_lets +onlyGivenNames x; first | (refine Keeps.cut (x := x) ?_ ?_ <;> [dsimp -zeta only [x]; (intro _; clear_value x)]) | clear_value x)
    | (split)

theorem State.repairRows_keeps {k0 s : State} {i : StartIn} {st : Nat} (hk : Keeps k0 s) : Keeps k0 (State.repairRows s i st) := by
  unfold State.repairRows
  with_reducible repeat' first
    | assumption | apply State.raise_keeps | apply State.wr_keeps
    | (extract_lets +onlyGivenNames x; first | (refine Keeps.cut (x := x) ?_ ?_ <;> [dsimp -zeta only [x]; (intro _; clear_value x)]) | clear_value x)
    | (split) | fail_if_no_progress apply Keeps.rec_

theorem State.startHbm_keeps {k0 s : State} {i : StartIn} {cold : Bool} (hk : Keeps k0 s) :
    Keeps k0 (State.startHbm s i cold).1 := by
  unfold State.startHbm
  with_reducible repeat' first
    | assumption | apply State.beginStart_keeps | apply State.wr_keeps | apply State.repairRows_keeps | apply State.startFail_keeps
    | apply State.setCond_keeps | apply State.degrade_keeps | apply Keeps.ite | apply Keeps.ite_fst | apply Keeps.foldl
    | apply Keeps.foldl_fst | intro _

theorem State.featureLack_keeps {k0 s : State} {i : StartIn} {f : Nat} (hk : Keeps k0 s) : Keeps k0 (State.featureLack s i f) := by
  unfold State.featureLack
  with_reducible repeat' first
    | assumption | apply State.raise_keeps | apply Keeps.ite | apply Keeps.ite_fst | apply Keeps.foldl | apply Keeps.foldl_fst
    | intro _

theorem State.startCaps_keeps {k0 s : State} {i : StartIn} (hk : Keeps k0 s) : Keeps k0 (State.startCaps s i).1 := by
  unfold State.startCaps
  with_reducible repeat' first
    | assumption | apply State.setReg_keeps | apply State.beginStart_keeps | apply State.startFail_keeps | apply State.wr_keeps
    | apply State.showFeatures_keeps | apply State.featureLack_keeps | apply State.degrade_keeps | apply Keeps.foldl | intro _
    | (extract_lets +onlyGivenNames x; first | (refine Keeps.cut (x := x) ?_ ?_ <;> [dsimp -zeta only [x]; (intro _; clear_value x)]) | clear_value x)
    | (split)

theorem State.unlitFilter_keeps {k0 s : State} {r : Ring} (hk : Keeps k0 s) : Keeps k0 (State.unlitFilter s r) := by
  unfold State.unlitFilter
  with_reducible repeat' first | assumption | apply State.parkRing_keeps | apply Keeps.ite | (split)

theorem State.startPorts_keeps {k0 s : State} {i : StartIn} (hk : Keeps k0 s) : Keeps k0 (State.startPorts s i).1 := by
  unfold State.startPorts
  with_reducible repeat' first
    | assumption | apply State.unlitFilter_keeps | apply State.showRoles_keeps | apply State.beginStart_keeps
    | apply State.linkSettle_keeps | apply State.laneTest_keeps | apply State.identIn_keeps | apply State.linkAlign_keeps
    | apply State.degrade_keeps | apply Keeps.ite | apply Keeps.ite_fst | apply Keeps.foldl | apply Keeps.foldl_fst | intro _

theorem State.hostBoot_keeps {k0 s : State} {i : StartIn} (hk : Keeps k0 s) : Keeps k0 (State.hostBoot s i) := by
  unfold State.hostBoot
  with_reducible repeat' first
    | assumption | apply State.setCmd_keeps | apply State.wr_keeps | apply State.raise_keeps | apply Keeps.foldl | intro _ | (split)

theorem State.startIslands_keeps {k0 s : State} (hk : Keeps k0 s) : Keeps k0 (State.startIslands s) := by
  unfold State.startIslands
  with_reducible repeat' first
    | assumption | apply State.wr_keeps | apply Keeps.ite | apply Keeps.ite_fst | apply Keeps.foldl | apply Keeps.foldl_fst | intro _

theorem State.startRelease_keeps {k0 s : State} {i : StartIn} {cold : Bool} (hk : Keeps k0 s) :
    Keeps k0 (State.startRelease s i cold).1 := by
  unfold State.startRelease
  with_reducible repeat' first
    | assumption | apply State.showReady_keeps | apply State.hostBoot_keeps | apply State.beginStart_keeps | apply State.setFw_keeps
    | apply State.wr_keeps | apply State.raise_keeps | apply State.btSettle_keeps | apply State.startIslands_keeps
    | apply State.fwSettle_keeps | apply State.showFeeds_keeps | apply State.showPkg_keeps | fail_if_no_progress apply Keeps.rec_

theorem Started.andThen_keeps {k0 : State} {r : Started} {f : State → Started} (hf : ∀ t, Keeps k0 t → Keeps k0 (f t).1)
    (hr : Keeps k0 r.1) :
    Keeps k0 (r.andThen f).1 := by
  unfold Started.andThen
  split
  · exact hf _ hr
  · exact hr

theorem Started.inTime_keeps {k0 : State} {r : Started} {i : StartIn} {cold : Bool} {k : Nat} (hr : Keeps k0 r.1) :
    Keeps k0 (r.inTime i cold k).1 := by
  unfold Started.inTime
  split
  · exact State.startFail_keeps hr
  · exact hr

theorem Started.rest_keeps {k0 : State} {r : Started} {i : StartIn} {cold : Bool} (hr : Keeps k0 r.1) : Keeps k0 (r.rest i cold) := by
  have go : ∀ {r : Started} {k : Nat} {f : State → Started}, (∀ t, Keeps k0 t → Keeps k0 (f t).1) → Keeps k0 r.1 →
      Keeps k0 ((r.andThen f).inTime i cold k).1 := fun hf h => inTime_keeps (andThen_keeps hf h)
  unfold Started.rest
  refine andThen_keeps (fun _ => State.startRelease_keeps) (inTime_keeps (go (fun _ => State.startPorts_keeps) (go
    (fun _ => State.startCaps_keeps) (go (fun _ => State.startHbm_keeps) (go (fun _ => State.startLanes_keeps)
    (go (fun _ => State.startLight_keeps) (go (fun _ => State.startCrossings_keeps) (go
    (fun _ => State.startBundles_keeps) (go (fun _ => State.startDies_keeps) (go
    (fun _ => State.startImage_keeps) hr))))))))))

theorem State.missedExchanges_keeps {k0 s : State} (hk : Keeps k0 s) : Keeps k0 (State.missedExchanges s) := by
  unfold State.missedExchanges
  with_reducible repeat' first
    | assumption | apply State.btSettle_keeps | apply State.raise_keeps | apply State.wr_keeps | apply Keeps.ite | apply Keeps.ite_fst
    | apply Keeps.foldl | apply Keeps.foldl_fst | intro _

theorem State.startFeeds_keeps {k0 s : State} {i : StartIn} (hk : Keeps k0 s) : Keeps k0 (s.startFeeds i).1 := by
  unfold State.startFeeds
  split
  · exact State.startFail_keeps hk
  · exact Started.andThen_keeps (fun t h => Started.inTime_keeps (r := (t.beginStart 2, true)) (State.beginStart_keeps h))
      (Started.inTime_keeps (r := (s, true)) hk)

theorem State.tellCause_keeps {k0 s : State} (hk : Keeps k0 s) : Keeps k0 (State.tellCause s) := by
  unfold State.tellCause
  with_reducible repeat' first | assumption | apply State.raise_keeps

/-! ## Transfer -/

theorem storePieces_keeps {k0 : State} {dst : Nat} {ps : List (Nat × List Byte)} {s : State} (hk : Keeps k0 s) :
    Keeps k0 (storePieces dst ps s) := by
  unfold storePieces
  with_reducible repeat' first | assumption | apply State.store_keeps | apply Keeps.foldl | intro _

/-! ## TransferRun -/

theorem State.failOp_keeps {k0 s : State} {lc : Nat} {q : Nat} {r : RunOp} {cause : Nat} {status : Nat} (hk : Keeps k0 s) :
    Keeps k0 (State.failOp s lc q r cause status) := by
  unfold State.failOp
  with_reducible repeat' first | assumption | apply State.wake_keeps | apply State.faultWith_keeps | apply State.setCore_keeps

theorem State.convRow_keeps {k0 s : State} {src dst len fi fo : Nat} (hk : Keeps k0 s) : Keeps k0 (s.convRow src dst len fi fo).st := by
  unfold State.convRow
  exact storePieces_keeps hk

theorem State.copyRow_keeps {k0 s : State} {p src dst len fi fo : Nat} (hk : Keeps k0 s)
    : Keeps k0 (State.copyRow p s src dst len fi fo).st := by
  unfold State.copyRow
  repeat' split
  all_goals first | exact hk | exact State.copyRaw_keeps hk | exact State.convRow_keeps hk

theorem State.copyRows_keeps {k0 s : State} {p fi fo : Nat} {l : List (Nat × Nat × Nat)} (hk : Keeps k0 s) :
    Keeps k0 (State.copyRows p fi fo l s).st := by
  induction l generalizing s with
  | nil => exact hk
  | cons e r ih =>
    obtain ⟨a, b, n⟩ := e
    have h : Keeps k0 (State.copyRow p s a b n fi fo).st := State.copyRow_keeps hk
    unfold State.copyRows
    split
    · rename_i g; rw [g] at h; exact ih h
    · exact h

theorem State.indexRows_keeps {k0 s : State} {lc size idx n i : Nat} {base flat : XAddr} {gather : Bool} (hk : Keeps k0 s) :
    Keeps k0 (State.indexRows lc base flat size idx gather n i s).st := by
  induction n generalizing s i with
  | zero => exact hk
  | succ n ih =>
    unfold State.indexRows
    dsimp only
    split
    · exact hk
    · split
      · exact hk
      · rename_i e _
        have h : Keeps k0 (if gather = true then State.copyRow (16 + lc / 16) s e (flat.dpaOf lc + i * size) size 0 0
            else State.copyRow (16 + lc / 16) s (flat.dpaOf lc + i * size) e size 0 0).st := by split <;> exact State.copyRow_keeps hk
        generalize (if gather = true then State.copyRow (16 + lc / 16) s e (flat.dpaOf lc + i * size) size 0 0
            else State.copyRow (16 + lc / 16) s (flat.dpaOf lc + i * size) e size 0 0) = m at h ⊢
        obtain ⟨s1, _ | f⟩ := m
        · exact ih h
        · exact h

theorem State.kvRows_keeps {k0 s : State} {q page rec layers plist layer fi fo n t area : Nat} {put : Bool} (hk : Keeps k0 s) :
    Keeps k0 (State.kvRows q page rec layers plist layer fi fo put n t area s).st := by
  induction n generalizing s t area with
  | zero => exact hk
  | succ n ih =>
    unfold State.kvRows
    dsimp only
    split
    · exact hk
    · rename_i p _
      have h : Keeps k0 (if put = true then State.copyRow q s area p (kvAreaLen fi fo rec put) fi fo
          else State.copyRow q s p area rec fi fo).st := by split <;> exact State.copyRow_keeps hk
      generalize (if put = true then State.copyRow q s area p (kvAreaLen fi fo rec put) fi fo else State.copyRow q s p area rec fi fo) = m at h ⊢
      obtain ⟨s1, _ | f⟩ := m
      · exact ih h
      · exact h

theorem State.moveLocal_keeps {k0 s : State} {lc : Nat} {op : EngOp} {snap : List Nat} (hk : Keeps k0 s) :
    Keeps k0 (s.moveLocal lc op snap).st := by
  unfold State.moveLocal
  dsimp only
  split
  · exact State.copyRows_keeps hk
  · exact State.copyRows_keeps hk
  · exact State.indexRows_keeps hk
  · exact State.indexRows_keeps hk
  · exact State.kvRows_keeps hk

theorem State.endLocal_keeps {k0 s : State} {lc q : Nat} {r : RunOp} (hk : Keeps k0 s) : Keeps k0 (s.endLocal lc q r) := by
  have hm : Keeps k0 (s.moveLocal lc r.op r.berth).st := State.moveLocal_keeps hk
  unfold State.endLocal
  split
  · rename_i h
    rw [h] at hm
    exact State.finishOp_keeps hm
  · exact hk
  · rename_i h
    rw [h] at hm
    exact State.failOp_keeps hm

theorem State.endRemote_keeps {k0 s : State} {lc : Nat} {q : Nat} {r : RunOp} (hk : Keeps k0 s) :
    Keeps k0 (State.endRemote s lc q r) := by
  unfold State.endRemote
  with_reducible repeat' first | assumption | apply State.failOp_keeps | apply State.finishOp_keeps | (split)

theorem State.noteRemote_keeps {k0 s : State} {lc : Nat} {q : Nat} {id : Nat} {failed : Option Nat} {tag : Nat}
    {ps : List (Nat × Nat)} (hk : Keeps k0 s) :
    Keeps k0 (State.noteRemote s lc q id failed tag ps) := by
  unfold State.noteRemote
  with_reducible repeat' first | assumption | apply State.setCore_keeps

theorem State.opFaultWith_keeps {k0 s : State} {lc : Nat} {q : Nat} {op : EngOp} {rest : List EngOp} {cause : Nat} {status : Nat}
    (hk : Keeps k0 s) :
    Keeps k0 (State.opFaultWith s lc q op rest cause status) := by
  unfold State.opFaultWith
  with_reducible repeat' first | assumption | apply State.faultWith_keeps | apply State.setCore_keeps

theorem State.ownTarget_keeps {k0 s : State} {lc : Nat} {op : EngOp} (hk : Keeps k0 s) : Keeps k0 (State.ownTarget s lc op).1 := by
  unfold State.ownTarget
  with_reducible repeat' first | assumption | apply State.store_keeps | apply State.applyAtomic_keeps | apply Keeps.ite_fst | intro _

theorem State.startLocal_keeps {k0 s : State} {lc : Nat} {q : Nat} {op : EngOp} {rest : List EngOp} (hk : Keeps k0 s) :
    Keeps k0 (State.startLocal s lc q op rest) := by
  unfold State.startLocal
  with_reducible repeat' first
    | assumption | apply State.opFault_keeps | apply State.opFaultWith_keeps | apply State.askHomes_keeps | apply State.wake_keeps
    | apply State.setCore_keeps | (extract_lets +onlyGivenNames x; clear_value x) | (split)

theorem State.startRemote_keeps {k0 s : State} {lc : Nat} {st : Nat} {op : EngOp} {rest : List EngOp} (hk : Keeps k0 s) :
    Keeps k0 (State.startRemote s lc st op rest) := by
  unfold State.startRemote
  with_reducible repeat' first
    | assumption | apply State.flushStream_keeps | apply State.opFaultWith_keeps | apply State.wake_keeps | apply State.setCore_keeps
    | apply State.ownTarget_keeps | apply State.noteRemote_keeps | apply State.sendOn_keeps
    | (extract_lets +onlyGivenNames x; first | (refine Keeps.cut (x := x) ?_ ?_ <;> [dsimp -zeta only [x]; (intro _; clear_value x)]) | (refine Keeps.cutP (x := x) ?_ ?_ <;> [dsimp -zeta only [x]; (intro _; clear_value x)]) | clear_value x)
    | (split) | fail_if_no_progress apply Keeps.rec_

end Sys2Proof.Machine
end

