-- ==== Sys2Proof/Tests/Slice0.lean ====
section
/-!
SUPPORT. Tests: witnesses of the statements' hypotheses on small states, results the spec's examples give, and the checks of
WellFormed.
-/
namespace Sys2Proof.Tests
open Sys2Proof.Machine Sys2Proof.Spec
set_option Elab.async false

/-- A core that runs the word `w` and has one more instruction behind it. -/
def seqCore (w : W64) : Core := { cstate := .running, code := [w, 0] }

/-- Core 0 runs `c`, after reset. -/
def onCore (c : Core) : State := State.reset.setCore 0 c

/-- A word of major opcode `n` with the low bits `r`. -/
def opw (n r : Nat) : W64 := BitVec.ofNat 64 (n * 2 ^ 56 + r)

/-- A descriptor of 128 bytes with fields (offset, bytes, value). -/
def descOf (l : List (Nat × Nat × Nat)) : List Byte :=
  l.foldl (fun (b : List Byte) (f : Nat × Nat × Nat) => b.take f.1 ++ leBytes f.2.1 f.2.2 ++ b.drop (f.1 + f.2.1)) (List.replicate 128 0)

/-- Accepted descriptor 1 of ring 31, with those fields. -/
def desc1 (l : List (Nat × Nat × Nat)) : Desc := { ring := 31, seq := 1, bytes := descOf l }

/-- The state after reset, in role PROMPT, with that descriptor accepted. -/
def withDesc (l : List (Nat × Nat × Nat)) : State :=
  (State.reset.setCmd { State.reset.cmd with descs := [desc1 l] }).wr F.BRT_ROLE_ROLE 0 1

/-- What `starts` asks of it. -/
def startsNow (l : List (Nat × Nat × Nat)) : Bool :=
  (withDesc l).desc 1 == some (desc1 l) && (withDesc l).canStart 1 && !(withDesc l).lvHolds (desc1 l) &&
  (withDesc l).rd F.LVS_STATUS_STATE != 7 && (withDesc l).roleOk (desc1 l)

/-- Stack 0 in the map, the host present, window 0 over the first MiB of stack 0's view with key 0, this device number 0 with an
active link to device 1, and its paths to stack 0 and to the host. -/
def wired (s : State) : State :=
  [(F.MEM_MAP_STACKS, 0, 1), (F.MEM_MAP_N, 0, 1), (F.HST_CTRL_HOST_ABSENT, 0, 0), (F.MEM_WIN_BASE_HI_BASE_HI, 0, 0x200), (F.MEM_WIN_SIZE_SIZE, 0, 256),
   (F.MEM_WIN_CTRL_ENABLE, 0, 1), (F.MEM_WIN_CTRL_READ, 0, 1), (F.MEM_WIN_CTRL_WRITE, 0, 1), (F.MEM_WIN_CTRL_ATOMIC, 0, 1),
   (F.PRT_IDENT_VALID, 0, 1), (F.PRT_LINK_STATE, 1, 6), (F.HST_PORT_LINK_UP, 0, 1), (F.FAB_PAIR_UP, 192, 1), (F.FAB_PAIR_UP, 12, 1)].foldl (fun (s : State) (e : Fld × Nat × Nat) => s.wr e.1 e.2.1 e.2.2) s

/-- Words of a packet that wait first in the FIFO of port 23 on channel 2. -/
def waitingSt (s : State) (b : List Byte) : State := s.setFifo 23 2 [(0, b)]

def pktAt (op : Nat) : Pkt := { op := op, source := 1, e := 3, seq := 5, bootId := 9, addr := 64, len := 8, data := [1, 2, 3, 4, 5, 6, 7, 8] }

/-- A request of device 1 in the FIFO of a state. -/
def arrivedSt (op : Nat) : State := waitingSt State.reset (pktAt op).bytes

/-- A forward of I/O die 3 in a phase, of an operation on one line. -/
def fwdAt (op phase : Nat) : Fwd := { tag := 7, pkt := { pktAt op with bootId := 0, seq := 1, addr := 0x38000000000 }, phase := phase }

def fwdSt (op phase : Nat) : State :=
  let s := (State.reset.wr F.FAB_PAIR_UP 240 1).wr F.FAB_PAIR_UP 15 1
  { s with rack := { s.rack with fwds := [(3, [fwdAt op phase])] } }

/-- A response in the FIFO of a state in which request `op` to device 1 is not acknowledged. -/
def rspAt (op : Nat) : Rsp := { op := op, e := 3, seq := 5, responder := 1, status := 0x20, data := [9] }

def sentReq (op tries : Nat) : Req := { q := 0, pkt := { pktAt op with target := 1, source := 0, bootId := 0 }, tries := tries }

def answeredSt (op rsp : Nat) : State := waitingSt (State.reset.setPair 3 1 { next := 6, sent := [sentReq op 0] }) (rspAt rsp).bytes

/-- A lightvessel descriptor of a sub-type and side that names device 1. -/
def vesselF (kind side : Nat) : List (Nat × Nat × Nat) := [(0, 1, 0xF), (0x10, 1, kind), (0x11, 1, side), (0x12, 2, 1), (0x14, 4, 5)]

def lvIn (s : State) (n : Nat) : State := s.wr F.LVS_STATUS_STATE 0 n

/-- A lightvessel packet of device 0 in the FIFO. -/
def lvPktAt (op side flags epoch : Nat) : Pkt := { op := op, e := 15, len := 32, data := lvData 5 side flags epoch 1 1 }

def vesselSt (s : State) (op side flags epoch : Nat) : State := waitingSt { s with lv := { s.lv with pairId := 5 } } (lvPktAt op side flags epoch).bytes

/-- An instant of a handover with `n` writes in its log. -/
def handing (n : Nat) : State := (State.reset.wr F.FWU_STATUS_HANDOVER 0 1).setFw
  { State.reset.fw with held := List.replicate n ⟨0, 0, 0, none, quietEnv⟩ }

/-- An image header's bytes: magic, format, hardware, record versions 0 to `ho`, one piece. -/
def hdrAt (version ho : Nat) : List Byte :=
  leBytes 4 0x46574D4C ++ leBytes 2 1 ++ [0, 0] ++ leBytes 4 0x4D31 ++ List.replicate 20 0 ++ leBytes 8 version ++ List.replicate 4 0 ++
  leBytes 4 1 ++ leBytes 8 65536 ++ List.replicate 6 0 ++ leBytes 2 ho

/-- Watch room 0 ACTIVE, room 1 in a role, the tender in a state. -/
def roomsSt (role tender : Nat) : State :=
  ((State.reset.setRoom 0 { role := 3, hdr := hdrAt 1 1, verified := true }).setRoom 1
    { role := role, hdr := hdrAt 1 1, verified := true, failAt := 5 }).setTender tender

/-- A record without sections. -/
def recordAt : List Byte :=
  let b := leBytes 4 0x44524F48 ++ leBytes 2 1 ++ leBytes 2 0 ++ leBytes 4 64 ++ List.replicate 52 0
  b.take 60 ++ leBytes 4 (crc32c b)

/-! ## Ill-formed commands are refused -/

theorem test_wf_descriptor_fetch : ¬ (Instr.descriptorFetch 0 []).WellFormed := by unfold Instr.WellFormed; decide

theorem test_wf_flit_length : ¬ (Instr.flitReceive (.pair 0 1) []).WellFormed := by unfold Instr.WellFormed; decide

theorem test_wf_flit_pair : ¬ (Instr.flitReceive (.pair 3 3) (List.replicate 272 0)).WellFormed := by unfold Instr.WellFormed; decide

theorem test_wf_flit_link : ¬ (Instr.flitReceive (.link 32) (List.replicate 272 0)).WellFormed := by unfold Instr.WellFormed; decide

theorem test_wf_bundle_beat : ¬ (Instr.bundleBeatReceive 0 [] 0 0 true).WellFormed := by unfold Instr.WellFormed; decide

theorem test_wf_attest : ¬ (Instr.attest 0 []).WellFormed := by unfold Instr.WellFormed; decide

theorem test_wf_fw_offer : ¬ (Instr.fwOffer 0 [] [] quietEnv).WellFormed := by unfold Instr.WellFormed; decide

theorem test_wf_cxl_mem_write : ¬ (Instr.cxlMemWrite 0 0 []).WellFormed := by unfold Instr.WellFormed; decide

theorem test_wf_cxl_mem_write_line : ¬ (Instr.cxlMemWrite 0 63 [0, 0]).WellFormed := by unfold Instr.WellFormed; decide

theorem test_wf_home_read : ¬ (Instr.homeAccess 0 (.read 0) []).WellFormed := by unfold Instr.WellFormed; decide

theorem test_wf_home_write : ¬ (Instr.homeAccess 0 (.write []) []).WellFormed := by unfold Instr.WellFormed; decide

theorem test_wf_link_aligned : ¬ (Instr.linkAligned 32).WellFormed := by unfold Instr.WellFormed; decide

theorem test_wf_paused_timeout : ¬ (Instr.pausedTimeout 0).WellFormed := by unfold Instr.WellFormed; decide

theorem test_wf_lane_pause : ¬ (Instr.lanePause 64 0).WellFormed := by unfold Instr.WellFormed; decide

theorem test_wf_lane_test_pair : ¬ (Instr.laneTestDone (.pair 2 2 0) ⟨0, 64, 0, 0, 0⟩).WellFormed := by unfold Instr.WellFormed; decide

theorem test_wf_lane_test_link : ¬ (Instr.laneTestDone (.link 0) ⟨0, 64, 0, 0, 0⟩).WellFormed := by unfold Instr.WellFormed; decide

theorem test_wf_handover_record : ¬ (Instr.handoverRecord [] quietEnv).WellFormed := by unfold Instr.WellFormed; decide

theorem test_wf_rd_none : ¬ (Instr.rd 0 0).WellFormed := by unfold Instr.WellFormed; decide

theorem test_wf_rd_many : ¬ (Instr.rd 0 65).WellFormed := by unfold Instr.WellFormed; decide

theorem test_wf_events_none : ¬ (Instr.events 0).WellFormed := by unfold Instr.WellFormed; decide

theorem test_wf_events_many : ¬ (Instr.events 65).WellFormed := by unfold Instr.WellFormed; decide

theorem test_wf_unlock_none : ¬ (Instr.unlock false 0).WellFormed := by unfold Instr.WellFormed; decide

theorem test_wf_unlock_long : ¬ (Instr.unlock false 241).WellFormed := by unfold Instr.WellFormed; decide

theorem test_wf_linkreset : ¬ (Instr.linkreset 0 (some 0)).WellFormed := by unfold Instr.WellFormed; decide

theorem test_wf_memrd_align : ¬ (Instr.memrd 4 8).WellFormed := by unfold Instr.WellFormed; decide

theorem test_wf_memrd_length : ¬ (Instr.memrd 0 4).WellFormed := by unfold Instr.WellFormed; decide

theorem test_wf_memrd_none : ¬ (Instr.memrd 0 0).WellFormed := by unfold Instr.WellFormed; decide

theorem test_wf_memrd_long : ¬ (Instr.memrd 0 4104).WellFormed := by unfold Instr.WellFormed; decide

theorem test_wf_memwr_align : ¬ (Instr.memwr 4 (List.replicate 8 0)).WellFormed := by unfold Instr.WellFormed; decide

theorem test_wf_memwr_short : ¬ (Instr.memwr 0 []).WellFormed := by unfold Instr.WellFormed; decide

theorem test_wf_memwr_line : ¬ (Instr.memwr 56 (List.replicate 16 0)).WellFormed := by unfold Instr.WellFormed; decide

/-- What start-up is told, with `n` strap words, `c` capability words, the core masks of `d` dies and the times of `m` steps. -/
def told (n c d m : Nat) : StartIn :=
  { feed := none, straps := List.replicate n 0, factory := List.replicate 5332 0, valid := 0, idValid := 0, idFlash := 0, keyOk := true,
    silent := [], goodCores := List.replicate d 0, lanes := [], crossings := [], codes := [], lasers := [], tests := [], ppr := [],
    trained := 0, caps := List.replicate c 0, loops := [], unlit := [], idents := [], boot := none, ddr := 0,
    times := List.replicate m 0, slow := 0 }

theorem test_wf_start : ∀ i ∈ [told 32 33 12 13, told 33 32 12 13, told 33 33 11 13, told 33 33 12 12], ¬ (Instr.coldStart i).WellFormed ∧
    ¬ (Instr.warmStart i).WellFormed ∧ ¬ (Instr.refclkReturn i).WellFormed := by
  unfold Instr.WellFormed; decide +kernel

theorem test_wf_started : (Instr.coldStart (told 33 33 12 13)).WellFormed ∧ ¬ (Instr.coldStart { told 33 33 12 13 with factory := [] }).WellFormed := by
  unfold Instr.WellFormed; decide +kernel

/-- A word whose major opcode is no row's is refused for every row of a sequencer. -/
theorem test_wf_words : ∀ c ∈ ([.nop, .add, .sub, .and, .or, .xor, .sll, .srl,
      .sra, .mul, .mulhu, .slt, .sltu, .min, .max, .addi,
      .andi, .ori, .xori, .slli, .srli, .srai, .lih, .amov,
      .aadd, .aaddi, .ard, .sts, .beq, .bne, .blt, .bge,
      .bltu, .bgeu, .jmp, .call, .ret, .loop, .signal, .wait,
      .waitbt, .fence, .fenceE, .semrd, .halt, .rdbt, .rdcyc, .rdslip,
      .mac, .macZero, .mmaDrain, .mmaLoad, .mmaZero, .vopCopy, .vopAdd, .vopSub,
      .vopMul, .vopFma, .vopMax, .vopMin, .vopAbs, .vopNeg, .vopScale, .vopAdds,
      .vopExp2, .vopLog2, .vopRsqrt, .vopSin, .vopCos, .vopRcp, .vopRsum, .vopRmax,
      .vopSmxstep, .vopRescale, .vopRng, .vopUnif, .vopPick, .xferCopy, .xferCopy2d, .xferGather,
      .xferScatter, .xferKvwalk, .xferKvput, .xferRload, .xferRstore, .xferRatomic, .xferBulkPut, .xferBulkGet] : List (Fin 192 → W64 → Instr)),
    ¬ (c 0 (opw 0xFF 0)).WellFormed := by unfold Instr.WellFormed; decide

/-- Nor may the word carry the code of another row of its major opcode. -/
theorem test_wf_codes : ∀ c ∈ ([.mac 0 (opw 0x40 (1 * 2 ^ 51)), .macZero 0 (opw 0x40 (2 * 2 ^ 51)), .mmaDrain 0 (opw 0x40 (3 * 2 ^ 51)), .mmaLoad 0 (opw 0x40 (4 * 2 ^ 51)), .mmaZero 0 (opw 0x40 (5 * 2 ^ 51)), .vopCopy 0 (opw 0x48 (1 * 2 ^ 50)), .vopAdd 0 (opw 0x48 (2 * 2 ^ 50)), .vopSub 0 (opw 0x48 (3 * 2 ^ 50)),
      .vopMul 0 (opw 0x48 (4 * 2 ^ 50)), .vopFma 0 (opw 0x48 (5 * 2 ^ 50)), .vopMax 0 (opw 0x48 (6 * 2 ^ 50)), .vopMin 0 (opw 0x48 (7 * 2 ^ 50)), .vopAbs 0 (opw 0x48 (8 * 2 ^ 50)), .vopNeg 0 (opw 0x48 (9 * 2 ^ 50)), .vopScale 0 (opw 0x48 (10 * 2 ^ 50)), .vopAdds 0 (opw 0x48 (11 * 2 ^ 50)),
      .vopExp2 0 (opw 0x48 (17 * 2 ^ 50)), .vopLog2 0 (opw 0x48 (18 * 2 ^ 50)), .vopRsqrt 0 (opw 0x48 (19 * 2 ^ 50)), .vopSin 0 (opw 0x48 (20 * 2 ^ 50)), .vopCos 0 (opw 0x48 (21 * 2 ^ 50)), .vopRcp 0 (opw 0x48 (22 * 2 ^ 50)), .vopRsum 0 (opw 0x48 (33 * 2 ^ 50)), .vopRmax 0 (opw 0x48 (34 * 2 ^ 50)),
      .vopSmxstep 0 (opw 0x48 (35 * 2 ^ 50)), .vopRescale 0 (opw 0x48 (36 * 2 ^ 50)), .vopRng 0 (opw 0x48 (49 * 2 ^ 50)), .vopUnif 0 (opw 0x48 (50 * 2 ^ 50)), .vopPick 0 (opw 0x48 (51 * 2 ^ 50)), .xferCopy 0 (opw 0x50 (1 * 2 ^ 49)), .xferCopy2d 0 (opw 0x50 (2 * 2 ^ 49)), .xferGather 0 (opw 0x50 (3 * 2 ^ 49)),
      .xferScatter 0 (opw 0x50 (4 * 2 ^ 49)), .xferKvwalk 0 (opw 0x50 (5 * 2 ^ 49)), .xferKvput 0 (opw 0x50 (6 * 2 ^ 49)), .xferRload 0 (opw 0x50 (7 * 2 ^ 49)), .xferRstore 0 (opw 0x50 (8 * 2 ^ 49)), .xferRatomic 0 (opw 0x50 (9 * 2 ^ 49)), .xferBulkPut 0 (opw 0x50 (10 * 2 ^ 49)), .xferBulkGet 0 (opw 0x50 (11 * 2 ^ 49))] : List Instr), ¬ c.WellFormed := by unfold Instr.WellFormed; decide

theorem test_wf_good : ∀ c ∈ ([.mac 0 (opw 0x40 (0 * 2 ^ 51)), .macZero 0 (opw 0x40 (1 * 2 ^ 51)), .mmaDrain 0 (opw 0x40 (2 * 2 ^ 51)), .mmaLoad 0 (opw 0x40 (3 * 2 ^ 51)), .mmaZero 0 (opw 0x40 (4 * 2 ^ 51)), .vopCopy 0 (opw 0x48 (0x00 * 2 ^ 50)), .vopAdd 0 (opw 0x48 (0x01 * 2 ^ 50)), .vopSub 0 (opw 0x48 (0x02 * 2 ^ 50)),
      .vopMul 0 (opw 0x48 (0x03 * 2 ^ 50)), .vopFma 0 (opw 0x48 (0x04 * 2 ^ 50)), .vopMax 0 (opw 0x48 (0x05 * 2 ^ 50)), .vopMin 0 (opw 0x48 (0x06 * 2 ^ 50)), .vopAbs 0 (opw 0x48 (0x07 * 2 ^ 50)), .vopNeg 0 (opw 0x48 (0x08 * 2 ^ 50)), .vopScale 0 (opw 0x48 (0x09 * 2 ^ 50)), .vopAdds 0 (opw 0x48 (0x0A * 2 ^ 50)),
      .vopExp2 0 (opw 0x48 (0x10 * 2 ^ 50)), .vopLog2 0 (opw 0x48 (0x11 * 2 ^ 50)), .vopRsqrt 0 (opw 0x48 (0x12 * 2 ^ 50)), .vopSin 0 (opw 0x48 (0x13 * 2 ^ 50)), .vopCos 0 (opw 0x48 (0x14 * 2 ^ 50)), .vopRcp 0 (opw 0x48 (0x15 * 2 ^ 50)), .vopRsum 0 (opw 0x48 (0x20 * 2 ^ 50)), .vopRmax 0 (opw 0x48 (0x21 * 2 ^ 50)),
      .vopSmxstep 0 (opw 0x48 (0x22 * 2 ^ 50)), .vopRescale 0 (opw 0x48 (0x23 * 2 ^ 50)), .vopRng 0 (opw 0x48 (0x30 * 2 ^ 50)), .vopUnif 0 (opw 0x48 (0x31 * 2 ^ 50)), .vopPick 0 (opw 0x48 (0x32 * 2 ^ 50)), .xferCopy 0 (opw 0x50 (0 * 2 ^ 49)), .xferCopy2d 0 (opw 0x50 (1 * 2 ^ 49)), .xferGather 0 (opw 0x50 (2 * 2 ^ 49)),
      .xferScatter 0 (opw 0x50 (3 * 2 ^ 49)), .xferKvwalk 0 (opw 0x50 (4 * 2 ^ 49)), .xferKvput 0 (opw 0x50 (5 * 2 ^ 49)), .xferRload 0 (opw 0x50 (6 * 2 ^ 49)), .xferRstore 0 (opw 0x50 (7 * 2 ^ 49)), .xferRatomic 0 (opw 0x50 (8 * 2 ^ 49)), .xferBulkPut 0 (opw 0x50 (9 * 2 ^ 49)), .xferBulkGet 0 (opw 0x50 (10 * 2 ^ 49))] : List Instr), c.WellFormed := by unfold Instr.WellFormed; decide

/-! ## The spec's worked values -/

/-- The ASCII string "123456789". -/
def digits : List Byte := (List.range 9).map (fun k => BitVec.ofNat 8 (0x31 + k))

/-- R231. -/
theorem test_crc16 : crc16 digits = 0x29B1 := by decide +kernel

/-- R265. -/
theorem test_crc64 : crc64 digits = 0x995DC9BBDF1939FA := by decide +kernel

/-- Strap words of CD7 and SD7 (R26): dies are numbered as in GLB_DIE, four I/O dies, twelve cache dies, twelve compute dies. -/
theorem test_straps : expectedStrap (dieSD 7) = 0x52 ∧ expectedStrap (dieCD 7) = 0x73 := by decide

/-- The keyed generator for key 0 and counter 0 (R118). -/
theorem test_gen : gen 0 0 = (0x749476CE, 0xE6B6A518, 0xF8E834E6, 0x8F95F297) := by decide +kernel

/-- One FP8 E4M3 block with products 448 · 448, 2^−9 · 2^−9 and −448 · 448 contributes 2^−18 (R100). -/
theorem test_block_sum : accBlock 0 (blockSum 8 8 [⟨0x7E, 127, 0⟩, ⟨1, 127, 0⟩, ⟨0xFE, 127, 0⟩] [⟨0x7E, 127, 0⟩, ⟨1, 127, 0⟩, ⟨0x7E, 127, 0⟩]) =
    0x36800000 := by decide +kernel

/-- The exact window reduction's example (R113 to R116): exponents, integers and results. -/
theorem test_ewr : ewrExp 0x4B800000 = 151 ∧ ewrExp 0x3F800000 = 127 ∧ ewrInt 151 0x4B800000 = 2 ^ 102 ∧ ewrInt 151 0xCB800000 = -2 ^ 102 ∧
    ewrInt 151 0x12800000 = 0 ∧ ewrResult 15 151 (2 ^ 78) = 0x3F800000 ∧ ewrResult 15 151 (2 ^ 79) = 0x40000000 := by decide +kernel

/-- Twelve stacks: DPA 0x4_2000 lies on HB11 at 0x5000, per-stack address 0x360_0000_5000 (R204, R207). -/
theorem test_dpa : (let s := (State.reset.wr F.MEM_MAP_N 0 12).wr F.MEM_MAP_STACKS 0 0xFFF
    s.locate 0x42000 = .hbm 11 0x5000 ∧ (s.locate 0x42000).key = 0x36000005000 ∧ s.locate 0x36000005000 = .hbm 11 0x5000) := by decide +kernel

/-- W-GEN's token 2,499 of layer 37: entry 837 of the page list, offset 26,928 in its page (R75). -/
theorem test_kv_address : ((State.reset.store (0x39000000000 + 6696) [0, 0, 3, 0, 0, 0, 0, 0x80]).kvAddr 65536 272 80 0x39000000000 37 2499).toOption =
    some (0x30000 + 26928) := by decide +kernel

/-- Up bundle 17 of stack 4 with lane 9 bad (R235): logical lanes 9 to 63 on 10 to 64, spares 65 to 67. -/
theorem test_bundle : (let s := (State.reset.buildBundle 547 [9] true).1
    (s.bundle 547).bind = List.range 9 ++ (List.range 55).map (10 + ·) ∧ s.spares 547 = [65, 66, 67]) := by decide +kernel

/-- Its register (R244). -/
theorem test_bundle_register : F.STK_VB_BUNDLE_STATE.off 547 = 0xC0288C := by decide

/-- The worked example of the set-up registers (R511, R513, R514): the expert lock, a held value, a refused write, a preset. -/
theorem test_setup : (let s1 := State.reset.barWrite 0xC 0x4558
    let s2 := s1.portWrite 0 0x700000 0x55000000 0xFF000000 false quietEnv
    let s3 := s2.portWrite 0 0x700000 0x64000000 0xFF000000 false quietEnv
    let s4 := s3.portWrite 0 0x700000 0x55000000 0xFF000000 false quietEnv
    let s5 := s4.barWrite 0xC 0
    let s6 := s5.barWrite 0x700000 0x505F6200
    let s7 := s6.barWrite 0x700000 0x555F6201
    State.reset.reg 0x700000 = 0x585F6200 ∧ s1.reg 0xC = 0x80000000 ∧ s2.reg 0x700000 = 0x555F6200 ∧ s3.reg 0x700000 = 0x5E5F6200 ∧
    s5.reg 0xC = 0 ∧ s6.reg 0x700000 = 0x555F6200 ∧ s6.rd F.GLB_EXPERT_DENIED = 1 ∧ s7.reg 0x700000 = 0x525A5E01) := by decide +kernel

/-- SHA-256 of "abc", the published value of FIPS 180-4. -/
theorem test_sha256 : (sha256 [0x61, 0x62, 0x63]).take 4 = [0xBA, 0x78, 0x16, 0xBF] := by decide +kernel

/-- The memory after reset has its form, and so have the set-up registers. -/
theorem test_reset_sound : State.reset.Sound := ⟨by decide, by decide, by decide, by decide, by decide, by decide, by decide⟩

theorem wit_EmptyQueueLetsTimePass : State.reset.pending = [] ∧ -512000000 < State.reset.clk.acc + State.reset.clk.trim ∧
    State.reset.clk.acc + State.reset.clk.trim < 512000000 := by decide

theorem wit_ScalarRegisterFile : ∃ (c : Core) (m lc i : Nat), Tbl.wf (fun _ => (0 : W64)) c.sregs = true ∧ m ≠ lc ∧ i ≠ 0 :=
  ⟨(seqCore 0).setS 31 7, 1, 0, 31, by decide⟩

theorem wit_CoreFaultRecorded : ((onCore (seqCore 0)).core 0).cstate = .running ∧ (State.reset.core 0).cstate = .absent := by decide

theorem wit_RegisterArithmetic : ∀ n ∈ [0, 1, 2, 3, 4, 5, 6, 7, 8, 9, 0xA, 0xB, 0xC, 0xD, 0xE],
    (onCore (seqCore (opw n 0))).canIssue 0 (opw n 0) = true ∧ (onCore (seqCore (opw n 0))).core 0 = seqCore (opw n 0) ∧
    (loopArrive (seqCore (opw n 0)).loops 1).1 < (seqCore (opw n 0)).code.length ∧
    srReserved (opw n 0) = false ∧ opcodeOf (opw n 0) = n := by decide

theorem wit_ImmediateArithmetic : ∀ n ∈ [0x10, 0x11, 0x12, 0x13, 0x14, 0x15, 0x16, 0x17],
    (onCore (seqCore (opw n 63))).canIssue 0 (opw n 63) = true ∧ (onCore (seqCore (opw n 63))).core 0 = seqCore (opw n 63) ∧
    (loopArrive (seqCore (opw n 63)).loops 1).1 < (seqCore (opw n 63)).code.length ∧
    siReserved (opw n 63) = false ∧ fld (opw n 63) 31 6 = 0 ∧ fld (opw n 63) 50 46 = 0 ∧ opcodeOf (opw n 63) = n := by decide

/-- The first state of the address instructions: opcode `n`, immediate `r`. -/
def adState (n r : Nat) : State := onCore (seqCore (opw n r))

theorem wit_AddressInstructions_1 : ∀ n ∈ [0x20, 0x21, 0x22, 0x23, 0x24, 0x25],
    (adState n 0).canIssue 0 (opw n 0) = true ∧ (adState n 0).core 0 = seqCore (opw n 0) ∧
    (loopArrive (seqCore (opw n 0)).loops 1).1 < (seqCore (opw n 0)).code.length ∧ adReserved (opw n 0) = false ∧
    fld (opw n 0) 55 0 = 0 ∧ opcodeOf (opw n 0) = n ∧ (adState n 0).bad (scratchAddr 0 0) = false := by decide

theorem wit_AddressInstructions_2 : ((adState 0x24 0x5FFFF8).mark (scratchAddr 0 0x5FFFF8)).bad (scratchAddr 0 0x5FFFF8) = true ∧
    ((adState 0x24 0x5FFFF8).mark (scratchAddr 0 0x5FFFF8)).canIssue 0 (opw 0x24 0x5FFFF8) = true ∧
    ldsOff (seqCore (opw 0x24 0x5FFFF8)) (opw 0x24 0x5FFFF8) = 0x5FFFF8 ∧
    ldsOff (seqCore (opw 0x25 0x600000)) (opw 0x25 0x600000) = 0x600000 := by decide

/-- A core that compares s1 = 1 with s0 and s0 with s0. -/
def brCore (w : W64) : Core := { (seqCore w).setS 1 1 with loops := [] }

theorem wit_BranchesAndCalls_1 : ∀ e ∈ [(0x30, 0), (0x31, 2 ^ 51), (0x32, 2 ^ 46), (0x33, 2 ^ 51), (0x34, 2 ^ 46), (0x35, 2 ^ 51)],
    ∀ off ∈ [1, 2, 0xFFFFFFFF], (onCore (brCore (opw e.1 (e.2 + off)))).canIssue 0 (opw e.1 (e.2 + off)) = true ∧
    brReserved (opw e.1 (e.2 + off)) = false ∧ opcodeOf (opw e.1 (e.2 + off)) = e.1 := by decide

theorem wit_BranchesAndCalls_2 : ∀ o ∈ [0x36, 0x37, 0x38], (onCore (brCore (opw o 0))).canIssue 0 (opw o 0) = true ∧
    fld (opw o 0) 55 0 = 0 ∧ (brCore (opw o 0)).loops = [] ∧ ((brCore (opw o 0)).s 31).toNat % 2 ^ 32 = 0 ∧
    (onCore { brCore (opw o 0) with loops := [⟨0, 1, 1⟩] }).canIssue 0 (opw o 0) = true := by decide

theorem wit_BranchesAndCalls_3 : (brCore (opw 0x30 0)).s 0 = (brCore (opw 0x30 0)).s 0 ∧
    ((brCore (opw 0x31 0)).s 0 != (brCore (opw 0x31 0)).s 0) = false ∧ soff (opw 0x36 0xFFFFFFFF) = -1 ∧
    (loopArrive (brCore 0).loops 1).1 < (brCore 0).code.length := by decide

/-- LOOP with CNT = n and BODY = b. -/
def loopWord (n b : Nat) : W64 := opw 0x39 (n * 2 ^ 32 + b)

theorem wit_HardwareLoops : ∀ e ∈ [(3, 1), (0, 1), (1, 0)], (onCore (seqCore (loopWord e.1 e.2))).canIssue 0 (loopWord e.1 e.2) = true ∧
    opcodeOf (loopWord e.1 e.2) = 0x39 ∧ fld (loopWord e.1 e.2) 50 48 = 0 ∧ fld (loopWord e.1 e.2) 31 16 = 0 ∧
    fld (loopWord e.1 e.2) 55 51 = 0 ∧ fld (loopWord e.1 e.2) 47 32 = e.1 ∧ fld (loopWord e.1 e.2) 15 0 = e.2 := by decide

theorem wit_HardwareLoops_full : let c : Core := { seqCore (loopWord 1 1) with loops := List.replicate 4 ⟨0, 9, 2⟩ }
    (onCore c).canIssue 0 (loopWord 1 1) = true ∧ 4 ≤ ((onCore c).core 0).loops.length := by decide

/-- R53: a body of one instruction that runs three times is left after the third arrival at its end. -/
theorem test_loop_three_times : (loopArrive [⟨1, 2, 3⟩] 2).1 = 1 ∧ (loopArrive [⟨1, 2, 2⟩] 2).1 = 1 ∧
    loopArrive [⟨1, 2, 1⟩] 2 = (2, []) := by decide

/-- A SIGNAL of 5 to semaphore 63 of the core s1 names. -/
def sigWord : W64 := opw 0x60 (63 * 2 ^ 50 + 2 ^ 45 + 5)

/-- A launch of cores 0 and 191. -/
def launch191 : Launch := ⟨0, 0, [0, 191], [], [0, 191], 0, 0, 0, 0, 1, none, [], false, (0, 0, 0), none, none⟩

/-- Core 0 issues it toward core `t` in that launch. -/
def sigState (t : Nat) : State := { onCore ((seqCore sigWord).setS 1 (BitVec.ofNat 64 t)) with launches := [launch191] }

theorem wit_SignalTargets : (∀ t ∈ [0, 1, 191, 256], (sigState t).canIssue 0 sigWord = true ∧ ((sigState t).core 0).s 1 = BitVec.ofNat 64 t ∧
    (sigState t).inLaunch 0 t = (t == 0 || t == 191)) ∧ opcodeOf sigWord = 0x60 ∧ fld sigWord 39 16 = 0 ∧ fld sigWord 49 45 = 1 ∧
    (loopArrive ((sigState 0).core 0).loops 1).1 < ((sigState 0).core 0).code.length := by decide

theorem wit_SemaphoresAndWaits : 16 ≤ ({ seqCore 0 with outq := List.replicate 16 ⟨1, 2, 3, 4⟩ } : Core).outq.length ∧ (∀ e ∈ [(0x60, 0), (0x60, 0xFFFF), (0x61, 0), (0x61, 0xFFFF)],
    (onCore ((seqCore (opw e.1 e.2)).setSem 0 0xFFFF0001)).canIssue 0 (opw e.1 e.2) = true ∧ opcodeOf (opw e.1 e.2) = e.1 ∧
    fld (opw e.1 e.2) 55 16 = 0 ∧ (loopArrive (seqCore (opw e.1 e.2)).loops 1).1 < (seqCore (opw e.1 e.2)).code.length) ∧
    2 ^ 32 ≤ (((seqCore 0).setSem 0 0xFFFF0001).sem 0).toNat + 0xFFFF ∧ ((seqCore 0).sem 0).toNat < 0xFFFF := by decide

theorem wit_FencesTimesAndReads_1 : ∀ n ∈ [0x62, 0x63, 0x64, 0x65, 0x70, 0x71, 0x72, 0x73],
    (onCore (seqCore (opw n 0))).canIssue 0 (opw n 0) = true ∧ opcodeOf (opw n 0) = n ∧ fld (opw n 0) 55 0 = 0 ∧
    (loopArrive (seqCore (opw n 0)).loops 1).1 < (seqCore (opw n 0)).code.length ∧ (seqCore (opw n 0)).quiet 0x1FFF = true := by decide

/-- A core with an operation in the queue of TE stream 7. -/
def busyCore (w : W64) : Core := (seqCore w).setQueue 12 [⟨0, 0, 0, 0, 0, 0, 0, 0⟩]

theorem wit_FencesTimesAndReads_2 : ∀ e ∈ [(0x62, 2 ^ 51), (0x63, 0), (0x64, 0x1000), (0x70, 0)],
    (onCore ((busyCore (opw e.1 e.2)).setS 1 1)).canIssue 0 (opw e.1 e.2) = true ∧ opcodeOf (opw e.1 e.2) = e.1 ∧
    (busyCore 0).quiet 0x1FFF = false ∧ (busyCore 0).quiet 0x1000 = false ∧ (busyCore 0).quiet 0xFFF = true ∧
    (onCore (seqCore 0)).btOf 16 < (((busyCore 0).setS 1 1).s 1).toNat := by decide

theorem wit_ReservedBits_1 : ∀ n ∈ [1, 2, 3, 4, 5, 6, 7, 8, 9, 0xA, 0xB, 0xC, 0xD, 0xE], (onCore (seqCore (opw n 1))).canIssue 0 (opw n 1) = true ∧
    srReserved (opw n 1) = true ∧ opcodeOf (opw n 1) = n := by decide

theorem wit_ReservedBits_2 : ∀ n ∈ [0x10, 0x11, 0x12, 0x13, 0x14, 0x15, 0x16, 0x17, 0x20, 0x21, 0x22, 0x23, 0x24, 0x25, 0x30, 0x31, 0x32, 0x33,
      0x34, 0x35, 0x36, 0x37, 0x38], (onCore (seqCore (opw n (2 ^ 42)))).canIssue 0 (opw n (2 ^ 42)) = true ∧ siReserved (opw n (2 ^ 42)) = true ∧
    adReserved (opw n (2 ^ 42)) = true ∧ brReserved (opw n (2 ^ 42)) = true ∧ opcodeOf (opw n (2 ^ 42)) = n := by decide

theorem wit_ReservedBits_3 : ∀ n ∈ [0, 0x39, 0x60, 0x61, 0x62, 0x63, 0x64, 0x65, 0x70, 0x71, 0x72, 0x73, 0x0F, 0xFF],
    let w := opw n (2 ^ 48 + 2 ^ 16)
    (onCore (seqCore w)).canIssue 0 w = true ∧ fld w 55 0 ≠ 0 ∧ fld w 39 16 ≠ 0 ∧ fld w 44 16 ≠ 0 ∧ fld w 50 0 ≠ 0 ∧ fld w 55 13 ≠ 0 ∧
    fld w 44 0 ≠ 0 ∧ fld w 50 48 ≠ 0 ∧ opcodeOf w = n ∧ opcodeKnown n = !(n == 0x0F || n == 0xFF) ∧ reservedOp (opw 0x40 (5 * 2 ^ 51)) = true ∧
    State.reset.canIssue 0 w = false := by decide

theorem wit_StallsEnd : let c : Core := { seqCore 0 with stall := .waitbt 0, blocked := true, outq := [⟨1, 2, 3, 4⟩] }
    ((onCore c).core 0).stall = .waitbt 0 ∧ 0 ≤ (onCore c).btOf 16 ∧ ((onCore c).core 0).cstate = .running ∧
    ((onCore c).core 0).blocked = true ∧ (loopArrive c.loops (c.pc + 1)).1 < c.code.length ∧
    ((onCore c).core 0).outq = [⟨1, 2, 3, 4⟩] ∧ ((onCore c).core 1).pend.length < 64 ∧ (onCore c).pathOpen (16 + 1 / 16) (16 + 0 / 16) = true ∧
    ((onCore { seqCore 0 with transit := [⟨1, 2, 3, 4⟩] }).core 0).transit.find?
      (fun g => (onCore { seqCore 0 with transit := [⟨1, 2, 3, 4⟩] }).pathOpen (16 + 0 / 16) (16 + g.core / 16)) = some ⟨1, 2, 3, 4⟩ := by decide

/-- A core that issues `w` with every s register but s0 at `v` and an image that declares every feature. -/
def engCore (w : W64) (v : Nat) : Core := { (seqCore w).setS 1 (BitVec.ofNat 64 v) with features := BitVec.allOnes 256 }

/-- MMA of OP `o` on ME3 with SK = s1 where the operation has one. -/
def mmaWord (o : Nat) : W64 := opw 0x40 (3 * 2 ^ 54 + o * 2 ^ 51 + if o ≤ 1 then 2 ^ 37 else 0)

theorem wit_EngineInstructionsQueue_1 : ∀ o ∈ [0, 1, 2, 3, 4], (onCore (engCore (mmaWord o) 32)).canIssue 0 (mmaWord o) = true ∧
    opcodeOf (mmaWord o) = 0x40 ∧ fld (mmaWord o) 53 51 = o ∧
    (if o ≤ 1 then macCheck else if o ≤ 3 then imageCheck else zeroCheck) (engCore (mmaWord o) 32) (mmaWord o) = none ∧
    (if o ≤ 1 then macCheck else if o ≤ 3 then imageCheck else zeroCheck) (engCore (mmaWord o ||| 1) 32) (mmaWord o ||| 1) = some 2 := by
  decide

/-- VOP of FN `f` with N = s1 elements, FP32 in and out where the function uses the formats. -/
def vopWord (f : Nat) : W64 :=
  opw 0x48 (f * 2 ^ 50 + 2 ^ 29 + (if (vopUse f).tin then 0xF * 2 ^ 25 else 0) + if (vopUse f).tout then 0xF * 2 ^ 21 else 0)

theorem wit_EngineInstructionsQueue_2 : ∀ f ∈ [0, 1, 2, 3, 4, 5, 6, 7, 8, 9, 0xA, 0x10, 0x11, 0x12, 0x13, 0x14, 0x15, 0x20, 0x21, 0x22, 0x23,
      0x30, 0x31, 0x32], (onCore (engCore (vopWord f) 32)).canIssue 0 (vopWord f) = true ∧ opcodeOf (vopWord f) = 0x48 ∧
    fld (vopWord f) 55 50 = f ∧ vopCheck (engCore (vopWord f) 32) (vopWord f) = none ∧
    vopCheck (engCore (vopWord f ||| 1) 32) (vopWord f ||| 1) = some 2 := by decide

/-- XFER of OP `o` on stream 7: local addresses a0 = scratchpad 0 on the local side, a1 = DPA 0 on the remote one. -/
def xfWord (o : Nat) : W64 :=
  opw 0x50 (7 * 2 ^ 53 + o * 2 ^ 49 + (if 7 ≤ o ∧ o ≤ 9 then 2 ^ 45 else 0) + (if o = 6 ∨ o = 10 then 2 ^ 41 else 0) +
    (if o = 8 then 0 else 2 ^ 36) + if o = 1 then 2 * 2 ^ 31 else if o = 2 ∨ o = 3 then 3 * 2 ^ 31 else 0)

/-- s1 = 64, s2 one row without strides, s3 elements of 8 bytes; a0 names the own scratchpad. -/
def xfCore (w : W64) : Core :=
  { (((((seqCore w).setS 1 64).setS 2 1).setS 3 (8 * 2 ^ 32)).setA 0 (BitVec.ofNat 48 (2 ^ 47))) with features := BitVec.allOnes 256 }

theorem wit_EngineInstructionsQueue_3 : ∀ o ∈ [0, 1, 2, 3, 4, 5, 6, 7, 8, 9, 10], (onCore (xfCore (xfWord o))).canIssue 0 (xfWord o) = true ∧
    opcodeOf (xfWord o) = 0x50 ∧ fld (xfWord o) 52 49 = o ∧ (onCore (xfCore (xfWord o))).xferCheck (xfCore (xfWord o)) (xfWord o) = none ∧
    (onCore (xfCore (xfWord o ||| 1))).xferCheck (xfCore (xfWord o ||| 1)) (xfWord o ||| 1) = some 2 ∧
    ((xfCore (xfWord o)).queue 12).length < 16 ∧
    16 ≤ (((xfCore (xfWord o)).setQueue 12 (List.replicate 16 ⟨0, 0, 0, 0, 0, 0, 0, 0⟩)).queue 12).length ∧
    (loopArrive (xfCore (xfWord o)).loops 1).1 < (xfCore (xfWord o)).code.length := by decide

/-- Core 0 with an operation of word `w` at the head of queue `q`, or running there. -/
def headCore (q : Nat) (w : W64) : Core := (engCore w 32).setQueue q [⟨0, w, 0, 0, 0, 0, 32, 0⟩]
def runCore (q : Nat) (w : W64) (remote : Bool) (failed : Option Nat) : Core :=
  (engCore w 32).setRunning q [{ id := 0, op := ⟨0, w, 0, 0, 0, 0, 32, 0⟩, waiting := 0, failed := failed, berth := [], remote := remote }]

theorem wit_EngineOperationsRun_1 : ((onCore (headCore 3 (mmaWord 4))).core 0).queue 3 = [⟨0, mmaWord 4, 0, 0, 0, 0, 32, 0⟩] ∧
    ((onCore (headCore 3 (mmaWord 4))).core 0).cstate = .running ∧
    mmaMayStart (((onCore (headCore 3 (mmaWord 4))).core 0).running 3) ⟨0, mmaWord 4, 0, 0, 0, 0, 32, 0⟩ = true ∧
    (∀ a ∈ mmaReads ⟨0, mmaWord 0, 0, 0, 0, 0, 32, 0⟩, (onCore (headCore 3 (mmaWord 0))).anyBad (scratchAddr 0 a.1) a.2 = false) ∧
    ((onCore (headCore 3 (mmaWord 0))).mark (scratchAddr 0 0)).mmaPoison 0 ⟨0, mmaWord 0, 0, 0, 0, 0, 32, 0⟩ = true ∧
    ((onCore { headCore 3 (mmaWord 0) with cstate := .idle }).core 0).cstate ≠ .running ∧
    fld (mmaWord 4) 50 50 = 0 ∧ (runCore 3 (mmaWord 4) false none).running 3 ≠ [] := by decide

theorem wit_EngineOperationsRun_2 : ((onCore (headCore 4 (vopWord 0))).core 0).queue 4 = [⟨0, vopWord 0, 0, 0, 0, 0, 32, 0⟩] ∧
    ((onCore (headCore 4 (vopWord 0))).core 0).running 4 = [] ∧ ((onCore (headCore 4 (vopWord 0))).core 0).cstate = .running ∧
    (onCore (headCore 4 (vopWord 0))).vopPoison 0 ⟨0, vopWord 0, 0, 0, 0, 0, 32, 0⟩ = false ∧
    ((onCore (headCore 4 (vopWord 0))).mark (scratchAddr 0 0)).vopPoison 0 ⟨0, vopWord 0, 0, 0, 0, 0, 32, 0⟩ = true ∧
    (runCore 4 (vopWord 0) false none).running 4 ≠ [] := by decide

theorem wit_EngineOperationsRun_3 : xfOp (xfWord 1) = 1 ∧ xfOp (xfWord 7) = 7 ∧ ((onCore (headCore 12 (xfWord 1))).core 0).queue 12 ≠ [] ∧
    ((onCore (headCore 12 (xfWord 1))).core 0).running 12 = [] ∧
    (onCore (headCore 12 (xfWord 1))).moveLocal 0 ⟨0, xfWord 1, 0, 0, 0, 0, 32, 0⟩ [] = ⟨onCore (headCore 12 (xfWord 1)), none⟩ ∧
    ∀ f ∈ [none, some 0x20], 
      (runCore 12 (xfWord 7) true f).running 12 = [{ id := 0, op := ⟨0, xfWord 7, 0, 0, 0, 0, 32, 0⟩, waiting := 0, failed := f, berth := [], remote := true }] := by
  decide

theorem wit_TileEffects : Tbl.wf (fun _ => (0 : Word)) (State.reset.setTile 191 3 1 8191 5).tiles = true ∧
    ∀ o ∈ [0, 1, 2, 3, 4], fld (mmaWord o) 53 51 = o := by decide

/-- A state whose pairs between I/O die 0 and the base die of stack 0 are UP. -/
def State.paths (s : State) : State := (s.wr F.FAB_PAIR_UP 12 1).wr F.FAB_PAIR_UP 192 1

/-- An idle core 0, and a launch that has not reached it and is being aborted. -/
def idle0 : State :=
  { State.paths (onCore { seqCore 0 with cstate := .idle }) with launches := [{ launch191 with todo := [0], aborts := [0] }] }

theorem wit_CoreLifeCycle_1 : (idle0.launches.find? (fun l => l.seq == 0 && l.todo.contains 0)).isSome = true ∧
    (idle0.core 0).cstate = .idle ∧ (idle0.core 0).broken = false ∧ idle0.pathOpen 12 (16 + 0 / 16) = true ∧
    (∃ l ∈ idle0.launches, l.seq = (idle0.core 0).launch ∧ l.aborts.contains 0 = true) ∧ idle0.pathOpen (16 + 0 / 16) 12 = true := by decide

/-- Device memory with an image in stack 0 whose core table has one entry, at offset 32, of core 0. -/
def image0 : State :=
  pokeAll [1] 0x20000000010 (pokeAll [32] 0x20000000018 (onCore { seqCore 0 with cstate := .loading, image := 0x20000000000 }))

theorem wit_CoreLifeCycle_2 : image0.loadFree 0 = true ∧ image0.imgCore 0x20000000000 0 = some 0x20000000020 ∧ (image0.core 0).loadCode = false ∧
    State.loadInit 0 (image0.imgInit 0x20000000000 0) image0 = (image0, true) ∧
    image0.num (0x20000000020 + 0x10) 4 < (image0.core 0).code.length := by decide

theorem wit_CoreLifeCycle_3 : let c : Core := { seqCore 0 with transit := [⟨0, 63, 1, 0⟩] }
    (∀ t ∈ [CState.running, .loading], ((onCore { c with cstate := t }).core 0).cstate = t) ∧ ((onCore c).core 0).tag = 0 ∧
    ((onCore { c with cstate := .idle, prevTag := some 0 }).core 0).prevTag = some 0 ∧
    ((onCore { c with cstate := .idle }).core 0).prevTag ≠ some 0 ∧ c.pend.length < 64 ∧ (onCore c).pathOpen (16 + 0 / 16) (16 + 0 / 16) = true ∧
    64 ≤ ({ c with pend := List.replicate 64 ⟨0, 63, 1, 0⟩ } : Core).pend.length ∧
    ((onCore { c with cstate := .draining }).core 0).quiet allQueues = true ∧ c.remote = 0 := by decide

/-- Core 0 has reported kind `k` to a launch of cores `l`. -/
def reported (k : Nat) (l : NSet) : State :=
  { onCore (seqCore 0) with reports := [⟨0, 0, k, 0, 0, 0, true⟩], launches := [{ launch191 with left := l }] }

theorem wit_CoreReportsAndRepair : ((reported 0 [0, 191]).reports.find? (fun r => r.lc == 0 && (r.direct || (reported 0 [0, 191]).pathOpen (16 + 0 / 16) 12))).isSome = true ∧
    ((reported 0 [0, 191]).launches.find? (fun l => l.seq == 0)).isSome = true ∧ NSet.del [0, 191] 0 ≠ [] ∧ NSet.del [0] 0 = [] ∧
    (tget (fun _ => ({} : Rate)) (seqCore 0).bankCe 31).n + 4 ≤ 1000 ∧
    bitAt ((State.reset.wr F.STK_PCORE_GOOD 11 (2 ^ 17)).rd F.STK_PCORE_GOOD 11) 17 = true ∧
    (State.reset.wr F.STK_PCORE_GOOD 11 (2 ^ 17)).boundTo 11 17 = none ∧
    (State.reset.wr F.STK_PCORE_GOOD 11 (2 ^ 17)).chooseSpare 11 = some 17 ∧ State.reset.chooseSpare 0 = none ∧
    ((onCore { seqCore 0 with cstate := .idle, broken := true }).core 0).broken = true ∧
    (∀ l ∈ (reported 0 []).launches, (seqCore 0).lostIn ≠ some l.seq) := by decide

/-- Core 176 bound to physical core 17 of die 11. -/
def bound17 : State :=
  (((State.reset.wr F.STK_PCORE_GOOD 11 (2 ^ 17)).wr F.STK_LCMAP_PRESENT 176 1).wr F.STK_LCMAP_PC 176 17).setCore 176 (seqCore 0)

theorem wit_CoreReportsAndRepair_2 : bitAt (bound17.rd F.STK_PCORE_GOOD 11) 17 = true ∧ bound17.boundTo 11 17 = some 176 ∧
    (bound17.wr F.STK_PCORE_GOOD 11 (bound17.rd F.STK_PCORE_GOOD 11 - 2 ^ 17)).boundTo 11 17 = some 176 ∧
    (bound17.core 176).cstate = .running := by decide

theorem wit_DescriptorFinishesOnce : (withDesc []).desc 1 = some (desc1 []) ∧ (desc1 []).phase ≠ 2 ∧ (withDesc []).desc 2 = none := by decide

/-- A LAUNCH of core 0 with an image at DPA 0 of stack 0's view, and the smallest image the check accepts there. -/
def launchF (step : Nat) : List (Nat × Nat × Nat) := [(0, 1, 1), (1, 1, 8 * step), (0x10, 8, 0x20000000000), (0x20, 1, 1)]

theorem wit_LaunchesStart : (∀ k ∈ [0, 1], startsNow (launchF k) = true ∧ (withDesc (launchF k)).launchWaits 1 = false ∧ descType (descOf (launchF k)) = 1 ∧
    (desc1 (launchF k)).step = (k == 1)) ∧ ((withDesc (launchF 0)).imageCheck 0x20000000000 [0]).1 ≠ 0 := by decide

/-- An image of 4,096 bytes: header with one core entry at 128, no plans and no initialisation; its CRC is over bytes 0 to 0x7B. -/
def imageBytes : List Byte :=
  let h := leBytes 4 0x50484C4D ++ leBytes 2 1 ++ leBytes 2 128 ++ leBytes 8 4096 ++ leBytes 4 1 ++ leBytes 4 0 ++ leBytes 8 128 ++ leBytes 8 160 ++
    leBytes 8 160 ++ leBytes 4 0 ++ leBytes 4 1 ++ List.replicate 68 0
  h ++ leBytes 4 (crc32c h)

/-- That image in the memory of stack 0, which is in the map; core 0 is IDLE. -/
def imaged (step : Nat) : State :=
  pokeAll imageBytes 0x20000000000 (((withDesc (launchF step)).wr F.MEM_MAP_STACKS 0 1).setCore 0 { cstate := .idle })

theorem wit_LaunchesStart_accepted : ((imaged 0).imageCheck 0x20000000000 [0]).1 = 0 := by decide +kernel

/-- A COPY of 64 bytes between stack 0's view at 0 and at 4096, in direction `k`, formats FP32 (code 0xF) to `fo`. -/
def copyF (k fo : Nat) : List (Nat × Nat × Nat) :=
  [(0, 1, 2), (0x10, 8, if k = 1 then 0 else 0x20000000000), (0x18, 8, if k = 2 then 4096 else 0x20000001000), (0x20, 8, 64), (0x28, 1, k),
   (0x29, 1, 0xF), (0x2A, 1, fo)]

theorem wit_CopiesMoveData_1 : ∀ k ∈ [0, 1, 2, 3, 4], ∀ fo ∈ [0xF, 0xD], startsNow (copyF k fo) = true ∧ descType (descOf (copyF k fo)) = 2 ∧
    (desc1 (copyF k fo)).f 0x28 1 = k ∧ copyBad (desc1 (copyF k fo)) = false ∧ copyLen (desc1 (copyF k fo)) = 64 := by decide +kernel

theorem wit_CopiesMoveData_2 : let s := wired (withDesc (copyF 0 0xF))
    let t := begun s (desc1 (copyF 0 0xF))
    t.areaFault 0x20000000000 64 false = 0 ∧ t.areaFault 0x20000001000 64 true = 0 ∧ s.copyWaits 0x20000000000 64 false = false ∧
    s.copyWaits 0x20000001000 64 true = false ∧ s.portOpen = true ∧ s.hostOpen = true ∧ s.remoteWaits 1 true = false ∧
    s.remoteWaits 1 false = false ∧ t.ddrOk 0 64 = true ∧ t.absent = false ∧ t.device = 0 ∧
    t.hostStop 0x20000000000 4096 64 = (64, 0) ∧ t.anyBad 0x20000000000 64 = false ∧ t.areaFault 0x20000000000 64 true = 0 ∧
    t.accessCheck 0 0 1 0x20000001000 64 = 0 ∧ t.accessCheck 0 0 0 0x20000000000 64 = 0 ∧ t.reachable 1 = true := by decide +kernel

/-- R71: 64 bytes of FP32 are 16 elements. -/
theorem test_convert_count : convCount 0xF 0xD 64 = some 16 := by decide

/-- A COLLECTIVE of operation `op` over the members the list at stack 0's address 0 names, 32 elements at 4096 to 8192. -/
def collF (op : Nat) : List (Nat × Nat × Nat) :=
  [(0, 1, 3), (0x10, 1, op), (0x11, 1, 2), (0x12, 2, 2), (0x20, 8, 2), (0x28, 8, 32), (0x30, 8, 0x20000001000), (0x38, 8, 0x20000002000),
   (0x40, 8, 0x20000000000)]

/-- Its device is member 0 and device 1 the other. -/
def collSt (op : Nat) : State := pokeAll [0, 0, 1, 0] 0x20000000000 (wired (withDesc (collF op)))

theorem wit_CollectivesStart : ∀ op ∈ [0, 1, 2], startsNow (collF op) = true ∧ descType (descOf (collF op)) = 3 ∧
    (desc1 (collF op)).f 0x10 1 = op ∧ (collSt op).rack.colls.length < 16 ∧
    (collSt op).collRefuse (desc1 (collF op)) ((collSt op).collOf (desc1 (collF op))) = 0 ∧
    ((collSt op).wr F.PRT_LINK_STATE 1 0).collRefuse (desc1 (collF op)) ((collSt op).collOf (desc1 (collF op))) = 0x12 := by decide +kernel

theorem wit_CollectivePackets_1 : ∀ op ∈ [7, 8, 9], arrived (arrivedSt op) 23 2 op (parsePkt (pktAt op).bytes) := by
  intro op h
  refine ⟨0, (pktAt op).bytes, ?_, rfl, ?_, ?_⟩ <;> revert op <;> decide +kernel

/-- A collective of two members that this device reduces, with nothing contributed yet. -/
def oneColl : Coll := { id := 3, seq := 1, op := 0, mode := 0, outFmt := 0, plan := [], members := [0, 1], me := 0, count := 64, src := 0, dst := 0 }

theorem wit_CollectivePackets_2 :
    (let s : State := { State.reset with rack := { State.reset.rack with colls := [oneColl] } }
     s.coll 3 = some oneColl ∧ oneColl.missing ≠ [] ∧ s.coll 4 = none) ∧
    (let e := State.reset.srcEnt 67
     (1 + 2 ^ 33 - e.lca - 1) % 2 ^ 32 = 0 ∧ e.done.getLsbD 0 = false ∧ e.inflight.getLsbD 0 = false ∧ (pktAt 7).pred = 0) := by decide +kernel

/-- A BERTH_OPEN of berth 1 with 1 token in a pool of one usable page, then what starts it. -/
def berthF (ty mode : Nat) : List (Nat × Nat × Nat) := [(0, 1, ty), (0x10, 2, 1), (0x12, 1, mode), (0x14, 4, 1), (0x18, 8, 77)]

/-- Berth 1 in a state, a mode and with a pending operation. -/
def berthSt (f : List (Nat × Nat × Nat)) (state mode pending : Nat) : State :=
  (withDesc f).setBerth 1 { state := state, mode := mode, pending := pending }

theorem wit_BerthsOpenAndClose_1 : ∀ f ∈ [berthF 4 0, berthF 4 1, berthF 5 0, berthF 6 0], startsNow f = true ∧
    (desc1 f).f 0x10 2 = 1 ∧ (∀ p ∈ [(0, 0, 0), (1, 1, 0), (2, 0, 0), (2, 0, 1)],
      ((begun (berthSt f p.1 p.2.1 p.2.2) (desc1 f)).berth 1).state = p.1 ∧
      (berthSt f p.1 p.2.1 p.2.2).desc 1 = some (desc1 f) ∧ (berthSt f p.1 p.2.1 p.2.2).roleOk (desc1 f) = true) := by decide +kernel

theorem wit_BerthsOpenAndClose_2 : let t := begun (berthSt (berthF 5 0) 2 0 0) (desc1 (berthF 5 0))
    let w := t.setBerth 1 { t.berth 1 with pending := 1, opSeq := 1 }
    w.stepsBefore 1 1 = true ∧ (w.setRole { w.role with steps := [(0, [1], 1)] }).stepsBefore 1 1 = false ∧
    tget (fun _ => 0) t.lv.flight 1 = 0 ∧ (w.berth 1).pending = 1 ∧ (w.berth 1).state = 2 := by decide +kernel

/-- A pool without pages has none to give; with 4 pages of 4 KiB and a page list in one page there are three to give. -/
def poolSt (pages : Nat) : State :=
  (withDesc (berthF 4 0)).setRole { State.reset.role with setup := { State.reset.role.setup with page := 4096, rec_ := 64, layers := 1, poolPages := pages } }

theorem wit_BerthsOpenAndClose_3 : (match (poolSt 0).allocate 1 1 with | .error 0 => true | _ => false) = true ∧
    (poolSt 4).poolPages = 3 ∧ (poolSt 4).stackList = [] ∧
    (poolSt 4).partyClass (poolSt 4).device = true ∧ (poolSt 4).partyClass 5 = false := by decide +kernel

/-- A state in role PROMPT with descriptor 1 of a type in phase 1. -/
def phase1 (f : List (Nat × Nat × Nat)) : State := (withDesc f).setDesc { desc1 f with phase := 1 }

theorem wit_RoleChanges_1 : (∀ f ∈ [[(0, 1, 0x0E)], [(0, 1, 0x0C)]], startsNow f = true) ∧
    (begun (withDesc [(0, 1, 0x0E)]) (desc1 [(0, 1, 0x0E)])).rd F.LVS_STATUS_STATE = 0 ∧
    (berthSt [(0, 1, 0x0E)] 1 0 0).role.berths.any (fun (e : Nat × Berth) => e.2.state != 0) = true ∧
    (∀ f ∈ [[(0, 1, 0x0B)], [(0, 1, 0x0D)]], (phase1 f).desc 1 = some { desc1 f with phase := 1 }) := by decide +kernel

/-- A role change of descriptor 1 to PROMPT that waits for nothing. -/
def changeSt : State := State.reset.setRole { State.reset.role with change := some (1, 1, State.reset.role.setup, true) }

theorem wit_RoleChanges_2 : changeSt.role.change.isSome = true ∧ changeSt.cmd.descs = [] ∧ sessLeft changeSt.role.sess [] = [] ∧
    changeSt.launches = [] := by decide

/-- Berth 1 awaits an inbound move. -/
def inbound : State := (berthSt [] 1 1 0).setRole { (berthSt [] 1 1 0).role with bops := [⟨1, 1, 1, 1, 0, [], [], []⟩] }

theorem wit_RoleChanges_3 : inbound.berthRole = true ∧ inbound.changing = false ∧ inbound.rd F.LVS_STATUS_STATE = 0 ∧
    (inbound.berth 1).state = 1 ∧ (inbound.berth 1).mode = 1 ∧ inbound.headerCheck 1 (inbound.header 1 0 0) = 0 ∧
    inbound.headerCheck 1 (inbound.header 1 1 0) = 0x20 ∧ ((inbound.bop 1).map (·.kind)) = some 1 := by decide +kernel

/-- A mooring descriptor of a type and sub-kind that names berth 1 and device `dst`. -/
def moorF (ty kind dst : Nat) : List (Nat × Nat × Nat) :=
  [(0, 1, ty), (0x10, 2, if ty = 9 ∨ ty = 0xA then kind else 1), (0x12, 2, dst), (0x14, 4, 1), (0x18, 8, 77)]

theorem wit_MooringRequests_1 : ∀ f ∈ [moorF 7 0 1, moorF 8 0 1, moorF 9 0 1, moorF 9 1 0, moorF 0xA 0 1], startsNow f = true ∧
    (begun (withDesc f) (desc1 f)).cacheRole = false ∧ ((begun (withDesc f) (desc1 f)).wr F.BRT_ROLE_ROLE 0 3).cacheRole = true ∧
    (begun (withDesc f) (desc1 f)).device = 0 ∧ ((begun (withDesc f) (desc1 f)).berth 1).state = 0 ∧
    (desc1 (moorF 9 1 0)).f 0x10 1 = 1 ∧ (begun (withDesc f) (desc1 f)).partyReach 0 = true ∧
    (begun (withDesc f) (desc1 f)).partyReach 1 = false ∧ (begun (withDesc f) (desc1 f)).partyClass 0 = true := by decide +kernel

theorem wit_MooringRequests_2 : (∀ k ∈ [2, 3], ((State.reset.setRole { State.reset.role with
      bops := [⟨1, k, 1, 1, 0, [], [], []⟩] }).bop 1).map (·.kind) = some k) ∧
    State.reset.bop 1 = none ∧ ((phase1 (moorF 9 0 1)).desc 1).map (·.phase) = some 1 ∧
    inbound.headerCheck 1 (inbound.header 1 0 1) = 0 ∧ inbound.header 1 0 1 ≠ [] := by decide +kernel

/-- A CACHE device with a pool of two slots and one session, of key 0, its segment 0 MOORED. -/
def cacheSt : State :=
  ((State.reset.wr F.BRT_ROLE_ROLE 0 3).setRole { State.reset.role with setup := { State.reset.role.setup with slot := 4096, cpoolSlots := 2 },
                                                                         sess := [⟨0, 1, 5, 9, 0⟩] }).setMoor
    ((moorWays 0 0).headD 0) { state := 2 }

theorem wit_MooringHome : cacheSt.cacheRole = true ∧ State.reset.cacheRole = false ∧ (cacheSt.moorFind 0 0 2 none).isSome = true ∧
    (cacheSt.moorFind 1 0 2 none) = none ∧ ((cacheSt.putOf 5 9).map (·.gen)) = some 0 ∧ cacheSt.role.setup.slot = 4096 := by decide +kernel

theorem wit_MooringHome_insert : (cacheSt.moorInsert 1 0 0 0 []).isSome = true ∧ (State.reset.moorInsert 1 0 0 0 []).isNone = true := by
  decide +kernel

/-- Ring 31 enabled on completion ring 31 of 256 entries in 1 MiB of host memory, one descriptor posted, the base set committed. -/
def ringSt : State :=
  let s := [(F.RNG_CMD_CFG_ENABLE, 31, 1), (F.RNG_CMD_CFG_CQ, 31, 31), (F.RNG_CMD_CFG_SIZE, 31, 6), (F.RNG_CQ_CFG_SIZE, 31, 6),
    (F.RNG_CQ_CFG_ENABLE, 31, 1), (F.HST_CTRL_HOST_ABSENT, 0, 0), (F.HST_PORT_LINK_UP, 0, 1), (F.NEG_CTRL_COMMITTED, 0, 1), (F.NEG_ACCEPT_ACCEPT, 0, 1)].foldl
    (fun (s : State) (e : Fld × Nat × Nat) => s.wr e.1 e.2.1 e.2.2) State.reset
  s.setCmd { s.cmd with ddr := 1048576, watch := [(31, 1)] }

theorem wit_DescriptorsAreFetched_1 : ringSt.bit F.RNG_CMD_CFG_ENABLE 31 = true ∧ ringSt.hostOpen = true ∧ 0 < ringSt.backlog 31 ∧
    ringSt.ringBad 31 = false ∧ (ringSt.setCmd { ringSt.cmd with ddr := 0, watch := [(31, 1)] }).ringBad 31 = true ∧
    ringSt.nextRing = some 31 ∧ ringSt.rd F.LVS_STATUS_STATE ≠ 7 := by decide +kernel

theorem wit_DescriptorsAreFetched_2 : ringSt.descOk (descOf []) = false ∧ ringSt.descOk (descOf [(0, 1, 0xC), (0x18, 8, 1)]) = true ∧
    (ringSt.featuresNeeded (descOf [(0, 1, 0xC)])).all ringSt.feature = true ∧
    (ringSt.featuresNeeded (descOf [(0, 1, 5)])).all ringSt.feature = false ∧ ringSt.descOk (descOf [(0, 1, 5)]) = true := by decide +kernel

theorem wit_DescriptorsAreFetched_3 : let s := (withDesc [(0, 1, 0xC)]).setDesc { desc1 [(0, 1, 0xC)] with phase := 2 }
    let t := s.settleDesc 1
    ((t.desc 1).map (·.phase)) = some 2 ∧ t.rd F.LVS_STATUS_STATE = 0 ∧ t.noService = false ∧ t.pwr.ioHalt = [] ∧ t.lv.holds = [] := by
  decide +kernel

theorem wit_HostPathCommands_1 : (State.reset.wr F.HST_PORT_LINK_UP 1 1).bit F.HST_PORT_LINK_UP 1 = true ∧
    State.reset.bit F.HST_PORT_LINK_UP (State.reset.rd F.HST_CTRL_ACTIVE) = false ∧ State.reset.cmd.noPort = false ∧ State.reset.inService (dieIO 1) = true ∧
    (let s := ((ringSt.wr F.RNG_CQ_CFG_MSIX_EN 31 1).wr F.RNG_CQ_CFG_COAL_US 31 9).wr F.NEG_ACCEPT_ACCEPT 0 3
     s.feature 1 = true ∧ s.bit F.RNG_CQ_CFG_MSIX_EN 31 = true ∧ s.rd F.RNG_CQ_CFG_COAL_US 31 ≠ 0 ∧
     (tget (fun _ => 0) (s.setCmd { s.cmd with unsig := [(31, 1)] }).cmd.unsig 31) = 1) := by decide +kernel

/-- The event ring enabled with 64 entries, and one record waiting. -/
def evSt : State :=
  let s := (ringSt.wr F.EVT_CFG_ENABLE 0 1).wr F.EVT_CFG_SIZE 0 6
  { s with evts := [⟨0x0544, false, 0, 0, srcPkg, []⟩] }

theorem wit_HostPathCommands_2 : evSt.hostOpen = true ∧ evSt.bit F.EVT_CFG_ENABLE = true ∧ evSt.unread 32 < evSt.evtSize ∧
    evSt.ddrOk evSt.evtHead 64 = true ∧ evSt.ddrOk evSt.evtBase 32 = true := by decide +kernel

theorem wit_HostPathCommands_3 : let s := (((wired (ringSt.wr F.NEG_ACCEPT_ACCEPT 0 0x801)).wr F.HST_PORT_LINK_UP 1 1).wr F.FAB_PAIR_UP 208 1).wr F.FAB_PAIR_UP 13 1
    s.hdmOk 1 0 = true ∧ s.hdmOk 1 63 = true ∧ s.cxlRefused 0 64 = false ∧ s.cxlWaits 1 0 64 false = false ∧ s.cxlRefused 63 1 = false ∧ s.cxlWaits 1 63 1 true = false := by decide +kernel

/-- The state after reset with locking enabled and one ring in a state. -/
def ringAt (r : Ring) (g : RingSt) : State := { State.reset with fab := { State.reset.fab with up := true, rings := [(ringKey r, g)] } }

theorem wit_RingTransitions : ∀ r ∈ [Ring.fab 15 15 16 true, .fab 0 0 0 false, .fab 15 15 31 true, .port 23 35 true],
    (∀ n ∈ [1, 2, 3], ((ringAt r { st := n, fails := 2, dark := true }).ring (ringKey r)).st = n ∧
      ((ringAt r { st := n, fails := 2, dark := true }).unit ((ringAt r { st := n }).place r).unit).jobs = []) ∧
    ((ringAt r { st := 0 }).ring (ringKey r)).st = 0 ∧ (ringAt r {}).fab.up = true ∧ (ringAt r {}).inRange r = true ∧
    (({ ringAt r {} with pwr := { State.reset.pwr with regions := (List.range 128).map (fun i => (i, 321)) } } : State).inRange r = false ∨ r = .port 23 35 true) := by decide

theorem wit_RingTransitions_loop : let r := Ring.fab 11 15 31 true
    (ringAt r { st := 2, lift := 100, trim := 6000, seen := true }).headroomOf 11 = some 3 ∧
    (ringAt r { st := 2, lift := 700, trim := 6000, seen := true }).headroomOf 11 = some 21 ∧
    (ringAt r { st := 1 }).headroomOf 11 = none ∧ State.reset.bit F.FAB_HEADROOM_LOW 11 = false ∧
    ((ringAt r {}).laneAt (ringPair 11 31 true) 15 31).isSome = true := by decide

theorem wit_RingTransitions_chan : ((ringAt (.fab 15 15 31 true) {}).place (.fab 15 15 31 true)).chan = some 31 ∧
    ((ringAt (.fab 0 0 0 true) {}).place (.fab 0 0 0 true)).chan = none ∧
    ((ringAt (.port 23 31 true) {}).place (.port 23 31 true)).chan = some 31 := by decide

/-- One repair of port 23 in step 1 or 2, over link 767's lane. -/
def repairSt (step : Nat) : State :=
  { State.reset with fab := { State.reset.fab with units := [(279, { jobs := [{ rx := false, chan := 31, pair := 0, lane := 767, step := step }] })] } }

theorem wit_RingRepairs : ((repairSt 1).unit (unitKey (.port 23))).jobs ≠ [] ∧ ((repairSt 1).unit 279).held = [] ∧
    ((repairSt 2).testJob (.link 767)).isSome = true ∧ State.reset.testJob (.pair 0 15 29) = none ∧ State.reset.testJob (.loop 23) = none ∧
    (State.reset.wr F.PRT_LINK_STATE 767 6).linkState 767 = 6 ∧ (State.reset.wr F.GLB_START_DONE 0 1).bit F.GLB_START_DONE = true ∧
    (∃ q, ((State.reset.wr F.FAB_QTHR_EYE 0 5).worstFigure q).isSome = true) ∧ (∃ q, (State.reset.wr F.FAB_QTHR_DETUNE 0 20).figuresClear q = true) ∧
    (State.reset.wr F.FAB_CTRL_FF_ENABLE 0 1).bit F.FAB_CTRL_FF_ENABLE = true ∧
    (State.reset.wr F.STK_PKG_FF_TELEMETRY 0 1).bit F.STK_PKG_FF_TELEMETRY = true := by
  refine ⟨by decide, by decide, by decide, by decide, by decide, by decide, by decide, ⟨⟨0, 0, 0, 0, 0⟩, by decide⟩, ⟨⟨100, 0, 0, 0, 0⟩, by decide⟩, by decide, by decide⟩

/-- Every ring of the fabric LOCKED and enabled, so that the lanes of a pair are up. -/
def lit : State := { State.reset with fab := { State.reset.fab with up := true } }

/-- A flit of type 1 on channel `vc` with a number, of three bytes, as the levels of its codeword. -/
def cwOf (type seq : Nat) : List (Fin 4) := laneLevels (codeword (flitBytes ⟨type, 1, 7, seq, 0, 0, 3, 15, 0, 1⟩ [1, 2, 3]))

theorem wit_FlitsMove_1 : (State.reset.wr F.PRT_LINK_STATE 767 6).linkState 767 = 6 ∧ (767 : Fin 768).val % 32 ≠ 0 ∧
    State.reset.linkState 767 < 2 ∧ decodeFlit (laneBytes []) = none ∧
    (let r : FlitRx := { held := [⟨29, 5, []⟩] }
     ((State.reset.setRx 255 r).rx 255).held.filter (fun e => e.vc == 7 * 4 + 1) ≠ []) ∧
    (State.reset.setMcast 11 6 3 [nullFlit]).mcastQueue 11 6 3 ≠ [] ∧
    (∃ t : FlitTx, t.oweOf t.oweVc ≠ 0 ∧ t.grants 3 = true ∧ t.reserved = []) := by
  refine ⟨by decide, by decide, by decide, by decide, by decide, by decide, ⟨{ owe := [(2, 1)] }, by decide⟩⟩

set_option maxRecDepth 100000 in
theorem wit_FlitsMove_2 : ∀ p ∈ [(1, 0), (1, 32767)], (decodeFlit (laneBytes (cwOf p.1 p.2))).map
    (fun (e : List Byte × Nat) => ((hdrOf (leNat (e.1.take 8))).type, (hdrOf (leNat (e.1.take 8))).seq)) = some p := by decide +kernel

theorem wit_FlitsMove_3 : (lit.lanesUp 1).length = 30 ∧ (lit.pairTry 0 1 0 3).isNone = true ∧
    (firstSend (lit.pairTry 0 1 0) (vcOrder 0)).isNone = true ∧
    (groupMembers 6 11).all (fun m => !(lit.lanesUp (176 + m)).isEmpty) = true ∧
    (let s := (lit.setMcast 11 6 3 [nullFlit]).setTx 185 { reserved := [27], taken := [1] }
     (s.tx 185).taken.contains 1 = true ∧ s.mcastReady 11 6 3 0 = true ∧ (lit.mcastReady 11 6 3 0) = false) := by decide +kernel

/-- A state with watch room 0 ACTIVE. -/
def watched (s : State) : State := { s with fw := { s.fw with rooms := [(0, { role := 3 })] } }

/-- Module 11 in a state, its source A active and level 0 dBm at commissioning. -/
def laserSt (st : Nat) (l : Laser) : State := (State.reset.wr F.LSR_MOD_STATE 11 st).setLaser 11 l

theorem wit_LaserLevels : let taps (x : Int) : List Int := List.replicate 100 x
    let bright : Laser := { ready := true, a := { p0 := some 0, samples := taps 0, level := (0, 100) }, b := { p0 := some 0 } }
    let faded : Lamp := { p0 := some 0, samples := taps (-600) }
    (laserSt 0 bright).activeLamp 11 = 0 ∧ (∀ st ∈ [0, 1, 2, 3, 4, 5], (laserSt st bright).modState 11 = st) ∧
    (laserSt 0 bright).emergency bright.a = none ∧ (laserSt 0 bright).emergency faded = some 4 ∧
    ((laserSt 0 bright).wr F.LSR_MOD_PRESENT 11 1).lampReady 11 1 = true ∧
    ((laserSt 0 { bright with a := { bright.a with advisory := true } }).wr F.LSR_CTRL_ADV 0 10).adv = 50 ∧
    bright.a.level = (0, 100) ∧ avgLe bright.a.short (0 - ((laserSt 0 bright).wr F.LSR_CTRL_SW 0 30).sw) = false ∧ bright.a.short ≠ [] ∧
    State.reset.activeRoom = none ∧ (watched State.reset).activeRoom ≠ none := by decide +kernel

set_option maxRecDepth 100000 in
theorem wit_LaserLevels_dark : let s := laserSt 0 {}
    let dark := (lineRings 11 31).map (fun e => (s.servesFab e.1 e.2.1 (e.2.2 / 32 == 1) (e.2.2 % 32), ({ st := 3, dark := true } : RingSt)))
    ({ s with fab := { s.fab with up := true, rings := dark } } : State).lineDark 11 31 = true := by
  decide +kernel

theorem wit_LaserSwitching : let l : Laser := { todo := [2, 3], dest := 1, commissioning := true }
    (∀ p ∈ [1, 2, 3], (((laserSt 1 { l with phase := p }).laser 11).phase = p ∧ ((laserSt 1 { l with phase := p }).laser 11).todo = [2, 3])) ∧
    (∀ st ∈ [1, 2, 4, 5], (laserSt st l).modState 11 = st) ∧ ((laserSt 4 l).laser 11).commissioning = true ∧
    (watched (laserSt 4 l)).activeRoom ≠ none := by decide

/-- Stack 11 alone present, in a band, with page 5 a candidate and `r` retired pages. -/
def memSt (band r : Nat) : State :=
  let s := (((State.reset.wr F.MEM_MAP_STACKS 0 2048).wr F.MEM_MAP_N 0 1).wr F.MEM_HBM_BAND 11 band).wr F.MEM_HBM_RETIRED_PAGES 11 r
  let t := s.wr F.MEM_HBM_PRESENT 11 1
  { t with mem := { t.mem with queue := [pageKey 11 5] } }

theorem wit_MemoryHomes_1 : (∀ w ∈ [true, false], (memSt 0 0).mapOk 0x1FFFFFFFE0 32 w = true) ∧
    (memSt 0 0).liveOk 0x1FFFFFFFE0 32 = true ∧ (memSt 0 0).homeWaits 0x1FFFFFFFE0 32 true = false ∧ (memSt 3 0).homeWaits 0x1FFFFFFFE0 32 false = true ∧
    (memSt 3 0).areaBusy 0x1FFFFFFFE0 32 = true ∧ (memSt 0 0).locate 0x1FFFFFFFE0 = .hbm 11 0x1FFFFFFFE0 ∧
    (memSt 0 0).bad (hbmUnitAt 11 (0x1FFFFFFFE0 / 32)) = false ∧ State.reset.locate 0x38000000000 = .sram 0 0 := by decide +kernel

theorem wit_MemoryHomes_2 : (memSt 0 0).bit F.MEM_HBM_PRESENT 11 = true ∧ (memSt 0 0).bit F.MEM_HBM_RETIRED 11 = false ∧
    (memSt 0 0).rd F.MEM_HBM_BAND 11 ≠ 3 ∧ rsSymbol 1 1 = some 0 ∧ rsSymbol 1 0 = none ∧ rsSymbol 0xA5 0 = none ∧ rsSyndrome [] = (0, 0) ∧ rsSyndrome [(0, 1)] = (1, 1) ∧
    (memSt 0 0).inService (dieSD 11) = true ∧ ({ memSt 0 0 with mem := { (memSt 0 0).mem with sramMode := [(11, 1)] } } : State).directBytes 11 = 0x18000000 ∧
    (∀ p ∈ [(84, 0, 0), (85, 0, 1), (105, 0, 3), (104, 3, 3), (102, 3, 2), (94, 1, 1), (0, 3, 0)],
      max (bandFor p.1) (bandDown p.2.1 p.1) = p.2.2) := by decide

theorem wit_MemoryHomes_3 : (memSt 0 0).mem.queue.find? (fun k => k / 2 ^ 25 == (11 : Fin 12).val) = some (pageKey 11 5) ∧
    tget (fun _ => 0) (memSt 0 0).mem.retiring 11 = 0 ∧ (memSt 0 4095).rd F.MEM_HBM_RETIRED_PAGES 11 < 4096 ∧
    4096 ≤ (memSt 0 4096).rd F.MEM_HBM_RETIRED_PAGES 11 ∧ (memSt 0 4096).mem.full = [] := by decide

theorem wit_DieResets : (∀ st ∈ [0, 1, 2, 3], (State.reset.wr F.STK_DIE_STATE 15 st).dieState 15 = st) ∧ State.reset.dieDrained 15 = true ∧
    [(⟨.die 0, 100, 0⟩ : Crossing)].any (fun c => !crossingOk c && crossFixed c) = true ∧ State.reset.quadBusy 15 = false ∧
    State.reset.bundleState 1535 ≠ 2 ∧ crc16 ([1, 2] ++ leBytes 2 16384) ≠ 0 ∧
    (∃ c : BitVec 16, crc16 ([1, 2] ++ leBytes 2 16384) = c.toNat) ∧ (State.reset.bundle 1535).nak = none ∧
    ((State.reset.setBundle 1535 { nak := some 3 }).bundle 1535).nak = some 3 := by
  refine ⟨by decide, by decide, by decide, by decide, by decide, by decide, ⟨BitVec.ofNat 16 (crc16 ([1, 2] ++ leBytes 2 16384)), by decide⟩, by decide, by decide⟩

theorem wit_BundleRepair_1 : let s := State.reset.setBundle 1535 { worn := some 9, bad := [9] }
    s.bundleState 1535 ≠ 2 ∧ (s.bundle 1535).pause = 0 ∧ s.inRemap 1535 = false ∧ (s.bundle 1535).worn = some 9 ∧
    s.spares 1535 = [64, 65, 66, 67] ∧
    (let t := s.setBundle 1535 { worn := some 9, bad := [9], spare := some 64, pause := 1, drained := true }
     (t.bundle 1535).spare = some 64 ∧ (t.bundle 1535).drained = true ∧ (t.bundle 1535).pause = 1) ∧
    ((State.reset.setBundle 1535 { bad := [3, 64, 65, 66, 67] }).spares 1535) = [] ∧
    (∀ p ∈ [1, 2, 3], ((State.reset.setBundle 1535 { plan := p }).bundle 1535).plan = p) ∧
    ((State.reset.setBundle 1535 { pause := 4 }).bundle 1535).pause = 4 := by decide

theorem wit_BundleRepair_2 : let s := State.reset.setBundle 1535 { plan := 1 }
    (dirBundles 11 1).any (fun y => (s.bundle y).pause == 1) = false ∧ (dirBundles 11 1).any (fun y => (s.bundle y).plan != 0) = true ∧
    s.stack.remap = [] ∧ NSet.add s.stack.remap 23 = [23] := by decide

theorem wit_LinksTrain : (∀ n ∈ [2, 3, 4, 5, 6, 7], (State.reset.wr F.PRT_LINK_STATE 767 n).linkState 767 = n) ∧
    (∃ f, State.reset.identOk 767 f = true) ∧ (∃ f, State.reset.identOk 767 f = false) ∧ (State.reset.link 767).fails = 0 ∧
    ((State.reset.setLink 767 { fails := 3 }).link 767).fails = 3 := by
  refine ⟨by decide, ⟨⟨BitVec.ofNat 10 (State.reset.linkPeer 767), 23, State.reset.spinePort 23, false, BitVec.ofNat 8 (State.reset.rd F.STK_PKG_PROTO), 0, 0⟩,
    by decide +kernel⟩, ⟨⟨0, 0, false, false, 0, 0, 0⟩, by decide +kernel⟩, by decide, by decide⟩

/-- Link 766's landing buffer with a whole packet in its filling bank. -/
def landedSt : State := State.reset.setLink 766 { land := [(2, { fill := [⟨0, 0, 0, 0, 0, [1, 2, 3, 4]⟩] })] }

theorem wit_PacketsAndEgress_1 : 32 * (23 : Fin 24).val + otherLane 2 = 766 ∧ landedSt.moverLane 23 2 = some 2 ∧ landedSt.moverLane 23 1 = none ∧
    (takePacket (((landedSt.link 766).landing 2).swap 2 2).drain).isSome = true ∧
    landedSt.fifo 23 2 = [] ∧ packetCrcOk [1, 2, 3, 4] = false ∧ packetCrcOk [0, 0, 0, 0] = true := by decide +kernel

/-- One packet on its way from the die of core 191 to I/O die 3's queue for a device. -/
def issuedSt (n dst : Nat) : State :=
  (State.reset.wr F.FAB_PAIR_UP 191 1).issuePkt 3 { dst := dst, vc := 0, stream := 0, ep := 11, link := none, bytes := List.replicate n 0 }

theorem wit_PacketsAndEgress_2 : (∀ d ∈ [31, 1023], ((issuedSt 64 d).issuedTo 3).find?
      (fun m => (issuedSt 64 d).mayInject 3 m && (issuedSt 64 d).pathOpen m.place (12 + 3)) = ((issuedSt 64 d).issuedTo 3).head? ∧
    ((issuedSt 64 d).issuedTo 3).length = 1 ∧ (∀ o ∈ (issuedSt 64 d).issuedTo 3, (issuedSt 64 d).egressRoom 3 o = true)) ∧
    ((issuedSt 300 1023).issuedTo 3).map (·.flits) = [2] ∧
    (State.reset.setBand 3 1023 4).band 3 1023 = 4 ∧ (State.reset.setBand 3 1023 4).bandOf 0 < 4 ∧
    State.reset.rd F.PRT_CTRL_START ≤ State.reset.rd F.PRT_CTRL_STOP := by decide +kernel

theorem wit_BeaconTime : (∀ n ∈ [1, 2, 3, 4], (State.reset.wr F.CLK_BT_STATUS_STATE 0 n).btState = n) ∧
    State.reset.linkPeer 767 ≠ State.reset.rd F.CLK_BT_STATUS_PARENT ∧
    (let s := State.reset.wr F.CLK_BT_STATUS_PARENT 0 (State.reset.linkPeer 767)
     s.linkPeer 767 = s.rd F.CLK_BT_STATUS_PARENT) ∧
    State.reset.btOf 32 ≠ 5 ∧ State.reset.bit F.CLK_BT_STATUS_GEN = false ∧ State.reset.genLost 1 = true ∧ (State.reset.wr F.STK_DIE_STATE 12 4).genLost 0 = true ∧
    (State.reset.wr F.LSR_MOD_STATE 2 4).genLost 2 = true ∧ State.reset.inService (dieIO 1) = true ∧ State.reset.isRoot = false ∧
    ((wired State.reset).parentTo 1) = some 1 ∧ (State.reset.parentTo 1) = none ∧
    (State.reset.wr F.CLK_BT_CTRL_PPS_EN 0 1).bit F.CLK_BT_CTRL_PPS_EN = true := by decide +kernel

theorem wit_IslandsAndCalibration : (State.reset.isl 431).goal = none ∧
    ((State.reset.wr F.CLK_ISL_TARGET 431 2).lowestStep 431 ≠ (State.reset.wr F.CLK_ISL_TARGET 431 2).rd F.CLK_ISL_STEP 431) ∧
    ((State.reset.setIsl 431 { goal := some 3 }).isl 431).goal = some 3 ∧ (({} : Rate).add nsSec 0 1).n ≠ 10001 ∧
    (let u := ((State.reset.wr F.CLK_CTRL_CRIT 0 5).wr F.CLK_ISL_MARGIN 431 4).marginWarn 431 4
     4 < u.rd F.CLK_CTRL_CRIT ∧ (u.isl 431).crit = false) ∧
    (let u := ((State.reset.wr F.CLK_ISL_MCAP 431 15).wr F.CLK_ISL_MARGIN 431 255).marginWarn 431 255
     u.rd F.CLK_CTRL_CRIT ≤ 255) ∧ (∃ m, (((State.reset.wr F.CLK_ISL_MARGIN 431 m).marginWarn 431 m).isl 431).above = 0 ∧ State.reset.rd F.CLK_CTRL_CRIT ≤ m) ∧
    ({ State.reset.wr F.GLB_START_DONE 0 1 with now := 10 ^ 15 } : State).windowFree 279 = true ∧ (NSet.add [] 279).contains (279 : Fin 280).val = true ∧
    (∃ r, runsAgree r r = true) := by
  refine ⟨by decide, by decide, by decide, by decide, by decide, by decide, ⟨State.reset.rd F.CLK_CTRL_CRIT, by decide⟩, by decide +kernel, by decide, ⟨⟨0, 0, 0⟩, by decide⟩⟩

theorem wit_FeedsAndRails : (∀ f : Fin 6, (State.reset.wr (feedFld f) 0 1).bit (feedFld f) = true ∧ (State.reset.wr (feedFld f) 0 0).bit (feedFld f) = false) ∧
    (State.reset.wr F.PWR_FEED_DIP 0 1).bit F.PWR_FEED_DIP = true ∧ State.reset.bit F.PWR_FEED_BROWNOUT = false ∧
    (State.reset.wr F.PWR_FEED_BROWNOUT 0 1).bit F.PWR_FEED_BROWNOUT = true ∧ State.reset.pwr.phases = [] ∧ State.reset.goodPhases 11 true = 5 ∧
    State.reset.goodPhases 11 false = 25 ∧
    ((State.reset.setPwr { State.reset.pwr with phases := [704, 705, 706] }).goodPhases 11 false) = 22 ∧
    containing pkgWatts 5800 = 0 ∧ containing pkgWatts 0 = 31 ∧ stepDown 4 0 0 31 = 4 ∧ stepDown 4 0 30 31 = 31 := by decide

theorem wit_PowerAndThermalLoops : (∃ w : BitVec 14, w.toNat ≤ pkgWatts State.reset.pkgStep ∧ pkgWatts State.reset.pkgStep ≤ w.toNat + 290) ∧
    448 ≤ dieAmps (State.reset.dieStep 11) ∧ dieAmps (State.reset.dieStep 11) ≤ 448 + 16 ∧
    (let s := State.reset.setPwr { State.reset.pwr with temp := [(27, 380)], rising := [srcKey 11 3], fast := [11] }
     4 * (s.rd F.THM_CTRL_TJ_TARGET : Int) ≤ s.temp (dieCD 11) ∧ s.riseOf (dieCD 11) = none ∧ s.pwr.fast.contains 11 = true ∧
     s.pwr.rising.contains (srcKey 11 3) = true ∧ s.src (srcKey 11 2) < (s.wr F.PWR_CTRL_MIN_STEP 0 31).rd F.PWR_CTRL_MIN_STEP) ∧
    State.reset.temp (dieCD 11) < 368 ∧ (State.reset.wr F.GLB_START_DONE 0 1).bit F.GLB_START_DONE = true ∧ State.reset.bit F.GLB_START_DONE = false ∧
    sensorFaults 31 [1, 2, 3, 4, 5, 6, 7, 8] [] = [] ∧ State.reset.rd F.GLB_START_STEP < 7 ∧ 7 ≤ (State.reset.wr F.GLB_START_STEP 0 7).rd F.GLB_START_STEP ∧
    State.reset.brokenRegions 31 = [] ∧ maxInt ((State.reset.readRegions 31 [1, 2, 3, 4, 5, 6, 7, 8]).map (·.2)) = some 8 := by
  refine ⟨⟨5800, by decide⟩, by decide, by decide, by decide, by decide, by decide, by decide, by decide, by decide, by decide, by decide, by decide⟩

theorem wit_StartsAndBoardResets : (State.reset.setPwr { State.reset.pwr with ioHalt := [3] }).pwr.ioHalt.contains 3 = true ∧
    State.reset.fw.refHeld = false ∧ (State.reset.setFw { State.reset.fw with refLost := true }).fw.refLost = true ∧
    (State.reset.setFw { State.reset.fw with refLost := true, refHeld := true }).fw.refHeld = true ∧
    State.reset.fw.due = 1 ∧ (State.reset.setFw { State.reset.fw with due := 2 }).fw.due = 2 := by decide

theorem wit_RequestsLand_1 : ∀ op ∈ [1, 2, 3, 4, 5, 6], arrived (arrivedSt op) 23 2 op (parsePkt (pktAt op).bytes) := by
  intro op h
  refine ⟨0, (pktAt op).bytes, ?_, rfl, ?_, ?_⟩
  · revert op; decide +kernel
  · revert op; decide +kernel
  · revert op; decide +kernel

theorem wit_RequestsLand_2 : State.reset.rd F.LVS_STATUS_STATE ≠ 7 ∧ (State.reset.wr F.LVS_STATUS_STATE 0 7).rd F.LVS_STATUS_STATE = 7 ∧
    State.reset.superseded 1 0 = false ∧ (State.reset.srcEnt 67).fenced = false ∧ (State.reset.srcEnt 67).valid = false ∧
    (let e : SrcEnt := { bootId := 9, valid := true, lca := 4, done := 2, inflight := 4 }
     let s := State.reset.setSrc 67 e
     s.srcEnt 67 = e ∧ e.done.getLsbD 1 = true ∧ e.inflight.getLsbD 2 = true ∧ e.done.getLsbD 0 = false ∧ e.inflight.getLsbD 0 = false ∧
     (5 + 2 ^ 33 - e.lca - 1) % 2 ^ 32 = 0 ∧ 2 ^ 31 ≤ (4 + 2 ^ 33 - e.lca - 1) % 2 ^ 32 ∧ (69 + 2 ^ 33 - e.lca - 1) % 2 ^ 32 = 64 ∧
     (pktAt 1).isMail = false ∧ ({ pktAt 4 with atom := mailAtom } : Pkt).isMail = true ∧ s.reqCheck (pktAt 1) = 0x21 ∧ s.reqCheck (pktAt 6) = 0 ∧ e.done.getLsbD (3 - 3) = false ∧ e.inflight.getLsbD 3 = false) := by decide +kernel

theorem wit_HomesApply : (∀ op ∈ [1, 2, 3, 4, 6], ∀ ph ∈ [0, 2], (fwdSt op ph).fwdAt (3, 7) = some (fwdAt op ph) ∧
    (fwdAt op ph).phase = ph ∧ ((fwdSt op ph).fwdPlaces (fwdAt op ph).pkt).all (fun h => (fwdSt op ph).pathOpen 15 h && (fwdSt op ph).pathOpen h 15) = true ∧
    (tget (fun _ => []) (fwdSt op ph).rack.homeLog ((fwdSt op ph).fwdHome (fwdAt op ph).pkt * 4 + 3)).find?
      (fun (e : Nat × Applied) => e.1 == 7) = none ∧
    ((fwdSt op ph).srcEnt ((fwdAt op ph).pkt.source * 64 + (fwdAt op ph).pkt.e)).bootId = (fwdAt op ph).pkt.bootId ∧
    ((fwdAt op ph).pkt.seq + 2 ^ 33 - ((fwdSt op ph).srcEnt ((fwdAt op ph).pkt.source * 64 + (fwdAt op ph).pkt.e)).lca - 1) % 2 ^ 32 = 0) ∧
    (fwdSt 2 0).fwdLines (fwdAt 2 0).pkt ≠ [] ∧ (fwdSt 6 0).fwdLines (fwdAt 6 0).pkt = [] ∧
    (let s := (fwdSt 4 0).setLine 5 { ops := [(3, 7)] }
     (s.line 5).ops.head? = some (3, 7) ∧ s.fwdAt (3, 7) = some (fwdAt 4 0)) ∧
    (let s := (fwdSt 2 0).setLine (((fwdSt 2 0).fwdLines (fwdAt 2 0).pkt).headD 0) { ops := [(3, 7)] }
     s.fwdMay (3, 7) (fwdAt 2 0).pkt = true) ∧ (fwdSt 2 0).fwdMay (3, 7) (fwdAt 2 0).pkt = false ∧
    (let s := (fwdSt 4 0).logApplied ((fwdSt 4 0).fwdHome (fwdAt 4 0).pkt) 3 7 {}
     (tget (fun _ => []) s.rack.homeLog (s.fwdHome (fwdAt 4 0).pkt * 4 + 3)).find? (fun (e : Nat × Applied) => e.1 == 7) = some (7, {})) := by
  decide +kernel

theorem wit_AnswersComplete_1 : ∀ op ∈ [1, 6], ∀ rsp ∈ [0x81, 0x82, 0x83, 0x84, 0x8F],
    answeredBy (answeredSt op rsp) 23 2 rsp (parseRsp (rspAt rsp).bytes) (sentReq op 0) ∧ (parseRsp (rspAt rsp).bytes).failRec = 0xFFFF := by
  intro op ho rsp hr
  refine ⟨⟨0, (rspAt rsp).bytes, ?_, rfl, ?_, ?_, ?_⟩, ?_⟩ <;> revert op rsp <;> decide +kernel

theorem wit_AnswersComplete_2 : (∃ q : Req, answeredBy (waitingSt (State.reset.setPair 3 1 { next := 6, sent := [q] }) (rspAt 0x81).bytes) 23 2 0x81
      (parseRsp (rspAt 0x81).bytes) q ∧ q.pkt.op = 6 ∧ q.data = true) ∧
    (∃ q : Req, answeredBy (waitingSt (State.reset.setPair 3 1 { next := 6, sent := [q] }) (rspAt 0x84).bytes) 23 2 0x84
      (parseRsp (rspAt 0x84).bytes) q ∧ q.pkt.op = 6 ∧ q.data = true) := by
  refine ⟨⟨{ sentReq 6 0 with data := true }, ⟨0, (rspAt 0x81).bytes, ?_⟩, rfl, rfl⟩, ⟨{ sentReq 6 0 with data := true }, ⟨0, (rspAt 0x84).bytes, ?_⟩, rfl, rfl⟩⟩ <;>
    decide +kernel

theorem wit_AnswersComplete_3 : (∀ n ∈ [0, 9], ((State.reset.setPair 3 1 { next := 6, sent := [sentReq 1 n] }).pair 3 1).sent.find?
      (fun x => x.pkt.seq == 5) = some (sentReq 1 n)) ∧ (sentReq 1 0).tries < State.reset.rd F.PRT_E2E_CTRL_RETRIES ∧
    State.reset.rd F.PRT_E2E_CTRL_RETRIES ≤ (sentReq 1 9).tries ∧ State.reset.hasPath 0 1 = false ∧ State.reset.mayRemote = true ∧
    (sentReq 1 9).dies.any (fun k => decide (1 ≤ State.reset.rd F.STK_DIE_STATE k) && decide (State.reset.rd F.STK_DIE_STATE k ≤ 3)) = false ∧
    (let s := State.reset.wr F.STK_DIE_STATE 12 3
     (sentReq 1 9).dies.any (fun k => decide (1 ≤ s.rd F.STK_DIE_STATE k) && decide (s.rd F.STK_DIE_STATE k ≤ 3)) = true) ∧
    State.reset.waitsToLeave (sentReq 1 0) = false ∧
    relayTarget ({ pktAt 4 with target := 1 } : Pkt).bytes = 1 ∧ State.reset.device = 0 ∧ relayCarries ({ pktAt 4 with target := 1 } : Pkt).bytes = true ∧
    (State.reset.wr F.STK_PKG_SPINE_ROLE 0 1).bit F.STK_PKG_SPINE_ROLE = true ∧ (∀ k < 4, State.reset.activeLinks k 1 = []) := by decide +kernel

/-- Link 1 of port 0, the peer of which is device 1, is ACTIVE. -/
def linkedSt : State := (State.reset.wr F.PRT_LINK_STATE 1 6).wr F.PRT_LINK_PEER 1 1

theorem wit_AnswersComplete_4 : linkedSt.activeLinks 0 1 ≠ [] ∧ linkedSt.hasPath 0 1 = true ∧ linkedSt.mayRemote = true := by decide +kernel

theorem wit_VesselPairs_1 : (∀ k ∈ [0, 1, 2], startsNow (vesselF k 0) = true ∧ (∀ n ∈ [0, 2, 4, 5], (begun (lvIn (withDesc (vesselF k 0)) n) (desc1 (vesselF k 0))).lvState = n) ∧
      (desc1 (vesselF k 0)).f 0x10 1 = k ∧ descType (descOf (vesselF k 0)) = 0xF) ∧
    (let t := begun ((withDesc (vesselF 0 0)).wr F.LVS_CTRL_WITNESS 0 2) (desc1 (vesselF 0 0))
     t.lvState = 0 ∧ (lvIn t 4).lvState = 4 ∧ (desc1 (vesselF 0 0)).f 0x11 1 = 0 ∧ t.witnessOk 1 = true ∧ 1 ≠ t.device ∧ t.sameRack 1 = true ∧ (desc1 (vesselF 0 0)).f 0x12 2 % 1024 = 1) ∧
    (begun (withDesc (vesselF 0 0)) (desc1 (vesselF 0 0))).witnessOk 1 = false := by decide +kernel

theorem wit_VesselPairs_2 : ∀ n ∈ [1, 2, 3, 4, 5, 6], ∀ a ∈ [(0, 0), (1, 0), (2, 0), (8, 0), (0, 9)],
    vessel (vesselSt (lvIn State.reset n) 0x0A 1 a.1 a.2) 23 2 0x0A (parsePkt (lvPktAt 0x0A 1 a.1 a.2).bytes) ∧
    (let k := parsePkt (lvPktAt 0x0A 1 a.1 a.2).bytes
     let u := (vesselSt (lvIn State.reset n) 0x0A 1 a.1 a.2).popPkt 23 2
     k.source = u.partner ∧ u.lvState = n ∧ at_ k.data 0 4 = u.lv.pairId ∧ at_ k.data 4 1 = 1 - u.lv.side ∧ at_ k.data 5 1 = a.1 ∧
     at_ k.data 6 2 = a.2 ∧ epochBelow u.epoch 9 = true ∧ epochBelow u.epoch 0 = false) := by
  intro n hn a ha
  refine ⟨⟨⟨0, (lvPktAt 0x0A 1 a.1 a.2).bytes, ?_, rfl, ?_, ?_⟩, ?_, ?_, ?_⟩, ?_⟩ <;> revert a n <;> decide +kernel

theorem wit_VesselPairs_3 : (∀ n ∈ [1, 2, 3, 4, 5, 6], (lvIn State.reset n).lvState = n) ∧ State.reset.lvState = 0 ∧
    (∀ n ∈ [0, 2], ({ lvIn State.reset 4 with lv := { State.reset.lv with lease := n } } : State).lv.lease = n) := by decide

theorem wit_VesselWitness_1 : ∀ op ∈ [0x0C, 0x8C, 0x0B], ∀ a ∈ [(0, 0, 0), (1, 0, 1), (0, 16, 0), (1, 16, 1), (0, 32, 0)], ∀ n ∈ [0, 3, 4, 6],
    vessel (vesselSt (lvIn State.reset n) op a.1 a.2.1 a.2.2) 23 2 op (parsePkt (lvPktAt op a.1 a.2.1 a.2.2).bytes) ∧
    (let k := parsePkt (lvPktAt op a.1 a.2.1 a.2.2).bytes
     let u := (vesselSt (lvIn State.reset n) op a.1 a.2.1 a.2.2).popPkt 23 2
     k.source = u.lv.witness ∧ at_ k.data 0 4 = u.lv.pairId ∧ at_ k.data 4 1 = a.1 ∧ at_ k.data 5 1 = a.2.1 ∧ at_ k.data 6 2 = a.2.2 ∧ u.lvState = n ∧
     u.epoch = 0 ∧ u.lv.takeSeq = none ∧ u.spinePort 23 = false ∧ u.lv.quarantine = false) := by
  intro op ho a ha n hn
  refine ⟨⟨⟨0, (lvPktAt op a.1 a.2.1 a.2.2).bytes, ?_, rfl, ?_, ?_⟩, ?_, ?_, ?_⟩, ?_⟩ <;> revert op a n <;> decide +kernel

theorem wit_VesselWitness_2 : ({ State.reset with lv := { State.reset.lv with quarantine := true } } : State).lv.quarantine = true ∧
    (∀ n ∈ [0, 5], tget (fun _ => 0) ({ State.reset with lv := { State.reset.lv with flight := tput (fun _ => 0) [] 1 n } } : State).lv.flight 1 = n) ∧
    ((berthSt [] 2 0 0).berth 1).state ≠ 0 ∧ State.reset.lv.overdue.contains 1 = false ∧
    ({ lvIn State.reset 4 with lv := { State.reset.lv with lease := 2 } } : State).lv.lease ≠ 0 := by decide

theorem wit_SetUpWrites : State.reset.bit F.FWU_STATUS_HANDOVER = false ∧ (∀ n ∈ [0, 255, 256], (handing n).bit F.FWU_STATUS_HANDOVER = true ∧
    (handing n).fw.held.length = n) ∧ startsNow [(0, 1, 0x10), (0x10, 1, 1), (0x18, 4, 0x1100008), (0x1C, 4, 7), (0x20, 4, 0xFFFFFFFF)] = true ∧
    descType (descOf [(0, 1, 0x10), (0x10, 1, 1), (0x18, 4, 0x1100008), (0x1C, 4, 7), (0x20, 4, 0xFFFFFFFF)]) = 0x10 ∧
    (withDesc [(0, 1, 0x10), (0x10, 1, 1)]).bit F.FWU_STATUS_HANDOVER = false ∧ ((4 : BitVec 26).toNat % 4 = 0 ∧ (4 : BitVec 26).toNat % 8 ≠ 0) ∧
    (6 : BitVec 26).toNat % 4 ≠ 0 ∧ (8 : BitVec 26).toNat % 8 = 0 ∧ (0x302800 : BitVec 26).toNat = 0x302800 := by decide +kernel

theorem wit_RegisterAccess : State.reset.bit F.FWU_STATUS_HANDOVER = false ∧ State.reset.bit F.GLB_SETUP_DONE_DONE = false ∧
    (State.reset.wr F.GLB_SETUP_DONE_DONE 0 1).bit F.GLB_SETUP_DONE_DONE = true ∧ (0x80000000 : BitVec 32).getLsbD 31 = true ∧
    ((3 : BitVec 32) ^^^ State.reset.reg 0xA00004) &&& 0x800003FF ≠ 0 ∧ (State.reset.reg 0xA00004 ^^^ State.reset.reg 0xA00004) &&& 0x800003FF = 0 ∧
    bitsGet (0x01010000 : BitVec 32) 1 0 = State.reset.rd F.MEM_CTRL_PRESET ∧ ((0x01010000 : BitVec 32) ^^^ State.reset.reg 0xB00000) &&& 0xFFFF0000 ≠ 0 ∧
    State.reset.bit F.GLB_EXPERT_UNLOCKED = false ∧ State.reset.rd F.MEM_CTRL_SCRUB_H = 24 ∧ State.reset.rd F.MEM_CTRL_RETIRE_CE = 3 ∧
    bitsGet (0x01010000 : BitVec 32) 31 24 = 1 ∧ bitsGet (0x01010000 : BitVec 32) 23 16 = 1 ∧
    (State.reset.wr F.GLB_EXPERT_UNLOCKED 0 1).bit F.GLB_EXPERT_UNLOCKED = true ∧ (0x4558 : BitVec 32) &&& 0xFFFF = 0x4558 ∧
    (0x40004558 : BitVec 32).getLsbD 30 = true ∧ (0x40004558 : BitVec 32) &&& 0xFFFF = 0x4558 := by decide +kernel

theorem wit_WatchRooms : (∀ r ∈ [0, 1, 2, 4], ((roomsSt r 0).room 1).role = r ∧ (roomsSt r 0).activeRoom = some 0 ∧ ((roomsSt r 0).room 1).failPrev = 0) ∧
    (roomsSt 1 0).headerGood (hdrAt 1 1) = true ∧ (roomsSt 1 0).headerGood [] = false ∧ (roomsSt 2 0).standbyRoom = some 1 ∧ (roomsSt 1 0).standbyRoom = none ∧ (roomsSt 1 0).roomIn 1 = some 1 ∧ ((roomsSt 1 0).room 1).verified = true ∧
    recordGood ((roomsSt 2 0).room 1).hdr recordAt = true ∧ recordGood ((roomsSt 2 0).room 1).hdr [] = false ∧
    sectionsGood (at_ recordAt 6 2) (recordAt.drop 0x40) = true ∧ (roomsSt 2 0).tender = 0 ∧ (roomsSt 2 0).bit F.FWU_STATUS_HANDOVER = false ∧
    ((roomsSt 2 0).wr F.FWU_STATUS_HANDOVER 0 1).bit F.FWU_STATUS_HANDOVER = true ∧ ((roomsSt 2 0).wr F.FWU_STATUS_HANDOVER 0 1).standbyRoom = some 1 ∧
    (∀ n ∈ [0, 1, 2], tget (fun _ => 0) (tput (fun _ => 0) [] 4 n) 4 = n) := by decide +kernel

theorem wit_ImageUpdates : (∀ t ∈ [0, 1, 3, 4, 5], (roomsSt 2 t).tender = t ∧ (roomsSt 2 t).standbyRoom = some 1) ∧ (roomsSt 2 1).mayRead = true ∧
    (∀ n ∈ [0, 1], ((roomsSt 2 1).setFw { (roomsSt 2 1).fw with src := n, asked := true }).tender = 1 ∧
      ((roomsSt 2 1).setFw { (roomsSt 2 1).fw with src := n }).fw.src = n) ∧ (roomsSt 2 1).fw.asked = false ∧
    ((roomsSt 2 3).setTender 4).standbyRoom = some 1 ∧ (roomsSt 2 4).mayHandOver = false ∧
    (((roomsSt 2 4).setSlot 0 0 { state := 3, hdr := hdrAt 1 1 }).setSlot 0 1 { state := 2, hdr := hdrAt 1 1 }).mayHandOver = true ∧
    (roomsSt 2 4).bit F.FWU_STATUS_HANDOVER = false ∧ (roomsSt 2 4).actTime ≤ (roomsSt 2 4).bt ∧
    (let s := { roomsSt 2 4 with bt := 10 ^ 12 }
     s.actTime + s.rd F.FWU_ACT_CFG_ACT_WINDOW * 1000000 ≤ s.bt) := by decide +kernel

theorem wit_ManagementAnswers : State.reset.activeRoom = none ∧ (roomsSt 2 0).activeRoom.isSome = true ∧ (roomsSt 2 3).tender = 3 ∧
    (let s := (roomsSt 2 0).raise 0x0B01 0 []
     s.bmcLog.any (fun e => seqFrom s.fw.bmcRead e.seq) = true) ∧ (roomsSt 2 0).bmcLog.any (fun e => seqFrom (roomsSt 2 0).fw.bmcRead e.seq) = false ∧
    ((roomsSt 2 0).bucketFill < tokenNs ↔ ((roomsSt 2 0).setFw { (roomsSt 2 0).fw with bucket := 0 }).bucketFill = (roomsSt 2 0).bucketFill) ∧
    tokenNs ≤ ((roomsSt 2 0).setFw { (roomsSt 2 0).fw with bucket := tokenNs }).bucketFill ∧
    ((roomsSt 2 0).setFw { (roomsSt 2 0).fw with bucket := 0, busyAt := 1 }).bucketFill < tokenNs ∧ (roomsSt 2 0).now < 1 - 1 + nsHour ∧
    (roomsSt 2 0).takeLeaf.isSome = true ∧ ((roomsSt 2 0).setFw { (roomsSt 2 0).fw with leaf := 2 ^ 20 }).takeLeaf = none ∧
    (∃ lf t, (roomsSt 2 0).takeLeaf = some (lf, t) ∧ 65536 ≤ t.leavesLeft) ∧ (roomsSt 2 0).offerRefusal (List.replicate 5332 0) [] false = 1 := by
  refine ⟨by decide +kernel, by decide +kernel, by decide +kernel, by decide +kernel, by decide +kernel, by decide +kernel, by decide +kernel,
    by decide +kernel, by decide +kernel, by decide +kernel, by decide +kernel, ⟨_, _, rfl, by decide +kernel⟩, by decide +kernel⟩

def monSt (scope : Nat) (done : Bool) : State :=
  let s := if done then (roomsSt 2 0).wr F.GLB_START_DONE 0 1 else roomsSt 2 0
  { s with mon := { s.mon with scope := scope } }

theorem wit_MonitorCommands_1 : (handing 0).bit F.FWU_STATUS_HANDOVER = true ∧ State.reset.activeRoom = none ∧ (∀ n ∈ [0, 1, 2], ∀ d ∈ [true, false],
    (monSt n d).bit F.FWU_STATUS_HANDOVER = false ∧ (monSt n d).activeRoom.isSome = true ∧ (monSt n d).mon.unlock = none ∧ (monSt n d).mon.scope = n ∧
    (monSt n d).bit F.GLB_START_DONE = d) ∧ (monSt 0 true).bit F.MON_CTRL_LOCKOUT = false ∧ (monSt 0 true).unlockHeld = false ∧
    ((monSt 0 true).wr F.MON_CTRL_LOCKOUT 0 1).bit F.MON_CTRL_LOCKOUT = true ∧
    (∀ n ∈ [0, 1, 2, 3, 4], ((monSt 1 true).wr F.STK_DIE_STATE 15 n).dieState 15 = n) ∧ ((monSt 1 true).core 191).broken = false ∧
    (((monSt 1 true).setCore 191 { cstate := .idle }).core 191).cstate = .idle ∧ (((monSt 1 true).setCore 191 { cstate := .running }).core 191).cstate ≠ .idle := by
  decide +kernel

theorem wit_MonitorCommands_2 : (wired (monSt 2 true)).monArea 0x20000000000 4096 false = 0 ∧
    (wired (monSt 2 true)).monArea 0x20000000000 64 true = 0 ∧ (wired (monSt 2 true)).mon.scope = 2 := by decide +kernel

theorem wit_MonitorCommands_3 :
    (let s : State := { monSt 0 true with mon := { unlock := some (1, 240, List.replicate 5076 0), block := some [], blockAt := 0 } }
     s.mon.unlock = some (1, 240, List.replicate 5076 0) ∧ s.mon.block.isSome = true ∧ s.now ≤ s.mon.blockAt + 60 * nsSec ∧
     (List.replicate 5076 (0 : BitVec 8)).length = 5076) :=
  ⟨rfl, rfl, by decide +kernel, List.length_replicate ..⟩

theorem wit_BlockScales : (∀ fmt ∈ [1, 2, 5, 6, 7, 10, 11], hasScale fmt = true) ∧ hasTrim 7 = true ∧ hasTrim 6 = false ∧
    (elemOf 7).value (packedAt (fun _ => 0x22) 0 (fmtWidth 7) 31) = .fin false 8 (-3) ∧ (0x22 : Byte).toNat ≠ 0xFF ∧ (0xFF : Byte).toNat = 0xFF := by decide

theorem wit_EventsRaised : State.reset.evts.length < 4096 ∧ (∃ e : EvRec, 4096 ≤ ({ State.reset with evts := List.replicate 4096 e } : State).evts.length) ∧
    ([(4, 7), (8, 1)].flatMap (fun (x : Nat × Nat) => leBytes x.1 x.2)).length ≤ 12 :=
  ⟨by decide, ⟨⟨0, false, 0, 0, 0, []⟩, Nat.le_of_eq (List.length_replicate ..).symm⟩, by decide⟩

theorem wit_AfterReset : (State.reset.locate 0x38000000000).writable = true ∧ (∃ off, regRow off = none ∧ off < 0x501000) :=
  ⟨by decide +kernel, 0x0FFFFC, by decide +kernel, by decide⟩

theorem wit_SoundStays : State.reset.Sound ∧ ∃ t, step State.reset = .next t :=
  ⟨⟨rfl, rfl, rfl, by decide, by decide, by decide, by decide⟩, ⟨_, rfl⟩⟩

end Sys2Proof.Tests
end

section
/-!
Every command completes: `Answers` says it of one meaning, and that the queue, local time and the form of the state stand.
-/
namespace Sys2Proof.Machine

/-! ## A meaning that completes -/

/-- A meaning completes: it answers a next state, and that state keeps of the old one what `Keeps` lists. -/
def Answers (s : State) (o : Out) : Prop := ∃ t, o = .next t ∧ Keeps s t

section

variable {s t a b : State}

theorem Answers.next (h : Keeps s t) : Answers s (.next t) := ⟨t, rfl, h⟩

theorem Keeps.here : Keeps s s := .rfl' s

/-- The device is left as it is (log entry 48). -/
theorem Answers.skip : Answers s (.next s) := .next .here

theorem Answers.ite {c : Prop} [Decidable c] {o p : Out} (ho : Answers s o) (hp : Answers s p) :
    Answers s (if c then o else p) := by
  split
  · exact ho
  · exact hp

/-- A choice keeps the state where both its branches do, whatever the condition. -/
theorem Keeps.either {c : Prop} [Decidable c] (ha : Keeps s a) (hb : Keeps s b) : Keeps s (if c then a else b) :=
  .ite (fun _ => ha) (fun _ => hb)

theorem Keeps.either_fst {β : Type} {a b : State × β} {c : Prop} [Decidable c] (ha : Keeps s a.1) (hb : Keeps s b.1) :
    Keeps s (if c then a else b).1 :=
  .ite_fst (fun _ => ha) (fun _ => hb)

/-- An instruction of the sequencer completes where its body keeps the state (R42). -/
theorem issue_answers {lc : Nat} {w : W64} {mine : Bool} {body : Core → State} (h : ∀ c, Keeps s (body c)) :
    Answers s (issue s lc w mine body) := by
  obtain ⟨-, -, e⟩ | e := issue_cases s lc w mine body
  · exact e ▸ .next (h _)
  · exact e ▸ .skip

/-- Behind its oldest record the event buffer of a sound state has room (R361). -/
theorem State.evts_room {e : EvRec} {rest : List EvRec} (he : s.evts = e :: rest) (h : s.Sound) : rest.length < 4096 := by
  have hl := h.evts
  rw [he, List.length_cons] at hl
  omega

theorem Keeps.dropEvt {e : EvRec} {rest : List EvRec} (he : s.evts = e :: rest) : Keeps s { s with evts := rest } :=
  ⟨rfl, rfl, fun h => ⟨h.regs, h.dmem, h.hmem, (State.evts_room he h).le, h.log, h.seq, h.bt⟩⟩

/-- A copy that a caller takes apart into state and fault. -/
theorem Keeps.ofMoved {m : Moved} {f : Option Stop} (e : m = ⟨t, f⟩) (h : Keeps s m.st) : Keeps s t := by
  subst e
  exact h

end

/-! ## The commands, in the order of the model's files

One lemma for each meaning that chooses; a meaning that always takes the same way is an arm of `exec_answers` below. -/

section

variable {s : State} {lc : Fin 192} {w : W64} {seq : BitVec 32}

/-! ### Beacon -/

theorem execBtProbeSend_answers {x : Fin 768} : Answers s (execBtProbeSend x s) :=
  .ite (.next (State.sendCtl_keeps .here)) .skip

theorem execBtProbe_answers {x : Fin 768} {t1 : Int} : Answers s (execBtProbe x t1 s) :=
  .ite (.next (State.sendCtl_keeps (State.drawn_keeps .here))) .skip

theorem execBtEcho_answers {x : Fin 768} {t1 t2 t3 t4 : Int} : Answers s (execBtEcho x t1 t2 t3 t4 s) :=
  .ite (.ite (.next (State.exchange_keeps (State.setLink_keeps .here))) (.next (State.setLink_keeps .here))) .skip

theorem execBtParentTimeout_answers : Answers s (execBtParentTimeout s) := by
  unfold execBtParentTimeout
  refine .ite (.ite (.next (State.holdover_keeps .here)) ?_) (.next (State.btSettle_keeps .here))
  split
  · exact .ite (.next (State.holdover_keeps .here)) (.next (State.takeParent_keeps .here))
  · exact .next (State.holdover_keeps .here)

theorem execBtHoldoverTimeout_answers : Answers s (execBtHoldoverTimeout s) :=
  .ite (.next (State.raise_keeps .here)) .skip

theorem execBtFrame_answers {die : Fin 33} {count : BitVec 64} {crc : BitVec 8} :
    Answers s (execBtFrame die count crc s) :=
  .ite .skip (.next (State.raise_keeps (.rec_ .here)))

theorem execBtGeneratorFailover_answers {trigger : Fin 3} {advance : Bool} :
    Answers s (execBtGeneratorFailover trigger advance s) := by
  unfold execBtGeneratorFailover
  refine .ite .skip (.next (State.raise_keeps (State.wr_keeps ?_)))
  exact Keeps.here.updBt rfl rfl rfl rfl rfl rfl rfl rfl (Nat.mod_lt _ (Nat.two_pow_pos 64))

theorem execPpsEdge_answers : Answers s (execPpsEdge s) := .ite (.next (State.newTrim_keeps .here)) .skip

theorem execPpsTimeout_answers : Answers s (execPpsTimeout s) := .ite (.next (State.raise_keeps .here)) .skip

/-! ### Matrix -/

theorem issueMMA_answers {o : Nat} {check : Core → W64 → Option Nat} : Answers s (issueMMA o check lc w s) := by
  refine issue_answers (fun _ => ?_)
  split
  · exact State.coreFault_keeps .here
  · exact State.enqueue_keeps .here

/-! ### Vector -/

theorem issueVOP_answers {fn : Nat} : Answers s (issueVOP fn lc w s) := by
  refine issue_answers (fun _ => ?_)
  split
  · exact State.coreFault_keeps .here
  · exact State.enqueue_keeps .here

/-! ### Transfer -/

theorem issueXFER_answers {o : Nat} : Answers s (issueXFER o lc w s) := by
  refine issue_answers (fun _ => ?_)
  split
  · exact State.coreFault_keeps .here
  · exact State.enqueue_keeps .here

/-! ### Engines -/

theorem execMatrixOpStart_answers {e : Fin 4} {errs : List ScratchErr} :
    Answers s (execMatrixOpStart lc e errs s) := by
  unfold execMatrixOpStart
  extract_lets +onlyGivenNames c
  split
  · exact .skip
  · exact .ite (.next (State.startEngine_keeps (.either (State.setCore_keeps .here) .here))) .skip

theorem execMatrixOpComplete_answers {e : Fin 4} {t : Fin 2} : Answers s (execMatrixOpComplete lc e t s) := by
  unfold execMatrixOpComplete
  extract_lets +onlyGivenNames c
  split
  · exact .skip
  · exact .next (State.finishOp_keeps (State.mmaEffect_keeps .here))

theorem execVectorOpStart_answers {errs : List ScratchErr} : Answers s (execVectorOpStart lc errs s) := by
  unfold execVectorOpStart
  extract_lets +onlyGivenNames c
  split
  · exact .skip
  · exact .ite (.next (State.startEngine_keeps .here)) .skip

theorem execVectorOpComplete_answers : Answers s (execVectorOpComplete lc s) := by
  unfold execVectorOpComplete
  extract_lets +onlyGivenNames c
  split
  · exact .skip
  · exact .next (State.finishOp_keeps (State.store_keeps .here))

/-! ### Sync -/

theorem execSignal_answers : Answers s (execSignal lc w s) :=
  issue_answers (fun _ =>
    .either (State.coreFault_keeps .here)
      (.either (State.coreFault_keeps .here)
        (.either (.either (State.nextPc_keeps .here) (State.coreFault_keeps .here)) (State.sendSig_keeps .here))))

theorem execWait_answers : Answers s (execWait lc w s) :=
  issue_answers (fun _ =>
    .either (State.coreFault_keeps .here) (.either (State.nextPc_keeps .here) (State.setCore_keeps .here)))

theorem execWaitbt_answers : Answers s (execWaitbt lc w s) :=
  issue_answers (fun _ =>
    .either (State.coreFault_keeps .here) (.either (State.nextPc_keeps .here) (State.setCore_keeps .here)))

theorem execFence_answers : Answers s (execFence lc w s) :=
  issue_answers (fun _ =>
    .either (State.coreFault_keeps .here) (.either (State.nextPc_keeps .here) (State.setCore_keeps .here)))

theorem execFenceE_answers : Answers s (execFenceE lc w s) :=
  issue_answers (fun _ =>
    .either (State.coreFault_keeps .here) (.either (State.nextPc_keeps .here) (State.setCore_keeps .here)))

theorem execSemrd_answers : Answers s (execSemrd lc w s) :=
  issue_answers (fun _ => .either (State.coreFault_keeps .here) (State.nextPc_keeps .here))

theorem execHalt_answers : Answers s (execHalt lc w s) :=
  issue_answers (fun _ =>
    .either (State.coreFault_keeps .here) (.either (State.setCore_keeps .here) (State.setCore_keeps .here)))

theorem execRdbt_answers : Answers s (execRdbt lc w s) :=
  issue_answers (fun _ => .either (State.coreFault_keeps .here) (State.nextPc_keeps .here))

theorem execRdcyc_answers : Answers s (execRdcyc lc w s) :=
  issue_answers (fun _ =>
    .either (State.coreFault_keeps .here)
      (.either (State.nextPc_keeps (State.drawn_keeps .here)) (State.nextPc_keeps .here)))

theorem execRdslip_answers : Answers s (execRdslip lc w s) :=
  issue_answers (fun _ =>
    .either (State.coreFault_keeps .here)
      (.either (State.nextPc_keeps (State.drawn_keeps .here)) (State.nextPc_keeps .here)))

theorem execIllegalInstruction_answers : Answers s (execIllegalInstruction lc w s) :=
  issue_answers (fun _ => State.coreFault_keeps .here)

theorem execRemoteSignalArrive_answers : Answers s (execRemoteSignalArrive lc s) := by
  unfold execRemoteSignalArrive
  extract_lets +onlyGivenNames c
  split
  · exact .skip
  · extract_lets +onlyGivenNames t
    have ht : Keeps s t.1 := State.landSig_keeps (State.setCore_keeps .here)
    exact .ite (.next (State.setCore_keeps ht)) (.next (State.wake_keeps ht))

theorem execSignalFreeEntry_answers : Answers s (execSignalFreeEntry lc s) := by
  unfold execSignalFreeEntry
  extract_lets +onlyGivenNames c
  split
  · exact .skip
  · exact .ite (.next (State.drainSigs_keeps (State.setCore_keeps .here))) .skip

theorem execWaitTimeout_answers : Answers s (execWaitTimeout lc s) := .ite (.next (State.coreFault_keeps .here)) .skip

theorem execWaitbtTimeReached_answers : Answers s (execWaitbtTimeReached lc s) := by
  unfold execWaitbtTimeReached
  extract_lets +onlyGivenNames c
  split
  · exact .ite (.next (State.nextPc_keeps .here)) .skip
  · exact .skip

/-! ### CoreEvents -/

theorem execCoreLaunchReceive_answers : Answers s (execCoreLaunchReceive lc seq s) := by
  unfold execCoreLaunchReceive
  extract_lets +onlyGivenNames c
  split
  · exact .skip
  · exact .ite (.next (State.askHomes_keeps (State.setCore_keeps (.rec_ .here)))) .skip

theorem execCoreLoadingDone_answers : Answers s (execCoreLoadingDone lc s) := by
  unfold execCoreLoadingDone
  refine .ite ?_ .skip
  split
  · exact .next (State.coreFault_keeps .here)
  · exact .ite
      (.next (State.coreFault_keeps (State.setCore_keeps .here)))
      (.ite
        (.next (State.coreFault_keeps (State.setCore_keeps (State.loadInit_keeps .here))))
        (.ite
          (.next (State.applyHeld_keeps (State.setCore_keeps (State.loadInit_keeps .here))))
          (.next (State.coreFault_keeps (State.applyHeld_keeps (State.setCore_keeps (State.loadInit_keeps .here)))))))

theorem execCoreAbortReceive_answers : Answers s (execCoreAbortReceive lc s) :=
  .ite (.next (State.setCore_keeps .here)) .skip

theorem execCoreDrainDone_answers : Answers s (execCoreDrainDone lc s) :=
  .ite (.next (State.setCore_keeps (State.report_keeps .here))) .skip

theorem execScratchPatrolScrub_answers {granule : Fin 98304} {corrected : Fin 5} {double : Option (Fin 4)} :
    Answers s (execScratchPatrolScrub lc granule corrected double s) := by
  refine .ite .skip ?_
  extract_lets +onlyGivenNames s1 s2
  have h1 : Keeps s s1 := .either .here (State.scratchCorrected_keeps .here)
  have h2 : Keeps s s2 := by
    dsimp only [s2]
    split
    · exact h1
    · exact State.scratchDouble_keeps h1
  exact .next (.either (State.setCore_keeps h2) h2)

theorem execCoreRebind_answers : Answers s (execCoreRebind lc s) := by
  unfold execCoreRebind
  refine .ite ?_ .skip
  split
  · exact .next (State.bindSpare_keeps .here)
  · exact .next (State.absentCore_keeps .here)

/-! ### Bundles -/

theorem execVbSubstitutionDrained_answers {x : Fin 1536} : Answers s (execVbSubstitutionDrained x s) :=
  .ite (.next (State.setBundle_keeps .here)) .skip

theorem execVbSpareTrainDone_answers {x : Fin 1536} {pass : Bool} : Answers s (execVbSpareTrainDone x pass s) := by
  unfold execVbSpareTrainDone
  extract_lets +onlyGivenNames b
  split
  · refine .ite .skip
      (.ite
        (.next (State.raise_keeps (State.sendControl_keeps (State.showBundle_keeps (State.setBundle_keeps .here)))))
        ?_)
    extract_lets +onlyGivenNames _ s1 b1 s2 more s3
    have h3 : Keeps s s3 := State.sendControl_keeps (State.showBundle_keeps (State.setBundle_keeps (.rec_ .here)))
    exact .ite (.next h3) (.next (State.plan_keeps h3))
  · exact .skip

theorem execBundleBeatReceive_answers {x : Fin 1536} {data : List (BitVec 8)} {ctl crc : BitVec 16} {clk : Bool} :
    Answers s (execBundleBeatReceive x data ctl crc clk s) := by
  unfold execBundleBeatReceive
  refine .ite .skip
    (.ite
      (.next (State.plan_keeps (State.setBundle_keeps .here)))
      (.ite
        (.next (State.sendNak_keeps (State.setBundle_keeps .here)))
        (.ite (.next (State.turnBundle_keeps (State.takeWord_keeps .here))) ?_)))
  split
  · exact .next (State.turnBundle_keeps
      (State.takeBeat_keeps (State.compareCopy_keeps (State.setBundle_keeps (State.takeWord_keeps .here)))))
  · exact .next (State.turnBundle_keeps (State.takeBeat_keeps (State.takeWord_keeps .here)))

theorem execBundleNakReceive_answers {x : Fin 1536} {seq : BitVec 6} : Answers s (execBundleNakReceive x seq s) :=
  .ite .skip (.next (State.nakBundle_keeps .here))

theorem execVbRemapPauseStart_answers {n : Fin 12} {up : Bool} : Answers s (execVbRemapPauseStart n up s) :=
  .ite .skip (.next (State.disturbDie_keeps (.rec_ .here)))

theorem execVbRemapDrained_answers {n : Fin 12} {up : Bool} : Answers s (execVbRemapDrained n up s) :=
  .ite .skip
    (.ite (.next (State.endRemap_keeps .here)) (.ite (.next (State.endRemap_keeps .here)) (.next (.rec_ .here))))

/-! ### Fabric -/

theorem execRingSeekBegin_answers {r : Ring} : Answers s (execRingSeekBegin r s) :=
  .ite (.next (State.setRing_keeps .here)) .skip

theorem execRingSeekLock_answers {r : Ring} : Answers s (execRingSeekLock r s) :=
  .ite (.next (State.parkSeek_keeps .here)) (.ite (.next (State.ringChanged_keeps (State.setRing_keeps .here))) .skip)

theorem execRingSeekAttemptFail_answers {r : Ring} : Answers s (execRingSeekAttemptFail r s) := by
  unfold execRingSeekAttemptFail
  refine .ite (.next (State.parkSeek_keeps .here)) (.ite (.ite (.next (State.setRing_keeps .here)) ?_) .skip)
  extract_lets +onlyGivenNames pl
  split
  · exact .ite (.next (State.spareFailed_keeps .here)) (.next (State.retireRing_keeps .here))
  · exact .next (State.retireRing_keeps .here)

theorem execRingLightLost_answers {r : Ring} : Answers s (execRingLightLost r s) :=
  .ite
    (.next (State.parkSeek_keeps .here))
    (.ite
      (.next (State.ringChanged_keeps (State.setRing_keeps .here)))
      (.ite (.next (State.setRing_keeps .here)) .skip))

theorem execRingDetuneLoss_answers {r : Ring} : Answers s (execRingDetuneLoss r s) := by
  unfold execRingDetuneLoss
  refine .ite ?_ .skip
  extract_lets +onlyGivenNames pl c s1 s2
  have h2 : Keeps s s2 := .either (State.raise_keeps (State.setRing_keeps .here)) (State.setRing_keeps .here)
  refine .next (State.ringChanged_keeps (.either h2 (.either ?_ (State.markSuspect_keeps h2))))
  split
  · exact State.markSuspect_keeps h2
  · exact h2

theorem execRingHoldRequest_answers {r : Ring} : Answers s (execRingHoldRequest r s) := by
  unfold execRingHoldRequest
  refine .ite ?_ (.next (State.holdPart_keeps .here))
  extract_lets +onlyGivenNames pl s2
  split
  · exact .next (State.setRing_keeps (State.holdPart_keeps .here))
  · exact .ite
      (.next (State.ringChanged_keeps (State.setRing_keeps (State.holdPart_keeps .here))))
      (.next (State.linkPause_keeps (State.setRing_keeps (State.holdPart_keeps .here))))

theorem execRingHoldRelease_answers {r : Ring} : Answers s (execRingHoldRelease r s) := by
  unfold execRingHoldRelease
  refine .ite ?_ (.next (State.holdPart_keeps .here))
  extract_lets +onlyGivenNames pl s2
  split
  · exact .next (State.setRing_keeps (State.holdPart_keeps .here))
  · exact .ite
      (.next (State.ringChanged_keeps (State.setRing_keeps (State.holdPart_keeps .here))))
      (.next (.either
        (State.linkResume_keeps (State.setRing_keeps (State.holdPart_keeps .here)))
        (State.linkRing_keeps (State.setRing_keeps (State.holdPart_keeps .here)))))

theorem execRingHoldExpire_answers {r : Ring} : Answers s (execRingHoldExpire r s) :=
  .ite (.next (State.ringChanged_keeps (State.setRing_keeps (State.holdPart_keeps .here)))) .skip

theorem execRingHoldPark_answers {r : Ring} : Answers s (execRingHoldPark r s) :=
  .ite (.next (State.ringChanged_keeps (State.setRing_keeps .here))) .skip

theorem execLaneQualityWindow_answers {l : LaneId} {fast slow : Quality} {s0 : State} :
    Answers s0 (execLaneQualityWindow l fast slow s0) := by
  unfold execLaneQualityWindow
  extract_lets +onlyGivenNames k s
  have hs : Keeps s0 s := State.noteDetune_keeps (State.noteDetune_keeps .here)
  refine .ite .skip (.ite (.ite (.next (.rec_ hs)) (.next hs)) ?_)
  split
  · exact .next hs
  · split
    · exact .next (State.raise_keeps (State.markSuspect_keeps hs))
    · exact .next (State.raise_keeps (State.markSuspect_keeps hs))
    · exact .next hs

theorem execRingLockLoopUpdate_answers {ep : Fin 16} {meas : List RingMeas} :
    Answers s (execRingLockLoopUpdate ep meas s) := by
  unfold execRingLockLoopUpdate
  extract_lets +onlyGivenNames mine s1
  have h1 : Keeps s s1 := .foldl (fun _ _ g => .either (State.setRing_keeps g) g) .here
  split
  · exact .next h1
  · refine .ite ?_
      (.ite (.next (.rec_ (State.raise_keeps (State.wr_keeps (State.wr_keeps h1))))) (.next (State.wr_keeps h1)))
    extract_lets +onlyGivenNames s3
    have h3 : Keeps s s3 := State.raise_keeps (State.wr_keeps (State.wr_keeps h1))
    exact .next (.either (.rec_ h3) h3)

theorem execFeedForwardUpdate_answers {n : Fin 12} {power : BitVec 16} :
    Answers s (execFeedForwardUpdate n power s) :=
  .ite .skip (.next (.rec_ .here))

/-! ### Calib -/

theorem execCalWindowStart_answers {g : Fin 280} : Answers s (execCalWindowStart g s) :=
  .ite .skip
    (.ite
      (.next (State.useSlot_keeps (State.deferWindow_keeps .here)))
      (.next (State.openWindow_keeps (State.useSlot_keeps .here))))

theorem execCalWindowDone_answers {g : Fin 280} {runs : List CalLane} : Answers s (execCalWindowDone g runs s) := by
  refine .ite .skip
    (.next (.foldl
      (fun _ _ g => State.calCondemn_keeps g)
      (State.closeWindow_keeps (.foldl (fun _ _ g => ?_)
        (.foldl (fun _ _ g => State.raise_keeps g) (.either .here (State.bump_keeps .here)))))))
  split
  · exact State.adopt_keeps g
  · exact g

/-! ### Clock -/

theorem execIslandStepChangeDone_answers {x : Fin 432} {cal : List Crossing} :
    Answers s (execIslandStepChangeDone x cal s) := by
  unfold execIslandStepChangeDone
  split
  · exact .skip
  · extract_lets +onlyGivenNames _ s1
    have h1 : Keeps s s1 := State.calibrate_keeps (State.setIsl_keeps (State.wr_keeps .here))
    exact .next (.either (State.beginStep_keeps (State.disturbIsl_keeps h1)) (State.failPhysical_keeps h1))

theorem execDroopDetect_answers {dom : Domain} : Answers s (execDroopDetect dom s) := by
  unfold execDroopDetect
  extract_lets +onlyGivenNames k r _ s1 s2
  have h2 : Keeps s s2 := .either (State.disturbIsl_keeps (State.bump_keeps (.rec_ .here))) (.rec_ .here)
  exact .next (.either (State.raise_keeps h2) h2)

theorem execReplicaMeasure_answers {x : Fin 432} {margin : BitVec 8} : Answers s (execReplicaMeasure x margin s) := by
  unfold execReplicaMeasure
  extract_lets +onlyGivenNames s1
  have h1 : Keeps s s1 := State.marginWarn_keeps (State.wr_keeps .here)
  exact .next (.either (State.marginCap_keeps h1) h1)

/-! ### Memory -/

theorem execHomeAccess_answers {a : BitVec 42} {op : HomeOp} {errs : List UnitErr} :
    Answers s (execHomeAccess a op errs s) :=
  .ite .skip (.ite (.next (.rec_ .here)) (.next (State.homeApply_keeps (State.homeErrs_keeps .here))))

theorem execHbmPatrolScrub_answers {st : Fin 12} {unit : BitVec 32} {err : List (Fin 34 × BitVec 8)} :
    Answers s (execHbmPatrolScrub st unit err s) :=
  .ite (.next (State.hbmUnit_keeps .here)) .skip

theorem execSramPatrolScrub_answers {die : Fin 16} {unit : BitVec 32} {double : Bool} {single : Bool} :
    Answers s (execSramPatrolScrub die unit double single s) :=
  .ite .skip (.next (State.sramUnit_keeps .here))

theorem execHbmTempRead_answers {st : Fin 12} {temp : BitVec 8} : Answers s (execHbmTempRead st temp s) := by
  refine .ite .skip ?_
  extract_lets +onlyGivenNames t old new s1
  have h1 : Keeps s s1 := State.wr_keeps (State.wr_keeps .here)
  exact .ite (.next h1)
    (.ite
      (.next (State.raise_keeps (State.raise_keeps h1)))
      (.ite
        (.next (State.resumeWaiting_keeps (State.raise_keeps (State.raise_keeps h1))))
        (.next (State.raise_keeps h1))))

theorem execPageRetireStart_answers {st : Fin 12} : Answers s (execPageRetireStart st s) := by
  unfold execPageRetireStart
  split
  · exact .skip
  · exact .ite .skip
      (.ite
        (.ite (.next (.rec_ .here)) (.next (State.setCond_keeps (State.raise_keeps (.rec_ .here)))))
        (.next (.rec_ .here)))

theorem execPageRetireDone_answers {st : Fin 12} {errs : List UnitErr} :
    Answers s (execPageRetireDone st errs s) := by
  unfold execPageRetireDone
  split
  · exact .skip
  · exact .next (State.resumeWaiting_keeps (State.raise_keeps (State.bump_keeps (.rec_ (State.hbmRead_keeps .here)))))

/-! ### Flits -/

theorem execFlitSlot_answers {ch : Chan} : Answers s (execFlitSlot ch s) := by
  unfold execFlitSlot
  split
  · exact .next (State.pairSlot_keeps .here)
  · exact .next (State.linkSlot_keeps .here)

theorem execFlitReceive_answers {ch : Chan} {levels : List (Fin 4)} : Answers s (execFlitReceive ch levels s) := by
  unfold execFlitReceive
  split
  · exact .next (State.pairReceive_keeps .here)
  · exact .next (State.linkReceive_keeps .here)

theorem execFlitLossTimeout_answers {ch : Chan} {vc : Fin 4} {stream : Fin 8} :
    Answers s (execFlitLossTimeout ch vc stream s) := by
  unfold execFlitLossTimeout
  split
  · exact .skip
  · extract_lets +onlyGivenNames k back vcs r nx
    split
    · exact .skip
    · exact .next (State.deliverRun_keeps (State.oweCredits_keeps (State.setRx_keeps .here)))

theorem execCreditIdleReturn_answers {i j : Fin 16} : Answers s (execCreditIdleReturn i j s) := by
  unfold execCreditIdleReturn
  extract_lets +onlyGivenNames k t
  split
  · exact .skip
  · exact .ite (.next (State.emit_keeps (State.setTx_keeps .here))) .skip

theorem execMcastWaitReserve_answers {i : Fin 16} {g : Fin 7} {vc : Fin 4} :
    Answers s (execMcastWaitReserve i g vc s) :=
  .ite .skip (.next (.foldl (fun _ _ g => State.setTx_keeps g) .here))

/-! ### Ports -/

theorem execTrainIdentResend_answers {x : Fin 768} : Answers s (execTrainIdentResend x s) :=
  .ite (.next (State.sendCtl_keeps .here)) .skip

theorem execTrainAck_answers {x : Fin 768} {_f : TrainFields} : Answers s (execTrainAck x _f s) :=
  .ite (.next (State.toTest_keeps (State.setLink_keeps .here))) .skip

theorem execIdentTimeout_answers {x : Fin 768} : Answers s (execIdentTimeout x s) :=
  .ite (.next (State.setLink_keeps (State.setLinkState_keeps .here))) .skip

theorem execLinkTestDone_answers {x : Fin 768} {here far : Bool} : Answers s (execLinkTestDone x here far s) :=
  .ite .skip
    (.ite
      (.next (State.toCredit_keeps (State.setLink_keeps .here)))
      (.ite
        (.next (State.linkSettle_keeps (State.linkDark_keeps (State.setLink_keeps .here))))
        (.ite
          (.next (.either
            (State.linkSettle_keeps (State.linkDark_keeps (State.setLink_keeps .here)))
            (State.linkSubstitute_keeps (State.setLink_keeps .here))))
          (.ite
            (.next (.either
              (State.linkSettle_keeps (State.linkDark_keeps (State.setLink_keeps .here)))
              (State.linkSubstitute_keeps (State.setLink_keeps .here))))
            (.next (State.linkFault_keeps (State.setLink_keeps .here)))))))

theorem execCreditInit_answers {x : Fin 768} {req rsp bulk ctl : BitVec 8} :
    Answers s (execCreditInit x req rsp bulk ctl s) :=
  .ite (.next (State.linkActive_keeps .here)) (.ite (.next (State.setLink_keeps .here)) .skip)

theorem execLanePause_answers {x : Fin 768} {_reason : BitVec 8} : Answers s (execLanePause x _reason s) :=
  .ite (.next (State.setLink_keeps (State.setLinkState_keeps .here))) .skip

theorem execLaneResume_answers {x : Fin 768} {ok : Bool} : Answers s (execLaneResume x ok s) :=
  .ite
    (.ite
      (.next (State.linkShut_keeps (State.setLink_keeps (State.setLinkState_keeps .here))))
      (.next (State.linkSettle_keeps (State.linkDark_keeps .here))))
    .skip

theorem execPausedTimeout_answers {x : Fin 768} : Answers s (execPausedTimeout x s) :=
  .ite (.next (State.linkSettle_keeps (State.linkDark_keeps .here))) .skip

theorem execPacketCommit_answers {p : Fin 24} {lane : Fin 32} {vc : Fin 3} :
    Answers s (execPacketCommit p lane vc s) := by
  unfold execPacketCommit
  refine .ite .skip ?_
  split
  · exact .skip
  · refine .ite .skip ?_
    extract_lets +onlyGivenNames k n rx _ s0 s1
    have h1 : Keeps s s1 := State.setRx_keeps (State.setLink_keeps (.rec_ .here))
    exact .ite
      (.next (State.setFifo_keeps (State.oweCredits_keeps h1)))
      (.next (State.bump_keeps (State.oweCredits_keeps h1)))

theorem execEgressEnqueue_answers {q : Fin 4} : Answers s (execEgressEnqueue q s) := by
  unfold execEgressEnqueue
  split
  · exact .skip
  · extract_lets +onlyGivenNames s1
    have h1 : Keeps s s1 := State.spendTokens_keeps (State.setIssued_keeps .here)
    exact .ite
      (.next (State.raise_keeps (State.bump_keeps h1)))
      (.ite
        (.next (.either
          (State.raise_keeps (State.setBand_keeps (State.setEgress_keeps h1)))
          (State.setBand_keeps (State.setEgress_keeps h1))))
        (.next (State.setEgress_keeps h1)))

theorem execThrottleBandRise_answers {q : Fin 4} {dst : Fin 1024} : Answers s (execThrottleBandRise q dst s) :=
  .ite (.next (State.setBand_keeps .here)) .skip

/-! ### HostPath -/

theorem execCommandPortLinkUp_answers {p : Fin 2} : Answers s (execCommandPortLinkUp p s) :=
  .ite (.next (State.rewrite_keeps (State.showReady_keeps (State.wr_keeps .here)))) .skip

theorem execPortRetrainTimeout_answers : Answers s (execPortRetrainTimeout s) :=
  .ite .skip (.next (State.switchPort_keeps .here))

theorem execWatchLineWrite_answers {r : Fin 32} {count : BitVec 32} : Answers s (execWatchLineWrite r count s) :=
  .ite (.next (State.ringError_keeps (State.setCmd_keeps .here))) (.next (State.setCmd_keeps .here))

theorem execMsixCoalesceTimer_answers {c : Fin 32} : Answers s (execMsixCoalesceTimer c s) :=
  .ite (.next (State.sendMsix_keeps (State.setCmd_keeps .here))) .skip

theorem execEventDeliver_answers : Answers s (execEventDeliver s) := by
  unfold execEventDeliver
  split
  · exact .skip
  next e rest he =>
    refine .ite .skip (.ite (.next (State.raise_keeps (State.wr_keeps .here))) ?_)
    extract_lets +onlyGivenNames _ s1 s2
    have h1 : Keeps s s1 := State.setCmd_keeps (Keeps.dropEvt he)
    have h2 : Keeps s s2 := State.slotFreed_keeps (State.evts_room he) (State.hostStore_keeps h1)
    exact .ite (.next (State.sendMsix_keeps h2)) (.next h2)

theorem execCxlMemRead_answers {p : Fin 2} {a : BitVec 48} : Answers s (execCxlMemRead p a s) :=
  .ite .skip (.ite .skip (.ite (.next (State.setCmd_keeps .here)) (.next (State.setCmd_keeps .here))))

theorem execCxlMemWrite_answers {p : Fin 2} {a : BitVec 48} {data : List (BitVec 8)} :
    Answers s (execCxlMemWrite p a data s) :=
  .ite .skip (.ite (.next (State.bump_keeps .here)) (.ite .skip (.next (State.store_keeps .here))))

/-! ### DescOps -/

theorem execFenceDesc_answers : Answers s (execFenceDesc seq s) := by
  unfold execFenceDesc
  extract_lets +onlyGivenNames s1
  split
  · exact .next (State.startDesc_keeps (fun _ _ g => g) .here)
  · exact .ite
      (.next (State.finishDesc_keeps (State.startDesc_keeps (fun _ _ g => g) .here)))
      (.next (State.startDesc_keeps (fun _ _ g => g) .here))

theorem execSignalDesc_answers : Answers s (execSignalDesc seq s) :=
  .next (State.startDesc_keeps (fun _ _ g => State.finishDesc_keeps (State.setCounter_keeps g)) .here)

theorem execWaitDesc_answers : Answers s (execWaitDesc seq s) := by
  unfold execWaitDesc
  extract_lets +onlyGivenNames s1
  split
  · exact .next (State.startDesc_keeps (fun _ _ g => g) .here)
  · exact .ite
      (.next (State.finishDesc_keeps (State.startDesc_keeps (fun _ _ g => g) .here)))
      (.next (State.startDesc_keeps (fun _ _ g => g) .here))

/-! ### Descriptors -/

theorem execDescriptorFetch_answers {r : Fin 32} {desc : List (BitVec 8)} :
    Answers s (execDescriptorFetch r desc s) := by
  refine .ite
    (.next (State.ringError_keeps .here))
    (.ite .skip
      (.ite
        (.next (State.writeRecord_keeps (State.served_keeps (State.wr_keeps .here))))
        (.ite
          (.next (State.writeRecord_keeps (State.served_keeps (State.wr_keeps .here))))
          (.ite (.next (State.writeRecord_keeps (State.served_keeps (State.wr_keeps .here)))) ?_))))
  extract_lets +onlyGivenNames d s2 _ s3
  have h3 : Keeps s s3 := State.wr_keeps
    (State.setCmd_keeps (State.mirror_keeps (State.served_keeps (State.wr_keeps .here))))
  exact .next (.either (State.acceptStep_keeps h3) h3)

/-! ### Launches -/

theorem execLaunch_answers : Answers s (execLaunch seq s) :=
  .ite .skip (.next (State.startDesc_keeps (fun _ _ g => State.startLaunch_keeps g) .here))

theorem execStepLaunch_answers : Answers s (execStepLaunch seq s) := by
  refine .ite .skip ?_
  extract_lets +onlyGivenNames s1
  have h1 : Keeps s s1 := State.startDesc_keeps (fun _ _ g => State.startLaunch_keeps g) .here
  split
  · exact .ite (.next (State.stepDone_keeps h1)) (.next h1)
  · exact .next h1

theorem execCoreReportReceive_answers : Answers s (execCoreReportReceive lc s) := by
  unfold execCoreReportReceive
  split
  · exact .skip
  · extract_lets +onlyGivenNames s1
    split
    · exact .next (.rec_ .here)
    · extract_lets +onlyGivenNames l1 l2 a
      have ha : Keeps s a.1 := .either_fst (State.abortOthers_keeps (.rec_ .here)) (.rec_ .here)
      exact .ite (.next (State.endLaunch_keeps ha)) (.next (.rec_ ha))

/-! ### Roles -/

theorem execBerthOpenLocal_answers : Answers s (execBerthOpenLocal seq s) :=
  .next (State.startDesc_keeps
    (fun _ _ g => State.openBerth_keeps (fun _ g1 => State.finishDesc_keeps (State.setBerth_keeps g1)) g)
    .here)

theorem execBerthOpenReceive_answers : Answers s (execBerthOpenReceive seq s) :=
  .next (State.startDesc_keeps
    (fun _ _ g => State.openBerth_keeps (fun _ g1 => State.finishDesc_keeps (State.setBerth_keeps g1)) g)
    .here)

theorem execBerthClose_answers : Answers s (execBerthClose seq s) := by
  refine .next (State.startDesc_keeps
    (fun _ _ g => .either (State.finishDesc_keeps g)
      (.either (State.finishDesc_keeps g)
        (.either
          (State.finishDesc_keeps (.either (State.finishDesc_keeps ?_) (State.freeBerth_keeps g)))
          (State.pend_keeps g))))
    .here)
  split
  · exact State.getEnded_keeps (State.freeBerth_keeps g)
  · exact State.freeBerth_keeps g

theorem execBerthMove_answers : Answers s (execBerthMove seq s) :=
  .next (State.startDesc_keeps (fun _ _ g => State.pend_keeps g) .here)

theorem execBerthHeaderReceive_answers {src : Fin 1024} {b : Fin 6144} {op : BitVec 32}
    {hdr recs tail : List (BitVec 8)} :
    Answers s (execBerthHeaderReceive src b op hdr recs tail s) :=
  .ite
    (.next (State.takeCheckpoint_keeps .here))
    (.ite (.next (State.tell_keeps .here))
      (.next (State.tell_keeps (State.boundary_keeps (State.commitBerth_keeps (State.placeImage_keeps .here))))))

theorem execBerthMoveCommitAck_answers {status : BitVec 8} : Answers s (execBerthMoveCommitAck seq status s) := by
  unfold execBerthMoveCommitAck
  split
  · exact .skip
  · exact .ite .skip
      (.ite (.next (State.settleBerth_keeps (State.setBerth_keeps .here))) (.next (State.berthOpFail_keeps .here)))

theorem execRoleSet_answers : Answers s (execRoleSet seq s) :=
  .next (State.startDesc_keeps
    (fun _ _ g => .either (State.finishDesc_keeps g)
      (.either (State.finishDesc_keeps (State.raise_keeps g)) (State.wr_keeps (State.setRole_keeps g))))
    .here)

theorem execRoleSettle_answers {ended : List (Fin 1024 × BitVec 32)} : Answers s (execRoleSettle ended s) := by
  unfold execRoleSettle
  split
  · exact .skip
  · exact .ite (.next (State.setRole_keeps .here))
      (.next (State.finishDesc_keeps (State.raise_keeps (State.wr_keeps
        (State.wr_keeps (State.wr_keeps (.foldl (fun _ _ g => State.wr_keeps g) (State.setRole_keeps .here))))))))

/-! ### Mooring -/

theorem execMoorPut_answers : Answers s (execMoorPut seq s) :=
  .next (State.startDesc_keeps (fun _ _ g => State.pend_keeps g) .here)

theorem execMoorAnnounce_answers {src : Fin 1024} {op : BitVec 32} {key : BitVec 64}
    {ended : List (Fin 1024 × BitVec 32)} :
    Answers s (execMoorAnnounce src op key ended s) :=
  .ite
    (.next (State.moorResult_keeps .here))
    (.next (State.setRole_keeps (State.defeat_keeps (State.dropEnded_keeps .here))))

theorem execMoorSegmentReceive_answers {src : Fin 1024} {op : BitVec 32} {seg : BitVec 16} {fmt : BitVec 4}
    {data : List (BitVec 8)} :
    Answers s (execMoorSegmentReceive src op seg fmt data s) := by
  unfold execMoorSegmentReceive
  split
  · exact .skip
  · exact .next (State.takeSegment_keeps .here)

theorem execMoorSegment0Commit_answers {src : Fin 1024} {op : BitVec 32} {data : List (BitVec 8)} :
    Answers s (execMoorSegment0Commit src op data s) := by
  unfold execMoorSegment0Commit
  split
  · exact .skip
  · exact .next (State.takeSegment_keeps .here)

theorem execMoorCommitAck_answers {status : BitVec 8} : Answers s (execMoorCommitAck seq status s) := by
  unfold execMoorCommitAck
  split
  · exact .ite .skip
      (.ite (.next (State.settleBerth_keeps (State.setBerth_keeps .here))) (.next (State.berthOpFail_keeps .here)))
  · split
    · exact .skip
    · exact .ite (.next (State.finishDesc_keeps .here)) .skip

theorem execMoorGet_answers : Answers s (execMoorGet seq s) :=
  .next (State.startDesc_keeps
    (fun _ _ g => .either (State.finishDesc_keeps g)
      (State.openBerth_keeps (fun _ g1 => State.mail_keeps (State.setRole_keeps (State.setBerth_keeps g1))) g))
    .here)

theorem execMoorGetRequest_answers {src : Fin 1024} {op : BitVec 32} {key : BitVec 64} :
    Answers s (execMoorGetRequest src op key s) := by
  refine .ite (.next (State.moorResult_keeps .here)) ?_
  split
  · exact .next (State.moorResult_keeps .here)
  · exact .ite
      (.next (State.moorResult_keeps (State.defeat_keeps .here)))
      (.next (State.mail_keeps (State.setRole_keeps (State.defeat_keeps .here))))

theorem execMoorGetSegmentArrive_answers {status : BitVec 8} {seg : BitVec 16} {data : List (BitVec 8)} :
    Answers s (execMoorGetSegmentArrive seq status seg data s) := by
  unfold execMoorGetSegmentArrive
  split
  · exact .skip
  · exact .ite .skip
      (.ite (.next (State.getFail_keeps .here))
        (.ite
          (.ite (.next (State.getFail_keeps .here))
            (.next (State.getSettle_keeps (.foldl (fun _ _ g => State.placeSeg_keeps g) (State.placeSeg_keeps .here)))))
          (.ite (.next (State.getSettle_keeps .here)) (.next (State.getSettle_keeps (State.placeSeg_keeps .here))))))

theorem execMoorDropKey_answers : Answers s (execMoorDropKey seq s) :=
  .next (State.startDesc_keeps (fun _ _ g => State.moorAsk_keeps g) .here)

theorem execMoorTouch_answers : Answers s (execMoorTouch seq s) :=
  .next (State.startDesc_keeps (fun _ _ g => State.moorAsk_keeps g) .here)

theorem execMoorDropAge_answers {ended : List (Fin 1024 × BitVec 32)} : Answers s (execMoorDropAge seq ended s) :=
  .next (State.startDesc_keeps
    (fun _ _ g => .either (State.finishDesc_keeps g)
      (State.finishDesc_keeps (State.evict_keeps (State.dropEnded_keeps g))))
    .here)

theorem execMoorDropArrive_answers {src : Fin 1024} {op : BitVec 32} {key : BitVec 64}
    {ended : List (Fin 1024 × BitVec 32)} :
    Answers s (execMoorDropArrive src op key ended s) :=
  .ite
    (.next (State.moorResult_keeps .here))
    (.next (State.moorResult_keeps (State.dropSession_keeps (State.dropEnded_keeps .here))))

theorem execMoorTouchArrive_answers {src : Fin 1024} {op : BitVec 32} {key : BitVec 64} :
    Answers s (execMoorTouchArrive src op key s) := by
  refine .ite (.next (State.moorResult_keeps .here)) ?_
  split
  · exact .next (State.moorResult_keeps .here)
  · exact .next (State.moorResult_keeps (State.setMoor_keeps .here))

theorem execMorAgeHistRefresh_answers : Answers s (execMorAgeHistRefresh s) :=
  .next (.foldl (fun _ _ g => State.wr_keeps g) .here)

/-! ### RackHome -/

theorem execHomeForwardReceive_answers {q : Fin 4} {tag : Nat} : Answers s (execHomeForwardReceive q tag s) := by
  unfold execHomeForwardReceive
  split
  · exact .skip
  · refine .ite .skip ?_
    split
    · exact .next (State.setFwd_keeps .here)
    · exact .next (.either (State.applyFwd_keeps .here) (State.enqueueLine_keeps .here))

theorem execHomeLineApply_answers {line : BitVec 36} : Answers s (execHomeLineApply line s) := by
  unfold execHomeLineApply
  extract_lets +onlyGivenNames k
  split
  · exact .skip
  · exact .ite (.next (State.resumeWaiting_keeps (.foldl (fun _ _ g => State.applyQueued_keeps g) .here))) .skip

theorem execHomeConfirm_answers {q : Fin 4} {tag : Nat} : Answers s (execHomeConfirm q tag s) := by
  unfold execHomeConfirm
  split
  · exact .skip
  · exact .ite .skip
      (.ite
        (.next (State.answer_keeps
          (.either (State.windowFault_keeps (State.setSrc_keeps (.rec_ .here))) (State.setSrc_keeps (.rec_ .here)))))
        (.next (.rec_ .here)))

theorem execForwardResendTimer_answers {q : Fin 4} {tag : Nat} : Answers s (execForwardResendTimer q tag s) := by
  unfold execForwardResendTimer
  split
  · exact .skip
  · exact .next (State.postFwd_keeps (State.setFwd_keeps .here))

theorem execRelayForward_answers {p : Fin 24} {vc : Fin 3} : Answers s (execRelayForward p vc s) := by
  unfold execRelayForward
  split
  · exact .skip
  · refine .ite .skip ?_
    extract_lets +onlyGivenNames q s1
    have h1 : Keeps s s1 := State.noticeAck_keeps (State.popPkt_keeps .here)
    split
    · exact .ite (.next (State.issuePkt_keeps h1)) (.next (State.raise_keeps (State.bump_keeps h1)))
    · exact .next (State.raise_keeps (State.bump_keeps h1))

theorem execAck_answers {p : Fin 24} {vc : Fin 3} : Answers s (execAck p vc s) :=
  .next (State.takeResponse_keeps
    (fun _ _ _ g => .either
      (.either (State.setReq_keeps g) (State.parcelAck_keeps g))
      (State.doneAll_keeps (State.closeReq_keeps g)))
    .here)

theorem execLoadData_answers {p : Fin 24} {vc : Fin 3} : Answers s (execLoadData p vc s) :=
  .next (State.takeResponse_keeps
    (fun _ _ _ g => .foldl (fun _ _ g1 => State.ownDone_keeps g1) (State.closeReq_keeps g))
    .here)

theorem execAtomicData_answers {p : Fin 24} {vc : Fin 3} : Answers s (execAtomicData p vc s) :=
  .next (State.takeResponse_keeps
    (fun _ _ _ g => .either (State.parcelAck_keeps g)
      (.foldl (fun _ _ g1 => State.ownDone_keeps g1) (State.closeReq_keeps g)))
    .here)

theorem execBulkData_answers {p : Fin 24} {vc : Fin 3} : Answers s (execBulkData p vc s) := by
  refine .next (State.takeResponse_keeps
    (fun _ _ _ g => .either (.either g ?_) (.foldl (fun _ _ g1 => State.ownDone_keeps g1) (State.closeReq_keeps g)))
    .here)
  extract_lets +onlyGivenNames s2
  have h2 : Keeps s s2 := .foldl (fun _ _ g1 => State.ownDone_keeps g1) (State.setReq_keeps g)
  exact .either (State.parcelAck_keeps h2) h2

theorem execNak_answers {p : Fin 24} {vc : Fin 3} : Answers s (execNak p vc s) :=
  .next (State.takeResponse_keeps (fun _ _ _ g => State.doneAll_keeps (State.closeReq_keeps g)) .here)

theorem execE2eResendTimer_answers {e : Fin 64} {dst : Fin 1024} {n : BitVec 32} :
    Answers s (execE2eResendTimer e dst n s) := by
  unfold execE2eResendTimer
  split
  · exact .skip
  · refine .ite
      (.ite ?_ (.next (State.setReq_keeps .here)))
      (.next (State.settleMails_keeps
        (State.doneAll_keeps (State.closeReq_keeps (.either .here (State.raise_keeps .here))))))
    extract_lets +onlyGivenNames old new _ s2 s3
    have h3 : Keeps s s3 := State.bump_keeps (State.launchReq_keeps (.rec_ (State.setReq_keeps .here)))
    exact .next (.either (State.raise_keeps h3) h3)

/-! ### Collectives -/

theorem execCollData_answers {p : Fin 24} {vc : Fin 3} {mismatch : Fin 3} :
    Answers s (execCollData p vc mismatch s) := by
  unfold execCollData
  extract_lets +onlyGivenNames b s1
  have h1 : Keeps s s1 := State.collEnd_keeps (State.takeRequest_keeps .here)
  exact .ite (.next (.rec_ h1)) (.next h1)

theorem execCollTimerExpire_answers {id : BitVec 32} : Answers s (execCollTimerExpire id s) := by
  unfold execCollTimerExpire
  split
  · exact .skip
  · split
    · exact .skip
    · exact .next (State.collEnd_keeps (State.raise_keeps (State.setColl_keeps .here)))

theorem execCollHoldExpire_answers {id : BitVec 32} : Answers s (execCollHoldExpire id s) :=
  .next (.foldl (fun _ _ g => State.setSrc_keeps g) (.rec_ .here))

/-! ### TransferRun -/

theorem execTransferOpStart_answers {st : Fin 8} {errs : List ScratchErr} {s0 : State} :
    Answers s0 (execTransferOpStart lc st errs s0) := by
  unfold execTransferOpStart
  extract_lets +onlyGivenNames s c
  have hs : Keeps s0 s := by
    dsimp only [s]
    split
    · exact State.scratchErrs_keeps .here
    · exact .here
  split
  · exact .next hs
  · exact .ite (.next hs) (.ite (.next (State.startLocal_keeps hs)) (.next (State.startRemote_keeps hs)))

theorem execTransferOpComplete_answers {st : Fin 8} : Answers s (execTransferOpComplete lc st s) := by
  unfold execTransferOpComplete
  split
  · exact .skip
  · exact .next (.either (State.endRemote_keeps .here) (State.endLocal_keeps .here))

/-! ### Copies -/

theorem execCopyDeviceToDevice_answers : Answers s (execCopyDeviceToDevice seq s) := by
  unfold execCopyDeviceToDevice
  split
  · exact .skip
  refine .ite .skip (.next (State.startDesc_keeps (fun _ _ g => .either (State.finishDesc_keeps g) ?_) .here))
  split
  · next e => exact State.finishDesc_keeps (Keeps.ofMoved e (State.copyRow_keeps (State.askHomes_keeps g)))
  · next e => exact State.finishDesc_keeps (Keeps.ofMoved e (State.copyRow_keeps (State.askHomes_keeps g)))

theorem execCopyHostToDevice_answers {data : List (BitVec 8)} : Answers s (execCopyHostToDevice seq data s) := by
  unfold execCopyHostToDevice
  split
  · exact .skip
  · exact .ite .skip
      (.next (State.startDesc_keeps
        (fun _ _ g => .either (State.finishDesc_keeps g)
          (.either (State.finishDesc_keeps g)
            (.either (State.finishDesc_keeps (State.store_keeps g)) (State.finishDesc_keeps (storePieces_keeps g)))))
        .here))

theorem execCopyDeviceToHost_answers : Answers s (execCopyDeviceToHost seq s) := by
  unfold execCopyDeviceToHost
  split
  · exact .skip
  · exact .ite .skip
      (.next (State.startDesc_keeps
        (fun _ _ g => .either (State.finishDesc_keeps g)
          (.either (State.finishDesc_keeps (State.toHost_keeps g)) (State.convToHost_keeps g)))
        .here))

theorem execCopyToRemote_answers : Answers s (execCopyToRemote seq s) :=
  .ite .skip (.next (State.startDesc_keeps (fun _ _ g => State.startCopy_keeps g) .here))

theorem execCopyFromRemote_answers : Answers s (execCopyFromRemote seq s) :=
  .ite .skip (.next (State.startDesc_keeps (fun _ _ g => State.startCopy_keeps g) .here))

/-! ### Complete -/

theorem execDescriptorComplete_answers : Answers s (execDescriptorComplete seq s) := by
  unfold execDescriptorComplete
  split
  · exact .skip
  · refine .ite (.next (State.settleDesc_keeps .here)) ?_
    extract_lets +onlyGivenNames c s' d st _ s1 s2 s3
    have hc : Keeps s c.1 := .either_fst
      (State.resultCopy_keeps (State.settleDesc_keeps .here))
      (State.settleDesc_keeps .here)
    have h2 : Keeps s s2 := .either (State.setCmd_keeps hc) (State.wr_keeps (State.setCmd_keeps hc))
    have h3 : Keeps s s3 := .either (State.setCounter_keeps h2) h2
    exact .ite (.next h3) (.next (State.writeRecord_keeps h3))

/-! ### Control -/

theorem issueBR_answers {opc : Nat} {cond : W64 → W64 → Bool} : Answers s (issueBR opc cond lc w s) :=
  issue_answers (fun _ =>
    .either (State.coreFault_keeps .here) (.either (State.branchTo_keeps .here) (State.nextPc_keeps .here)))

theorem execJmp_answers : Answers s (execJmp lc w s) :=
  issue_answers (fun _ => .either (State.coreFault_keeps .here) (State.branchTo_keeps .here))

theorem execCall_answers : Answers s (execCall lc w s) :=
  issue_answers (fun _ =>
    .either (State.coreFault_keeps .here) (.either (State.coreFault_keeps .here) (State.branchTo_keeps .here)))

theorem execRet_answers : Answers s (execRet lc w s) :=
  issue_answers (fun _ =>
    .either (State.coreFault_keeps .here) (.either (State.coreFault_keeps .here) (State.branchTo_keeps .here)))

theorem execLoop_answers : Answers s (execLoop lc w s) :=
  issue_answers (fun _ =>
    .either (State.coreFault_keeps .here)
      (.either (State.coreFault_keeps .here) (.either (State.fallTo_keeps .here) (State.nextPc_keeps .here))))

/-! ### Firmware -/

theorem execTenderPieceFetch_answers {env : FwEnv} : Answers s (execTenderPieceFetch env s) :=
  .ite .skip
    (.ite (.next (State.chunk_keeps .here)) (.ite (.next (State.send_keeps (State.setFw_keeps .here))) .skip))

theorem execFwGetResponse_answers {bytes : List (BitVec 8)} {env : FwEnv} :
    Answers s (execFwGetResponse bytes env s) :=
  .ite .skip (.ite (.next (State.chunk_keeps .here)) (.next (State.setFw_keeps .here)))

theorem execWrLoadDone_answers {q : Fin 4} {shadow : Bool} : Answers s (execWrLoadDone q shadow s) :=
  .ite .skip
    (.ite
      (.next (State.loadFailed_keeps .here))
      (.next (.either (State.toStandby_keeps (State.setRoom_keeps .here)) (State.setRoom_keeps .here))))

theorem execShadowRecord_answers {bytes : List (BitVec 8)} : Answers s (execShadowRecord bytes s) := by
  unfold execShadowRecord
  extract_lets +onlyGivenNames to_
  split
  · exact .ite (.next (.either (State.toStandby_keeps (State.setFw_keeps .here)) (State.setFw_keeps .here))) .skip
  · exact .skip

theorem execWrLoadTimeout_answers {q : Fin 4} : Answers s (execWrLoadTimeout q s) :=
  .next (.either (State.loadFailed_keeps .here) .here)

theorem execWrFailedRecover_answers {q : Fin 4} {selfTest : Bool} : Answers s (execWrFailedRecover q selfTest s) :=
  .ite (.next (State.fwSettle_keeps (State.setRoom_keeps .here))) .skip

theorem execFwStageTimer_answers : Answers s (execFwStageTimer s) := by
  refine .ite .skip ?_
  extract_lets +onlyGivenNames s1
  split
  · exact .next (State.fwShow_keeps (State.loadRoom_keeps (State.setTender_keeps .here)))
  · exact .next (State.fwShow_keeps (State.loadRoom_keeps (State.setTender_keeps .here)))
  · exact .next (State.fwShow_keeps (State.loadRoom_keeps (State.setTender_keeps .here)))
  · exact .next (State.actMissed_keeps (State.setTender_keeps .here))

theorem execFwActivationEpoch_answers : Answers s (execFwActivationEpoch s) := .ite (.next (State.wr_keeps .here)) .skip

theorem execFwActWindowExpire_answers : Answers s (execFwActWindowExpire s) :=
  .ite (.next (State.actMissed_keeps .here)) .skip

theorem execFwConfirmTimer_answers {env : FwEnv} : Answers s (execFwConfirmTimer env s) := by
  refine .ite .skip ?_
  extract_lets +onlyGivenNames k s1 s2
  have h2 : Keeps s s2 := State.raise_keeps
    (State.migrateSettings_keeps (State.setTender_keeps (State.writeSlots_keeps (State.writeSlots_keeps .here))))
  refine .next (State.fwSettle_keeps ?_)
  split
  · exact State.loadRoom_keeps h2
  · exact h2

/-! ### Laser -/

theorem execLaserTapSample_answers {m : Fin 12} {b : Bool} {sample : Int} :
    Answers s (execLaserTapSample m b sample s) := by
  unfold execLaserTapSample
  refine .ite ?_
    (.ite (.next (State.darkModule_keeps (State.setLaser_keeps .here))) (.next (State.setLaser_keeps .here)))
  split
  · exact .next (State.setLaser_keeps .here)
  · exact .ite
      (.ite
        (.next (State.startEmergency_keeps (State.setLaser_keeps .here)))
        (.next (State.settleLaser_keeps (State.setLaser_keeps .here))))
      (.ite (.next (State.darkModule_keeps (State.setLaser_keeps .here))) (.next (State.setLaser_keeps .here)))

theorem execLaserLevelUpdate_answers {m : Fin 12} : Answers s (execLaserLevelUpdate m s) := by
  unfold execLaserLevelUpdate
  extract_lets +onlyGivenNames _ l s1 s2
  have h2 : Keeps s s2 := State.advise_keeps
    (State.advise_keeps (State.wr_keeps (State.wr_keeps (State.setLaser_keeps .here))))
  exact .next (.either (State.settleLaser_keeps h2) h2)

theorem execLaserAdvisoryClearTimer_answers {m : Fin 12} {b : Bool} :
    Answers s (execLaserAdvisoryClearTimer m b s) := by
  unfold execLaserAdvisoryClearTimer
  extract_lets +onlyGivenNames k l x
  split
  · exact .skip
  · exact .ite (.next (State.settleLaser_keeps (State.raise_keeps (State.setLaser_keeps .here)))) .skip

theorem execLineDarkDetect_answers {m : Fin 12} {c : Fin 32} : Answers s (execLineDarkDetect m c s) :=
  .ite (.next (State.settleLaser_keeps (State.raise_keeps (State.setLaser_keeps .here)))) .skip

theorem execCmisPoll_answers {m : Fin 12} {r : CmisRead} : Answers s (execCmisPoll m r s) := by
  unfold execCmisPoll
  refine .ite .skip ?_
  extract_lets +onlyGivenNames silent ok l1 s1 s2
  have h1 : Keeps s s1 := State.setLaser_keeps (State.wr_keeps .here)
  have h2 : Keeps s s2 := .either (State.raise_keeps h1) h1
  exact .ite (.next (State.setLaser_keeps h2)) (.next (State.settleLaser_keeps h2))

theorem execSwitchOverStart_answers {m : Fin 12} : Answers s (execSwitchOverStart m s) :=
  .ite (.next (State.nextGroup_keeps .here)) .skip

theorem execSwitchGroupDrained_answers {m : Fin 12} : Answers s (execSwitchGroupDrained m s) := by
  unfold execSwitchGroupDrained
  extract_lets +onlyGivenNames l
  split
  · exact .skip
  · exact .ite .skip
      (.ite
        (.next (.either
          (State.wr_keeps (State.setLaser_keeps (State.switchGroup_keeps .here)))
          (State.nextGroup_keeps (State.setLaser_keeps (State.switchGroup_keeps .here)))))
        (.next (State.setLaser_keeps (State.switchGroup_keeps .here))))

theorem execSwitchGroupVerified_answers {m : Fin 12} {failed : List LaneId} {lanesPassed : Bool} :
    Answers s (execSwitchGroupVerified m failed lanesPassed s) := by
  unfold execSwitchGroupVerified
  extract_lets +onlyGivenNames l
  split
  · exact .skip
  · exact .ite .skip
      (.ite
        (.next (State.failSwitch_keeps .here))
        (.ite
          (.next (State.nextGroup_keeps (State.setLaser_keeps (State.verifyGroup_keeps .here))))
          (.ite
            (.next (State.settleLaser_keeps
              (State.setModState_keeps (State.switched_keeps (State.setLaser_keeps (State.verifyGroup_keeps .here))))))
            (.next (State.settleLaser_keeps
              (State.setLaser_keeps (State.setLaser_keeps (State.verifyGroup_keeps .here))))))))

theorem execEmergencyRestoreDone_answers {m : Fin 12} {failed : List LaneId} {ok : Bool} :
    Answers s (execEmergencyRestoreDone m failed ok s) :=
  .ite .skip
    (.ite
      (.next (State.raise_keeps (State.setModState_keeps
        (State.switched_keeps (State.failLanes_keeps (.foldl (fun _ _ g => State.restoreGroup_keeps g) .here))))))
      (.next (State.darkModule_keeps .here)))

theorem execLaserModuleRemoved_answers {m : Fin 12} {removed : Bool} :
    Answers s (execLaserModuleRemoved m removed s) :=
  .ite
    (.next (State.showLaser_keeps (State.setLaser_keeps (State.darkModule_keeps (State.wr_keeps .here)))))
    (.next (State.showLaser_keeps (State.darkModule_keeps .here)))

theorem execLaserModuleInserted_answers {m : Fin 12} : Answers s (execLaserModuleInserted m s) :=
  .ite (.next (State.setLaser_keeps (State.wr_keeps .here))) .skip

theorem execCommissioningDone_answers {m : Fin 12} {first second : Option (List (LaneId × TestRead))} :
    Answers s (execCommissioningDone m first second s) :=
  .ite .skip
    (.ite
      (.next (State.commission_keeps .here))
      (.next (.foldl (fun _ _ g => State.judgeTest_keeps g) (State.passLanes_keeps (State.commission_keeps .here)))))

/-! ### Stack -/

theorem execDieSilentTimeout_answers {n : Fin 16} : Answers s (execDieSilentTimeout n s) :=
  .ite (.next (State.forcedReset_keeps .here)) .skip

theorem execDieClosingDrained_answers {n : Fin 16} : Answers s (execDieClosingDrained n s) :=
  .ite (.next (State.enterReset_keeps .here)) .skip

theorem execDieClosingTimeout_answers {n : Fin 16} : Answers s (execDieClosingTimeout n s) :=
  .ite (.next (State.enterReset_keeps .here)) .skip

theorem execDieResetSequenceDone_answers {n : Fin 16} : Answers s (execDieResetSequenceDone n s) :=
  .ite (.next (State.wr_keeps .here)) .skip

theorem execDieReturnChecksDone_answers {n : Fin 16} {failed : Option (Fin 5)}
    {tests : List (Fin 1536 × List (Fin 72))} {found : List StartTest} {cal : List Crossing} :
    Answers s (execDieReturnChecksDone n failed tests found cal s) := by
  refine .ite .skip ?_
  split
  · exact .next (State.dieFailed_keeps .here)
  · exact .next (State.dieOpen_keeps .here)

/-! ### Power -/

theorem execFeedFail_answers {f : Fin 6} : Answers s (execFeedFail f s) :=
  .ite (.next (State.showFeeds_keeps (State.raise_keeps (State.wr_keeps .here)))) .skip

theorem execFeedReturn_answers {f : Fin 6} : Answers s (execFeedReturn f s) :=
  .ite .skip (.next (State.showFeeds_keeps (State.raise_keeps (State.wr_keeps .here))))

theorem execSupplyWarning_answers {vph : Bool} {mv : BitVec 16} : Answers s (execSupplyWarning vph mv s) :=
  .ite
    (.next (State.raise_keeps
      (State.showPkg_keeps (State.setPwr_keeps (State.wr_keeps (State.putSource_keeps .here))))))
    .skip

theorem execSupplyDipRelease_answers : Answers s (execSupplyDipRelease s) :=
  .ite (.next (State.setPwr_keeps (State.release_keeps (State.wr_keeps .here)))) .skip

theorem execBrownoutTimer_answers : Answers s (execBrownoutTimer s) :=
  .ite (.next (State.raise_keeps (State.wr_keeps .here))) .skip

theorem execBrownoutRecoveryTimer_answers : Answers s (execBrownoutRecoveryTimer s) :=
  .ite (.next (State.raise_keeps (State.wr_keeps .here))) .skip

theorem execHbmRailFault_answers {quad : Fin 4} {rail : Fin 3} : Answers s (execHbmRailFault quad rail s) :=
  .next (.foldl
    (fun _ _ g => .either (State.retireHbm_keeps g) g)
    (State.raise_keeps (State.showRails_keeps (State.setPwr_keeps .here))))

theorem execPhaseFail_answers {d : Fin 12} {cache : Bool} {phase : Fin 25} :
    Answers s (execPhaseFail d cache phase s) := by
  unfold execPhaseFail
  refine .ite .skip ?_
  extract_lets +onlyGivenNames die _ s1
  have h1 : Keeps s s1 := State.raise_keeps (State.setPwr_keeps .here)
  refine .ite (.next (.either (State.retireStack_keeps h1) h1)) (.ite ?_ (.next (State.wr_keeps h1)))
  extract_lets +onlyGivenNames s3
  have h3 : Keeps s s3 := State.showLimits_keeps (State.raise_keeps (State.setSource_keeps (State.wr_keeps h1)))
  exact .next (.either (State.retireCd_keeps h3) h3)

theorem execPkgPowerLoop_answers {watts : BitVec 14} : Answers s (execPkgPowerLoop watts s) := by
  unfold execPkgPowerLoop
  extract_lets +onlyGivenNames ps mean lim t under _ s1
  have h1 : Keeps s s1 := State.wr_keeps (State.setPwr_keeps .here)
  exact .ite (.next h1)
    (.ite
      (.ite
        (.next (.either
          (State.raise_keeps (State.setPwr_keeps (State.pkgMove_keeps h1)))
          (State.setPwr_keeps (State.pkgMove_keeps h1))))
        (.next h1))
      (.ite (.next (State.setPwr_keeps (State.pkgMove_keeps h1))) (.next h1)))

theorem execDieCurrentSample_answers {d : Fin 12} {amps watts : BitVec 9} :
    Answers s (execDieCurrentSample d amps watts s) := by
  unfold execDieCurrentSample
  extract_lets +onlyGivenNames lim a t old under s1
  have h1 : Keeps s s1 := State.wr_keeps (State.wr_keeps .here)
  exact .ite
    (.ite
      (.next (State.disturbDie_keeps (State.setPwr_keeps (State.setPwr_keeps h1))))
      (.ite (.next (State.mapCaps_keeps (State.setPwr_keeps h1))) (.next (State.setPwr_keeps h1))))
    (.ite (.next (State.mapCaps_keeps (State.setPwr_keeps (State.setPwr_keeps h1)))) (.next (State.setPwr_keeps h1)))

theorem execSensorSample_answers {x : Fin 32} {temps : List Int} {broken : List (Fin 64 × Bool)} :
    Answers s (execSensorSample x temps broken s) := by
  unfold execSensorSample
  extract_lets +onlyGivenNames s1 rs kept regs _ s2 t s3 h _ s4 s5 old s6
  have h1 : Keeps s s1 := State.brokenActs_keeps (State.breakSensors_keeps .here)
  have h6 : Keeps s s6 := State.showParams_keeps (State.bandActs_keeps (State.wr_keeps
    (State.setPwr_keeps (.either (State.drawn_keeps (State.setPwr_keeps h1)) (State.setPwr_keeps h1)))))
  exact .ite (.next (State.baseRange_keeps h6)) (.ite (.next (State.riseActs_keeps h6)) (.next h6))

theorem execRiseHoldEnd_answers {d : Fin 12} : Answers s (execRiseHoldEnd d s) :=
  .ite (.next (State.showCaps_keeps (State.release_keeps (State.release_keeps (State.setPwr_keeps .here))))) .skip

theorem execDieHaltRelease_answers {d : Fin 12} : Answers s (execDieHaltRelease d s) :=
  .ite (.next (State.raise_keeps (State.freeDie_keeps (State.release_keeps (.rec_ .here))))) .skip

theorem execThermalLoop_answers {d : Fin 12} : Answers s (execThermalLoop d s) :=
  .ite .skip
    (.ite
      (.ite
        (.next (State.setSource_keeps .here))
        (.ite .skip (.next (State.policyLimited_keeps (State.setPwr_keeps .here)))))
      (.ite
        (.next (State.setPwr_keeps (State.setSource_keeps (State.setPwr_keeps .here))))
        (.next (State.setPwr_keeps .here))))

theorem execStackCapLoop_answers {d : Fin 12} : Answers s (execStackCapLoop d s) :=
  .ite .skip (.next (State.stackCap_keeps (State.stackCap_keeps (State.stackCap_keeps (State.setPwr_keeps .here)))))

theorem execLimitSourceRise_answers {d : Fin 13} {src : Fin 12} : Answers s (execLimitSourceRise d src s) := by
  unfold execLimitSourceRise
  refine .ite ?_ .skip
  extract_lets +onlyGivenNames v s1 _ s2
  have h2 : Keeps s s2 := .either
    (State.setPwr_keeps (State.putSource_keeps .here))
    (State.putSource_keeps .here)
  exact .next (.either (State.showPkg_keeps h2) (State.showDie_keeps h2))

theorem execHeaterGridUpdate_answers {bd : Fin 4} {others want : BitVec 8} :
    Answers s (execHeaterGridUpdate bd others want s) :=
  .ite .skip
    (.next (State.setPwr_keeps
      (.foldl (fun _ _ g => .either (State.setPwr_keeps g) (.either (State.setPwr_keeps g) g)) .here)))

/-! ### Registers -/

theorem execRegisterWrite_answers {p : Fin 2} {off : BitVec 26} {v : BitVec 32} {hi : Option (BitVec 32)}
    {env : FwEnv} :
    Answers s (execRegisterWrite p off v hi env s) :=
  .ite .skip (.next (State.barAccess_keeps .here))

theorem execConfig_answers {env : FwEnv} : Answers s (execConfig seq env s) :=
  .ite .skip
    (.next (State.startDesc_keeps
      (fun _ _ g => State.finishDesc_keeps (.foldl (fun _ _ g1 => State.portWrite_keeps g1) g))
      .here))

/-! ### Monitor -/

theorem execMonSessionExpire_answers {idle : Bool} : Answers s (execMonSessionExpire idle s) :=
  .ite .skip (.next (State.monLock_keeps .here))

/-! ### Handover -/

theorem execHandoverRecord_answers {bytes : List (BitVec 8)} {_env : FwEnv} :
    Answers s (execHandoverRecord bytes _env s) := by
  unfold execHandoverRecord
  split
  · refine .ite .skip (.ite ?_ (.next (State.raise_keeps (State.endHandover_keeps .here))))
    extract_lets +onlyGivenNames _ _ s1 s2
    have h2 : Keeps s s2 := State.raise_keeps (State.endHandover_keeps (State.fwShow_keeps
      (State.newBatch_keeps (State.monLock_keeps (State.setRoom_keeps (State.setRoom_keeps .here))))))
    exact .next (.either (State.raise_keeps (State.setTender_keeps h2)) h2)
  · exact .skip

theorem execWatchdogExpire_answers {q : Fin 4} : Answers s (execWatchdogExpire q s) := by
  refine .ite .skip ?_
  split
  · exact .next (State.askReset_keeps .here)
  · extract_lets +onlyGivenNames _ s1 s2
    have h1 : Keeps s s1 := State.fwShow_keeps
      (State.newBatch_keeps (State.monLock_keeps (State.setRoom_keeps (State.failRoom_keeps .here))))
    have h2 : Keeps s s2 := State.raise_keeps (.either (State.endHandover_keeps h1) h1)
    exact .next (State.fwSettle_keeps
      (.either (State.raise_keeps (State.setTender_keeps (State.writeSlots_keeps h2))) h2))

/-! ### Lightvessel -/

theorem execLightvesselPair_answers : Answers s (execLightvesselPair seq s) :=
  .next (State.startDesc_keeps
    (fun _ _ g => .either (State.finishDesc_keeps g)
      (State.sendBeat_keeps (State.lvTo_keeps (State.wr_keeps (.rec_ g)))))
    .here)

theorem execLightvesselUnpair_answers : Answers s (execLightvesselUnpair seq s) := by
  refine .next (State.startDesc_keeps (fun _ _ g => .either (State.finishDesc_keeps g) ?_) .here)
  extract_lets +onlyGivenNames t1
  have h1 : Keeps s t1 := State.lvEvent_keeps (State.sendBeat_keeps g)
  exact State.finishDesc_keeps
    (.rec_ (State.dropCheckpoints_keeps (State.lvTo_keeps (.either (State.closeMirrors_keeps h1) h1))))

theorem execLightvesselTakeover_answers : Answers s (execLightvesselTakeover seq s) :=
  .next (State.startDesc_keeps
    (fun _ _ g => .either (State.finishDesc_keeps g) (State.takeOver_keeps (.rec_ g)))
    .here)

theorem execLvBeatSend_answers : Answers s (execLvBeatSend s) := .next (.either .here (State.sendBeat_keeps .here))

theorem execLvBeat_answers {p : Fin 24} {vc : Fin 3} {same : Bool} {berths : List (Fin 6144 × BitVec 24)} :
    Answers s (execLvBeat p vc same berths s) :=
  .next (State.takeLv_keeps (fun _ _ g => .either (State.beat_keeps g) g) .here)

theorem execLvPairingTimeout_answers : Answers s (execLvPairingTimeout s) :=
  .next (.either (State.pairFails_keeps .here) .here)

theorem execLvActiveSilence_answers : Answers s (execLvActiveSilence s) :=
  .next (.either (State.lvAsk_keeps (State.lvEvent_keeps (State.lvTo_keeps .here))) .here)

theorem execLvStandbySilence_answers : Answers s (execLvStandbySilence s) :=
  .next (.either (State.takeOver_keeps .here) .here)

theorem execLvAsk_answers {p : Fin 24} {vc : Fin 3} : Answers s (execLvAsk p vc s) :=
  .next (State.takeLv_keeps
    (fun _ _ g => .either g
      (State.lvIssue_keeps (.either g
        (.either
          (State.raiseFence_keeps (State.raiseFence_keeps g))
          (.either (State.raiseFence_keeps (.rec_ g)) (.rec_ g))))))
    .here)

theorem execLvAskRepeat_answers : Answers s (execLvAskRepeat s) := .next (.either (State.lvAsk_keeps .here) .here)

theorem execLvLeaseRenew_answers : Answers s (execLvLeaseRenew s) := .next (.either (State.lvAsk_keeps .here) .here)

theorem execLvLeaseExpire_answers : Answers s (execLvLeaseExpire s) := .next (.either (State.lvFence_keeps .here) .here)

theorem execLvHoldTimeout_answers : Answers s (execLvHoldTimeout s) :=
  .next (.either (State.lvFence_keeps (State.lvEvent_keeps .here)) .here)

theorem execLvTakeoverTimeout_answers : Answers s (execLvTakeoverTimeout s) := by
  refine .ite .skip ?_
  extract_lets +onlyGivenNames _ s1
  have h1 : Keeps s s1 := State.lvTo_keeps (.rec_ .here)
  refine .next ?_
  split
  · exact State.finishDesc_keeps (State.lvEvent_keeps h1)
  · exact State.lvEvent_keeps h1

theorem execLvAnswer_answers {p : Fin 24} {vc : Fin 3} : Answers s (execLvAnswer p vc s) := by
  refine .next (State.takeLv_keeps
    (fun _ _ g => .either g
      (.either
        (.either (State.takeGranted_keeps g) ?_)
        (.either
          (.either (State.lvRelease_keeps (State.lvEvent_keeps (State.lvTo_keeps (.rec_ g)))) (State.lvFence_keeps g))
          (.either (State.lvFence_keeps g) g))))
    .here)
  extract_lets +onlyGivenNames _ _ t1
  have h1 : Keeps s t1 := State.lvTo_keeps (State.lvEvent_keeps (.rec_ (State.closeMirrors_keeps g)))
  split
  · exact State.finishDesc_keeps h1
  · exact h1

theorem execLvNotice_answers {p : Fin 24} {vc : Fin 3} : Answers s (execLvNotice p vc s) := by
  refine .next (State.takeLv_keeps (fun _ _ g => ?_) .here)
  extract_lets +onlyGivenNames n t1 mates t2
  have h1 : Keeps s t1 := State.respond_keeps (State.raiseFence_keeps (State.raiseFence_keeps g))
  have h2 : Keeps s t2 := .either (State.notify_keeps h1) h1
  exact .either (State.lvFence_keeps h2) h2

theorem execLvNoticeResend_answers : Answers s (execLvNoticeResend s) :=
  .next (.foldl (fun _ _ g => State.lvIssue_keeps g) .here)

theorem execLvCheckpointAck_answers {b : Fin 6144} : Answers s (execLvCheckpointAck b s) := by
  unfold execLvCheckpointAck
  refine .ite .skip ?_
  extract_lets +onlyGivenNames n e s1
  have h1 : Keeps s s1 := .either .here (State.setBerth_keeps .here)
  exact .next (State.lvCond_keeps
    (State.pairDone_keeps (.either (State.checkpoint_keeps (.rec_ h1)) (State.takePending_keeps (.rec_ h1)))))

theorem execLvCheckpointTimeout_answers {b : Fin 6144} : Answers s (execLvCheckpointTimeout b s) :=
  .ite .skip (.next (State.lvCond_keeps (State.lvEvent_keeps (.rec_ .here))))

/-! ### Management -/

theorem execGetEvents_answers {inst : BitVec 5} {first : BitVec 32} {count : BitVec 8} :
    Answers s (execGetEvents inst first count s) :=
  .ite
    (.next (State.mctpAnswer_keeps .here))
    (.next (State.mctpAnswer_keeps (.either .here (State.setFw_keeps .here))))

theorem execEventNotify_answers : Answers s (execEventNotify s) :=
  .ite .skip (.next (State.send_keeps (State.setFw_keeps .here)))

theorem execGetCert_answers {inst : BitVec 5} {off : BitVec 32} {len : BitVec 16} :
    Answers s (execGetCert inst off len s) :=
  .ite (.next (State.mctpAnswer_keeps .here)) (.next (State.mctpAnswer_keeps .here))

theorem execGetRepair_answers {inst : BitVec 5} {off : BitVec 32} {len : BitVec 16} :
    Answers s (execGetRepair inst off len s) :=
  .ite (.next (State.mctpAnswer_keeps .here)) (.next (State.mctpAnswer_keeps .here))

theorem execFwOffer_answers {inst : BitVec 5} {hdr manifest : List (BitVec 8)} {env : FwEnv} :
    Answers s (execFwOffer inst hdr manifest env s) :=
  .ite .skip
    (.ite
      (.next (State.mctpAnswer_keeps .here))
      (.next (.either
        (State.mctpAnswer_keeps (State.offer_keeps .here))
        (State.mctpAnswer_keeps (State.offer_keeps .here)))))

theorem execFwCmd_answers {inst : BitVec 5} {cmd : BitVec 8} {t : BitVec 64} {env : FwEnv} :
    Answers s (execFwCmd inst cmd t env s) :=
  .ite .skip
    (.ite
      (.next (State.mctpAnswer_keeps .here))
      (.ite
        (.next (.either
          (State.mctpAnswer_keeps (State.offerMem_keeps .here))
          (State.mctpAnswer_keeps (State.offerMem_keeps .here))))
        (.ite
          (.next (State.mctpAnswer_keeps (State.commitSvn_keeps .here)))
          (.next (State.mctpAnswer_keeps
            (State.fwuCmd_keeps (.either (State.wr_keeps (State.wr_keeps .here)) .here)))))))

theorem execAttest_answers {inst : BitVec 5} {challenge : List (BitVec 8)} :
    Answers s (execAttest inst challenge s) := by
  unfold execAttest
  refine .ite .skip (.ite (.next (State.mctpAnswer_keeps .here)) ?_)
  extract_lets +onlyGivenNames fill
  refine .ite (.next (State.mctpAnswer_keeps (.either .here (State.setFw_keeps (State.raise_keeps .here))))) ?_
  split
  · exact .next (State.mctpAnswer_keeps (State.raise_keeps .here))
  · next e =>
    exact .next (State.mctpAnswer_keeps (State.fwShow_keeps (State.checkLeaves_keeps
      (State.setFw_keeps (State.takeLeaf_keeps e .here)))))

/-! ### Scalar -/

theorem issueSR_answers {opc : Nat} {f : W64 → W64 → W64} : Answers s (issueSR opc f lc w s) :=
  issue_answers (fun _ => .either (State.coreFault_keeps .here) (State.nextPc_keeps .here))

theorem issueSI_answers {opc : Nat} {bad : W64 → Bool} {f : W64 → W64 → W64} : Answers s (issueSI opc bad f lc w s) :=
  issue_answers (fun _ => .either (State.coreFault_keeps .here) (State.nextPc_keeps .here))

theorem issueAD_answers {opc : Nat} {bad : W64 → Bool} {f : Core → W64 → BitVec 48} :
    Answers s (issueAD opc bad f lc w s) :=
  issue_answers (fun _ => .either (State.coreFault_keeps .here) (State.nextPc_keeps .here))

theorem execNop_answers : Answers s (execNop lc w s) :=
  issue_answers (fun _ => .either (State.coreFault_keeps .here) (State.nextPc_keeps .here))

theorem execLih_answers : Answers s (execLih lc w s) :=
  issue_answers (fun _ => .either (State.coreFault_keeps .here) (State.nextPc_keeps .here))

theorem execArd_answers : Answers s (execArd lc w s) :=
  issue_answers (fun _ => .either (State.coreFault_keeps .here) (State.nextPc_keeps .here))

theorem execLds_answers {err : Option Bool} : Answers s (execLds lc w err s) :=
  issue_answers (fun _ =>
    .either (State.coreFault_keeps .here) (.either (State.coreFault_keeps .here) (State.loadWord_keeps .here)))

theorem execSts_answers : Answers s (execSts lc w s) :=
  issue_answers (fun _ =>
    .either (State.coreFault_keeps .here)
      (.either (State.coreFault_keeps .here) (State.nextPc_keeps (State.store_keeps .here))))

/-! ### StartUp -/

theorem execColdStart_answers {i : StartIn} : Answers s (execColdStart i s) :=
  .ite .skip
    (.next (Started.rest_keeps
      (State.startFeeds_keeps (State.tellCause_keeps (.either .here (State.coldReset_keeps .here))))))

theorem execWarmStart_answers {i : StartIn} : Answers s (execWarmStart i s) :=
  .ite (.next (Started.rest_keeps (Started.inTime_keeps (State.tellCause_keeps .here)))) .skip

theorem execSupplyBelowReset_answers {rail : Fin 3} : Answers s (execSupplyBelowReset rail s) :=
  .ite (.next (State.askReset_keeps .here)) (.next (State.resetHost_keeps .here))

theorem execIoHaltRecovery_answers {q : Fin 4} : Answers s (execIoHaltRecovery q s) :=
  .ite (.next (State.askReset_keeps .here)) .skip

theorem execRefclkLossTimeout_answers : Answers s (execRefclkLossTimeout s) :=
  .ite (.next (State.setFw_keeps (State.coldReset_keeps .here))) .skip

theorem execRefclkReturn_answers {i : StartIn} : Answers s (execRefclkReturn i s) :=
  .ite .skip
    (.ite
      (.next (Started.rest_keeps (State.startFeeds_keeps (State.tellCause_keeps (State.setFw_keeps .here)))))
      (.next (State.missedExchanges_keeps (State.setFw_keeps .here))))

end

/-! ## Every command -/

/-- Every command completes, and keeps the queue, local time and the form of the state. -/
theorem exec_answers (c : Instr) (s : State) : Answers s (exec c s) := by
  cases c with
  | nop => exact execNop_answers
  | add lc w => exact (issueSR_answers : Answers s (execAdd lc w s))
  | sub lc w => exact (issueSR_answers : Answers s (execSub lc w s))
  | and lc w => exact (issueSR_answers : Answers s (execAnd lc w s))
  | or lc w => exact (issueSR_answers : Answers s (execOr lc w s))
  | xor lc w => exact (issueSR_answers : Answers s (execXor lc w s))
  | sll lc w => exact (issueSR_answers : Answers s (execSll lc w s))
  | srl lc w => exact (issueSR_answers : Answers s (execSrl lc w s))
  | sra lc w => exact (issueSR_answers : Answers s (execSra lc w s))
  | mul lc w => exact (issueSR_answers : Answers s (execMul lc w s))
  | mulhu lc w => exact (issueSR_answers : Answers s (execMulhu lc w s))
  | slt lc w => exact (issueSR_answers : Answers s (execSlt lc w s))
  | sltu lc w => exact (issueSR_answers : Answers s (execSltu lc w s))
  | min lc w => exact (issueSR_answers : Answers s (execMin lc w s))
  | max lc w => exact (issueSR_answers : Answers s (execMax lc w s))
  | addi lc w => exact (issueSI_answers : Answers s (execAddi lc w s))
  | andi lc w => exact (issueSI_answers : Answers s (execAndi lc w s))
  | ori lc w => exact (issueSI_answers : Answers s (execOri lc w s))
  | xori lc w => exact (issueSI_answers : Answers s (execXori lc w s))
  | slli lc w => exact (issueSI_answers : Answers s (execSlli lc w s))
  | srli lc w => exact (issueSI_answers : Answers s (execSrli lc w s))
  | srai lc w => exact (issueSI_answers : Answers s (execSrai lc w s))
  | lih => exact execLih_answers
  | amov lc w => exact (issueAD_answers : Answers s (execAmov lc w s))
  | aadd lc w => exact (issueAD_answers : Answers s (execAadd lc w s))
  | aaddi lc w => exact (issueAD_answers : Answers s (execAaddi lc w s))
  | ard => exact execArd_answers
  | lds => exact execLds_answers
  | sts => exact execSts_answers
  | beq lc w => exact (issueBR_answers : Answers s (execBeq lc w s))
  | bne lc w => exact (issueBR_answers : Answers s (execBne lc w s))
  | blt lc w => exact (issueBR_answers : Answers s (execBlt lc w s))
  | bge lc w => exact (issueBR_answers : Answers s (execBge lc w s))
  | bltu lc w => exact (issueBR_answers : Answers s (execBltu lc w s))
  | bgeu lc w => exact (issueBR_answers : Answers s (execBgeu lc w s))
  | jmp => exact execJmp_answers
  | call => exact execCall_answers
  | ret => exact execRet_answers
  | loop => exact execLoop_answers
  | signal => exact execSignal_answers
  | wait => exact execWait_answers
  | waitbt => exact execWaitbt_answers
  | fence => exact execFence_answers
  | fenceE => exact execFenceE_answers
  | semrd => exact execSemrd_answers
  | halt => exact execHalt_answers
  | rdbt => exact execRdbt_answers
  | rdcyc => exact execRdcyc_answers
  | rdslip => exact execRdslip_answers
  | mac => exact issueMMA_answers
  | macZero => exact issueMMA_answers
  | mmaDrain => exact issueMMA_answers
  | mmaLoad => exact issueMMA_answers
  | mmaZero => exact issueMMA_answers
  | vopCopy => exact issueVOP_answers
  | vopAdd => exact issueVOP_answers
  | vopSub => exact issueVOP_answers
  | vopMul => exact issueVOP_answers
  | vopFma => exact issueVOP_answers
  | vopMax => exact issueVOP_answers
  | vopMin => exact issueVOP_answers
  | vopAbs => exact issueVOP_answers
  | vopNeg => exact issueVOP_answers
  | vopScale => exact issueVOP_answers
  | vopAdds => exact issueVOP_answers
  | vopExp2 => exact issueVOP_answers
  | vopLog2 => exact issueVOP_answers
  | vopRsqrt => exact issueVOP_answers
  | vopSin => exact issueVOP_answers
  | vopCos => exact issueVOP_answers
  | vopRcp => exact issueVOP_answers
  | vopRsum => exact issueVOP_answers
  | vopRmax => exact issueVOP_answers
  | vopSmxstep => exact issueVOP_answers
  | vopRescale => exact issueVOP_answers
  | vopRng => exact issueVOP_answers
  | vopUnif => exact issueVOP_answers
  | vopPick => exact issueVOP_answers
  | xferCopy => exact issueXFER_answers
  | xferCopy2d => exact issueXFER_answers
  | xferGather => exact issueXFER_answers
  | xferScatter => exact issueXFER_answers
  | xferKvwalk => exact issueXFER_answers
  | xferKvput => exact issueXFER_answers
  | xferRload => exact issueXFER_answers
  | xferRstore => exact issueXFER_answers
  | xferRatomic => exact issueXFER_answers
  | xferBulkPut => exact issueXFER_answers
  | xferBulkGet => exact issueXFER_answers
  | matrixOpStart => exact execMatrixOpStart_answers
  | vectorOpStart => exact execVectorOpStart_answers
  | transferOpStart => exact execTransferOpStart_answers
  | matrixOpComplete => exact execMatrixOpComplete_answers
  | vectorOpComplete => exact execVectorOpComplete_answers
  | transferOpComplete => exact execTransferOpComplete_answers
  | remoteSignalArrive => exact execRemoteSignalArrive_answers
  | signalFreeEntry => exact execSignalFreeEntry_answers
  | waitTimeout => exact execWaitTimeout_answers
  | waitbtTimeReached => exact execWaitbtTimeReached_answers
  | teBankStarveWin => exact .next (State.setCore_keeps .here)
  | scratchPatrolScrub => exact execScratchPatrolScrub_answers
  | coreLaunchReceive => exact execCoreLaunchReceive_answers
  | coreLoadingDone => exact execCoreLoadingDone_answers
  | coreAbortReceive => exact execCoreAbortReceive_answers
  | coreDrainDone => exact execCoreDrainDone_answers
  | coreReportReceive => exact execCoreReportReceive_answers
  | physicalCoreFail => exact .next (State.failPhysical_keeps .here)
  | coreRebind => exact execCoreRebind_answers
  | launch => exact execLaunch_answers
  | stepLaunch => exact execStepLaunch_answers
  | copyDeviceToDevice => exact execCopyDeviceToDevice_answers
  | copyHostToDevice => exact execCopyHostToDevice_answers
  | copyDeviceToHost => exact execCopyDeviceToHost_answers
  | copyToRemote => exact execCopyToRemote_answers
  | copyFromRemote => exact execCopyFromRemote_answers
  | collectiveReduceScatter => exact .next (State.startColl_keeps .here)
  | collectiveAllGather => exact .next (State.startColl_keeps .here)
  | collectiveAllReduce => exact .next (State.startColl_keeps .here)
  | berthOpenLocal => exact execBerthOpenLocal_answers
  | berthOpenReceive => exact execBerthOpenReceive_answers
  | berthClose => exact execBerthClose_answers
  | berthMove => exact execBerthMove_answers
  | moorPut => exact execMoorPut_answers
  | moorGet => exact execMoorGet_answers
  | moorDropKey => exact execMoorDropKey_answers
  | moorDropAge => exact execMoorDropAge_answers
  | moorTouch => exact execMoorTouch_answers
  | fenceDesc => exact execFenceDesc_answers
  | signalDesc => exact execSignalDesc_answers
  | waitDesc => exact execWaitDesc_answers
  | roleSet => exact execRoleSet_answers
  | lightvesselPair => exact execLightvesselPair_answers
  | lightvesselUnpair => exact execLightvesselUnpair_answers
  | lightvesselTakeover => exact execLightvesselTakeover_answers
  | config => exact execConfig_answers
  | roleSettle => exact execRoleSettle_answers
  | berthHeaderReceive => exact execBerthHeaderReceive_answers
  | berthMoveCommitAck => exact execBerthMoveCommitAck_answers
  | moorAnnounce => exact execMoorAnnounce_answers
  | moorSegmentReceive => exact execMoorSegmentReceive_answers
  | moorSegment0Commit => exact execMoorSegment0Commit_answers
  | moorCommitAck => exact execMoorCommitAck_answers
  | moorGetRequest => exact execMoorGetRequest_answers
  | moorGetSegmentArrive => exact execMoorGetSegmentArrive_answers
  | moorDropArrive => exact execMoorDropArrive_answers
  | moorTouchArrive => exact execMoorTouchArrive_answers
  | moorSegmentReclaim => exact .next (State.moorFreeAll_keeps .here)
  | morAgeHistRefresh => exact execMorAgeHistRefresh_answers
  | ringLockLoopUpdate => exact execRingLockLoopUpdate_answers
  | ringSeekBegin => exact execRingSeekBegin_answers
  | ringSeekLock => exact execRingSeekLock_answers
  | ringSeekAttemptFail => exact execRingSeekAttemptFail_answers
  | ringLightLost => exact execRingLightLost_answers
  | ringDetuneLoss => exact execRingDetuneLoss_answers
  | ringHoldRequest => exact execRingHoldRequest_answers
  | ringHoldRelease => exact execRingHoldRelease_answers
  | ringHoldExpire => exact execRingHoldExpire_answers
  | ringHoldPark => exact execRingHoldPark_answers
  | feedForwardUpdate => exact execFeedForwardUpdate_answers
  | substitutionStart => exact .next (State.repairNext_keeps .here)
  | spareRetuneDone => exact .next (State.retuneDone_keeps .here)
  | laneTestDone => exact .next (State.judgeTest_keeps .here)
  | flitSlot => exact execFlitSlot_answers
  | flitReceive => exact execFlitReceive_answers
  | flitLossTimeout => exact execFlitLossTimeout_answers
  | creditIdleReturn => exact execCreditIdleReturn_answers
  | mcastWaitReserve => exact execMcastWaitReserve_answers
  | laneQualityWindow => exact execLaneQualityWindow_answers
  | laserTapSample => exact execLaserTapSample_answers
  | laserLevelUpdate => exact execLaserLevelUpdate_answers
  | laserAdvisoryClearTimer => exact execLaserAdvisoryClearTimer_answers
  | lineDarkDetect => exact execLineDarkDetect_answers
  | cmisPoll => exact execCmisPoll_answers
  | switchOverStart => exact execSwitchOverStart_answers
  | switchGroupDrained => exact execSwitchGroupDrained_answers
  | switchGroupVerified => exact execSwitchGroupVerified_answers
  | emergencyRestoreDone => exact execEmergencyRestoreDone_answers
  | lsrSwitch => exact .next (State.barWrite_keeps .here)
  | lsrPrepareRemove => exact .next (State.barWrite_keeps .here)
  | lsrCancelRemove => exact .next (State.barWrite_keeps .here)
  | laserModuleRemoved => exact execLaserModuleRemoved_answers
  | laserModuleInserted => exact execLaserModuleInserted_answers
  | commissioningDone => exact execCommissioningDone_answers
  | homeAccess => exact execHomeAccess_answers
  | hbmPatrolScrub => exact execHbmPatrolScrub_answers
  | sramPatrolScrub => exact execSramPatrolScrub_answers
  | hbmTempRead => exact execHbmTempRead_answers
  | pageRetireStart => exact execPageRetireStart_answers
  | pageRetireDone => exact execPageRetireDone_answers
  | bundleBeatReceive => exact execBundleBeatReceive_answers
  | bundleNakReceive => exact execBundleNakReceive_answers
  | vbPauseSpare => exact .next (State.pauseSpare_keeps .here)
  | vbPauseHalf => exact .next (State.pauseHalf_keeps .here)
  | vbPauseRetire => exact .next (State.pauseRetire_keeps .here)
  | vbResume => exact .next (State.resumeBundle_keeps .here)
  | vbSubstitutionDrained => exact execVbSubstitutionDrained_answers
  | vbSpareTrainDone => exact execVbSpareTrainDone_answers
  | vbRemapPauseStart => exact execVbRemapPauseStart_answers
  | vbRemapDrained => exact execVbRemapDrained_answers
  | stkDieOrderly => exact .next (State.barWrite_keeps .here)
  | stkDieForced => exact .next (State.barWrite_keeps .here)
  | dieSilentTimeout => exact execDieSilentTimeout_answers
  | dieClosingDrained => exact execDieClosingDrained_answers
  | dieClosingTimeout => exact execDieClosingTimeout_answers
  | dieResetSequenceDone => exact execDieResetSequenceDone_answers
  | dieReturnChecksDone => exact execDieReturnChecksDone_answers
  | linkAligned => exact .next (State.linkAlign_keeps .here)
  | trainIdentResend => exact execTrainIdentResend_answers
  | trainIdent => exact .next (State.identIn_keeps .here)
  | trainAck x f => exact (execTrainAck_answers : Answers s (execTrainAck x f s))
  | identTimeout => exact execIdentTimeout_answers
  | linkTestDone => exact execLinkTestDone_answers
  | creditInit => exact execCreditInit_answers
  | lanePause x r => exact (execLanePause_answers : Answers s (execLanePause x r s))
  | laneResume => exact execLaneResume_answers
  | pausedTimeout => exact execPausedTimeout_answers
  | btProbeSend => exact execBtProbeSend_answers
  | btProbe => exact execBtProbe_answers
  | btEcho => exact execBtEcho_answers
  | packetCommit => exact execPacketCommit_answers
  | egressEnqueue => exact execEgressEnqueue_answers
  | throttleBandRise => exact execThrottleBandRise_answers
  | load => exact .next (State.takeRequest_keeps .here)
  | store => exact .next (State.takeRequest_keeps .here)
  | atomic => exact .next (State.takeRequest_keeps .here)
  | bulkWrite => exact .next (State.takeRequest_keeps .here)
  | bulkRead => exact .next (State.takeRequest_keeps .here)
  | parcel => exact .next (State.takeRequest_keeps .here)
  | relayForward => exact execRelayForward_answers
  | collExp => exact .next (State.collEnd_keeps (State.takeRequest_keeps .here))
  | collB => exact .next (State.collEnd_keeps (State.takeRequest_keeps .here))
  | collData => exact execCollData_answers
  | ack => exact execAck_answers
  | loadData => exact execLoadData_answers
  | atomicData => exact execAtomicData_answers
  | bulkData => exact execBulkData_answers
  | nak => exact execNak_answers
  | homeForwardReceive => exact execHomeForwardReceive_answers
  | homeConfirm => exact execHomeConfirm_answers
  | forwardResendTimer => exact execForwardResendTimer_answers
  | homeLineApply => exact execHomeLineApply_answers
  | e2eResendTimer => exact execE2eResendTimer_answers
  | parcelFlushTimer => exact .next (State.flushParcel_keeps .here)
  | collTimerExpire => exact execCollTimerExpire_answers
  | hostReset => exact .next (State.resetHost_keeps .here)
  | commandPortLinkDown => exact .next (State.portDown_keeps .here)
  | portRetrainTimeout => exact execPortRetrainTimeout_answers
  | ucieLaneRepair => exact .next (State.raise_keeps (State.bump_keeps .here))
  | watchLineWrite => exact execWatchLineWrite_answers
  | headLineWrite => exact .next (State.setCmd_keeps .here)
  | descriptorFetch => exact execDescriptorFetch_answers
  | descriptorComplete => exact execDescriptorComplete_answers
  | msixCoalesceTimer => exact execMsixCoalesceTimer_answers
  | eventDeliver => exact execEventDeliver_answers
  | cxlMemRead => exact execCxlMemRead_answers
  | cxlMemWrite => exact execCxlMemWrite_answers
  | islandStepChange => exact .next (State.beginStep_keeps .here)
  | islandStepChangeDone => exact execIslandStepChangeDone_answers
  | droopDetect => exact execDroopDetect_answers
  | replicaMeasure => exact execReplicaMeasure_answers
  | btFrame => exact execBtFrame_answers
  | btGeneratorFailover => exact execBtGeneratorFailover_answers
  | btParentTimeout => exact execBtParentTimeout_answers
  | btHoldoverTimeout => exact execBtHoldoverTimeout_answers
  | ppsEdge => exact execPpsEdge_answers
  | ppsTimeout => exact execPpsTimeout_answers
  | feedFail => exact execFeedFail_answers
  | feedReturn => exact execFeedReturn_answers
  | supplyWarning => exact execSupplyWarning_answers
  | supplyDipRelease => exact execSupplyDipRelease_answers
  | brownoutTimer => exact execBrownoutTimer_answers
  | brownoutRecoveryTimer => exact execBrownoutRecoveryTimer_answers
  | supplyBelowReset => exact execSupplyBelowReset_answers
  | hbmRailFault => exact execHbmRailFault_answers
  | phaseFail => exact execPhaseFail_answers
  | pkgPowerLoop => exact execPkgPowerLoop_answers
  | dieCurrentSample => exact execDieCurrentSample_answers
  | sensorSample => exact execSensorSample_answers
  | thermalLoop => exact execThermalLoop_answers
  | stackCapLoop => exact execStackCapLoop_answers
  | heaterGridUpdate => exact execHeaterGridUpdate_answers
  | limitSourceRise => exact execLimitSourceRise_answers
  | riseHoldEnd => exact execRiseHoldEnd_answers
  | dieHaltRelease => exact execDieHaltRelease_answers
  | ioHaltRecovery => exact execIoHaltRecovery_answers
  | coldStart => exact execColdStart_answers
  | warmStart => exact execWarmStart_answers
  | coldRstN => exact .next (State.askReset_keeps .here)
  | warmRstN => exact .next (State.askReset_keeps .here)
  | refclkLoss => exact .next (State.setFw_keeps .here)
  | refclkLossTimeout => exact execRefclkLossTimeout_answers
  | calWindowStart => exact execCalWindowStart_answers
  | calWindowAbort => exact .next (State.cutWindow_keeps .here)
  | lvBeatSend => exact execLvBeatSend_answers
  | lvBeat => exact execLvBeat_answers
  | lvAsk => exact execLvAsk_answers
  | lvAnswer => exact execLvAnswer_answers
  | lvNotice => exact execLvNotice_answers
  | lvNoticeResend => exact execLvNoticeResend_answers
  | lvAskRepeat => exact execLvAskRepeat_answers
  | lvActiveSilence => exact execLvActiveSilence_answers
  | lvStandbySilence => exact execLvStandbySilence_answers
  | lvTakeoverTimeout => exact execLvTakeoverTimeout_answers
  | lvHoldTimeout => exact execLvHoldTimeout_answers
  | lvPairingTimeout => exact execLvPairingTimeout_answers
  | lvLeaseRenew => exact execLvLeaseRenew_answers
  | lvLeaseExpire => exact execLvLeaseExpire_answers
  | lvQuarantineEnd => exact .next (.rec_ .here)
  | lvCheckpointAck => exact execLvCheckpointAck_answers
  | lvCheckpointTimeout => exact execLvCheckpointTimeout_answers
  | watchdogExpire => exact execWatchdogExpire_answers
  | shadowRecord => exact execShadowRecord_answers
  | handoverRecord bytes env => exact (execHandoverRecord_answers : Answers s (execHandoverRecord bytes env s))
  | wrLoadDone => exact execWrLoadDone_answers
  | wrLoadTimeout => exact execWrLoadTimeout_answers
  | wrFailedRecover => exact execWrFailedRecover_answers
  | thermalPowerTask => exact .next (State.task_keeps .here)
  | laserSupervisionTask => exact .next (State.task_keeps .here)
  | laneSupervisionTask => exact .next (State.task_keeps .here)
  | ringSupervisionTask => exact .next (State.task_keeps .here)
  | eventLoggingTask => exact .next (State.task_keeps .here)
  | fwStageTimer => exact execFwStageTimer_answers
  | fwActivationEpoch => exact execFwActivationEpoch_answers
  | fwActWindowExpire => exact execFwActWindowExpire_answers
  | fwConfirmTimer => exact execFwConfirmTimer_answers
  | fwGetResponse => exact execFwGetResponse_answers
  | fwuOffer => exact .next (State.barWrite_keeps .here)
  | fwuCancel => exact .next (State.barWrite_keeps .here)
  | fwuArm => exact .next (State.barWrite_keeps .here)
  | fwuDisarm => exact .next (State.barWrite_keeps .here)
  | fwuCommitSvn => exact .next (State.barWrite_keeps .here)
  | fwuSaveSettings => exact .next (State.barWrite_keeps .here)
  | getInfo => exact .next (State.mctpAnswer_keeps .here)
  | getEvents => exact execGetEvents_answers
  | getCert => exact execGetCert_answers
  | attest => exact execAttest_answers
  | getRepair => exact execGetRepair_answers
  | fwOffer => exact execFwOffer_answers
  | fwStatus => exact .next (State.mctpAnswer_keeps .here)
  | fwCmd => exact execFwCmd_answers
  | eventNotify => exact execEventNotify_answers
  | registerWrite => exact execRegisterWrite_answers
  | glbExpertWrite => exact .next (State.barWrite_keeps .here)
  | glbSetupDoneWrite => exact .next (State.barWrite_keeps .here)
  | glbResetWarm => exact .next (State.barWrite_keeps .here)
  | glbResetCold => exact .next (State.barWrite_keeps .here)
  | hstSwitch => exact .next (State.barWrite_keeps .here)
  | negCommit => exact .next (State.barWrite_keeps .here)
  | rngCmdCfgWrite => exact .next (State.barWrite_keeps .here)
  | rngCqCfgWrite => exact .next (State.barWrite_keeps .here)
  | evtCfgWrite => exact .next (State.barWrite_keeps .here)
  | evtStatusClear => exact .next (State.barWrite_keeps .here)
  | rngCtrWrite => exact .next (State.barWrite_keeps (State.barWrite_keeps .here))
  | memErrlogClear => exact .next (State.barWrite_keeps .here)
  | prtIdentWrite => exact .next (State.barWrite_keeps .here)
  | prtPortEnableWrite => exact .next (State.barWrite_keeps .here)
  | clkFtabWrite => exact .next (State.barWrite_keeps .here)
  | clkIslTargetWrite => exact .next (State.barWrite_keeps .here)
  | prtE2eCtrlWrite => exact .next (State.barWrite_keeps .here)
  | glbCalCtrlWrite => exact .next (State.barWrite_keeps .here)
  | clkCtrlWrite => exact .next (State.barWrite_keeps .here)
  | pwrCtrlWrite => exact .next (State.barWrite_keeps .here)
  | thmCtrlWrite => exact .next (State.barWrite_keeps .here)
  | fabCtrlWrite => exact .next (State.barWrite_keeps .here)
  | lsrCtrlWrite => exact .next (State.barWrite_keeps .here)
  | prtCtrlWrite => exact .next (State.barWrite_keeps .here)
  | memCtrlWrite => exact .next (State.barWrite_keeps .here)
  | stkVbCtrlWrite => exact .next (State.barWrite_keeps .here)
  | fwuCtrlWrite => exact .next (State.barWrite_keeps .here)
  | clkBtLoRead => exact .next (State.setCmd_keeps .here)
  | brtEntryRead => exact .next (State.setCmd_keeps .here)
  | help => exact .next (State.monLine_keeps .here)
  | info => exact .next (State.monLine_keeps .here)
  | inv => exact .next (State.monLine_keeps .here)
  | rd => exact .next (State.monLine_keeps .here)
  | status => exact .next (State.monLine_keeps .here)
  | events => exact .next (State.monLine_keeps .here)
  | thermal => exact .next (State.monLine_keeps .here)
  | power => exact .next (State.monLine_keeps .here)
  | links => exact .next (State.monLine_keeps .here)
  | fabric => exact .next (State.monLine_keeps .here)
  | laser => exact .next (State.monLine_keeps .here)
  | time => exact .next (State.monLine_keeps .here)
  | chal => exact .next (State.monLine_keeps .here)
  | lock => exact .next (State.monLine_keeps .here)
  | unlock => exact .next (State.monLine_keeps .here)
  | monSignatureLine => exact .next (State.monLine_keeps .here)
  | monSessionExpire => exact execMonSessionExpire_answers
  | wr => exact .next (State.monLine_keeps .here)
  | save => exact .next (State.monLine_keeps .here)
  | reset => exact .next (State.monLine_keeps .here)
  | diereset => exact .next (State.monLine_keeps .here)
  | corereset => exact .next (State.monLine_keeps .here)
  | linkreset => exact .next (State.monLine_keeps .here)
  | memrd => exact .next (State.monLine_keeps .here)
  | memwr => exact .next (State.monLine_keeps .here)
  | illegalInstruction => exact execIllegalInstruction_answers
  | commandPortLinkUp => exact execCommandPortLinkUp_answers
  | refclkReturn => exact execRefclkReturn_answers
  | hbmRailReturn => exact .next (State.showRails_keeps (State.setPwr_keeps .here))
  | tenderPieceFetch => exact execTenderPieceFetch_answers
  | collHoldExpire => exact execCollHoldExpire_answers
  | calWindowDone => exact execCalWindowDone_answers
  | monUnknownCommand => exact .next (State.monLine_keeps .here)

/-! ## O1 and O59 -/

/-- Settles O1: `step` on a queue that is not empty is `exec` by definition. -/
theorem frontCommandRuns : Obligations.FrontCommandRuns := fun _ _ _ => rfl

/-- Settles O59, from what each of the 404 meanings keeps. -/
theorem everyCommandCompletes : Obligations.EveryCommandCompletes := fun c s =>
  let ⟨t, h, k⟩ := exec_answers c s
  ⟨t, h, k.pending, k.now⟩

end Sys2Proof.Machine
end

section
/-!
O51 fails for a state whose register table lists one register twice: a write of the reset value takes the first entry out, and the
second one shows. `State.Sound` rules such a table out, and in a canonical table `State.rd_wr_same` reads back what was written; the
statement asks for neither.
-/
namespace Sys2Proof.Machine

/-- A new device, but GLB_EXPERT stands twice in the table of registers, with DENY set. -/
def expertTwice : State := { State.reset with regs := [(0xC, 0x40000000), (0xC, 0x40000000)] }

theorem expertTwice_not_sound : ¬ expertTwice.Sound := fun h => absurd h.regs (by decide +kernel)

/-- KEY with DENY 0 is refused: the write counts in DENIED and does not unlock. -/
theorem expertTwice_refused : expertTwice.barAccess ⟨0, 0xC, 0x4558, none, quietEnv⟩ =
    (expertTwice.wr F.GLB_EXPERT_DENY 0 0).bump F.GLB_EXPERT_DENIED 0 1 := by decide +kernel

/-- Refutes O51: in a table that lists GLB_EXPERT twice, DENY stays set when 0 is written to it, so KEY 0x4558 does not unlock. -/
theorem not_registerAccess : ¬ Obligations.RegisterAccess := by
  unfold Obligations.RegisterAccess
  intro h
  obtain ⟨-, -, -, -, -, -, -, hkey⟩ := h expertTwice 0x4558 quietEnv 0 (by decide +kernel)
  have hunlocks : Host.Outcome.next (expertTwice.barAccess ⟨0, 0xC, 0x4558, none, quietEnv⟩) = _ :=
    (hkey (by decide +kernel) _ rfl).1 (by decide) (by decide)
  rw [expertTwice_refused] at hunlocks
  exact absurd (Host.Outcome.next.inj hunlocks) (by decide +kernel)

end Sys2Proof.Machine
end

section
/-!
The registers of a core and its faults (R37, R84, R88, R89).
-/
namespace Sys2Proof.Machine

/-- A write to a scalar register keeps the register table canonical. -/
theorem Core.setS_wf (c : Core) (i : Nat) (v : W64) (h : Tbl.wf (fun _ => (0 : W64)) c.sregs = true) :
    Tbl.wf (fun _ => (0 : W64)) (c.setS i v).sregs = true := by
  unfold Core.setS
  split
  · exact h
  · exact tput_wf _ _ _ _ h

@[simp] theorem Core.a_setS (c : Core) (i k : Nat) (v : W64) : (c.setS i v).a k = c.a k :=
  congrArg (tget (fun _ => 0) · k) (c.setS_aregs i v)

@[simp] theorem Core.sem_setS (c : Core) (i k : Nat) (v : W64) : (c.setS i v).sem k = c.sem k :=
  congrArg (tget (fun _ => 0) · k) (c.setS_sems i v)

/-- Settles O3: a write to a scalar register is one write to its sparse table, and s0 has no entry there. -/
theorem scalarRegisterFile : Obligations.ScalarRegisterFile := by
  intro s lc m c i j v hw hm
  exact ⟨c.s_zero, c.setS_zero v, c.s_setS_same i v hw, c.s_setS_ne i j v, fun k => c.a_setS i k v, fun k => c.sem_setS i k v,
    c.setS_wf i v hw, s.core_setCore_ne lc m _ hm⟩

/-- A core that runs no program does not fault (R84). -/
theorem State.faultWith_quiet (s : State) (lc cause idx : Nat) (word : W64) (status : Nat) (h : (s.core lc).cstate = .idle ∨
    (s.core lc).cstate = .faulting ∨ (s.core lc).cstate = .parked ∨ (s.core lc).cstate = .absent) :
    s.faultWith lc cause idx word status = s := by
  refine if_neg ?_
  rintro (hl | hl | hl) <;> simp [hl] at h

/-- Settles O4, from what a fault does to a core that runs a program and to one that does not. -/
theorem coreFaultRecorded : Obligations.CoreFaultRecorded :=
  ⟨fun s lc n i w => s.faultWith_live lc n i w _, fun s lc n i w => s.faultWith_quiet lc n i w _, rfl⟩

end Sys2Proof.Machine
end

section
/-!
What an instruction that issues does: the check of its reserved fields, its body on the core at issue, and going on in order (R49, R52,
R56).
-/
namespace Sys2Proof.Machine
open Spec

section

variable {s : State} {lc : Fin 192} {w : W64} {c : Core} {mine r : Bool} {body : Core → State}

@[simp] theorem hasNext_setS {i : Nat} {v : W64} : hasNext (c.setS i v) ↔ hasNext c := by simp [hasNext]

/-- Going on in order where an instruction follows (R52, R53). -/
theorem State.nextPc_ahead (n : Nat) (h : hasNext c) : s.nextPc n c = ahead s n c := s.fallTo_next n c _ h

/-- A non-zero bit in a reserved field is RESERVED_FIELD at the instruction (R49). -/
theorem issue_reserved (hi : s.canIssue lc w = true) (hm : mine = true) (hr : r = true) :
    issue s lc w mine (fun c => if r then s.coreFault lc 2 c.pc w else body c) = .next (s.coreFault lc 2 (s.core lc).pc w) := by
  rw [issue_pos _ _ _ _ _ hi hm, if_pos hr, Core.atIssue_pc]

/-- With its reserved fields zero an instruction acts on the core at issue. -/
theorem issue_admitted (hi : s.canIssue lc w = true) (hm : mine = true) (hr : r = false) :
    issue s lc w mine (fun c => if r then s.coreFault lc 2 c.pc w else body c) = .next (body (issuing s lc w)) := by
  rw [issue_pos _ _ _ _ _ hi hm, if_neg (by simp [hr])]
  rfl

/-- With its reserved fields zero an instruction that changes its own core alone does so and goes on. -/
theorem issue_next {g : Core → Core} (hi : s.canIssue lc w = true) (hm : mine = true) (hr : r = false)
    (hn : hasNext (g (issuing s lc w))) :
    issue s lc w mine (fun c => if r then s.coreFault lc 2 c.pc w else s.nextPc lc (g c)) =
      .next (ahead s lc (g (issuing s lc w))) :=
  (issue_admitted hi hm hr).trans (congrArg _ (State.nextPc_ahead _ hn))

end

/-! ## Tables of instructions of one form -/

/-- The SR instructions of R50 with their opcodes and results. -/
def srTable : List ((Fin 192 → W64 → Instr) × Nat × (W64 → W64 → W64)) :=
  [(.add, 0x01, fun x y => x + y), (.sub, 0x02, fun x y => x - y), (.and, 0x03, fun x y => x &&& y), (.or, 0x04, fun x y => x ||| y),
   (.xor, 0x05, fun x y => x ^^^ y), (.sll, 0x06, fun x y => x <<< (y.toNat % 64)), (.srl, 0x07, fun x y => x >>> (y.toNat % 64)),
   (.sra, 0x08, fun x y => x.sshiftRight (y.toNat % 64)), (.mul, 0x09, fun x y => x * y),
   (.mulhu, 0x0A, fun x y => BitVec.ofNat 64 (x.toNat * y.toNat / 2 ^ 64)),
   (.slt, 0x0B, fun x y => if x.toInt < y.toInt then 1 else 0), (.sltu, 0x0C, fun x y => if x.toNat < y.toNat then 1 else 0),
   (.min, 0x0D, fun x y => if x.toInt < y.toInt then x else y), (.max, 0x0E, fun x y => if x.toInt < y.toInt then y else x)]

/-- Each row of the table is `issueSR` at its opcode and result. -/
theorem exec_srTable : ∀ e ∈ srTable, ∀ lc w s, exec (e.1 lc w) s = issueSR e.2.1 e.2.2 lc w s := by
  simp only [srTable, List.forall_mem_cons, List.not_mem_nil, false_implies, implies_true, and_true]
  and_intros <;> exact fun _ _ _ => rfl

section

variable {s : State} {lc : Fin 192} {w : W64} {opc : Nat} (hi : s.canIssue lc w = true) (ho : opcodeOf w = opc)
include hi ho

theorem issueSR_goes {f : W64 → W64 → W64} (hr : srReserved w = false) (hn : hasNext (s.core lc)) :
    issueSR opc f lc w s = .next (ahead s lc ((issuing s lc w).setS (fld w 55 51)
      (f ((s.core lc).s (fld w 50 46)) ((s.core lc).s (fld w 45 41))))) :=
  issue_next hi (beq_iff_eq.2 ho) hr (hasNext_setS.2 hn)

end

/-- Settles O5: every SR instruction is `issueSR` of its row, and NOP goes on with the core as it is. -/
theorem registerArithmetic : Obligations.RegisterArithmetic := by
  intro s lc w hi hn
  refine ⟨fun hr e he ho => (exec_srTable e he lc w s).trans (issueSR_goes hi ho hr hn), ?_⟩
  rintro rfl
  exact issue_next (g := id) hi rfl rfl hn

end Sys2Proof.Machine
end

section
/-!
Immediate, address and scratchpad instructions of the sequencer (R49 to R51), and the instructions that refuse their word.
-/
namespace Sys2Proof.Machine
open Spec

/-- The SI instructions that combine RS1 with the sign-extended immediate (R50). -/
def siTable : List ((Fin 192 → W64 → Instr) × Nat × (W64 → W64 → W64)) :=
  [(.addi, 0x10, fun x i => x + i), (.andi, 0x11, fun x i => x &&& i), (.ori, 0x12, fun x i => x ||| i),
   (.xori, 0x13, fun x i => x ^^^ i)]

/-- The immediate shifts with what they do to RS1 by a count (R50). -/
def shiftTable : List ((Fin 192 → W64 → Instr) × Nat × (W64 → Nat → W64)) :=
  [(.slli, 0x14, fun x n => x <<< n), (.srli, 0x15, fun x n => x >>> n), (.srai, 0x16, fun x n => x.sshiftRight n)]

theorem exec_siTable : ∀ e ∈ siTable, ∀ lc w s, exec (e.1 lc w) s = issueSI e.2.1 (fun _ => false) e.2.2 lc w s := by
  simp only [siTable, List.forall_mem_cons, List.not_mem_nil, false_implies, implies_true, and_true]
  and_intros <;> exact fun _ _ _ => rfl

theorem exec_shiftTable : ∀ e ∈ shiftTable, ∀ lc w s,
    exec (e.1 lc w) s = issueSI e.2.1 immShiftBad (fun x i => e.2.2 x (shamt i)) lc w s := by
  simp only [shiftTable, List.forall_mem_cons, List.not_mem_nil, false_implies, implies_true, and_true]
  and_intros <;> exact fun _ _ _ => rfl

/-- The count of an immediate shift is IMM[5:0]. -/
theorem shamt_simm (w : W64) : shamt (simm w) = fld w 5 0 := by
  have h : (simm w).setWidth 6 = w.setWidth 6 := by
    ext i hi
    rw [simm, BitVec.getElem_setWidth, BitVec.getElem_setWidth, BitVec.getLsbD_signExtend, BitVec.getLsbD_setWidth]
    simp [show i < 64 by omega, show i < 32 by omega]
  simpa [shamt, fld, BitVec.toNat_setWidth] using congrArg BitVec.toNat h

/-- LIH puts IMM above the low half of RD. -/
theorem shift_or_eq_append (x y : BitVec 32) : (x.setWidth 64 <<< 32 ||| y.setWidth 64 : W64) = x ++ y := by
  ext i hi
  rw [BitVec.getElem_append]
  by_cases h : i < 32
  · simp [h]
  · simp [h, BitVec.getLsbD_of_ge y i (by omega), BitVec.getLsbD_eq_getElem (show i - 32 < 32 by omega)]

/-- LDS and STS reach an aligned offset that leaves room for 8 bytes (R51). -/
theorem ldsBad_eq_false {off : Nat} : ldsBad off = false ↔ off % 8 = 0 ∧ off ≤ 0x5FFFF8 := by simp [ldsBad]

theorem ldsBad_eq_true {off : Nat} : ldsBad off = true ↔ ¬(off % 8 = 0 ∧ off ≤ 0x5FFFF8) := by
  rw [← ldsBad_eq_false, Bool.not_eq_false]

@[simp] theorem hasNext_setA {c : Core} {i : Nat} {v : BitVec 48} : hasNext (c.setA i v) ↔ hasNext c := Iff.rfl

section

variable {s : State} {lc : Fin 192} {w : W64} {opc : Nat} {bad : W64 → Bool} (hi : s.canIssue lc w = true) (ho : opcodeOf w = opc)
include hi ho

theorem issueSI_goes {f : W64 → W64 → W64} (hr : siReserved w = false) (hb : bad w = false) (hn : hasNext (s.core lc)) :
    issueSI opc bad f lc w s = .next (ahead s lc ((issuing s lc w).setS (fld w 55 51) (f ((s.core lc).s (fld w 50 46)) (simm w)))) :=
  issue_next hi (beq_iff_eq.2 ho) (by simp [hr, hb]) (hasNext_setS.2 hn)

theorem issueAD_goes {f : Core → W64 → BitVec 48} (hr : adReserved w = false) (hb : bad w = false) (hn : hasNext (s.core lc)) :
    issueAD opc bad f lc w s = .next (ahead s lc ((issuing s lc w).setA (fld w 55 52) (f (issuing s lc w) w))) :=
  issue_next hi (beq_iff_eq.2 ho) (by simp [hr, hb]) (hasNext_setA.2 hn)

end

/-- Settles O6: every immediate instruction but LIH is `issueSI` of its row; LIH joins two halves. -/
theorem immediateArithmetic : Obligations.ImmediateArithmetic := by
  intro s lc w hi hn hr
  refine ⟨(List.forall_mem_map (l := siTable) (f := fun e => (e.1, e.2.1, (e.2.2 · (simm w))))).2 fun e he ho => ?_, fun hz =>
    (List.forall_mem_map (l := shiftTable) (f := fun e => (e.1, e.2.1, (e.2.2 · (fld w 5 0))))).2 fun e he ho => ?_, fun hz ho => ?_⟩
  · exact (exec_siTable e he lc w s).trans (issueSI_goes hi ho hr rfl hn)
  · rw [exec_shiftTable e he, issueSI_goes hi ho hr (by simp [immShiftBad, hz]) hn, shamt_simm]
  · show execLih lc w s = _
    rw [← shift_or_eq_append]
    exact issue_next hi (beq_iff_eq.2 ho) (by simp [hr, hz]) (hasNext_setS.2 hn)

section

variable {s : State} {lc : Fin 192} {w : W64} {n : Nat} (hi : s.canIssue lc w = true) (hr : adReserved w = false)
  (hz : fld w 55 52 = 0)
include hi hr hz

/-- LDS of an offset out of reach (R51). -/
theorem execLds_range {err : Option Bool} (ho : opcodeOf w = 0x24) (hb : ldsBad (ldsOff (issuing s lc w) w) = true) :
    execLds lc w err s = .next (s.coreFault lc 5 (s.core lc).pc w) :=
  (issue_admitted hi (beq_iff_eq.2 ho) (by simp [hr, hz])).trans (congrArg _ (if_pos hb))

/-- LDS of an offset in reach (R51). -/
theorem execLds_loads {err : Option Bool} (ho : opcodeOf w = 0x24) (hb : ldsBad (ldsOff (issuing s lc w) w) = false) :
    execLds lc w err s = .next (s.loadWord lc (issuing s lc w) w (ldsOff (issuing s lc w) w) err) :=
  (issue_admitted hi (beq_iff_eq.2 ho) (by simp [hr, hz])).trans (congrArg _ (if_neg (by simp [hb])))

theorem execSts_range (ho : opcodeOf w = 0x25) (hb : ldsBad (ldsOff (issuing s lc w) w) = true) :
    execSts lc w s = .next (s.coreFault lc 5 (s.core lc).pc w) :=
  (issue_admitted hi (beq_iff_eq.2 ho) (by simp [hr, hz])).trans (congrArg _ (if_pos hb))

theorem execSts_stores (ho : opcodeOf w = 0x25) (hb : ldsBad (ldsOff (issuing s lc w) w) = false) (hn : hasNext (s.core lc)) :
    execSts lc w s = .next (ahead (s.store (scratchAddr lc (ldsOff (issuing s lc w) w))
      (leBytes 8 ((issuing s lc w).s (fld w 47 43)).toNat)) lc (issuing s lc w)) :=
  (issue_admitted hi (beq_iff_eq.2 ho) (by simp [hr, hz])).trans
    (congrArg _ ((if_neg (by simp [hb])).trans (State.nextPc_ahead _ hn)))

end

section

variable {s : State} {lc off : Nat} {c : Core} {w : W64}

/-- A load from an unpoisoned unit puts the bytes into S and goes on (R51). -/
theorem State.loadWord_clean (hb : s.bad (scratchAddr lc off) = false) (hn : hasNext c) :
    s.loadWord lc c w off none = ahead s lc (c.setS (fld w 47 43) (BitVec.ofNat 64 (s.num (scratchAddr lc off) 8))) :=
  (if_neg (by simp [hb])).trans (State.nextPc_ahead _ (hasNext_setS.2 hn))

/-- A corrected error of the word read is counted after the load (R41). -/
theorem State.loadWord_corrected {t : State} (h : s.loadWord lc c w off none = t) :
    s.loadWord lc c w off (some false) = t.scratchCorrected lc (off / 64 % 32) 1 := h ▸ rfl

/-- A load from a poisoned unit (R215). -/
theorem State.loadWord_poisoned (hb : s.bad (scratchAddr lc off) = true) :
    s.loadWord lc c w off none = s.coreFault lc 0x0F c.pc w := if_pos hb

end

/-- Settles O7: the address instructions write one register; LDS and STS divide by their offset, LDS then by the poison mark. -/
theorem addressInstructions : Obligations.AddressInstructions := by
  intro s lc w hi hn hr
  refine ⟨fun ho h1 h2 => ?_, fun ho h1 => ?_, fun ho h1 => ?_, fun ho h1 h2 => ?_, fun ho hz => ⟨fun hoff => ?_, fun hoff e => ?_⟩,
    fun ho hz => ⟨fun hoff => ?_, fun hoff => ?_⟩⟩
  · exact show execAmov lc w s = _ from issueAD_goes hi ho hr (by simp [h1, h2]) hn
  · exact show execAadd lc w s = _ from issueAD_goes hi ho hr (by simp [h1]) hn
  · exact show execAaddi lc w s = _ from issueAD_goes hi ho hr (by simp [h1]) hn
  · exact show execArd lc w s = _ from issue_next hi (beq_iff_eq.2 ho) (by simp [hr, h1, h2]) (hasNext_setS.2 hn)
  · have hl := fun e => execLds_loads (err := e) hi hr hz ho (ldsBad_eq_false.2 hoff)
    refine ⟨?_, fun hb => (hl none).trans (congrArg _ (State.loadWord_poisoned hb)), hl (some true)⟩
    rintro hb t rfl
    have hc := State.loadWord_clean (w := w) (c := issuing s lc w) hb hn
    exact ⟨(hl none).trans (congrArg _ hc), (hl (some false)).trans (congrArg _ (State.loadWord_corrected hc))⟩
  · exact execLds_range hi hr hz ho (ldsBad_eq_true.2 hoff)
  · exact execSts_stores hi hr hz ho (ldsBad_eq_false.2 hoff) hn
  · exact execSts_range hi hr hz ho (ldsBad_eq_true.2 hoff)

end Sys2Proof.Machine
end

section
/-!
Hardware loops (R53).
-/
namespace Sys2Proof.Machine
open Spec

/-- With iterations left the innermost body starts again (R53). -/
theorem loopArrive_again (l : LoopLvl) (r : List LoopLvl) (h : 1 < l.left) :
    loopArrive (l :: r) l.stop = (l.start, { l with left := l.left - 1 } :: r) := by
  rw [loopArrive, if_pos rfl, if_pos h]

/-- With none left the level ends, and the index is reached in the levels around it (R53). -/
theorem loopArrive_ends (l : LoopLvl) (r : List LoopLvl) (h : l.left ≤ 1) : loopArrive (l :: r) l.stop = loopArrive r l.stop := by
  rw [loopArrive, if_pos rfl, if_neg (by omega)]

/-- An index that is not the end of the innermost body changes no level. -/
theorem loopArrive_inside (ls : List LoopLvl) (p : Nat) (h : ∀ l ∈ ls.head?, p ≠ l.stop) : loopArrive ls p = (p, ls) := by
  cases ls with
  | nil => rfl
  | cons l r => exact if_neg (h l rfl)

theorem loopBad_eq_false {c : Core} {n : Nat} :
    loopBad c n = false ↔ n ≠ 0 ∧ c.loops.length < 4 ∧ ∀ l ∈ c.loops, c.pc + 1 + n ≤ l.stop := by
  simp [loopBad, and_assoc]

theorem loopBad_eq_true {c : Core} {n : Nat} :
    loopBad c n = true ↔ n = 0 ∨ 4 ≤ c.loops.length ∨ ∃ l ∈ c.loops, l.stop < c.pc + 1 + n := by
  simp [loopBad, or_assoc]

/-- N of a LOOP: RS[31:0], or CNT when RS is s0 (R50). -/
def loopCount (c : Core) (w : W64) : Nat := if fld w 55 51 = 0 then fld w 47 32 else (c.s (fld w 55 51)).toNat % 2 ^ 32

/-- A new level is entered at its first instruction. -/
theorem loopArrive_open (p body n : Nat) (r : List LoopLvl) (h : body ≠ 0) :
    loopArrive (⟨p, p + body, n⟩ :: r) p = (p, ⟨p, p + body, n⟩ :: r) :=
  loopArrive_inside _ _ fun l hl => by
    obtain rfl := Option.mem_some.1 hl
    simp [h]

section

variable {s : State} {lc : Fin 192} {w : W64} (hi : s.canIssue lc w = true) (ho : opcodeOf w = 0x39) (h1 : fld w 50 48 = 0)
  (h2 : fld w 31 16 = 0)
include hi ho h1 h2

theorem execLoop_violation (hb : loopBad (issuing s lc w) (fld w 15 0) = true) :
    execLoop lc w s = .next (s.coreFault lc 4 (issuing s lc w).pc w) :=
  (issue_admitted hi (beq_iff_eq.2 ho) (by simp [h1, h2])).trans (congrArg _ (if_pos hb))

theorem execLoop_skips (hb : loopBad (issuing s lc w) (fld w 15 0) = false) (hn : loopCount (issuing s lc w) w = 0) :
    execLoop lc w s = .next (s.fallTo lc (issuing s lc w) ((issuing s lc w).pc + 1 + fld w 15 0)) :=
  (issue_admitted hi (beq_iff_eq.2 ho) (by simp [h1, h2])).trans (congrArg _ ((if_neg (by simp [hb])).trans (if_pos hn)))

theorem execLoop_opens (hb : loopBad (issuing s lc w) (fld w 15 0) = false) (hn : loopCount (issuing s lc w) w ≠ 0) :
    execLoop lc w s = .next (s.nextPc lc { issuing s lc w with loops := ⟨(issuing s lc w).pc + 1,
      (issuing s lc w).pc + 1 + fld w 15 0, loopCount (issuing s lc w) w⟩ :: (issuing s lc w).loops }) :=
  (issue_admitted hi (beq_iff_eq.2 ho) (by simp [h1, h2])).trans (congrArg _ ((if_neg (by simp [hb])).trans (if_neg hn)))

end

/-- Settles O9, from the three ways of a LOOP and of arriving at an index. -/
theorem hardwareLoops : Obligations.HardwareLoops := by
  refine ⟨fun s lc w hi ho h1 h2 => ⟨fun hok => ⟨fun hn hp => ?_, fun hn hp => ?_⟩, fun hv => ?_⟩, loopArrive_again,
    loopArrive_ends, loopArrive_inside⟩
  · have harr := loopArrive_open ((issuing s lc w).pc + 1) (fld w 15 0) (loopCount (issuing s lc w) w) (issuing s lc w).loops hok.1
    refine (execLoop_opens hi ho h1 h2 (loopBad_eq_false.2 hok) hn).trans (congrArg _ ?_)
    refine (State.fallTo_next _ _ _ _ ?_).trans ?_
    · exact harr ▸ hp
    · simp only [harr]
      rfl
  · exact (execLoop_skips hi ho h1 h2 (loopBad_eq_false.2 hok) hn).trans (congrArg _ (s.fallTo_next lc _ _ hp))
  · exact execLoop_violation hi ho h1 h2 (loopBad_eq_true.2 hv)

end Sys2Proof.Machine
end

section
/-!
Signals, waits, fences and the system reads (R45 to R48, R54, R55), and what ends a stall (R87).
-/
namespace Sys2Proof.Machine
open Spec

/-- The core a SIGNAL names with RT. -/
def signalTarget (c : Core) (w : W64) : Nat := (c.s (fld w 49 45)).toNat

/-- The count of a SIGNAL: RV[31:0], or IMM when RV is s0 (R54). -/
def signalCount (c : Core) (w : W64) : Nat := if fld w 44 40 = 0 then fld w 15 0 else (c.s (fld w 44 40)).toNat % 2 ^ 32

/-- The count of a WAIT: RV[31:0], or IMM when RV is s0 (R54). -/
def waitCount (c : Core) (w : W64) : Nat := if fld w 49 45 = 0 then fld w 15 0 else (c.s (fld w 49 45)).toNat % 2 ^ 32

@[simp] theorem hasNext_setSem {c : Core} {i : Nat} {v : BitVec 32} : hasNext (c.setSem i v) ↔ hasNext c := Iff.rfl

section

variable {s : State} {lc : Fin 192} {w : W64} (hi : s.canIssue lc w = true) (ho : opcodeOf w = 0x60) (hr : fld w 39 16 = 0)
include hi ho hr

theorem execSignal_outside (ht : fld w 49 45 ≠ 0) (hl : s.inLaunch lc (signalTarget (issuing s lc w) w) = false) :
    execSignal lc w s = .next (s.coreFault lc 9 (issuing s lc w).pc w) :=
  (issue_admitted hi (beq_iff_eq.2 ho) (by simp [hr])).trans (congrArg _ (if_pos ⟨ht, .inr hl⟩))

/-- A SIGNAL to the own core, which RT names or s0 stands for (R46). -/
theorem execSignal_own (ht : fld w 49 45 = 0 ∨
      s.inLaunch lc (signalTarget (issuing s lc w) w) = true ∧ signalTarget (issuing s lc w) w = lc) :
    execSignal lc w s = .next
      (if ((issuing s lc w).sem (fld w 55 50)).toNat + signalCount (issuing s lc w) w < 2 ^ 32 then
        s.nextPc lc ((issuing s lc w).setSem (fld w 55 50)
          ((issuing s lc w).sem (fld w 55 50) + BitVec.ofNat 32 (signalCount (issuing s lc w) w)))
      else s.coreFault lc 8 (issuing s lc w).pc w) := by
  refine (issue_admitted hi (beq_iff_eq.2 ho) (by simp [hr])).trans (congrArg _ ((if_neg ?_).trans (if_pos ?_)))
  · rintro ⟨hne, hbad⟩
    obtain h0 | ⟨hl, hlc⟩ := ht
    · exact hne h0
    · obtain hbig | hout := hbad
      · exact absurd (hlc ▸ hbig : 256 ≤ lc.val) (by omega)
      · exact absurd (hl.symm.trans hout) (by decide)
  · exact ht.imp id And.right

theorem execSignal_remote (ht : fld w 49 45 ≠ 0) (hl : s.inLaunch lc (signalTarget (issuing s lc w) w) = true)
    (hn : signalTarget (issuing s lc w) w < 192) (hne : signalTarget (issuing s lc w) w ≠ lc) :
    execSignal lc w s = .next (s.sendSig lc (issuing s lc w) (signalTarget (issuing s lc w) w) (fld w 55 50)
      (signalCount (issuing s lc w) w)) := by
  refine (issue_admitted hi (beq_iff_eq.2 ho) (by simp [hr])).trans (congrArg _ ((if_neg ?_).trans (if_neg ?_)))
  · rintro ⟨-, hbig | hout⟩
    · exact absurd hbig (by unfold signalTarget at hn; omega)
    · exact absurd (hl.symm.trans hout) (by decide)
  · exact not_or.2 ⟨ht, hne⟩

end

/-- Settles O10, from the three ways of a SIGNAL: outside the launch, to another core of it, to the own core. -/
theorem signalTargets : Obligations.SignalTargets := by
  intro s lc w hi ho hr ht
  refine ⟨execSignal_outside hi ho hr ht, execSignal_remote hi ho hr ht, fun hl hlc hv hn => ?_⟩
  refine (execSignal_own hi ho hr (.inr ⟨hl, hlc⟩)).trans (congrArg _ ((if_pos hv).trans ?_))
  exact State.nextPc_ahead _ (hasNext_setSem.2 hn)

/-- The outgoing queue stands while a refused signal blocks it (R47). -/
theorem State.drainSigs_blocked (lc n : Nat) (s : State) (h : (s.core lc).blocked = true) : State.drainSigs lc n s = s := by
  cases n with
  | zero => rfl
  | succ n =>
    unfold State.drainSigs
    dsimp only
    split
    · rfl
    · exact if_pos h

theorem State.drainSigs_empty (lc n : Nat) (s : State) (h : (s.core lc).outq = []) : State.drainSigs lc n s = s := by
  cases n with
  | zero => rfl
  | succ n => simp only [State.drainSigs, h]

/-- The head of the outgoing queue goes out, then the rest (R47). -/
theorem State.drainSigs_cons (lc n : Nat) (s : State) (g : Sig) (r : List Sig) (h : (s.core lc).outq = g :: r)
    (hb : (s.core lc).blocked = false) : State.drainSigs lc (n + 1) s = State.drainSigs lc n
      ((s.setCore lc { s.core lc with outq := r, transit := (s.core lc).transit ++ [g] }).post (signalNote lc g)) := by
  simp [State.drainSigs, h, hb]

/-- A signal enters the outgoing queue where an instruction follows (R47). -/
theorem State.putSig_ahead (s : State) (lc : Nat) (c : Core) (g : Sig) (h : hasNext c) :
    s.putSig lc c g = State.drainSigs lc 16 (ahead s lc { c with outq := c.outq ++ [g] }) :=
  congrArg (State.drainSigs lc 16) (State.nextPc_ahead (c := { c with outq := c.outq ++ [g] }) lc h)

section

variable {s : State} {lc : Fin 192} {w : W64} (hi : s.canIssue lc w = true) (ho : opcodeOf w = 0x61) (hr : fld w 44 16 = 0)
include hi ho hr

theorem execWait_passes (hc : waitCount (issuing s lc w) w ≤ ((issuing s lc w).sem (fld w 55 50)).toNat) (hn : hasNext (issuing s lc w)) :
    execWait lc w s = .next (ahead s lc ((issuing s lc w).setSem (fld w 55 50)
      ((issuing s lc w).sem (fld w 55 50) - BitVec.ofNat 32 (waitCount (issuing s lc w) w)))) :=
  (issue_admitted hi (beq_iff_eq.2 ho) (by simp [hr])).trans
    (congrArg _ ((if_pos hc).trans (State.nextPc_ahead _ (hasNext_setSem.2 hn))))

theorem execWait_stalls (hc : ((issuing s lc w).sem (fld w 55 50)).toNat < waitCount (issuing s lc w) w) :
    execWait lc w s = .next (s.setCore lc { issuing s lc w with stall := .wait (fld w 55 50) (waitCount (issuing s lc w) w) }) :=
  (issue_admitted hi (beq_iff_eq.2 ho) (by simp [hr])).trans (congrArg _ (if_neg (Nat.not_le.2 hc)))

end

/-- Settles O11, from the own-core SIGNAL, the outgoing queue and the two ways of WAIT. -/
theorem semaphoresAndWaits : Obligations.SemaphoresAndWaits := by
  intro s lc w hi
  refine ⟨?_, fun t v hn => ⟨fun hl => (if_pos hl).trans (s.putSig_ahead lc _ _ hn), fun hf => if_neg (Nat.not_lt.2 hf)⟩,
    fun n u g r => ⟨u.drainSigs_blocked lc n, u.drainSigs_empty lc n, u.drainSigs_cons lc n g r⟩, ?_⟩
  · rintro v rfl ho hr ht
    have hown := execSignal_own hi ho hr (.inl ht)
    exact ⟨fun hv hn => hown.trans (congrArg _ ((if_pos hv).trans (State.nextPc_ahead _ (hasNext_setSem.2 hn)))),
      fun hv => hown.trans (congrArg _ (if_neg (Nat.not_lt.2 hv)))⟩
  · rintro n rfl ho hr
    exact ⟨execWait_passes hi ho hr, execWait_stalls hi ho hr⟩

section

variable {s : State} {lc : Fin 192} {w : W64} {mine r : Bool} {p : Core → Prop} [∀ c, Decidable (p c)] {stalled : Core → State}

/-- An instruction that waits for a condition goes on where it holds. -/
theorem issue_passes (hi : s.canIssue lc w = true) (hm : mine = true) (hr : r = false) (hp : p (issuing s lc w))
    (hn : hasNext (issuing s lc w)) :
    issue s lc w mine (fun c => if r then s.coreFault lc 2 c.pc w else if p c then s.nextPc lc c else stalled c) =
      .next (ahead s lc (issuing s lc w)) :=
  (issue_admitted hi hm hr).trans (congrArg _ ((if_pos hp).trans (State.nextPc_ahead _ hn)))

/-- It stalls where it does not. -/
theorem issue_stalls (hi : s.canIssue lc w = true) (hm : mine = true) (hr : r = false) (hp : ¬p (issuing s lc w)) :
    issue s lc w mine (fun c => if r then s.coreFault lc 2 c.pc w else if p c then s.nextPc lc c else stalled c) =
      .next (stalled (issuing s lc w)) :=
  (issue_admitted hi hm hr).trans (congrArg _ (if_neg hp))

end

/-- The registers that an instruction reads are ready at its issue, and the latency of its result runs from there (R56). -/
theorem Core.atIssue_ready (c : Core) (w : W64) (d n t : Nat) (hd : resultOf w = (d, n)) (h0 : d ≠ 0)
    (ht : t = (readsOf w).foldl (fun a i => max a (tget (fun _ => 0) c.ready i)) c.cyc) :
    (c.atIssue w).cyc = t ∧ (c.atIssue w).ready = tput (fun _ => 0) c.ready d (t + n) := by
  subst ht
  refine ⟨rfl, ?_⟩
  simp only [Core.atIssue, hd, if_neg h0]

/-- Settles O12: the waiting instructions pass or stall by their condition, the reads write RD, with a free value where one is due. -/
theorem fencesTimesAndReads : Obligations.FencesTimesAndReads := by
  intro s lc w hi
  refine ⟨fun ho hz => ⟨fun ht hn => ?_, fun ht => ?_⟩, fun ho hz => ⟨fun hq hn => ?_, fun hq => ?_⟩,
    fun ho hz => ⟨fun hq hn => ?_, fun hq => ?_⟩, fun ho hz => ⟨fun hq => ?_, fun hq => ?_⟩, fun hn =>
    ⟨fun ho hz => ?_, fun hz => ⟨fun ho => ?_, fun ho => ⟨fun hs => ?_, ?_⟩, fun ho => ⟨fun hl => ?_, ?_⟩⟩,
      fun d n hd h0 t => (s.core lc).atIssue_ready w d n t hd h0⟩⟩
  · exact show execWaitbt lc w s = _ from issue_passes hi (beq_iff_eq.2 ho) (by simp [hz]) ht hn
  · exact show execWaitbt lc w s = _ from issue_stalls hi (beq_iff_eq.2 ho) (by simp [hz]) (Nat.not_le.2 ht)
  · exact show execFence lc w s = _ from issue_passes hi (beq_iff_eq.2 ho) (by simp [hz]) hq hn
  · exact show execFence lc w s = _ from issue_stalls hi (beq_iff_eq.2 ho) (by simp [hz]) (Bool.eq_false_iff.1 hq)
  · exact show execFenceE lc w s = _ from issue_passes hi (beq_iff_eq.2 ho) (by simp [hz]) hq hn
  · exact show execFenceE lc w s = _ from issue_stalls hi (beq_iff_eq.2 ho) (by simp [hz]) (Bool.eq_false_iff.1 hq)
  · exact show execHalt lc w s = _ from (issue_admitted hi (beq_iff_eq.2 ho) (by simp [hz])).trans (congrArg _ (if_pos hq))
  · exact show execHalt lc w s = _ from
      (issue_admitted hi (beq_iff_eq.2 ho) (by simp [hz])).trans (congrArg _ (if_neg (Bool.eq_false_iff.1 hq)))
  · exact show execSemrd lc w s = _ from issue_next hi (beq_iff_eq.2 ho) (by simp [hz]) (hasNext_setS.2 hn)
  · exact show execRdbt lc w s = _ from issue_next hi (beq_iff_eq.2 ho) (by simp [hz]) (hasNext_setS.2 hn)
  · exact show execRdslip lc w s = _ from (issue_admitted hi (beq_iff_eq.2 ho) (by simp [hz])).trans
      (congrArg _ ((if_neg (Bool.eq_false_iff.1 hs)).trans (State.nextPc_ahead _ (hasNext_setS.2 hn))))
  · rintro hs n rfl
    exact show execRdslip lc w s = _ from (issue_admitted hi (beq_iff_eq.2 ho) (by simp [hz])).trans
      (congrArg _ ((if_pos hs).trans (State.nextPc_ahead _ (hasNext_setS.2 hn))))
  · exact show execRdcyc lc w s = _ from (issue_admitted hi (beq_iff_eq.2 ho) (by simp [hz])).trans
      (congrArg _ ((if_neg (Bool.eq_false_iff.1 hl)).trans (State.nextPc_ahead _ (hasNext_setS.2 hn))))
  · rintro hl n rfl
    exact show execRdcyc lc w s = _ from (issue_admitted hi (beq_iff_eq.2 ho) (by simp [hz])).trans
      (congrArg _ ((if_pos hl).trans (State.nextPc_ahead _ (hasNext_setS.2 hn))))

section

variable {s : State} {lc : Fin 192} {g : Sig}

theorem execWaitbtTimeReached_goes {t : Nat} (hs : (s.core lc).stall = .waitbt t) (hr : (s.core lc).cstate = .running)
    (ht : t ≤ s.btOf (dieCD (lc / 16))) (hn : hasNext (s.core lc)) :
    execWaitbtTimeReached lc s = .next (ahead s lc (s.core lc)) := by
  simp only [execWaitbtTimeReached, hs]
  exact (if_pos ⟨hr, ht⟩).trans (congrArg _ (State.nextPc_ahead _ hn))

/-- The target of the first signal of a blocked queue has a free entry and can say so (R47). -/
def freeEntry (s : State) (lc : Fin 192) (g : Sig) : Prop :=
  (s.core lc).blocked ∧ (s.core g.core).pend.length < 64 ∧ s.pathOpen (16 + g.core / 16) (16 + lc / 16)

theorem execSignalFreeEntry_resends {r : List Sig} (hq : (s.core lc).outq = g :: r) (h : freeEntry s lc g) :
    execSignalFreeEntry lc s = .next (State.drainSigs lc 16 (s.setCore lc { s.core lc with blocked := false, refused := 0 })) := by
  simp only [execSignalFreeEntry, hq, List.head?_cons]
  exact if_pos h

theorem execSignalFreeEntry_waits {r : List Sig} (hq : (s.core lc).outq = g :: r) (h : ¬freeEntry s lc g) :
    execSignalFreeEntry lc s = .next s := by
  simp only [execSignalFreeEntry, hq, List.head?_cons]
  exact if_neg h

/-- The oldest signal on its way lands, or comes back to its sender (R47). -/
theorem execRemoteSignalArrive_lands
    (hg : (s.core lc).transit.find? (fun g => s.pathOpen (16 + lc / 16) (16 + g.core / 16)) = some g) {t : State × Bool}
    (ht : t = (s.setCore lc { s.core lc with transit := (s.core lc).transit.erase g }).landSig g) :
    execRemoteSignalArrive lc s = .next (if t.2 then t.1.setCore lc ((t.1.core lc).takeBack g) else t.1.wake lc) := by
  subst ht
  simp only [execRemoteSignalArrive, hg]
  split <;> rfl

end

/-- Settles O14: each of the five events is one branch of its meaning. -/
theorem stallsEnd : Obligations.StallsEnd := by
  intro s lc
  refine ⟨fun t => execWaitbtTimeReached_goes, fun hs hr => ?_, fun g r hq hb hp => ⟨fun hf => ?_, fun hf => ?_⟩,
    fun g hg t ht => execRemoteSignalArrive_lands hg ht, fun b d => rfl⟩
  · exact show execWaitTimeout lc s = _ from if_pos ⟨hr, hs⟩
  · exact execSignalFreeEntry_resends hq ⟨hb, hf, hp⟩
  · exact execSignalFreeEntry_waits hq fun ⟨_, hlt, _⟩ => by omega

end Sys2Proof.Machine
end

section
/-!
What an instruction refuses at issue: reserved fields, reserved codes (R49, R50, R60, R65, R69), and the checks of an engine instruction
before its queue (R42).
-/
namespace Sys2Proof.Machine
open Spec

/-- The conditional branches with their opcodes and conditions (R50). -/
def brTable : List ((Fin 192 → W64 → Instr) × Nat × (W64 → W64 → Bool)) :=
  [(.beq, 0x30, fun x y => x == y), (.bne, 0x31, fun x y => x != y), (.blt, 0x32, fun x y => decide (x.toInt < y.toInt)),
   (.bge, 0x33, fun x y => decide (y.toInt ≤ x.toInt)), (.bltu, 0x34, fun x y => decide (x.toNat < y.toNat)),
   (.bgeu, 0x35, fun x y => decide (y.toNat ≤ x.toNat))]

theorem exec_brTable : ∀ e ∈ brTable, ∀ lc w s, exec (e.1 lc w) s = issueBR e.2.1 e.2.2 lc w s := by
  simp only [brTable, List.forall_mem_cons, List.not_mem_nil, false_implies, implies_true, and_true]
  and_intros <;> exact fun _ _ _ => rfl

/-- Bits [45:32] of a word lie in bits [55:32], and those in bits [55:0]. -/
theorem brReserved_wider {w : W64} (h : brReserved w = true) : fld w 55 32 ≠ 0 ∧ fld w 55 0 ≠ 0 := by
  simp only [brReserved, fld, bne_iff_ne] at h ⊢
  omega

/-- A core that does not issue a word is left as it is (log entry 48). -/
theorem issue_skips {s : State} {lc : Nat} {w : W64} {mine : Bool} {body : Core → State} (h : s.canIssue lc w = false) :
    issue s lc w mine body = .next s := if_neg (by simp [h])

theorem issueSR_skips {s : State} {lc : Fin 192} {w : W64} {opc : Nat} {f : W64 → W64 → W64} (h : s.canIssue lc w = false) :
    issueSR opc f lc w s = .next s := issue_skips h

section

variable {s : State} {lc : Fin 192} {w : W64} {opc : Nat} (hi : s.canIssue lc w = true) (ho : opcodeOf w = opc)
include hi ho

theorem issueSR_reserved {f : W64 → W64 → W64} (hr : srReserved w = true) :
    issueSR opc f lc w s = .next (s.coreFault lc 2 (s.core lc).pc w) := issue_reserved hi (beq_iff_eq.2 ho) hr

theorem issueSI_reserved {bad : W64 → Bool} {f : W64 → W64 → W64} (hr : siReserved w = true) :
    issueSI opc bad f lc w s = .next (s.coreFault lc 2 (s.core lc).pc w) := issue_reserved hi (beq_iff_eq.2 ho) (by simp [hr])

theorem issueAD_reserved {bad : W64 → Bool} {f : Core → W64 → BitVec 48} (hr : adReserved w = true) :
    issueAD opc bad f lc w s = .next (s.coreFault lc 2 (s.core lc).pc w) := issue_reserved hi (beq_iff_eq.2 ho) (by simp [hr])

theorem issueBR_reserved {f : W64 → W64 → Bool} (hr : brReserved w = true) :
    issueBR opc f lc w s = .next (s.coreFault lc 2 (s.core lc).pc w) := issue_reserved hi (beq_iff_eq.2 ho) hr

end

theorem execLds_reserved {s : State} {lc : Fin 192} {w : W64} (hi : s.canIssue lc w = true) (hr : adReserved w = true)
    (ho : opcodeOf w = 0x24) (err : Option Bool) : execLds lc w err s = .next (s.coreFault lc 2 (s.core lc).pc w) :=
  issue_reserved hi (beq_iff_eq.2 ho) (by simp [hr])

/-- Settles O13: every form refuses before it acts, and only the core that issues the word is touched. -/
theorem reservedBitsAndOpcodesFault : Obligations.ReservedBitsAndOpcodesFault := by
  intro s lc w
  refine ⟨fun hi => ⟨fun hr => ?sr, fun hr => ?si, fun hr => ?ad, fun hr => ?br,
    fun hz => ⟨fun ho => ?_, fun ho => ?_, fun ho => ?_⟩, fun hz ho => ?_, fun hz ho => ?_,
    fun hz => ⟨fun ho => ?_, fun ho => ?_, fun ho => ?_, fun ho => ?_⟩, fun hz ho => ?_,
    fun hz ho => ?_, fun hz ho => ?_, fun hill => ?_⟩, fun hc => ⟨show execAdd lc w s = _ from issueSR_skips hc,
    show execIllegalInstruction lc w s = _ from issue_skips hc⟩⟩
  case sr =>
    intro e he ho
    obtain ⟨i, hm, rfl⟩ := List.mem_map.1 (show e ∈ srTable.map fun i => (i.1, i.2.1) from he)
    exact (exec_srTable i hm lc w s).trans (issueSR_reserved hi ho hr)
  case si =>
    intro e he ho
    have hs : e ∈ (siTable.map fun i => (i.1, i.2.1)) ++ (shiftTable.map fun i => (i.1, i.2.1)) ++ [(Instr.lih, 0x17)] := he
    rw [List.mem_append, List.mem_append, List.mem_map, List.mem_map, List.mem_singleton] at hs
    obtain (⟨i, hm, rfl⟩ | ⟨i, hm, rfl⟩) | rfl := hs
    · exact (exec_siTable i hm lc w s).trans (issueSI_reserved hi ho hr)
    · exact (exec_shiftTable i hm lc w s).trans (issueSI_reserved hi ho hr)
    · exact show execLih lc w s = _ from issue_reserved hi (beq_iff_eq.2 ho) (by simp [hr])
  case ad =>
    simp only [List.forall_mem_cons, List.not_mem_nil, false_implies, implies_true, and_true]
    exact ⟨fun ho => show execAmov lc w s = _ from issueAD_reserved hi ho hr,
      fun ho => show execAadd lc w s = _ from issueAD_reserved hi ho hr,
      fun ho => show execAaddi lc w s = _ from issueAD_reserved hi ho hr,
      fun ho => show execArd lc w s = _ from issue_reserved hi (beq_iff_eq.2 ho) (by simp [hr]),
      fun ho => execLds_reserved hi hr ho none, fun ho => execLds_reserved hi hr ho (some false),
      fun ho => execLds_reserved hi hr ho (some true),
      fun ho => show execSts lc w s = _ from issue_reserved hi (beq_iff_eq.2 ho) (by simp [hr])⟩
  case br =>
    intro e he ho
    obtain ⟨h55, h0⟩ := brReserved_wider hr
    have hs : e ∈ (brTable.map fun i => (i.1, i.2.1)) ++ [(Instr.jmp, 0x36), (.call, 0x37), (.ret, 0x38)] := he
    simp only [List.mem_append, List.mem_map, List.mem_cons, List.not_mem_nil, or_false] at hs
    obtain ⟨i, hm, rfl⟩ | rfl | rfl | rfl := hs
    · exact (exec_brTable i hm lc w s).trans (issueBR_reserved hi ho hr)
    · exact show execJmp lc w s = _ from issue_reserved hi (beq_iff_eq.2 ho) (by simp [h55])
    · exact show execCall lc w s = _ from issue_reserved hi (beq_iff_eq.2 ho) (by simp [h55])
    · exact show execRet lc w s = _ from issue_reserved hi (beq_iff_eq.2 ho) (by simp [h0])
  · exact show execNop lc w s = _ from issue_reserved hi (beq_iff_eq.2 ho) (by simp [hz])
  · exact show execFence lc w s = _ from issue_reserved hi (beq_iff_eq.2 ho) (by simp [hz])
  · exact show execHalt lc w s = _ from issue_reserved hi (beq_iff_eq.2 ho) (by simp [hz])
  · exact show execSignal lc w s = _ from issue_reserved hi (beq_iff_eq.2 ho) (by simp [hz])
  · exact show execWait lc w s = _ from issue_reserved hi (beq_iff_eq.2 ho) (by simp [hz])
  · exact show execWaitbt lc w s = _ from issue_reserved hi (beq_iff_eq.2 ho) (by simp [hz])
  · exact show execRdbt lc w s = _ from issue_reserved hi (beq_iff_eq.2 ho) (by simp [hz])
  · exact show execRdcyc lc w s = _ from issue_reserved hi (beq_iff_eq.2 ho) (by simp [hz])
  · exact show execRdslip lc w s = _ from issue_reserved hi (beq_iff_eq.2 ho) (by simp [hz])
  · exact show execFenceE lc w s = _ from issue_reserved hi (beq_iff_eq.2 ho) (by simp [hz])
  · exact show execSemrd lc w s = _ from issue_reserved hi (beq_iff_eq.2 ho) (by simp [hz])
  · exact show execLoop lc w s = _ from issue_reserved hi (beq_iff_eq.2 ho) (by simp [hz])
  · exact show execIllegalInstruction lc w s = _ from issue_pos _ _ _ _ _ hi (by simpa using hill)

/-! ## Engine instructions (R42) -/

@[simp] theorem hasNext_setQueue {c : Core} {q : Nat} {l : List EngOp} : hasNext (c.setQueue q l) ↔ hasNext c := Iff.rfl

/-- An operation put in a queue enters it, or stalls its core while the queue is full (R42). -/
theorem queued_of_enqueue {s : State} {lc q : Nat} {c : Core} {op : EngOp} {i : Instr} (h : exec i s = .next (s.enqueue lc c q op)) :
    queued s lc c q op i :=
  ⟨fun hl hn => h.trans (congrArg _ ((if_pos hl).trans (State.nextPc_ahead _ (hasNext_setQueue.2 hn)))),
    fun hf => h.trans (congrArg _ (if_neg (Nat.not_lt.2 hf)))⟩

section

variable {s : State} {lc : Fin 192} {w : W64} {o n : Nat} (hi : s.canIssue lc w = true)
include hi

theorem issueMMA_faults {check : Core → W64 → Option Nat} (ho : opcodeOf w = 0x40) (hf : fld w 53 51 = o)
    (hc : check (issuing s lc w) w = some n) : issueMMA o check lc w s = .next (s.coreFault lc n (issuing s lc w).pc w) := by
  rw [issueMMA, issue_pos _ _ _ _ _ hi (by simp [ho, hf])]
  simp only [show check ((s.core lc).atIssue w) w = some n from hc]
  rfl

theorem issueMMA_enqueues {check : Core → W64 → Option Nat} (ho : opcodeOf w = 0x40) (hf : fld w 53 51 = o)
    (hc : check (issuing s lc w) w = none) :
    issueMMA o check lc w s = .next (s.enqueue lc (issuing s lc w) (fld w 55 54) (mmaOp (issuing s lc w) w)) := by
  rw [issueMMA, issue_pos _ _ _ _ _ hi (by simp [ho, hf])]
  simp only [show check ((s.core lc).atIssue w) w = none from hc]
  rfl

theorem issueVOP_faults (ho : opcodeOf w = 0x48) (hf : fld w 55 50 = o) (hc : vopCheck (issuing s lc w) w = some n) :
    issueVOP o lc w s = .next (s.coreFault lc n (issuing s lc w).pc w) := by
  rw [issueVOP, issue_pos _ _ _ _ _ hi (by simp [ho, vopFn, hf])]
  simp only [show vopCheck ((s.core lc).atIssue w) w = some n from hc]
  rfl

theorem issueVOP_enqueues (ho : opcodeOf w = 0x48) (hf : fld w 55 50 = o) (hc : vopCheck (issuing s lc w) w = none) :
    issueVOP o lc w s = .next (s.enqueue lc (issuing s lc w) 4 (vopOp (issuing s lc w) w)) := by
  rw [issueVOP, issue_pos _ _ _ _ _ hi (by simp [ho, vopFn, hf])]
  simp only [show vopCheck ((s.core lc).atIssue w) w = none from hc]
  rfl

theorem issueXFER_faults (ho : opcodeOf w = 0x50) (hf : fld w 52 49 = o) (hc : s.xferCheck (issuing s lc w) w = some n) :
    issueXFER o lc w s = .next (s.coreFault lc n (issuing s lc w).pc w) := by
  rw [issueXFER, issue_pos _ _ _ _ _ hi (by simp [ho, xfOp, hf])]
  simp only [show s.xferCheck ((s.core lc).atIssue w) w = some n from hc]
  rfl

theorem issueXFER_enqueues (ho : opcodeOf w = 0x50) (hf : fld w 52 49 = o) (hc : s.xferCheck (issuing s lc w) w = none) :
    issueXFER o lc w s = .next (s.enqueue lc (issuing s lc w) (5 + fld w 55 53) (xferOp (issuing s lc w) w)) := by
  rw [issueXFER, issue_pos _ _ _ _ _ hi (by simp [ho, xfOp, hf])]
  simp only [show s.xferCheck ((s.core lc).atIssue w) w = none from hc]
  rfl

end

/-- The MMA instructions with their OP and checks (R60). -/
def mmaTable : List ((Fin 192 → W64 → Instr) × Nat × (Core → W64 → Option Nat)) :=
  [(.mac, 0, macCheck), (.macZero, 1, macCheck), (.mmaDrain, 2, imageCheck), (.mmaLoad, 3, imageCheck), (.mmaZero, 4, zeroCheck)]

/-- The VOP instructions with their FN (R66). -/
def vopTable : List ((Fin 192 → W64 → Instr) × Nat) :=
  [(.vopCopy, 0x00), (.vopAdd, 0x01), (.vopSub, 0x02), (.vopMul, 0x03), (.vopFma, 0x04), (.vopMax, 0x05), (.vopMin, 0x06),
   (.vopAbs, 0x07), (.vopNeg, 0x08), (.vopScale, 0x09), (.vopAdds, 0x0A), (.vopExp2, 0x10), (.vopLog2, 0x11), (.vopRsqrt, 0x12),
   (.vopSin, 0x13), (.vopCos, 0x14), (.vopRcp, 0x15), (.vopRsum, 0x20), (.vopRmax, 0x21), (.vopSmxstep, 0x22), (.vopRescale, 0x23),
   (.vopRng, 0x30), (.vopUnif, 0x31), (.vopPick, 0x32)]

/-- The XFER instructions with their OP (R69). -/
def xferTable : List ((Fin 192 → W64 → Instr) × Nat) :=
  [(.xferCopy, 0), (.xferCopy2d, 1), (.xferGather, 2), (.xferScatter, 3), (.xferKvwalk, 4), (.xferKvput, 5), (.xferRload, 6),
   (.xferRstore, 7), (.xferRatomic, 8), (.xferBulkPut, 9), (.xferBulkGet, 10)]

theorem exec_mmaTable : ∀ e ∈ mmaTable, ∀ lc w s, exec (e.1 lc w) s = issueMMA e.2.1 e.2.2 lc w s := by
  simp only [mmaTable, List.forall_mem_cons, List.not_mem_nil, false_implies, implies_true, and_true]
  and_intros <;> exact fun _ _ _ => rfl

theorem exec_vopTable : ∀ e ∈ vopTable, ∀ lc w s, exec (e.1 lc w) s = issueVOP e.2 lc w s := by
  simp only [vopTable, List.forall_mem_cons, List.not_mem_nil, false_implies, implies_true, and_true]
  and_intros <;> exact fun _ _ _ => rfl

theorem exec_xferTable : ∀ e ∈ xferTable, ∀ lc w s, exec (e.1 lc w) s = issueXFER e.2 lc w s := by
  simp only [xferTable, List.forall_mem_cons, List.not_mem_nil, false_implies, implies_true, and_true]
  and_intros <;> exact fun _ _ _ => rfl

/-- Settles O15: each row of the three tables is the shared issue of its engine. -/
theorem engineInstructionsQueue : Obligations.EngineInstructionsQueue := by
  intro s lc w hi
  refine ⟨fun ho e he hf => ?mma, fun ho e he hf => ?vop, fun ho e he hf => ?xfer⟩
  case mma =>
    have hx := exec_mmaTable e he lc w s
    exact ⟨fun hc => queued_of_enqueue (hx.trans (issueMMA_enqueues hi ho hf hc)), fun n hc => hx.trans (issueMMA_faults hi ho hf hc)⟩
  case vop =>
    have hx := exec_vopTable e he lc w s
    exact ⟨fun hc => queued_of_enqueue (hx.trans (issueVOP_enqueues hi ho hf hc)), fun n hc => hx.trans (issueVOP_faults hi ho hf hc)⟩
  case xfer =>
    have hx := exec_xferTable e he lc w s
    exact ⟨fun hc => queued_of_enqueue (hx.trans (issueXFER_enqueues hi ho hf hc)), fun n hc => hx.trans (issueXFER_faults hi ho hf hc)⟩

end Sys2Proof.Machine
end

section
/-!
What a matrix operation does to the accumulator tiles (R37, R60, R63): a tile is rewritten element by element, and no word of another
tile shares a key with it.
-/
namespace Sys2Proof.Machine

/-- The number of a tile word determines physical core, engine, tile and element (R37). -/
theorem tileKey_inj {p e t i p' e' t' i' : Nat} (he : e < 4) (he' : e' < 4) (ht : t < 2) (ht' : t' < 2) (hi : i < 8192) (hi' : i' < 8192)
    (h : tileKey p e t i = tileKey p' e' t' i') : (p, e, t) = (p', e', t') ∧ i = i' := by
  unfold tileKey at h
  rw [Prod.mk.injEq, Prod.mk.injEq]
  omega

section

variable {s : State} {lc lc' e e' t t' i i' : Nat} {v : Word}

@[simp] theorem State.physical_setTile : (s.setTile lc e t i v).physical lc' = s.physical lc' := rfl

theorem State.setTile_wf (hw : Tbl.wf (fun _ => (0 : Word)) s.tiles = true) :
    Tbl.wf (fun _ => (0 : Word)) (s.setTile lc e t i v).tiles = true := tput_wf _ _ _ _ hw

/-- A word of a tile reads what was written to it. -/
theorem State.tile_setTile_same (hw : Tbl.wf (fun _ => (0 : Word)) s.tiles = true) : (s.setTile lc e t i v).tile lc e t i = v :=
  tget_tput_same _ s.tiles _ v hw

/-- Every word with another number reads as before. -/
theorem State.tile_setTile_ne (h : tileKey (s.physical lc') e' t' i' ≠ tileKey (s.physical lc) e t i) :
    (s.setTile lc e t i v).tile lc' e' t' i' = s.tile lc' e' t' i' :=
  tget_tput_ne _ s.tiles _ _ v h

end

/-- The first `n` elements of a tile rewritten. -/
def State.mapTileTo (s : State) (lc e t : Nat) (f : Nat → Word → Word) (n : Nat) : State :=
  (List.range n).foldl (fun u i => u.setTile lc e t i (f i (u.tile lc e t i))) s

section

variable {s : State} {lc e t : Nat} {f : Nat → Word → Word} (n : Nat)

theorem State.mapTile_eq : s.mapTile lc e t f = s.mapTileTo lc e t f 8192 := rfl

theorem State.mapTileTo_succ : s.mapTileTo lc e t f (n + 1) =
    (s.mapTileTo lc e t f n).setTile lc e t n (f n ((s.mapTileTo lc e t f n).tile lc e t n)) := by
  rw [State.mapTileTo, List.range_succ, List.foldl_append]
  rfl

@[simp] theorem State.physical_mapTileTo (m : Nat) : (s.mapTileTo lc e t f n).physical m = s.physical m := by
  induction n with
  | zero => rfl
  | succ n ih => rw [State.mapTileTo_succ, State.physical_setTile, ih]

theorem State.mapTileTo_wf (hw : Tbl.wf (fun _ => (0 : Word)) s.tiles = true) :
    Tbl.wf (fun _ => (0 : Word)) (s.mapTileTo lc e t f n).tiles = true := by
  induction n with
  | zero => exact hw
  | succ n ih =>
    rw [State.mapTileTo_succ]
    exact State.setTile_wf ih

/-- The elements below `n` are rewritten and the others of the tile are as they were. -/
theorem State.tile_mapTileTo (hw : Tbl.wf (fun _ => (0 : Word)) s.tiles = true) (i : Nat) :
    (s.mapTileTo lc e t f n).tile lc e t i = if i < n then f i (s.tile lc e t i) else s.tile lc e t i := by
  induction n with
  | zero => rfl
  | succ n ih =>
    rw [State.mapTileTo_succ]
    by_cases hin : i = n
    · subst hin
      rw [State.tile_setTile_same (State.mapTileTo_wf i hw), ih, if_neg (Nat.lt_irrefl i), if_pos (Nat.lt_succ_self i)]
    · rw [State.tile_setTile_ne (by unfold tileKey; omega), ih]
      simp only [show i < n + 1 ↔ i < n by omega]

/-- Every other tile is as it was. -/
theorem State.tile_mapTileTo_other (he : e < 4) (ht : t < 2) (hn : n ≤ 8192) {lc' e' t' i : Nat} (he' : e' < 4) (ht' : t' < 2)
    (hi : i < 8192) (hne : (s.physical lc', e', t') ≠ (s.physical lc, e, t)) :
    (s.mapTileTo lc e t f n).tile lc' e' t' i = s.tile lc' e' t' i := by
  induction n with
  | zero => rfl
  | succ n ih =>
    rw [State.mapTileTo_succ, State.tile_setTile_ne, ih (by omega)]
    rw [State.physical_mapTileTo, State.physical_mapTileTo]
    exact fun h => hne (tileKey_inj he' he ht' ht hi (by omega) h).1

end

/-- A whole tile rewritten: each element is the function of what it was. -/
theorem State.tile_mapTile {s : State} {lc e t i : Nat} {f : Nat → Word → Word} (hw : Tbl.wf (fun _ => (0 : Word)) s.tiles = true)
    (hi : i < 8192) : (s.mapTile lc e t f).tile lc e t i = f i (s.tile lc e t i) := by
  rw [State.mapTile_eq, State.tile_mapTileTo 8192 hw, if_pos hi]

theorem pokeAll_tiles_regs (bs : List Byte) (a : Nat) (s : State) :
    (pokeAll bs a s).tiles = s.tiles ∧ (pokeAll bs a s).regs = s.regs := by
  induction bs generalizing a s with
  | nil => exact ⟨rfl, rfl⟩
  | cons b r ih => exact ih (a + 1) (s.poke a b)

/-- A store to memory changes no tile. -/
theorem State.store_tile (s : State) (a : Nat) (bs : List Byte) (lc e t i : Nat) : (s.store a bs).tile lc e t i = s.tile lc e t i := by
  obtain ⟨hp, hr⟩ := pokeAll_tiles_regs bs a s
  have ht : (s.store a bs).tiles = s.tiles := (foldl_kept State.tiles State.unmark (fun _ _ => rfl) _ _).trans hp
  have hg : (s.store a bs).regs = s.regs := (foldl_kept State.regs State.unmark (fun _ _ => rfl) _ _).trans hr
  simp only [State.tile, State.physical, State.rd, State.reg, ht, hg]

/-- The effect of a matrix operation is a rewrite of its tile, or for DRAIN a store (R60). -/
theorem State.mmaEffect_cases (s : State) (lc e : Nat) (op : EngOp) :
    (fld op.word 53 51 = 2 ∧ s.mmaEffect lc e op = s.store (scratchAddr lc op.a.toNat) (s.tileBytes lc e (fld op.word 50 50))) ∨
    ∃ f, s.mmaEffect lc e op = s.mapTile lc e (fld op.word 50 50) f := by
  unfold State.mmaEffect
  dsimp only
  split
  · exact .inr ⟨_, rfl⟩
  · exact .inr ⟨_, rfl⟩
  · exact .inl ⟨‹_›, rfl⟩
  · exact .inr ⟨_, rfl⟩
  · exact .inr ⟨_, rfl⟩

/-- Settles O17: the four rewriting operations read off their function of `mapTile`; the frame holds for any rewrite of one tile. -/
theorem tileEffects : Obligations.TileEffects := by
  intro s lc e op hw _ he
  have ht : fld op.word 50 50 < 2 := Nat.mod_lt _ (by decide)
  refine ⟨fun i hi => ⟨fun h => ?_, fun h => ?_, fun h => ?_, fun h => ?_⟩, fun lc' e' t' i he' ht' hi hne => ?_, fun h => ?_⟩
  · simp only [State.mmaEffect, h, State.tile_mapTile hw hi]
  · simp only [State.mmaEffect, h, State.tile_mapTile hw hi]
  · simp only [State.mmaEffect, h, State.tile_mapTile hw hi, State.num]
  · simp only [State.mmaEffect, h, State.tile_mapTile hw hi]
  · obtain ⟨-, hu⟩ | ⟨f, hu⟩ := s.mmaEffect_cases lc e op
    · rw [hu, State.store_tile]
    · rw [hu, State.mapTile_eq, State.tile_mapTileTo_other 8192 he ht le_rfl he' ht' hi hne]
  · simp only [State.mmaEffect, h]

end Sys2Proof.Machine
end

section
/-!
Start and completion of engine operations (R41 to R44, R69, R74).
-/
namespace Sys2Proof.Machine

section

variable {s : State} {lc : Fin 192} {e : Fin 4} {st : Fin 8} {q : Nat} {op : EngOp} {r : RunOp} {rest : List EngOp} {more : List RunOp}
  {areas : List (Nat × Nat)} {errs : List ScratchErr}

theorem execMatrixOpStart_starts (hq : (s.core lc).queue e = op :: rest) (hr : (s.core lc).cstate = .running)
    (hm : mmaMayStart ((s.core lc).running e) op = true) : execMatrixOpStart lc e errs s =
      .next ((if s.pwr.half.contains (lc / 16) then s.setCore lc (s.core lc).disturb else s).startEngine lc e op rest
        (mmaReads op) errs) := by
  simp only [execMatrixOpStart, hq]
  exact if_pos ⟨hr, hm⟩

theorem execVectorOpStart_starts (hq : (s.core lc).queue 4 = op :: rest) (hr : (s.core lc).cstate = .running)
    (hi : (s.core lc).running 4 = []) : execVectorOpStart lc errs s = .next (s.startEngine lc 4 op rest (vopReads op) errs) := by
  simp only [execVectorOpStart, hq]
  exact if_pos ⟨hr, hi⟩

/-- An error of the words read that retires or faults the core ends the start (R41, R90). -/
theorem State.startEngine_stopped (h : ((s.scratchErrs lc areas errs).core lc).cstate ≠ .running) :
    s.startEngine lc q op rest areas errs = s.scratchErrs lc areas errs := if_pos h

/-- Poisoned operands fault the core (R41, R42). -/
theorem State.startEngine_poisoned (h : ((s.scratchErrs lc areas errs).core lc).cstate = .running)
    (hb : ∃ a ∈ areas, (s.scratchErrs lc areas errs).anyBad (scratchAddr lc a.1) a.2 = true) :
    s.startEngine lc q op rest areas errs = (s.scratchErrs lc areas errs).opFault lc q op rest 0x0F :=
  (if_neg (not_not.2 h)).trans (if_pos (List.any_eq_true.2 hb))

/-- With clean operands the operation runs (R42). -/
theorem State.startEngine_runs (h : ((s.scratchErrs lc areas errs).core lc).cstate = .running)
    (hb : ∀ a ∈ areas, (s.scratchErrs lc areas errs).anyBad (scratchAddr lc a.1) a.2 = false) :
    s.startEngine lc q op rest areas errs = ((s.scratchErrs lc areas errs).setCore lc
      (((s.scratchErrs lc areas errs).core lc).begin q op rest [] false)).wake lc :=
  (if_neg (not_not.2 h)).trans (if_neg (by simpa using hb))

theorem execMatrixOpComplete_ends {t : Fin 2} (hr : (s.core lc).running e = r :: more) (ht : fld r.op.word 50 50 = t) :
    execMatrixOpComplete lc e t s =
      .next ((s.mmaEffect lc e r.op).finishOp lc e r (fld r.op.word 28 28 == 1) (fld r.op.word 27 22)) := by
  simp only [execMatrixOpComplete, hr, List.find?_cons, beq_iff_eq.2 ht]

theorem execVectorOpComplete_ends (hr : (s.core lc).running 4 = r :: more) : execVectorOpComplete lc s =
    .next ((s.store (scratchAddr lc r.op.a.toNat) (s.vopBytes lc r.op)).finishOp lc 4 r (fld r.op.word 18 18 == 1)
      (fld r.op.word 17 12)) := by
  simp only [execVectorOpComplete, hr]

/-- The head of a stream's queue starts on the state in which the words it reads have shown their errors (R41, R72). -/
theorem execTransferOpStart_starts (hq : (s.core lc).queue (5 + st) = op :: rest) (hr : (s.core lc).cstate = .running)
    (hq' : ((s.scratchErrs lc (ownSource op) errs).core lc).queue (5 + st) = op :: rest)
    (hr' : ((s.scratchErrs lc (ownSource op) errs).core lc).cstate = .running) : execTransferOpStart lc st errs s =
      .next (if xfOp op.word < 6 then (s.scratchErrs lc (ownSource op) errs).startLocal lc (5 + st) op rest
        else (s.scratchErrs lc (ownSource op) errs).startRemote lc st op rest) := by
  simp only [execTransferOpStart, hq, hr, hq', hr', ne_eq, not_true_eq_false, if_false]
  exact (apply_ite Host.Outcome.next _ _ _).symm

/-- COPY, COPY2D, GATHER and SCATTER keep no berth's snapshot and walk no page list (R69). -/
theorem State.kvSnap_plain (h : xfOp op.word < 4) : s.kvSnap op = [] := if_neg (by omega)

theorem State.berthOpen_plain (n : Nat) (h : xfOp op.word < 4) : s.berthOpen n op = true := by
  simp [State.berthOpen, show xfOp op.word ≠ 4 by omega, show xfOp op.word ≠ 5 by omega]

/-- A local operation other than a page walk starts on an idle stream where its memory is mapped, and asks its homes (R20, R69). -/
theorem State.startLocal_begins (n : Nat) (h : xfOp op.word < 4) (hi : ((s.core n).running q).any (fun r => !r.remote) = false)
    (hf : (s.moveLocal n op []).fault = none) : s.startLocal n q op rest =
      ((s.setCore n ((s.core n).begin q op rest [] false)).wake n).askHomes (16 + n / 16) (localAreas n op []) := by
  have hk : ¬(xfOp op.word = 4 ∨ xfOp op.word = 5) := by omega
  simp only [State.startLocal, State.kvSnap_plain h, State.berthOpen_plain n h, hi, hf, if_neg hk]
  rfl

theorem execTransferOpComplete_ends (hr : (s.core lc).running (5 + st) = r :: more) (hw : r.remote = false ∨ r.waiting = 0) :
    execTransferOpComplete lc st s = .next (if r.remote then s.endRemote lc (5 + st) r else s.endLocal lc (5 + st) r) := by
  have hf : (!r.remote || r.waiting == 0) = true := by simpa using hw
  simp only [execTransferOpComplete, hr, List.find?_cons, hf]

end

/-- Settles O16, from the start and the end of each kind of operation. -/
theorem engineOperationsRun : Obligations.EngineOperationsRun := by
  intro s lc
  refine ⟨fun e op rest errs hq hr hm u hu => ?_, fun u q op rest areas errs t ht => ?_, fun e t r rest hr ht => ?_,
    fun op rest errs => execVectorOpStart_starts, fun r rest => execVectorOpComplete_ends,
    fun st op rest errs hq hr u hu v hv hq' hr' => ?_,
    fun st r rest hr => ⟨fun s1 hl hm => ?_, fun hrem hw hf => ?_, fun n hrem hw hf => ?_⟩,
    fun q r sig sem => rfl⟩
  · exact hu ▸ execMatrixOpStart_starts hq hr hm
  · subst ht
    exact ⟨State.startEngine_stopped, fun h => ⟨State.startEngine_poisoned h, State.startEngine_runs h⟩, rfl⟩
  · exact execMatrixOpComplete_ends hr ht
  · subst hu hv
    have hx := execTransferOpStart_starts hq hr hq' hr'
    refine ⟨fun ho hi hf => hx.trans (congrArg _ ?_), fun ho => hx.trans (congrArg _ (if_neg (by omega)))⟩
    exact (if_pos (by omega)).trans (State.startLocal_begins lc ho hi hf)
  · refine (execTransferOpComplete_ends hr (.inl hl)).trans (congrArg _ ((if_neg (by simp [hl])).trans ?_))
    simp only [State.endLocal, hm]
    rfl
  · refine (execTransferOpComplete_ends hr (.inr hw)).trans (congrArg _ ((if_pos hrem).trans ?_))
    simp only [State.endRemote, hf]
    rfl
  · refine (execTransferOpComplete_ends hr (.inr hw)).trans (congrArg _ ((if_pos hrem).trans ?_))
    simp only [State.endRemote, hf]

end Sys2Proof.Machine
end

section
/-!
The life of a core from launch to report (R47, R82 to R86).
-/
namespace Sys2Proof.Machine
open Spec

section

variable {s : State} {lc : Fin 192}

theorem execCoreLaunchReceive_enters {q : BitVec 32} {l : Launch}
    (hl : s.launches.find? (fun l => l.seq == q.toNat && l.todo.contains lc) = some l) (hi : (s.core lc).cstate = .idle)
    (hb : (s.core lc).broken = false) (hp : s.pathOpen 12 (16 + lc / 16) = true) {u : State}
    (hu : u = ({ s with launches := s.launches.map (fun m => if m.seq = l.seq then { m with todo := m.todo.del lc } else m) } :
      State).setCore lc (launched (s.core lc) l)) :
    execCoreLaunchReceive lc q s = .next (u.askHomes (16 + lc / 16) (u.loadAreas lc)) := by
  subst hu
  simp only [execCoreLaunchReceive, hl, Bool.not_not]
  exact if_pos ⟨hi, hb, hp⟩

/-- An image entry with its code there and its data inside the scratchpad enters RUNNING (R82, R83). -/
theorem execCoreLoadingDone_runs {e : Nat} {u : State} {code : List W64} {n a : Nat} (hc : (s.core lc).cstate = .loading)
    (hf : s.loadFree lc = true) (he : s.imgCore (s.core lc).image lc = some e) (hn : n = s.num (e + 4) 4)
    (ha : a = (s.core lc).image + s.num (e + 8) 8)
    (hcode : (s.core lc).loadCode = false ∧ code = (s.core lc).code ∨
      (s.core lc).loadCode = true ∧ s.anyBad a n = false ∧ crc32c (s.bytes a n) = s.num (e + 0x14) 4 ∧ code = s.codeWords a n)
    (hp : (s.core lc).pend = []) (hi : State.loadInit lc (s.imgInit (s.core lc).image lc) s = (u, true))
    (hlt : s.num (e + 0x10) 4 < code.length) : execCoreLoadingDone lc s = .next (u.setCore lc
      (({ s.core lc with resident := true, code := code, buildId := (s.core lc).wantId } : Core).atStart lc (s.num (e + 0x10) 4))) := by
  have hcheck : ((s.core lc).loadCode && (s.anyBad a n || crc32c (s.bytes a n) != s.num (e + 0x14) 4)) = false := by
    obtain ⟨hl, -⟩ | ⟨-, hbad, hcrc, -⟩ := hcode
    · rw [hl, Bool.false_and]
    · rw [hbad, hcrc, bne_self_eq_false, Bool.or_self, Bool.and_false]
  have hwords : (if (s.core lc).loadCode then s.codeWords a n else (s.core lc).code) = code := by
    obtain ⟨hl, rfl⟩ | ⟨hl, -, -, rfl⟩ := hcode <;> simp only [hl]
    · rfl
    · rfl
  refine (if_pos ⟨hc, hf⟩).trans ?_
  simp only [he]
  rw [← hn, ← ha, hcheck, hwords, hi, hp]
  exact if_pos hlt

theorem execCoreAbortReceive_drains (hc : (s.core lc).cstate = .loading ∨ (s.core lc).cstate = .running)
    (hl : ∃ l ∈ s.launches, l.seq = (s.core lc).launch ∧ l.aborts.contains lc.val = true) (hp : s.pathOpen 12 (16 + lc / 16) = true) :
    execCoreAbortReceive lc s =
      .next (s.setCore lc { s.core lc with cstate := .draining, stall := .none, queues := [], aborted := true }) :=
  if_pos ⟨hc, by simpa using hl, hp⟩

theorem execCoreDrainDone_reports (hc : (s.core lc).cstate = .draining ∨ (s.core lc).cstate = .faulting)
    (hq : (s.core lc).quiet allQueues = true) (hr : (s.core lc).remote = 0) : execCoreDrainDone lc s =
      .next ((s.report lc (if (s.core lc).cstate = .faulting then 2 else if (s.core lc).aborted then 1 else 0)
          (((s.core lc).fault.map (·.status)).getD 0) (((s.core lc).fault.map (·.bt)).getD s.bt)).setCore lc
        { s.core lc with cstate := .idle, sems := [], prevTag := some (s.core lc).tag }) :=
  if_pos ⟨hc, hq, hr⟩

end

/-! ## Registers at the start -/

section

variable (c : Core) (lc entry : Nat)

theorem Core.atStart_enters : (c.atStart lc entry).cstate = .running ∧ (c.atStart lc entry).pc = entry ∧
    (c.atStart lc entry).loops = [] ∧ (c.atStart lc entry).aregs = [] := by
  simp [Core.atStart]

/-- Three writes to an empty register table. -/
theorem Core.s_setS_three (x y z : W64) (h : c.sregs = []) : (((c.setS 1 x).setS 2 y).setS 3 z).s 1 = x ∧
    (((c.setS 1 x).setS 2 y).setS 3 z).s 2 = y ∧ (((c.setS 1 x).setS 2 y).setS 3 z).s 3 = z ∧
    ∀ i, 3 < i → (((c.setS 1 x).setS 2 y).setS 3 z).s i = 0 := by
  have h0 : Tbl.wf (fun _ => (0 : W64)) c.sregs = true := h ▸ rfl
  have h1 := c.setS_wf 1 x h0
  have h2 := (c.setS 1 x).setS_wf 2 y h1
  refine ⟨?_, ?_, ?_, fun i hi => ?_⟩
  · rw [Core.s_setS_ne _ _ _ _ (by decide), Core.s_setS_ne _ _ _ _ (by decide), Core.s_setS_same _ _ _ h0 (by decide)]
  · rw [Core.s_setS_ne _ _ _ _ (by decide), Core.s_setS_same _ _ _ h1 (by decide)]
  · rw [Core.s_setS_same _ _ _ h2 (by decide)]
  · rw [Core.s_setS_ne _ _ _ _ (by omega), Core.s_setS_ne _ _ _ _ (by omega), Core.s_setS_ne _ _ _ _ (by omega), Core.s, h,
      if_neg (by omega)]
    rfl

/-- s1 to s3 hold core number, argument and tag, and every later register is 0 (R83). -/
theorem Core.atStart_s : (c.atStart lc entry).s 1 = BitVec.ofNat 64 lc ∧ (c.atStart lc entry).s 2 = c.arg ∧
    (c.atStart lc entry).s 3 = BitVec.ofNat 64 c.tag ∧ ∀ i, 3 < i → (c.atStart lc entry).s i = 0 :=
  Core.s_setS_three _ _ _ _ rfl

end

/-! ## Signals at their target (R47) -/

section

variable {s : State} {g : Sig}

theorem State.landSig_current (hr : (s.core g.core).cstate = .running) (ht : (s.core g.core).tag = g.tag) :
    s.landSig g = (s.addSem g.core g.sem g.v 0xFFFFFFFF 0, false) := if_pos ⟨hr, ht⟩

theorem State.landSig_stale (hr : (s.core g.core).cstate ≠ .running) (ht : (s.core g.core).prevTag = some g.tag) :
    s.landSig g = (s.staleSig g.core (s.core g.core), false) := (if_neg fun h => hr h.1).trans (if_pos ht)

theorem State.landSig_held (hr : (s.core g.core).cstate ≠ .running) (ht : (s.core g.core).prevTag ≠ some g.tag)
    (hl : (s.core g.core).pend.length < 64) :
    s.landSig g = (s.setCore g.core { s.core g.core with pend := (s.core g.core).pend ++ [g] }, false) :=
  (if_neg fun h => hr h.1).trans ((if_neg ht).trans (if_pos hl))

theorem State.landSig_refused (hr : (s.core g.core).cstate ≠ .running) (ht : (s.core g.core).prevTag ≠ some g.tag)
    (hl : 64 ≤ (s.core g.core).pend.length) : s.landSig g = (s, true) :=
  (if_neg fun h => hr h.1).trans ((if_neg ht).trans (if_neg (Nat.not_lt.2 hl)))

end

section

variable {s v : State} {lc : Fin 192} {g : Sig}
  (hg : (s.core lc).transit.find? (fun g => s.pathOpen (16 + lc / 16) (16 + g.core / 16)) = some g)
include hg

/-- A signal that its target takes frees its entry, and what waited for one goes on (R47). -/
theorem execRemoteSignalArrive_taken
    (hl : (s.setCore lc { s.core lc with transit := (s.core lc).transit.erase g }).landSig g = (v, false)) :
    execRemoteSignalArrive lc s = .next (v.wake lc) :=
  (execRemoteSignalArrive_lands hg hl.symm).trans (congrArg _ (if_neg Bool.false_ne_true))

/-- A refused signal goes back to its sender (R47). -/
theorem execRemoteSignalArrive_refused
    (hl : (s.setCore lc { s.core lc with transit := (s.core lc).transit.erase g }).landSig g = (v, true)) :
    execRemoteSignalArrive lc s = .next (v.setCore lc ((v.core lc).takeBack g)) :=
  (execRemoteSignalArrive_lands hg hl.symm).trans (congrArg _ (if_pos rfl))

end

/-- Settles O18, from one lemma for each event of a core's life and each fate of a signal. -/
theorem coreLifeCycle : Obligations.CoreLifeCycle := by
  intro s lc
  refine ⟨fun q l hl hi hb hp u hu => ?_, fun e u code n a hc hf he hn ha hcode hp hi hlt => ?_, ?_, ?_, fun g hg u t hu ht v => ?_, ?_⟩
  · exact show execCoreLaunchReceive lc q s = _ from execCoreLaunchReceive_enters hl hi hb hp hu
  · exact show execCoreLoadingDone lc s = _ from execCoreLoadingDone_runs hc hf he hn ha hcode hp hi hlt
  · rintro e n - rfl
    obtain ⟨hrun, hpc, hloops, ha⟩ := (s.core lc).atStart_enters lc (s.num (e.getD 0 + 0x10) 4)
    obtain ⟨h1, h2, h3, h4⟩ := (s.core lc).atStart_s lc (s.num (e.getD 0 + 0x10) 4)
    exact ⟨hrun, hpc, h1, h2, h3, h4, fun i => by rw [Core.a, ha]; rfl, hloops⟩
  · exact fun hc hl hp => show execCoreAbortReceive lc s = _ from execCoreAbortReceive_drains hc hl hp
  · subst hu ht
    refine ⟨fun hv hr ht => ?_, fun hv hr ht => ?_, fun hr ht => ⟨fun hv hl => ?_, fun hl => ?_⟩⟩
    · exact show execRemoteSignalArrive lc s = _ from execRemoteSignalArrive_taken hg (hv ▸ State.landSig_current hr ht)
    · exact show execRemoteSignalArrive lc s = _ from execRemoteSignalArrive_taken hg (hv ▸ State.landSig_stale hr ht)
    · exact show execRemoteSignalArrive lc s = _ from execRemoteSignalArrive_taken hg (hv ▸ State.landSig_held hr ht hl)
    · exact show execRemoteSignalArrive lc s = _ from execRemoteSignalArrive_refused hg (State.landSig_refused hr ht hl)
  · exact fun hc hq hr => show execCoreDrainDone lc s = _ from execCoreDrainDone_reports hc hq hr

end Sys2Proof.Machine
end

section
/-!
Reports of cores at IO0, errors of scratchpads, and physical cores that fail (R41, R84, R86, R89 to R95).
-/
namespace Sys2Proof.Machine

section

variable {s : State} {lc : Fin 192} {r : Report} {l : Launch}
  (hr : s.reports.find? (fun r => r.lc == lc.val && (r.direct || s.pathOpen (16 + lc / 16) 12)) = some r)
  (hl : s.launches.find? (fun l => l.seq == r.seq) = some l) (hk : r.kind ≠ 2)
include hr hl hk

/-- A report of a core that did not fail takes that core out of its launch, and the last one ends the launch (R86). -/
theorem execCoreReportReceive_reported : execCoreReportReceive lc s = .next
    (if l.left.del lc = [] then
      ({ s with reports := s.reports.erase r } : State).endLaunch { l with left := l.left.del lc, todo := l.todo.del lc }
    else { s with
      reports := s.reports.erase r
      launches := s.launches.map (fun m => if m.seq = l.seq then { l with left := l.left.del lc, todo := l.todo.del lc } else m) }) := by
  simp only [execCoreReportReceive, hr, hl, if_neg hk]
  exact (apply_ite Host.Outcome.next _ _ _).symm

end

/-! ## Errors of a scratchpad -/

/-- The count a rate has in the window that holds `now`. -/
def Rate.current (r : Rate) (len now : Nat) : Nat := if r.win = now / len then r.n else 0

theorem Rate.add_n (r : Rate) (len now k : Nat) : (r.add len now k).n = r.current len now + k := by
  unfold Rate.add Rate.current
  split
  · rfl
  · exact (Nat.zero_add k).symm

section

variable {s : State} {lc n : Nat}

/-- Up to 1,000 corrected words of an hour are counted and no more (R41). -/
theorem State.scratchCorrected_counts (b : Nat)
    (h : (tget (fun _ => ({} : Rate)) (s.core lc).bankCe b).current nsHour s.now + n ≤ 1000) : s.scratchCorrected lc b n =
      s.setCore lc { s.core lc with bankCe := tput (fun _ => ({} : Rate)) (s.core lc).bankCe b ((tget (fun _ => ({} : Rate))
        (s.core lc).bankCe b).add nsHour s.now n) } := by
  refine if_neg fun ⟨_, hover⟩ => ?_
  rw [Rate.add_n] at hover
  omega

/-- A granule that had a double error is remembered as scrubbed (R41, R90). -/
def State.noteScrub (s : State) (lc g : Nat) : State :=
  if (s.core lc).badGran.contains g then s.setCore lc { s.core lc with scrubbed := (s.core lc).scrubbed.add g } else s

end

section

variable {s u : State} {lc : Fin 192} {g : Fin 98304} {n : Fin 5} (hc : (s.core lc).cstate ≠ .absent)
  (hu : u = if n.val = 0 then s else s.scratchCorrected lc (g % 32) n)
include hc hu

theorem execScratchPatrolScrub_corrects : execScratchPatrolScrub lc g n none s = .next (u.noteScrub lc g) := by
  subst hu
  exact if_neg hc

theorem execScratchPatrolScrub_poisons (w : Fin 4) :
    execScratchPatrolScrub lc g n (some w) s = .next ((u.scratchDouble lc g w).noteScrub lc g) := by
  subst hu
  exact if_neg hc

end

/-! ## Physical cores -/

section

variable {s u : State} {d pc : Nat}

/-- A physical core bound to no logical core is retired (R89, R90). -/
theorem State.failPhysical_spare {check : Bool} (hg : bitAt (s.rd F.STK_PCORE_GOOD d) pc = true)
    (hu : u = s.wr F.STK_PCORE_GOOD d (s.rd F.STK_PCORE_GOOD d - 2 ^ pc)) (hb : u.boundTo d pc = none) :
    s.failPhysical d pc check = u.raise 0x0802 (dieCD d) [(1, d), (1, pc)] := by
  subst hu
  refine (if_pos hg).trans ?_
  simp only [hb]

/-- A failed check under a core that runs is CORE_FAILED on it, then its physical core is retired and it loses its launch (R88, R90). -/
theorem State.failPhysical_running {l : Nat} (hg : bitAt (s.rd F.STK_PCORE_GOOD d) pc = true)
    (hu : u = s.wr F.STK_PCORE_GOOD d (s.rd F.STK_PCORE_GOOD d - 2 ^ pc)) (hb : u.boundTo d pc = some l)
    (hr : (u.core l).cstate = .running) : s.failPhysical d pc true =
      ((u.raise 0x0801 (dieCD d) [(1, l), (1, 0x12), (4, 0xFFFFFFFF)]).raise 0x0802 (dieCD d) [(1, d), (1, pc)]).loseCore l 0x12 := by
  subst hu
  refine (if_pos hg).trans ?_
  simp [hb, Core.busy, hr]

end

section

variable {s : State} {lc : Fin 192} (hc : (s.core lc).cstate = .idle) (hb : (s.core lc).broken = true)
  (hl : ∀ l ∈ s.launches, (s.core lc).lostIn ≠ some l.seq)
include hc hb hl

theorem execCoreRebind_binds {p : Nat} (hs : s.chooseSpare (lc / 16) = some p) : execCoreRebind lc s = .next (s.bindSpare lc p) := by
  refine (if_pos ⟨hc, hb, by simpa using hl⟩).trans ?_
  simp only [hs]

theorem execCoreRebind_absent (hs : s.chooseSpare (lc / 16) = none) : execCoreRebind lc s = .next (s.absentCore lc) := by
  refine (if_pos ⟨hc, hb, by simpa using hl⟩).trans ?_
  simp only [hs]

end

/-- Settles O19, from what a report, a scratchpad error, a failed check and a rebinding do. -/
theorem coreReportsAndRepair : Obligations.CoreReportsAndRepair := by
  intro s lc
  refine ⟨fun r l hr hl hk hd => ?_, fun r l hr hl hk hd => ?_, fun g n d hc u v k hu hv hkk => ?_,
    fun b n => State.scratchCorrected_counts b, fun g w u hu => ?_,
    fun d pc hg u hu => ⟨fun hb => ?_, fun l hb hr => ?_⟩, fun hc hb hl => ⟨fun p hs => ?_, fun hs => ?_⟩⟩
  · exact show execCoreReportReceive lc s = _ from (execCoreReportReceive_reported hr hl hk).trans (congrArg _ (if_neg hd))
  · exact show execCoreReportReceive lc s = _ from (execCoreReportReceive_reported hr hl hk).trans (congrArg _ (if_pos hd))
  · subst hv hkk
    cases d with
    | none => exact show execScratchPatrolScrub lc g n none s = _ from execScratchPatrolScrub_corrects hc hu
    | some w => exact show execScratchPatrolScrub lc g n (some w) s = _ from execScratchPatrolScrub_poisons hc hu w
  · rw [hu]
    rfl
  · exact show execPhysicalCoreFail d pc s = _ from congrArg _ (State.failPhysical_spare hg hu hb)
  · exact show execPhysicalCoreFail d pc s = _ from congrArg _ (State.failPhysical_running hg hu hb hr)
  · exact show execCoreRebind lc s = _ from execCoreRebind_binds hc hb hl hs
  · exact show execCoreRebind lc s = _ from execCoreRebind_absent hc hb hl hs

end Sys2Proof.Machine
end

section
/-!
LAUNCH and COPY descriptors (R80, R84, R297, R353, R354).
-/
namespace Sys2Proof.Machine
open Spec

/-- A descriptor that starts runs its body on the state in which it is marked as started (R350). -/
theorem startDesc_starts {s : State} {seq : BitVec 32} {d : Desc} (h : starts s seq d) {mine : Desc → Bool}
    (body : State → Desc → State) (hm : mine d = true) : s.startDesc seq mine body = body (begun s d) d := by
  obtain ⟨hd, hs, hh, hf, hr⟩ := h
  exact s.startDesc_go seq d mine body hd hs hh hf hr hm

/-- The number under which a descriptor is found is its own. -/
theorem State.desc_seq {s : State} {q : Nat} {d : Desc} (h : s.desc q = some d) : d.seq = q :=
  beq_iff_eq.1 (List.find?_some (p := fun e : Desc => e.seq == q) h)

/-- A descriptor written over the one of its number is found under it. -/
theorem State.desc_setDesc {s : State} {q : Nat} {d d' : Desc} (h : s.desc q = some d) (hq : d'.seq = q) :
    (s.setDesc d').desc q = some d' := by
  subst hq
  have hp : (fun e : Desc => e.seq == d'.seq) ∘ (fun e => if e.seq = d'.seq then d' else e) = fun e => e.seq == d'.seq := by
    funext e
    by_cases he : e.seq = d'.seq <;> simp [he]
  show (List.map _ s.cmd.descs).find? _ = _
  rw [List.find?_map, hp, show s.cmd.descs.find? (fun e => e.seq == d'.seq) = some d from h, Option.map_some,
    if_pos (State.desc_seq h)]

/-- The launch that an accepted LAUNCH descriptor starts (R80, R353). -/
def launchOf (t : State) (d : Desc) : Launch :=
  { seq := d.seq, tag := d.seq % 65536, cores := descCores d.bytes, todo := descCores d.bytes, left := descCores d.bytes
    image := d.f 0x10 8, arg := BitVec.ofNat 64 (d.f 0x18 8), features := t.imgFeatures (d.f 0x10 8)
    buildId := BitVec.ofNat 64 (t.num (d.f 0x10 8 + 0x58) 8), waitLimit := t.num (d.f 0x10 8 + 0x34) 4, fault := none, aborts := []
    step := d.step, result := (d.f 0x48 8, d.f 0x50 8, d.f 0x58 4), forced := none, lost := none }

/-- The state in which a launch is under way and its messages have gone out (R34, R84). -/
def launching (t : State) (d : Desc) : State := ({ t with launches := t.launches ++ [launchOf t d] } : State).sendLaunch (launchOf t d)

section

variable {t : State} {d : Desc}

theorem State.startLaunch_accepted (h : (t.imageCheck (d.f 0x10 8) (descCores d.bytes)).1 = 0) : t.startLaunch d = launching t d :=
  if_neg (not_not.2 h)

/-- A refused launch ends its descriptor, and without STEP no berth waits for it (R80). -/
theorem State.startLaunch_refused (h : (t.imageCheck (d.f 0x10 8) (descCores d.bytes)).1 ≠ 0) (hs : t.role.steps = []) :
    t.startLaunch d = t.finishDesc d.seq (t.imageCheck (d.f 0x10 8) (descCores d.bytes)).1
      (t.imageCheck (d.f 0x10 8) (descCores d.bytes)).2 t.bt := by
  refine (if_pos h).trans ?_
  simp only [State.stepDone, hs, List.find?_nil]

/-- Sending a launch changes the bundles, the fabric and what goes out. -/
theorem launching_carried : Carried { t with launches := t.launches ++ [launchOf t d] } (launching t d) := State.sendLaunch_carried _ _

end

section

variable {s : State} {seq : BitVec 32} {d : Desc} (h : starts s seq d) (ht : descType d.bytes = 1) (hw : s.launchWaits seq.toNat = false)
include h ht hw

theorem execLaunch_starts (hs : d.step = false) : execLaunch seq s = .next ((begun s d).startLaunch d) :=
  (if_neg (by simp [hw])).trans (congrArg _ (startDesc_starts h State.startLaunch (by simp [ht, hs])))

/-- A step launch under way keeps its descriptor running. -/
theorem execStepLaunch_starts (hs : d.step = true) (ha : ((begun s d).imageCheck (d.f 0x10 8) (descCores d.bytes)).1 = 0) :
    execStepLaunch seq s = .next (launching (begun s d) d) := by
  have hgo : s.startDesc seq (fun d => descType d.bytes == 1 && d.step) State.startLaunch = launching (begun s d) d :=
    (startDesc_starts h State.startLaunch (by simp [ht, hs])).trans (State.startLaunch_accepted ha)
  have hd : s.desc seq.toNat = some d := h.1
  obtain ⟨-, -, -, hcmd, -, -⟩ := (launching_carried (t := begun s d) (d := d)).fields
  have hrun : (launching (begun s d) d).desc seq.toNat = some { d with phase := 1, degraded := s.degradedNow } := by
    rw [State.desc, hcmd]
    exact State.desc_setDesc hd (d' := { d with phase := 1, degraded := s.degradedNow }) (show d.seq = _ from State.desc_seq hd)
  unfold execStepLaunch
  rw [if_neg (by simp [hw]), hgo]
  simp only [hrun]
  exact if_neg (by decide)

end

/-- Settles O21: an accepted launch is sent, which changes only what carries messages; a refused one ends its descriptor. -/
theorem launchesStart : Obligations.LaunchesStart := by
  intro s seq d h ht hw
  obtain ⟨hregs, hcores, hdmem, -, hlaunches, -⟩ := (launching_carried (t := begun s d) (d := d)).fields
  refine ⟨fun hv hs => ?_, fun hv hs => ?_, hlaunches, hcores, hdmem, hregs, fun hv hs hsteps => ?_⟩
  · exact show execLaunch seq s = _ from (execLaunch_starts h ht hw hs).trans (congrArg _ (State.startLaunch_accepted hv))
  · exact show execStepLaunch seq s = _ from execStepLaunch_starts h ht hw hs hv
  · exact show execLaunch seq s = _ from (execLaunch_starts h ht hw hs).trans (congrArg _ (State.startLaunch_refused hv hsteps))

/-! ## Copies -/

/-- No reason refuses an operation where each is 0. -/
theorem firstStatus_eq_zero {l : List Nat} (h : ∀ a ∈ l, a = 0) : firstStatus l = 0 := by
  induction l with
  | nil => rfl
  | cons a r ih =>
    obtain ⟨ha, hr⟩ := List.forall_mem_cons.1 h
    exact (if_pos ha).trans (ih hr)

section

variable {s : State} {seq : BitVec 32} {d : Desc} (h : starts s seq d) (ht : descType d.bytes = 2)
include h ht

/-- A COPY from device memory to device memory moves its row (R215, R354). -/
theorem execCopyDeviceToDevice_moves (hk : d.f 0x28 1 = 0) (hsrc : s.copyWaits (d.f 0x10 8) (copyLen d) false = false)
    (hdst : s.copyWaits (d.f 0x18 8) (copyOutLen d) true = false) (hbad : copyBad d = false)
    (hs0 : (begun s d).areaFault (d.f 0x10 8) (copyLen d) false = 0)
    (hd0 : (begun s d).areaFault (d.f 0x18 8) (copyOutLen d) true = 0) {m : Moved}
    (hm : m = State.copyRow (begun s d).cmdPlace ((begun s d).askHomes (begun s d).cmdPlace
      [(d.f 0x10 8, copyLen d), (d.f 0x18 8, copyOutLen d)]) (d.f 0x10 8) (d.f 0x18 8) (copyLen d) (copyIn d) (copyOut d)) :
    execCopyDeviceToDevice seq s = .next (m.st.finishDesc d.seq (if m.fault = none then 0 else 0x60) 0 0) := by
  have hd : s.desc seq.toNat = some d := h.1
  have hok : firstStatus [if copyBad d then 0x40 else 0, (begun s d).areaFault (d.f 0x10 8) (copyLen d) false,
      (begun s d).areaFault (d.f 0x18 8) (copyOutLen d) true] = 0 := firstStatus_eq_zero (by simp [hbad, hs0, hd0])
  simp only [execCopyDeviceToDevice, hd, hsrc, hdst]
  refine (if_neg (by simp)).trans (congrArg _ ((startDesc_starts h _ (by simp [ht, hk])).trans ((if_neg (not_not.2 hok)).trans ?_)))
  rw [← hm]
  obtain ⟨st, _ | f⟩ := m <;> rfl

section

variable {data : List Byte} (hk : d.f 0x28 1 = 1) (hp : s.portOpen = true) (hw : s.copyWaits (d.f 0x18 8) (copyOutLen d) true = false)
  (hddr : (begun s d).ddrOk (d.f 0x10 8) (copyLen d) = true) (hbad : copyBad d = false)
  (ha : (begun s d).areaFault (d.f 0x18 8) (copyOutLen d) true = 0)
include hk hp hw hddr hbad ha

/-- The bytes read from the host are stored, converted where the formats differ (R339, R354). -/
theorem execCopyHostToDevice_stores : execCopyHostToDevice seq data s = .next
    ((if copyIn d = copyOut d then (begun s d).store (d.f 0x18 8) (data.take (copyLen d))
      else storePieces (d.f 0x18 8) (convPieces (fun i => data.getD i 0) 0 (copyIn d) (copyOut d)
        ((convCount (copyIn d) (copyOut d) (copyLen d)).getD 0) ((convCount (copyIn d) (copyOut d) (copyLen d)).getD 0))
        (begun s d)).finishDesc d.seq 0 0 0) := by
  have hd : s.desc seq.toNat = some d := h.1
  have hok : firstStatus [if copyBad d then 0x40 else 0, (begun s d).areaFault (d.f 0x18 8) (copyOutLen d) true] = 0 :=
    firstStatus_eq_zero (by simp [hbad, ha])
  simp only [execCopyHostToDevice, hd, hp, hw]
  refine (if_neg (by simp)).trans (congrArg _ ((startDesc_starts h _ (by simp [ht, hk])).trans ?_))
  refine (if_neg (by simp [hddr])).trans ((if_neg (not_not.2 hok)).trans ?_)
  exact (apply_ite (fun t : State => t.finishDesc d.seq 0 0 0) _ _ _).symm

end

section

variable (hk : d.f 0x28 1 = 2) (hp : s.hostOpen = true) (hw : s.copyWaits (d.f 0x10 8) (copyLen d) false = false)
  (hbad : copyBad d = false) (ha : (begun s d).areaFault (d.f 0x10 8) (copyLen d) false = 0)
include hk hp hw hbad ha

/-- Device bytes go to the host, converted where the formats differ (R336, R354). -/
theorem execCopyDeviceToHost_sends : execCopyDeviceToHost seq s = .next
    (if copyIn d = copyOut d then
      ((begun s d).toHost (d.f 0x10 8) (d.f 0x18 8) (copyLen d)).1.finishDesc d.seq
        ((begun s d).toHost (d.f 0x10 8) (d.f 0x18 8) (copyLen d)).2.2.1 0 ((begun s d).toHost (d.f 0x10 8) (d.f 0x18 8) (copyLen d)).2.2.2
    else (begun s d).convToHost d) := by
  have hd : s.desc seq.toNat = some d := h.1
  have hok : firstStatus [if copyBad d then 0x40 else 0, (begun s d).areaFault (d.f 0x10 8) (copyLen d) false] = 0 :=
    firstStatus_eq_zero (by simp [hbad, ha])
  simp only [execCopyDeviceToHost, hd, hp, hw]
  exact (if_neg (by simp)).trans
    (congrArg _ ((startDesc_starts h _ (by simp [ht, hk])).trans (if_neg (not_not.2 hok))))

end

theorem execCopyToRemote_starts (hk : d.f 0x28 1 = 3) (hw : s.remoteWaits seq.toNat true = false) :
    execCopyToRemote seq s = .next ((begun s d).startCopy d true) :=
  (if_neg (by simp [hw])).trans (congrArg _ (startDesc_starts h (fun t d => t.startCopy d true) (by simp [ht, hk])))

theorem execCopyFromRemote_starts (hk : d.f 0x28 1 = 4) (hw : s.remoteWaits seq.toNat false = false) :
    execCopyFromRemote seq s = .next ((begun s d).startCopy d false) :=
  (if_neg (by simp [hw])).trans (congrArg _ (startDesc_starts h (fun t d => t.startCopy d false) (by simp [ht, hk])))

end

/-- A copy to a present host that meets no stop writes every byte (R354). -/
theorem State.toHost_whole {t : State} {src dst n : Nat} (ha : t.absent = false) (hs : t.hostStop src dst n = (n, 0)) :
    t.toHost src dst n = (t.hostStore dst (t.bytes src n), n, 0, 0) := by
  simp only [State.toHost, ha, hs]
  rfl

/-- The side of a remote copy on this device, and the other one. -/
def copyNear (d : Desc) (write : Bool) : Nat := if write then d.f 0x10 8 else d.f 0x18 8
def copyFar (d : Desc) (write : Bool) : Nat := if write then d.f 0x18 8 else d.f 0x10 8

/-- A copy to another device whose source is clean is not stopped by poison. -/
theorem not_poisoned_of_clean {t : State} {a n : Nat} {write : Bool} (h : write = true → t.anyBad a n = false) :
    ¬(write = true ∧ t.anyBad a n = true) := fun ⟨hw, hb⟩ => Bool.false_ne_true ((h hw).symm.trans hb)

section

variable {t : State} {d : Desc} {write : Bool} (ha : t.areaFault (copyNear d write) (copyLen d) (!write) = 0)
  (hp : write = true → t.anyBad (copyNear d write) (copyLen d) = false)
include ha hp

/-- A remote copy whose window the own device admits is carried out here (R297). -/
theorem State.startCopy_here (hh : d.f 0x30 8 % 1024 = t.device) (hadm : t.accessCheck (d.f 0x30 8 / 2 ^ 10 % 256)
      (d.f 0x30 8 / 2 ^ 18 % 2 ^ 24) (if write then 1 else 0) (copyFar d write) (copyLen d) = 0) :
    t.startCopy d write = (if write then t.store (copyFar d write) (t.bytes (copyNear d write) (copyLen d))
      else t.store (copyNear d write) (t.bytes (copyFar d write) (copyLen d))).finishDesc d.seq 0 0 0 :=
  (if_neg (not_not.2 ha)).trans ((if_neg (not_poisoned_of_clean hp)).trans ((if_pos hh).trans (if_neg (not_not.2 hadm))))

/-- A remote copy to a reachable device sends its pieces (R298). -/
theorem State.startCopy_sends (hh : d.f 0x30 8 % 1024 ≠ t.device) (hr : t.reachable (d.f 0x30 8 % 1024) = true)
    {ps : List (Nat × Nat × Bool)} (hps : ps = t.copyPieces (d.f 0x30 8 % 1024) (copyFar d write) (copyLen d) write) :
    t.startCopy d write = State.sendCopy d.seq (d.f 0x30 8) (copyFar d write) (copyNear d write) write 0 ps
      (awaiting t d.seq ⟨ps.length, 0, 0, copyNear d write⟩) := by
  subst hps
  exact (if_neg (not_not.2 ha)).trans ((if_neg (not_poisoned_of_clean hp)).trans ((if_neg hh).trans (if_neg (by simp [hr]))))

end

/-- Settles O22, from one lemma for each direction of a COPY. -/
theorem copiesMoveData : Obligations.CopiesMoveData := by
  intro s seq d h ht
  refine ⟨fun hk hsrc hdst hbad hs0 hd0 m hm => ?_, fun data hk hp hw hddr hbad ha => ?_, fun hk hp hw habs hbad ha => ?_,
    fun hh => ⟨fun hk hw ha hclean hadm => ?_, fun hk hw ha hadm => ?_⟩, ?_⟩
  · exact show execCopyDeviceToDevice seq s = _ from execCopyDeviceToDevice_moves h ht hk hsrc hdst hbad hs0 hd0 hm
  · have hx : exec (.copyHostToDevice seq data) s = _ := execCopyHostToDevice_stores h ht hk hp hw hddr hbad ha
    refine ⟨fun he => hx.trans (by rw [if_pos he]), fun k he hn => hx.trans (by rw [if_neg he, hn, Option.getD_some])⟩
  · have hx : exec (.copyDeviceToHost seq) s = _ := execCopyDeviceToHost_sends h ht hk hp hw hbad ha
    exact ⟨fun he hstop => hx.trans (by rw [if_pos he, State.toHost_whole habs hstop]), fun he => hx.trans (by rw [if_neg he])⟩
  · exact show execCopyToRemote seq s = _ from (execCopyToRemote_starts h ht hk hw).trans
      (congrArg _ (State.startCopy_here (write := true) ha (fun _ => hclean) hh hadm))
  · exact show execCopyFromRemote seq s = _ from (execCopyFromRemote_starts h ht hk hw).trans
      (congrArg _ (State.startCopy_here (write := false) ha (fun hb => absurd hb (by decide)) hh hadm))
  · rintro hh hr w i (⟨rfl, hk, rfl⟩ | ⟨rfl, hk, rfl⟩) hw ha hclean ps hps
    · exact show execCopyToRemote seq s = _ from (execCopyToRemote_starts h ht hk hw).trans
        (congrArg _ (State.startCopy_sends (write := true) ha hclean hh hr hps))
    · exact show execCopyFromRemote seq s = _ from (execCopyFromRemote_starts h ht hk hw).trans
        (congrArg _ (State.startCopy_sends (write := false) ha (fun hb => absurd hb (by decide)) hh hr hps))

end Sys2Proof.Machine
end

section
/-!
Elements of block formats under their scale bytes and trim codes, and the bytes of TB blocks (R98, R99).
-/
namespace Sys2Proof.Machine

/-! ## The value of a code under a scale byte and a trim code -/

/-- The scale byte 0xFF makes every code NaN, with any trim code (R98). -/
@[simp] theorem scaledValue_nan (fmt code trim : Nat) : scaledValue fmt code 0xFF trim = .nan := if_pos rfl

section

variable {fmt code scale : Nat} {g : Bool} {m : Nat} {e : Int} (trim : Nat) (hs : scale ≠ 0xFF)
  (hv : (elemOf fmt).value code = .fin g m e)
include hs hv

/-- A finite code without a trim code is scaled by its block alone (R98). -/
theorem scaledValue_untrimmed (ht : hasTrim fmt = false) :
    scaledValue fmt code scale trim = .fin g m (e + ((scale : Int) - 127)) := by
  simp only [scaledValue, if_neg hs, hv, ht, Bool.false_eq_true, if_false]

/-- A finite code of a TB format is scaled by its block and by quarters of 4 + trim (R99). -/
theorem scaledValue_trimmed (ht : hasTrim fmt = true) :
    scaledValue fmt code scale trim = .fin g (m * (4 + trim)) (e - 2 + ((scale : Int) - 127)) := by
  simp only [scaledValue, if_neg hs, hv, ht, if_true]

end

/-! ## The bytes an element of a vector is read from -/

/-- An element of a block format reads its scale byte after the packed elements; only a TB format reads a trim code (R58). -/
theorem vecElem_block (rd : Nat → Byte) {fmt : Nat} (n base i : Nat) (h : hasScale fmt = true) :
    vecElem rd fmt n base i = scaledValue fmt (packedAt rd base (fmtWidth fmt) i)
      (rd (base + (n * fmtWidth fmt + 7) / 8 + i / 32)).toNat
      (if hasTrim fmt then (rd (base + (n * fmtWidth fmt + 7) / 8 + n / 32 + i / 32)).toNat / 4 ^ (i % 32 / 8) % 4 else 0) := by
  simp only [vecElem, h, if_true]

/-! ## The trimmed formats and their cost -/

/-- TB4 and TB6 are the formats with trim bytes. -/
theorem hasTrim_iff (fmt : Nat) : hasTrim fmt = true ↔ fmt = 2 ∨ fmt = 7 := by
  simp only [hasTrim, Bool.or_eq_true, beq_iff_eq]

/-- A TB4 block of 32 elements takes 16 bytes of codes, a scale byte and a trim byte. -/
theorem vecBytes_tb4 (k : Nat) : vecBytes 2 (32 * k) = 18 * k := by
  have hb : vecBytes 2 (32 * k) = (32 * k * 4 + 7) / 8 + 32 * k / 32 + 32 * k / 32 := rfl
  omega

/-- A TB6 block of 32 elements takes 24 bytes of codes, a scale byte and a trim byte. -/
theorem vecBytes_tb6 (k : Nat) : vecBytes 7 (32 * k) = 26 * k := by
  have hb : vecBytes 7 (32 * k) = (32 * k * 6 + 7) / 8 + 32 * k / 32 + 32 * k / 32 := rfl
  omega

/-- Settles O56, from the value of a code under its scale byte and trim code, and the bytes of one block. -/
theorem blockScales : Obligations.BlockScales := by
  refine ⟨fun rd fmt n base i sc hscale hsc => ?_, fun k => ?_, rfl, rfl, hasTrim_iff⟩
  · rw [vecElem_block rd n base i hscale, ← hsc]
    refine ⟨fun hnan => ?_, fun g m e hs hv => ⟨fun ht => ?_, fun ht t htrim => ⟨?_, ?_⟩⟩⟩
    · rw [hnan, scaledValue_nan]
    · exact scaledValue_untrimmed _ hs hv ht
    · exact htrim ▸ Nat.mod_lt _ (by decide)
    · rw [if_pos ht, ← htrim]
      exact scaledValue_trimmed t hs hv ht
  · rw [vecBytes_tb4, vecBytes_tb6]
    omega

end Sys2Proof.Machine
end

section
/-!
Berths: opening one, the operations recorded on one, and the descriptors BERTH_OPEN, BERTH_CLOSE and BERTH_MOVE (R129 to R137).
-/
namespace Sys2Proof.Machine
open Spec

/-! ## Opening a berth and recording an operation of one -/

section

variable {t u : State} {q b n st kind dst : Nat} {k : State → State}

/-- A berth that is not FREE is not opened (R134). -/
theorem State.openBerth_taken (hs : (t.berth b).state ≠ 0) : t.openBerth q b n k = t.finishDesc q 0x20 0 0 := if_pos (.inr hs)

/-- Only FREE berths of the table are opened. -/
theorem State.openBerth_free (hb : b < 6144) (hs : (t.berth b).state = 0) : t.openBerth q b n k =
    match t.allocate b n with
    | .error st => (t.raise 0x0905 (dieSD st) [(1, st)]).finishDesc q 0x20 0 0
    | .ok u => k u :=
  if_neg (by simp [hb, hs])

/-- A sub-pool that lacks pages raises POOL_EXHAUSTED (R131). -/
theorem State.openBerth_lacks (hb : b < 6144) (hs : (t.berth b).state = 0) (ha : t.allocate b n = .error st) :
    t.openBerth q b n k = (t.raise 0x0905 (dieSD st) [(1, st)]).finishDesc q 0x20 0 0 := by
  rw [State.openBerth_free hb hs, ha]

theorem State.openBerth_opens (hb : b < 6144) (hs : (t.berth b).state = 0) (ha : t.allocate b n = .ok u) :
    t.openBerth q b n k = k u := by
  rw [State.openBerth_free hb hs, ha]

/-- A second operation of a berth is refused (R133). -/
theorem State.pend_second (hp : (t.berth b).pending ≠ 0) : t.pend q b kind dst = t.finishDesc q 0x20 0 0 := if_pos (.inr (.inr hp))

section

variable (hb : b < 6144) (hs : (t.berth b).state = 2) (hp : (t.berth b).pending = 0)
include hb hs hp

/-- An operation toward a device that R297 lets no descriptor reach has no effect (R137). -/
theorem State.pend_unreached (hd : t.partyClass dst = false) : t.pend q b kind dst = t.finishDesc q 0x12 0 0 :=
  (if_neg (by simp [hb, hs, hp])).trans (if_pos (by simp [hd]))

theorem State.pend_records (hd : t.partyClass dst = true) :
    t.pend q b kind dst = (t.setBerth b { t.berth b with pending := kind, opSeq := q }).takePending b :=
  (if_neg (by simp [hb, hs, hp])).trans (if_neg (by simp [hd]))

end

/-- A recorded operation waits for the step launches accepted before it (R133). -/
theorem State.takePending_waits (hw : t.stepsBefore b (t.berth b).opSeq = false) : t.takePending b = t := if_pos (by simp [hw])

section

variable (hs : (t.berth b).state = 2) (hw : t.stepsBefore b (t.berth b).opSeq = true) (hf : tget (fun _ => 0) t.lv.flight b = 0)
include hs hw hf

theorem State.takePending_closes (hp : (t.berth b).pending = 1) :
    t.takePending b = (t.freeBerth b).finishDesc (t.berth b).opSeq 0 0 0 :=
  (if_neg (by simp [hs, hw, hf, hp])).trans (if_pos hp)

theorem State.takePending_moves (hp : (t.berth b).pending = 2) (hl : t.rd F.LVS_STATUS_STATE ≠ 3) :
    t.takePending b = t.sendMove b (t.berth b).opSeq :=
  (if_neg (by simp [hs, hw, hf, hp])).trans ((if_neg (by simp [hp])).trans ((if_neg hl).trans (if_pos hp)))

end

end

/-! ## BERTH_OPEN, BERTH_CLOSE and BERTH_MOVE -/

/-- The entry that BERTH_OPEN of a mode leaves for a berth whose pages are allocated (R134). -/
def openedBerth (u : State) (d : Desc) (mode : Nat) : Berth :=
  if mode = 0 then { u.berth (d.f 0x10 2) with state := 2, samplingKey := BitVec.ofNat 64 (d.f 0x18 8), kvFmt := u.role.setup.kvFmt }
  else { u.berth (d.f 0x10 2) with state := 1, mode := 1, kvFmt := u.role.setup.kvFmt }

section

variable {s : State} {seq : BitVec 32} {d : Desc} (h : starts s seq d)
include h

/-- Both modes of BERTH_OPEN open the berth and differ in the entry they leave. -/
theorem berthOpen_starts (ht : descType d.bytes = 4) :
    ∀ o ∈ ([(0, Instr.berthOpenLocal seq), (1, .berthOpenReceive seq)] : List (Nat × Instr)), d.f 0x12 1 = o.1 →
      exec o.2 s = .next ((begun s d).openBerth d.seq (d.f 0x10 2) (d.f 0x14 4)
        fun u => (u.setBerth (d.f 0x10 2) (openedBerth u d o.1)).finishDesc d.seq 0 0 0) := by
  refine List.forall_mem_cons.2 ⟨fun hm => ?_, List.forall_mem_singleton.2 fun hm => ?_⟩
  · exact show execBerthOpenLocal seq s = _ from congrArg _ (startDesc_starts h _ (by simp [ht, hm]))
  · exact show execBerthOpenReceive seq s = _ from congrArg _ (startDesc_starts h _ (by simp [ht, hm]))

section

variable (hb : d.f 0x10 2 < 6144) (ht : descType d.bytes = 5)
include hb ht

/-- BERTH_CLOSE leaves a FREE berth so (R134). -/
theorem execBerthClose_free (hs : ((begun s d).berth (d.f 0x10 2)).state = 0) :
    execBerthClose seq s = .next ((begun s d).finishDesc d.seq 0 0 0) :=
  congrArg _ ((startDesc_starts h _ (by simp [ht])).trans ((if_neg (by omega)).trans (if_pos hs)))

/-- BERTH_CLOSE frees a berth that awaits an inbound move (R134). -/
theorem execBerthClose_opening (hs : ((begun s d).berth (d.f 0x10 2)).state = 1) (hm : ((begun s d).berth (d.f 0x10 2)).mode = 1) :
    execBerthClose seq s = .next (((begun s d).freeBerth (d.f 0x10 2)).finishDesc d.seq 0 0 0) := by
  refine congrArg _ ((startDesc_starts h _ (by simp [ht])).trans ((if_neg (by omega)).trans ((if_neg (by omega)).trans
    ((if_pos hs).trans ?_))))
  exact congrArg (State.finishDesc · d.seq 0 0 0) (if_neg (by omega))

theorem execBerthClose_active (hs : ((begun s d).berth (d.f 0x10 2)).state = 2) :
    execBerthClose seq s = .next ((begun s d).pend d.seq (d.f 0x10 2) 1 (begun s d).device) :=
  congrArg _ ((startDesc_starts h _ (by simp [ht])).trans ((if_neg (by omega)).trans ((if_neg (by omega)).trans (if_neg (by omega)))))

end

/-- BERTH_CLOSE and BERTH_MOVE of an ACTIVE berth record their operation (R133). -/
theorem closeMove_pends (hb : d.f 0x10 2 < 6144) (hs : ((begun s d).berth (d.f 0x10 2)).state = 2) :
    ∀ o ∈ ([(5, 1, (begun s d).device, Instr.berthClose seq), (6, 2, d.f 0x14 2 % 1024, .berthMove seq)] :
      List (Nat × Nat × Nat × Instr)), descType d.bytes = o.1 →
        exec o.2.2.2 s = .next ((begun s d).pend d.seq (d.f 0x10 2) o.2.1 o.2.2.1) := by
  refine List.forall_mem_cons.2 ⟨fun ht => ?_, List.forall_mem_singleton.2 fun ht => ?_⟩
  · exact show execBerthClose seq s = _ from execBerthClose_active h hb ht hs
  · exact show execBerthMove seq s = _ from congrArg _ (startDesc_starts h _ (by simp [ht]))

end

/-- Settles O24, from what opening a berth, recording an operation of it and taking a recorded one can do. -/
theorem berthsOpenAndClose : Obligations.BerthsOpenAndClose := by
  intro s seq d h t b e hb
  refine ⟨fun ht o ho hm => ?_, fun ht hs => ?_, fun ht hs hm => ?_, fun o ho ht hs => ?_,
    fun w hs _ => ⟨State.takePending_waits, fun hw hf => ⟨State.takePending_closes hs hw hf, State.takePending_moves hs hw hf⟩⟩⟩
  · have hx := berthOpen_starts h ht o ho hm
    exact ⟨fun hs => hx.trans (congrArg _ (State.openBerth_taken hs)),
      fun hs st ha => hx.trans (congrArg _ (State.openBerth_lacks hb hs ha)),
      fun hs u ha => hx.trans (congrArg _ (State.openBerth_opens hb hs ha))⟩
  · exact show execBerthClose seq s = _ from execBerthClose_free h hb ht hs
  · exact show execBerthClose seq s = _ from execBerthClose_opening h hb ht hs hm
  · have hx := closeMove_pends h hb hs o ho ht
    exact ⟨fun hp => hx.trans (congrArg _ (State.pend_second hp)),
      fun hp hd => hx.trans (congrArg _ (State.pend_unreached hb hs hp hd)),
      fun hp hd => hx.trans (congrArg _ (State.pend_records hb hs hp hd))⟩

end Sys2Proof.Machine
end

section
/-!
The role of the device: ROLE_SET and its settling, an inbound move and the answer to one, and FENCE, SIGNAL and WAIT (R126, R128,
R134, R136, R145, R356).
-/
namespace Sys2Proof.Machine
open Spec

/-! ## ROLE_SET and ROLE_SETTLE -/

/-- A berth in use, or a mooring entry that DISCARD does not give up, keeps the role (R128). -/
def roleBlocked (t : State) (d : Desc) : Bool :=
  t.role.berths.any (fun (e : Nat × Berth) => e.2.state != 0) || (t.roleCode == 3 && t.moored && !(d.f 0x12 1 == 1))

theorem roleBlocked_iff {t : State} {d : Desc} : roleBlocked t d = true ↔
    t.role.berths.any (fun (e : Nat × Berth) => e.2.state != 0) = true ∨ (t.roleCode = 3 ∧ t.moored = true ∧ d.f 0x12 1 ≠ 1) := by
  simp only [roleBlocked, Bool.or_eq_true, Bool.and_eq_true, beq_iff_eq, Bool.not_eq_true', beq_eq_false_iff_ne, and_assoc]

section

variable {s : State} {seq : BitVec 32} {d : Desc} (h : starts s seq d)
include h

section

variable (ht : descType d.bytes = 0x0E) (hl : (begun s d).rd F.LVS_STATUS_STATE = 0)
include ht hl

theorem execRoleSet_enters (hb : roleBlocked (begun s d) d = false) : execRoleSet seq s =
    .next (((begun s d).setRole { (begun s d).role with change := some (d.seq, d.f 0x10 1, roleSetup d.bytes, d.f 0x12 1 == 1) }).wr
      F.BRT_ROLE_CHANGING 0 1) :=
  congrArg _ ((startDesc_starts h _ (by simp [ht])).trans ((if_neg (not_not.2 hl)).trans (if_neg (Bool.eq_false_iff.1 hb))))

theorem execRoleSet_refused (hb : roleBlocked (begun s d) d = true) : execRoleSet seq s =
    .next (((begun s d).raise 0x0902 srcPkg [(1, d.f 0x10 1)]).finishDesc d.seq 0x42 0 0) :=
  congrArg _ ((startDesc_starts h _ (by simp [ht])).trans ((if_neg (not_not.2 hl)).trans (if_pos hb)))

end

/-- SIGNAL adds VALUE to its counter and ends with the new count (R356). -/
theorem execSignalDesc_adds (ht : descType d.bytes = 0x0C) : execSignalDesc seq s =
    .next (((begun s d).setCounter (d.f 0x10 1) (((begun s d).counter (d.f 0x10 1) + d.f 0x18 8) % 2 ^ 64)).finishDesc d.seq 0 (d.f 0x10 1)
      (((begun s d).counter (d.f 0x10 1) + d.f 0x18 8) % 2 ^ 64)) :=
  congrArg _ (startDesc_starts h _ (by simp [ht]))

end

/-- The state in which a new role and its set-up are in force: pools and table empty but for the mooring entries kept (R128, R130,
R145). -/
def inForce (s : State) (role : Nat) (setup : RoleSetup) (discard : Bool) : State :=
  let s1 := s.setRole { setup := setup, steps := s.role.steps, berths := s.role.berths, bops := s.role.bops,
                        moor := if discard || s.roleCode != 3 then [] else s.role.moor }
  ((((List.range 16).foldl (fun (t : State) i => t.wr F.MOR_AGE_HIST_SESSIONS i 0) s1).wr F.BRT_ROLE_ROLE 0 role).wr
    F.BRT_ROLE_CHANGING 0 0).wr F.MOR_REFUSED_COUNT 0 0

theorem inForce_role (s : State) (role : Nat) (setup : RoleSetup) (discard : Bool) : (inForce s role setup discard).role =
    { setup := setup, steps := s.role.steps, berths := s.role.berths, bops := s.role.bops,
      moor := if discard || s.roleCode != 3 then [] else s.role.moor } := by
  rw [inForce, State.wr_role, State.wr_role, State.wr_role,
    foldl_kept State.role _ (fun t i => State.wr_role t F.MOR_AGE_HIST_SESSIONS i 0)]
  rfl

/-- Once nothing accepted before the ROLE_SET and nothing served here is open, the new role is in force (R128). -/
theorem execRoleSettle_settles {s : State} {q role : Nat} {setup : RoleSetup} {discard : Bool} {ended : List (Fin 1024 × BitVec 32)}
    (hc : s.role.change = some (q, role, setup, discard))
    (hb : (s.cmd.descs.takeWhile (fun d => d.seq != q)).any (fun d => descType d.bytes == 1 && d.phase != 2) = false)
    (hs : sessLeft s.role.sess ended = []) (hl : s.launches = []) : execRoleSettle ended s =
      .next (((inForce s role setup discard).raise 0x0901 srcPkg [(1, s.roleCode), (1, role)]).finishDesc q 0 0 0) := by
  simp only [execRoleSettle, hc, hb, hs, hl]
  rfl

/-! ## Inbound moves and the answer to a move -/

/-- What an inbound header of a move is answered: 0, or the status of its refusal (R126, R136). -/
def moveVerdict (s : State) (b : Nat) (hdr : List Byte) : Nat :=
  if !s.berthRole ∨ s.changing ∨ s.rd F.LVS_STATUS_STATE = 5 then 0x42
  else if (s.berth b).state ≠ 1 ∨ (s.berth b).mode ≠ 1 then 0x20 else s.headerCheck b hdr

section

variable {s : State} {src : Fin 1024} {b : Fin 6144} {op : BitVec 32} {hdr recs : List Byte}

theorem execBerthHeaderReceive_refuses (hv : moveVerdict s b hdr ≠ 0) : execBerthHeaderReceive src b op hdr recs [] s =
    .next (s.tell src (.berthAck src op.toNat (moveVerdict s b hdr))) :=
  (if_neg (not_not.2 rfl)).trans (if_pos hv)

theorem execBerthHeaderReceive_commits (hv : moveVerdict s b hdr = 0) : execBerthHeaderReceive src b op hdr recs [] s =
    .next ((((s.placeImage b 0 (at_ hdr 8 4) recs).commitBerth b hdr).boundary b).tell src (.berthAck src op.toNat 0)) :=
  (if_neg (not_not.2 rfl)).trans (if_neg (not_not.2 hv))

end

/-- A berth after the answer to its MOVE or PUT: committed and freed once no step is in flight, or ACTIVE again (R134). -/
def State.berthAnswered (s : State) (o : BerthOp) (st : BitVec 8) : State :=
  if st = 0 then (s.setBerth o.berth { s.berth o.berth with committed := true }).settleBerth o.berth
  else s.berthOpFail o.berth o.seq st.toNat

theorem execBerthMoveCommitAck_answered {s : State} {seq : BitVec 32} {o : BerthOp} (st : BitVec 8) (ho : s.bop seq.toNat = some o)
    (hk : o.kind = 1) : execBerthMoveCommitAck seq st s = .next (s.berthAnswered o st) := by
  simp only [execBerthMoveCommitAck, ho]
  exact (if_neg (not_not.2 hk)).trans (apply_ite Host.Outcome.next _ _ _).symm

/-! ## FENCE and WAIT -/

/-- The descriptors that a FENCE waits for: those accepted before it, of its ring alone in scope 0 (R356). -/
def fenceScope (s : State) (d : Desc) : List Desc :=
  let l := s.cmd.descs.takeWhile (fun e => e.seq != d.seq)
  if d.f 0x10 1 = 0 then l.filter (fun e => e.ring == d.ring) else l

section

variable {s : State} {seq : BitVec 32} {d : Desc} (hd : s.desc seq.toNat = some d) (hp : d.phase = 1)
include hd hp

theorem execFenceDesc_runs (ht : descType d.bytes = 0x0B) :
    execFenceDesc seq s = .next (if fenceScope s d = [] then s.finishDesc d.seq 0 0 0 else s) := by
  rw [execFenceDesc, State.startDesc_ran s seq d _ _ hd (by omega)]
  simp only [hd]
  exact (if_congr (by simp [ht, hp, fenceScope]) rfl rfl).trans (apply_ite Host.Outcome.next _ _ _).symm

theorem execWaitDesc_runs (ht : descType d.bytes = 0x0D) : execWaitDesc seq s = .next (if d.f 0x18 8 ≤ s.counter (d.f 0x10 1) then
    s.finishDesc d.seq 0 (d.f 0x10 1) (s.counter (d.f 0x10 1)) else s) := by
  rw [execWaitDesc, State.startDesc_ran s seq d _ _ hd (by omega)]
  simp only [hd]
  exact (if_congr (by simp [ht, hp]) rfl rfl).trans (apply_ite Host.Outcome.next _ _ _).symm

end

/-- Settles O25, from what each role and berth command does where it acts. -/
theorem roleChanges : Obligations.RoleChanges := by
  intro s seq
  refine ⟨fun d h => ⟨fun ht hl => ⟨fun hb hm => ?_, fun hb => ?_⟩, fun ht => ?_⟩,
    fun d hd hp => ⟨fun ht l hl => ?_, fun ht => ?_⟩, fun q role setup discard ended hc hb hs hl => ?_,
    fun src b op hdr recs => ⟨fun hv => ?_, fun hv => ?_⟩, fun o st ho hk => ⟨fun hst => ?_, fun hst => ?_⟩⟩
  · have hfree : roleBlocked (begun s d) d = false := by
      refine Bool.eq_false_iff.2 fun hblocked => ?_
      obtain hany | ⟨h3, hmoored, hkeep⟩ := roleBlocked_iff.1 hblocked
      · exact Bool.false_ne_true (hb.symm.trans hany)
      · exact hkeep (hm h3 hmoored)
    exact show execRoleSet seq s = _ from execRoleSet_enters h ht hl hfree
  · exact show execRoleSet seq s = _ from execRoleSet_refused h ht hl (roleBlocked_iff.2 hb)
  · exact show execSignalDesc seq s = _ from execSignalDesc_adds h ht
  · subst hl
    exact show execFenceDesc seq s = _ from execFenceDesc_runs hd hp ht
  · exact show execWaitDesc seq s = _ from execWaitDesc_runs hd hp ht
  · have hr := inForce_role s role setup discard
    exact ⟨inForce s role setup discard, show execRoleSettle ended s = _ from execRoleSettle_settles hc hb hs hl,
      congrArg RoleSt.setup hr, congrArg RoleSt.change hr, congrArg RoleSt.moor hr, congrArg RoleSt.used hr⟩
  · exact show execBerthHeaderReceive src b op hdr recs [] s = _ from execBerthHeaderReceive_refuses hv
  · exact show execBerthHeaderReceive src b op hdr recs [] s = _ from execBerthHeaderReceive_commits hv
  · exact show execBerthMoveCommitAck seq st s = _ from
      (execBerthMoveCommitAck_answered st ho hk).trans (congrArg _ (if_pos hst))
  · exact show execBerthMoveCommitAck seq st s = _ from
      (execBerthMoveCommitAck_answered st ho hk).trans (congrArg _ (if_neg hst))

end Sys2Proof.Machine
end

section
/-!
The mooring table: its requests at the device that posts them (R137, R141 to R144) and at the session home (R126, R140 to R145).
-/
namespace Sys2Proof.Machine
open Spec

/-! ## Requests of a descriptor -/

section

variable {s : State} {seq : BitVec 32} {d : Desc} (h : starts s seq d)
include h

theorem execMoorPut_pends (ht : descType d.bytes = 7) :
    execMoorPut seq s = .next ((begun s d).pend d.seq (d.f 0x10 2) 3 (d.f 0x12 2 % 1024)) :=
  congrArg _ (startDesc_starts h _ (by simp [ht]))

section

variable (ht : descType d.bytes = 8) (hb : d.f 0x10 2 < 6144) (hs : ((begun s d).berth (d.f 0x10 2)).state = 0)
include ht hb hs

/-- A GET from a device that is not reached has no other effect (R137). -/
theorem execMoorGet_unreached (hr : (begun s d).partyReach (d.f 0x12 2 % 1024) = false) :
    execMoorGet seq s = .next ((begun s d).finishDesc d.seq 0x12 0 0) :=
  congrArg _ ((startDesc_starts h _ (by simp [ht])).trans (if_pos ⟨hb, hs, by simp [hr]⟩))

/-- A GET opens its berth and asks the session home for the session (R134, R142). -/
theorem execMoorGet_requests (hr : (begun s d).partyReach (d.f 0x12 2 % 1024) = true) {u v : State}
    (ha : (begun s d).allocate (d.f 0x10 2) (d.f 0x14 4) = .ok u) (hv : v = u.setBerth (d.f 0x10 2)
      { u.berth (d.f 0x10 2) with state := 1, mode := 2, openSeq := d.seq, kvFmt := u.role.setup.kvFmt }) :
    execMoorGet seq s = .next ((v.setRole { v.role with bops := v.role.bops ++
        [⟨d.seq, 3, d.f 0x10 2, d.f 0x12 2 % 1024, BitVec.ofNat 64 (d.f 0x18 8), [], [], []⟩] }).mail (d.f 0x12 2 % 1024) 2 (d.f 0x10 2)
      d.seq [[.moor (d.f 0x12 2 % 1024) 3 d.seq (BitVec.ofNat 64 (d.f 0x18 8)) 0 0 []]]) := by
  subst hv
  exact congrArg _ ((startDesc_starts h _ (by simp [ht])).trans
    ((if_neg (by simp [hr])).trans (State.openBerth_opens hb hs ha)))

end

/-- A DROP of a key and a TOUCH differ in what they ask of the session home. -/
theorem moorDropTouch_asks : ∀ o ∈ ([(9, 4, Instr.moorDropKey seq), (0x0A, 5, .moorTouch seq)] : List (Nat × Nat × Instr)),
    descType d.bytes = o.1 → (o.1 = 9 → d.f 0x10 1 = 0) → exec o.2.2 s = .next ((begun s d).moorAsk d o.2.1) := by
  refine List.forall_mem_cons.2 ⟨fun ht hk => ?_, List.forall_mem_singleton.2 fun ht _ => ?_⟩
  · exact show execMoorDropKey seq s = _ from congrArg _ (startDesc_starts h _ (by simp [ht, hk rfl]))
  · exact show execMoorTouch seq s = _ from congrArg _ (startDesc_starts h _ (by simp [ht]))

section

variable (ht : descType d.bytes = 9) (hk : d.f 0x10 1 = 1) {ended : List (Fin 1024 × BitVec 32)}
include ht hk

/-- Only the CACHE device itself drops its sessions by age (R144). -/
theorem execMoorDropAge_refused (hc : (begun s d).cacheRole = false ∨ d.f 0x12 2 % 1024 ≠ (begun s d).device) :
    execMoorDropAge seq ended s = .next ((begun s d).finishDesc d.seq 0x42 0 0) :=
  congrArg _ ((startDesc_starts h _ (by simp [ht, hk])).trans (if_pos (hc.imp_left fun hr => by simp [hr])))

theorem execMoorDropAge_evicts (hc : (begun s d).cacheRole = true) (hd : d.f 0x12 2 % 1024 = (begun s d).device) {u : State}
    {old : List Nat} (hu : u = (begun s d).dropEnded ended)
    (ho : old = u.moorWhere (fun e => e.state == 2 && e.seg == 0 && decide (e.stamp + d.f 0x20 4 ≤ u.bt / 2 ^ 32))) :
    execMoorDropAge seq ended s =
      .next ((State.evict old (min old.length (d.f 0x14 4)) u).finishDesc d.seq 0 0 (min old.length (d.f 0x14 4))) := by
  subst ho hu
  exact congrArg _ ((startDesc_starts h _ (by simp [ht, hk])).trans (if_neg (by simp [hc, hd])))

end

end

/-- A request goes to its session home where it is reached, and ends with TARGET_UNREACHABLE otherwise (R137). -/
theorem State.moorAsk_eq (t : State) (d : Desc) (kind : Nat) : t.moorAsk d kind =
    if t.partyReach (d.f 0x12 2 % 1024) then
      t.mail (d.f 0x12 2 % 1024) 3 0 d.seq [[.moor (d.f 0x12 2 % 1024) kind d.seq (BitVec.ofNat 64 (d.f 0x18 8)) 0 0 []]]
    else t.finishDesc d.seq 0x12 0 0 := by
  cases hr : t.partyReach (d.f 0x12 2 % 1024) with
  | true => exact if_neg (by simp [hr])
  | false => exact if_pos (by simp [hr])

/-! ## Answers at the device that posted the request -/

section

variable {s : State} {seq : BitVec 32} {o : BerthOp} {st : BitVec 8}

theorem execMoorCommitAck_put (ho : s.bop seq.toNat = some o) (hk : o.kind = 2) :
    execMoorCommitAck seq st s = .next (s.berthAnswered o st) := by
  simp only [execMoorCommitAck, ho]
  exact (if_neg (not_not.2 hk)).trans (apply_ite Host.Outcome.next _ _ _).symm

/-- The result of a DROP or TOUCH ends it (R143). -/
theorem execMoorCommitAck_dropTouch {d : Desc} (ho : s.bop seq.toNat = none) (hd : s.desc seq.toNat = some d)
    (ht : descType d.bytes = 9 ∨ descType d.bytes = 0x0A) (hp : d.phase = 1) :
    execMoorCommitAck seq st s = .next (s.finishDesc d.seq st.toNat 0 0) := by
  simp only [execMoorCommitAck, ho, hd]
  exact if_pos ⟨ht, hp⟩

section

variable {seg : BitVec 16} {data : List Byte} (ho : s.bop seq.toNat = some o) (hk : o.kind = 3)
include ho hk

theorem execMoorGetSegmentArrive_fails (hst : st ≠ 0) : execMoorGetSegmentArrive seq st seg data s = .next (s.getFail o st.toNat) := by
  simp only [execMoorGetSegmentArrive, ho]
  exact (if_neg (not_not.2 hk)).trans (if_pos hst)

/-- A segment that comes after its header is placed (R142). -/
theorem execMoorGetSegmentArrive_places (hseg : seg ≠ 0) (hh : o.header ≠ []) : execMoorGetSegmentArrive seq 0 seg data s =
    .next ((s.placeSeg o o.header seg.toNat data).getSettle { o with arrived := o.arrived.add seg.toNat }) := by
  simp only [execMoorGetSegmentArrive, ho]
  exact (if_neg (not_not.2 hk)).trans ((if_neg (not_not.2 rfl)).trans ((if_neg hseg).trans (if_neg hh)))

/-- Segment 0 brings the header; here no segment has waited for it (R142). -/
theorem execMoorGetSegmentArrive_header (hc : s.headerCheck o.berth data = 0) (hw : o.held = []) :
    execMoorGetSegmentArrive seq 0 0 data s = .next ((s.placeSeg o (data.take 64) 0 data).getSettle
      { o with header := data.take 64, held := [], arrived := o.arrived.add 0 }) := by
  simp only [execMoorGetSegmentArrive, ho, hw]
  exact (if_neg (not_not.2 hk)).trans ((if_neg (not_not.2 rfl)).trans ((if_pos trivial).trans (if_neg (not_not.2 hc))))

end

end

/-- Settles O26, from what each mooring descriptor asks for and what each answer does. -/
theorem mooringRequests : Obligations.MooringRequests := by
  intro s seq
  refine ⟨fun d h => ⟨fun ht hb hs hp hd => ?_, fun ht hb hs => ⟨fun hr => ?_, fun hr u ha v hv => ?_⟩, fun o ho ht hk => ?_,
      fun ended ht hk => ⟨fun hc => ?_, fun hc hd u old hu ho => ?_⟩⟩,
    fun o st ho hk => ?_, fun d st ho hd ht hp => ?_,
    fun o st seg data ho hk => ⟨fun hst => ?_, fun hseg hh => ?_, fun hc hw => ?_⟩⟩
  · exact show execMoorPut seq s = _ from (execMoorPut_pends h ht).trans (congrArg _ (State.pend_records hb hs hp hd))
  · exact show execMoorGet seq s = _ from execMoorGet_unreached h ht hb hs hr
  · exact show execMoorGet seq s = _ from execMoorGet_requests h ht hb hs hr ha hv
  · exact (moorDropTouch_asks h o ho ht hk).trans (congrArg _ (State.moorAsk_eq _ d _))
  · exact show execMoorDropAge seq ended s = _ from execMoorDropAge_refused h ht hk hc
  · exact show execMoorDropAge seq ended s = _ from execMoorDropAge_evicts h ht hk hc hd hu ho
  · exact show execMoorCommitAck seq st s = _ from execMoorCommitAck_put ho hk
  · exact show execMoorCommitAck seq st s = _ from execMoorCommitAck_dropTouch ho hd ht hp
  · exact show execMoorGetSegmentArrive seq st seg data s = _ from execMoorGetSegmentArrive_fails ho hk hst
  · exact show execMoorGetSegmentArrive seq 0 seg data s = _ from execMoorGetSegmentArrive_places ho hk hseg hh
  · exact show execMoorGetSegmentArrive seq 0 0 data s = _ from execMoorGetSegmentArrive_header ho hk hc hw

/-! ## The session home -/

section

variable {s : State} {src : Fin 1024} {op : BitVec 32} {key : BitVec 64} {ended : List (Fin 1024 × BitVec 32)}

/-- In any other role, and while it is CHANGING, a device answers every mooring request with ROLE_MISMATCH (R126). -/
theorem mooring_outside_cache (hc : s.cacheRole = false) : ∀ i ∈ [Instr.moorAnnounce src op key ended, .moorGetRequest src op key,
    .moorDropArrive src op key ended, .moorTouchArrive src op key], exec i s = .next (s.moorResult src op.toNat key 0x42) := by
  have hn : (!s.cacheRole) = true := by rw [hc]; rfl
  refine List.forall_mem_cons.2 ⟨?_, List.forall_mem_cons.2 ⟨?_, List.forall_mem_cons.2 ⟨?_, List.forall_mem_singleton.2 ?_⟩⟩⟩
  · exact show execMoorAnnounce src op key ended s = _ from if_pos hn
  · exact show execMoorGetRequest src op key s = _ from if_pos hn
  · exact show execMoorDropArrive src op key ended s = _ from if_pos hn
  · exact show execMoorTouchArrive src op key s = _ from if_pos hn

/-- The GEN that a session's next PUT is given (R141). -/
def nextGen (u : State) (key : W64) : Nat := match u.committed key with | some g => (g + 1) % 65536 | none => 0

/-- The committed entries of a session whose segment 0 is entry `i`: those that its header counts (R142). -/
def sessionEntries (u : State) (key : W64) (i : Nat) : List Nat :=
  i :: (List.range (u.num ((u.moorAt i).location % 2 ^ 42 + 0x16) 2 - 1)).filterMap
    (fun x => u.moorFind key (x + 1) 2 (some (u.moorAt i).gen))

section

variable (hc : s.cacheRole = true)
include hc

/-- A device in role CACHE serves what reaches it. -/
theorem served : ¬(!s.cacheRole) = true := by simp [hc]

/-- An announcement defeats what is in flight on its session and takes the next GEN (R141, R143). -/
theorem execMoorAnnounce_takes {u : State} (hu : u = (s.dropEnded ended).defeat key false) : execMoorAnnounce src op key ended s =
    .next (u.setRole { u.role with sess := u.role.sess ++ [⟨0, key, src, op.toNat, nextGen u key⟩] }) := by
  subst hu
  exact if_neg (served hc)

theorem execMoorDropArrive_drops {t : State} {ok : Bool} (ht : (s.dropEnded ended).dropSession key = (t, ok)) :
    execMoorDropArrive src op key ended s = .next (t.moorResult src op.toNat key (if ok then 0 else 0x14)) := by
  simp only [execMoorDropArrive, ht]
  exact if_neg (served hc)

section

variable (hf : s.moorFind key 0 2 none = none)
include hf

theorem execMoorGetRequest_none : execMoorGetRequest src op key s = .next (s.moorResult src op.toNat key 0x14) := by
  simp only [execMoorGetRequest, hf]
  exact if_neg (served hc)

theorem execMoorTouchArrive_none : execMoorTouchArrive src op key s = .next (s.moorResult src op.toNat key 0x14) := by
  simp only [execMoorTouchArrive, hf]
  exact if_neg (served hc)

end

section

variable {i : Nat} (hf : s.moorFind key 0 2 none = some i)
include hf

theorem execMoorTouchArrive_stamps : execMoorTouchArrive src op key s =
    .next ((s.setMoor i { s.moorAt i with stamp := s.bt / 2 ^ 32 }).moorResult src op.toNat key 0) := by
  simp only [execMoorTouchArrive, hf]
  exact if_neg (served hc)

/-- A GET whose segments are good is in flight and sends them (R142, R143). -/
theorem execMoorGetRequest_sends {u v : State} (hu : u = s.defeat key true) (hg : u.sessStop (sessionEntries u key i) = 0)
    (hv : v = u.setRole { u.role with sess := u.role.sess ++ [⟨1, key, src, op.toNat, (u.moorAt i).gen⟩] }) :
    execMoorGetRequest src op key s = .next (v.mail src 4 0 op.toNat [(sessionEntries u key i).map (fun j =>
      Msg.moorSeg src op.toNat (v.moorAt j).seg (v.bytes ((v.moorAt j).location % 2 ^ 42) (v.moorAt j).length))]) := by
  subst hu hv
  simp only [execMoorGetRequest, hf]
  exact (if_neg (served hc)).trans (if_neg (not_not.2 hg))

end

end

end

/-! ## Segments of a PUT -/

section

variable {s u : State} {o : SessOp} {seg fmt : Nat} {data : List Byte}

/-- A segment larger than a slot is refused without a count (R141). -/
theorem State.takeSegment_large (hl : s.role.setup.slot < data.length) : s.takeSegment o seg fmt data = s.refusePut o seg false :=
  if_pos hl

section

variable (hl : data.length ≤ s.role.setup.slot)
include hl

/-- An inserted segment commits its PUT once every segment is recorded (R35, R141). -/
theorem State.takeSegment_inserts (hi : s.moorInsert o.key seg fmt o.gen data = some u) :
    s.takeSegment o seg fmt data = if u.putWhole o then u.commitPut o else u := by
  simp only [State.takeSegment, hi]
  exact if_neg (not_lt.2 hl)

theorem State.takeSegment_refused (hi : s.moorInsert o.key seg fmt o.gen data = none) :
    s.takeSegment o seg fmt data = s.refusePut o seg true := by
  simp only [State.takeSegment, hi]
  exact if_neg (not_lt.2 hl)

end

end

section

variable {s : State} {src : Fin 1024} {op : BitVec 32} {o : SessOp} {data : List Byte} (ho : s.putOf src op.toNat = some o)
include ho

theorem execMoorSegmentReceive_takes (seg : BitVec 16) (fmt : BitVec 4) :
    execMoorSegmentReceive src op seg fmt data s = .next (s.takeSegment o seg.toNat fmt.toNat data) := by
  simp only [execMoorSegmentReceive, ho]

/-- Segment 0 carries its format in its header (R135, R141). -/
theorem execMoorSegment0Commit_takes :
    execMoorSegment0Commit src op data s = .next (s.takeSegment o 0 (at_ data 6 1 % 16) data) := by
  simp only [execMoorSegment0Commit, ho]

end

/-- Settles O27, from the order of the operations at the session home and what a segment of a PUT does there. -/
theorem mooringHome : Obligations.MooringHome := by
  intro s src op key ended
  refine ⟨mooring_outside_cache, fun hc => ⟨fun u hu => ?_, fun hf => ⟨?_, ?_⟩,
      fun i hf => ⟨?_, fun u l hu hl hg v hv => ?_⟩, fun t ok ht => ?_⟩,
    fun o seg fmt data ho => ⟨fun hl u hi => ?_, fun hl hi => ?_, fun hl u hi => ?_, fun hl => ⟨?_, ?_⟩⟩,
    rfl, fun ages ha => ?_, by decide, by decide, by decide, by decide, by decide, by decide⟩
  · exact show execMoorAnnounce src op key ended s = _ from execMoorAnnounce_takes hc hu
  · exact show execMoorGetRequest src op key s = _ from execMoorGetRequest_none hc hf
  · exact show execMoorTouchArrive src op key s = _ from execMoorTouchArrive_none hc hf
  · exact show execMoorTouchArrive src op key s = _ from execMoorTouchArrive_stamps hc hf
  · subst hl
    exact show execMoorGetRequest src op key s = _ from execMoorGetRequest_sends hc hf hu hg hv
  · exact show execMoorDropArrive src op key ended s = _ from execMoorDropArrive_drops hc ht
  · exact show execMoorSegmentReceive src op seg fmt data s = _ from
      (execMoorSegmentReceive_takes ho seg fmt).trans (congrArg _ (State.takeSegment_inserts hl hi))
  · exact show execMoorSegmentReceive src op seg fmt data s = _ from
      (execMoorSegmentReceive_takes ho seg fmt).trans (congrArg _ (State.takeSegment_refused hl hi))
  · exact show execMoorSegment0Commit src op data s = _ from
      (execMoorSegment0Commit_takes ho).trans (congrArg _ (State.takeSegment_inserts hl hi))
  · exact show execMoorSegmentReceive src op seg fmt data s = _ from
      (execMoorSegmentReceive_takes ho seg fmt).trans (congrArg _ (State.takeSegment_large hl))
  · exact show execMoorSegment0Commit src op data s = _ from
      (execMoorSegment0Commit_takes ho).trans (congrArg _ (State.takeSegment_large hl))
  · subst ha
    rfl

end Sys2Proof.Machine
end

section
/-!
The rings of R159: what each condition does to a ring in the state it asks for, and what the lock loop of an endpoint sets and reports.
-/
namespace Sys2Proof.Machine

/-! ## The rows of R159 -/

section

variable {s : State} {r : Ring}

/-- A PARKED ring seeks from its commissioned code while its region is in range. -/
theorem execRingSeekBegin_parked (hup : s.fab.up = true) (hst : (s.ring (ringKey r)).st = 0) :
    execRingSeekBegin r s = .next (if s.inRange r then s.setRing (ringKey r) { s.ring (ringKey r) with
      st := 1, fails := 0, dark := false, lift := tget (fun _ => 0) s.fab.codes (ringKey r) } else s) := by
  by_cases hr : s.inRange r = true
  · exact (if_pos ⟨hup, hst, hr⟩).trans (congrArg _ (if_pos hr).symm)
  · exact (if_neg fun ⟨_, _, hin⟩ => hr hin).trans (congrArg _ (if_neg hr).symm)

/-! ### SEEK -/

/-- A ring in range does not park. -/
theorem not_parks_of_inRange (hr : s.inRange r = true) : ¬((s.ring (ringKey r)).st = 1 ∧ (!s.inRange r) = true) := by simp [hr]

section

variable (hst : (s.ring (ringKey r)).st = 1)
include hst

theorem execRingLightLost_seek : execRingLightLost r s = .next (s.parkSeek (ringKey r) true) := if_pos hst

section

variable (hr : s.inRange r = false)
include hr

theorem execRingSeekLock_parks : execRingSeekLock r s = .next (s.parkSeek (ringKey r) false) := if_pos ⟨hst, by simp [hr]⟩

theorem execRingSeekAttemptFail_parks : execRingSeekAttemptFail r s = .next (s.parkSeek (ringKey r) false) :=
  if_pos ⟨hst, by simp [hr]⟩

end

section

variable (hr : s.inRange r = true)
include hr

theorem execRingSeekLock_locks : execRingSeekLock r s = .next ((s.setRing (ringKey r)
    { s.ring (ringKey r) with st := 2, fails := 0, dark := false, seen := false }).ringChanged r false) :=
  (if_neg (not_parks_of_inRange hr)).trans (if_pos hst)

theorem execRingSeekAttemptFail_counts (hf : (s.ring (ringKey r)).fails < 2) : execRingSeekAttemptFail r s =
    .next (s.setRing (ringKey r) { s.ring (ringKey r) with fails := (s.ring (ringKey r)).fails + 1 }) :=
  (if_neg (not_parks_of_inRange hr)).trans ((if_pos hst).trans (if_pos hf))

/-- The third failed attempt in a row retires the ring; here no repair of its unit is under way (R163). -/
theorem execRingSeekAttemptFail_retires (hf : 2 ≤ (s.ring (ringKey r)).fails) (hj : (s.unit (s.place r).unit).jobs = []) :
    execRingSeekAttemptFail r s = .next (s.retireRing r) := by
  simp only [execRingSeekAttemptFail, hj]
  exact (if_neg (not_parks_of_inRange hr)).trans ((if_pos hst).trans (if_neg (not_lt.2 hf)))

end

end

/-! ### LOCKED -/

section

variable (hst : (s.ring (ringKey r)).st = 2)
include hst

theorem execRingLightLost_locked : execRingLightLost r s =
    .next ((s.setRing (ringKey r) { s.ring (ringKey r) with st := 3, dark := true }).ringChanged r false) :=
  (if_neg (by simp [hst])).trans (if_pos hst)

section

variable (hfab : (s.place r).fab = true)
include hfab

/-- LOCK_LOST names a spare that serves no channel by its place in the row; there is no lane to suspect. -/
theorem execRingDetuneLoss_spare (hc : (s.place r).chan = none) : execRingDetuneLoss r s =
    .next (((s.setRing (ringKey r) { s.ring (ringKey r) with st := 1, fails := 0 }).raise 0x0301 (epDie (s.place r).ep)
      [(1, (s.place r).ep), (1, (s.place r).plane), (1, 16 * (s.place r).spare.getD 0)]).ringChanged r true) := by
  simp only [execRingDetuneLoss, hc, hfab]
  exact if_pos hst

theorem execRingDetuneLoss_lane {c n : Nat} (hc : (s.place r).chan = some c)
    (hn : s.laneAt (ringPair (s.place r).ep c (s.place r).rx) (s.place r).plane c = some n) : execRingDetuneLoss r s =
    .next ((((s.setRing (ringKey r) { s.ring (ringKey r) with st := 1, fails := 0 }).raise 0x0301 (epDie (s.place r).ep)
      [(1, (s.place r).ep), (1, (s.place r).plane), (1, c)]).markSuspect
        (ringPair (s.place r).ep c (s.place r).rx * 32 + n)).ringChanged r true) := by
  simp only [execRingDetuneLoss, hc, hfab, Option.getD_some, hn]
  exact if_pos hst

end

/-- A fabric ring changes its pair's state; a link of a port pauses first (R284). -/
theorem execRingHoldRequest_holds {c : Nat} (hc : (s.place r).chan = some c) {u : State}
    (hu : u = (s.holdPart r true).setRing (ringKey r) { s.ring (ringKey r) with st := 3, hold := true }) :
    execRingHoldRequest r s = .next (if (s.place r).fab then u.ringChanged r false
      else u.linkPause (ringLink (s.place r).port c (s.place r).rx) 0) := by
  subst hu
  simp only [execRingHoldRequest, hc]
  exact (if_pos hst).trans (apply_ite Host.Outcome.next _ _ _).symm

end

/-! ### HOLD -/

section

variable (hst : (s.ring (ringKey r)).st = 3)
include hst

theorem execRingHoldRelease_relocks {c : Nat} (hc : (s.place r).chan = some c) (hfab : (s.place r).fab = true) :
    execRingHoldRelease r s = .next (((s.holdPart r false).setRing (ringKey r)
      { s.ring (ringKey r) with st := 2, hold := false, dark := false }).ringChanged r false) := by
  simp only [execRingHoldRelease, hc]
  exact (if_pos hst).trans (if_pos hfab)

theorem execRingHoldExpire_seeks : execRingHoldExpire r s = .next (((s.holdPart r false).setRing (ringKey r)
    { s.ring (ringKey r) with st := 1, fails := 0, hold := false, dark := false }).ringChanged r true) := if_pos hst

theorem execRingHoldPark_parks (hd : (s.ring (ringKey r)).dark = true) : execRingHoldPark r s =
    .next ((s.setRing (ringKey r) { s.ring (ringKey r) with st := 0, hold := false }).ringChanged r true) := if_pos ⟨hst, hd⟩

end

end

/-! ## The lock loop of an endpoint (R158, R162) -/

section

variable {s u : State} {ep : Fin 16} {m : RingMeas}

/-- A measurement of an own ring in SEEK or LOCKED sets its heater and its trim; what follows is the report of the loop. -/
theorem execRingLockLoopUpdate_sets {plane : Fin 16} {pos : Fin 32} {rx : Bool} (hm : m.ring = .fab ep plane pos rx)
    (hst : (s.ring (ringKey m.ring)).st = 1 ∨ (s.ring (ringKey m.ring)).st = 2) :
    execRingLockLoopUpdate ep [m] s = execRingLockLoopUpdate ep [] (s.setRing (ringKey m.ring)
      { s.ring (ringKey m.ring) with lift := min 4000 m.heater.toNat, trim := min 6000 m.trim.toNat, seen := true }) := by
  rw [hm] at hst
  simp [execRingLockLoopUpdate, hm, if_pos hst]

/-- A measurement of a ring of another endpoint or of a port sets nothing. -/
theorem execRingLockLoopUpdate_other (hm : ∀ e plane pos rx, m.ring = .fab e plane pos rx → e ≠ ep) :
    execRingLockLoopUpdate ep [m] s = execRingLockLoopUpdate ep [] s := by
  cases hring : m.ring with
  | fab e plane pos rx => simp [execRingLockLoopUpdate, hring, hm e plane pos rx hring]
  | port p pos rx => simp [execRingLockLoopUpdate, hring]

/-- Without a LOCKED ring there is no headroom to report. -/
theorem execRingLockLoopUpdate_silent (hn : u.headroomOf ep = none) : execRingLockLoopUpdate ep [] u = .next u := by
  simp only [execRingLockLoopUpdate, List.filter_nil, List.foldl_nil, hn]

section

variable {h : Nat} {v : State} (hh : u.headroomOf ep = some h) (hv : v = u.wr F.FAB_HEADROOM_HEADROOM ep h)
include hh hv

/-- Between the two thresholds the loop only shows the headroom. -/
theorem execRingLockLoopUpdate_shows (hlo : 16 ≤ h) (hhi : h < 24) : execRingLockLoopUpdate ep [] u = .next v := by
  subst hv
  simp only [execRingLockLoopUpdate, List.filter_nil, List.foldl_nil, hh]
  exact (if_neg fun hlow => not_lt.2 hlo hlow.1).trans (if_neg fun hclear => not_lt.2 hclear.1 hhi)

/-- Low headroom under a compute die raises HEADROOM_LOW and asks that die for a cap. -/
theorem execRingLockLoopUpdate_asks (hlo : h < 16) (hep : ep.val < 12) (hbit : v.bit F.FAB_HEADROOM_LOW ep = false) {w : State}
    (hw : w = (v.wr F.FAB_HEADROOM_LOW ep 1).raise 0x0309 (epDie ep) [(1, ep), (1, h)]) : execRingLockLoopUpdate ep [] u =
    .next { w with fab := { w.fab with capAsk := w.fab.capAsk.add ep } } := by
  subst hv hw
  simp only [execRingLockLoopUpdate, List.filter_nil, List.foldl_nil, hh]
  exact (if_pos ⟨hlo, by simp [hbit]⟩).trans (congrArg _ (if_pos hep))

end

end

/-- Settles O30, from the rows of R159 by the state before, and what the lock loop sets and reports. -/
theorem ringTransitions : Obligations.RingTransitions := by
  intro s r
  refine ⟨fun hst hup => ?_, fun hst => ⟨?_, fun hr u hu => ?_, fun hr => ⟨?_, fun hf => ?_, fun hf hj => ?_⟩⟩,
    fun hst => ⟨?_, fun hc hfab => ?_, fun c n hc hfab hn => ?_, fun c hc => ?_⟩,
    fun hst => ⟨fun c hc hfab => ?_, ?_, fun hd => ?_⟩, fun ep m u hm => ?_⟩
  · exact show execRingSeekBegin r s = _ from execRingSeekBegin_parked hup hst
  · exact show execRingLightLost r s = _ from execRingLightLost_seek hst
  · subst hu
    exact ⟨show execRingSeekLock r s = _ from execRingSeekLock_parks hst hr,
      show execRingSeekAttemptFail r s = _ from execRingSeekAttemptFail_parks hst hr⟩
  · exact show execRingSeekLock r s = _ from execRingSeekLock_locks hst hr
  · exact show execRingSeekAttemptFail r s = _ from execRingSeekAttemptFail_counts hst hr hf
  · exact show execRingSeekAttemptFail r s = _ from execRingSeekAttemptFail_retires hst hr hf hj
  · exact show execRingLightLost r s = _ from execRingLightLost_locked hst
  · exact show execRingDetuneLoss r s = _ from execRingDetuneLoss_spare hst hfab hc
  · exact show execRingDetuneLoss r s = _ from execRingDetuneLoss_lane hst hfab hc hn
  · exact show execRingHoldRequest r s = _ from execRingHoldRequest_holds hst hc rfl
  · exact show execRingHoldRelease r s = _ from execRingHoldRelease_relocks hst hc hfab
  · exact show execRingHoldExpire r s = _ from execRingHoldExpire_seeks hst
  · exact show execRingHoldPark r s = _ from execRingHoldPark_parks hst hd
  · have hloop : exec (.ringLockLoopUpdate ep [m]) s = execRingLockLoopUpdate ep [] u := by
      obtain ⟨rfl, ⟨plane, pos, rx, hring⟩, hst, rfl⟩ | ⟨hother, rfl⟩ := hm
      · exact show execRingLockLoopUpdate ep [m] s = _ from execRingLockLoopUpdate_sets hring hst
      · exact show execRingLockLoopUpdate ep [m] u = _ from execRingLockLoopUpdate_other hother
    refine ⟨fun hn => ?_, fun h v hh hv => ⟨fun hlo hhi => ?_, fun hlo hep hbit w hw => ?_⟩⟩
    · exact hloop.trans (execRingLockLoopUpdate_silent hn)
    · exact hloop.trans (execRingLockLoopUpdate_shows hh hv hlo hhi)
    · exact hloop.trans (execRingLockLoopUpdate_asks hh hv hlo hep hbit hw)

end Sys2Proof.Machine
end

section
/-!
The flit layer: what a flit time of a pair sends (R167, R168, R170), what a codeword received does (R171, R264, R267, R278), and the
lost numbers, credits and reserved slots of a pair (R169, R171).
-/
namespace Sys2Proof.Machine

/-! ## A flit time of a pair -/

section

variable {s a : State} {i j : Fin 16} {l lane : Nat} {ls : List Nat} {y : FlitTx}
  (ha : a = (groupsOf j).foldl (fun (b : State) g => [0, 1, 2, 3].foldl (fun (c : State) vc => c.mcastConvert i g vc) b) s)
  (hl : a.lanesUp (16 * i.val + j.val) = l :: ls) (hy : y = a.tx (16 * i.val + j.val))
  (hlane : lane = (l :: ls).getD (y.lane % (l :: ls).length) 0)
include ha hl hy hlane

/-- A slot that a multicast flit of another pair has taken passes. -/
theorem State.pairSlot_taken (ht : y.taken.contains lane = true) : s.pairSlot i j =
    a.setTx (16 * i.val + j.val) { y with lane := y.lane + 1, taken := y.taken.del lane } := by
  subst hy hlane
  simp only [State.pairSlot, ← ha, hl]
  exact if_pos ht

section

variable {u : State} {due : List Nat} (ht : y.taken.contains lane = false)
  (hu : u = a.setTx (16 * i.val + j.val) { y with lane := y.lane + 1, reserved := [] })
  (hdue : due = y.reserved.filter (fun g => (groupMembers (g / 4) i).all (fun m => !(a.lanesUp (16 * i.val + m)).isEmpty)))
include ht hu hdue

/-- A slot kept for multicast flits serves the first of them that is ready, and no other flit. -/
theorem State.pairSlot_reserved (hd : due ≠ []) : s.pairSlot i j =
    (due.find? (fun g => u.mcastReady i (g / 4) (g % 4) lane)).elim (u.emit (.pair i j) lane i j y.null nullFlit)
      (fun g => u.mcastSend i j (g / 4) (g % 4) lane) := by
  subst hy hlane hu
  simp only [State.pairSlot, ← ha, hl, ← hdue]
  refine (if_neg (Bool.eq_false_iff.1 ht)).trans ?_
  cases due with
  | nil => exact absurd rfl hd
  | cons g gs => simp only; cases List.find? _ (g :: gs) <;> rfl

/-- In any other slot the control channel goes first, then the others in turn; the next turn begins behind the one that has sent. -/
theorem State.pairSlot_open (hd : due = []) : s.pairSlot i j = (u.pairTry i j lane 3).getD
    ((firstSend (u.pairTry i j lane) (vcOrder y.turn)).elim (u.emit (.pair i j) lane i j y.null nullFlit)
      (fun e => e.2.setTx (16 * i.val + j.val) { e.2.tx (16 * i.val + j.val) with turn := (vcOrder 0).idxOf e.1 + 1 })) := by
  subst hy hlane hu
  simp only [State.pairSlot, ← ha, hl, ← hdue, hd]
  refine (if_neg (Bool.eq_false_iff.1 ht)).trans ?_
  cases State.pairTry _ i j _ 3 with
  | some v => rfl
  | none => cases firstSend _ _ <;> rfl

end

end

/-! ## A flit time of a link -/

/-- The marker lane of a port and a link that is not in training send nothing (R284). -/
theorem State.linkSlot_silent {s : State} {x : Fin 768} (hx : x.val % 32 = 0 ∨ s.linkState x < 2) : s.linkSlot x = s :=
  if_pos (hx.imp_right Or.inl)

/-! ## A codeword received -/

section

variable {s : State} {i j : Fin 16} {cw : List Byte} {k : Nat} (hk : k = 16 * i.val + j.val)
include hk

theorem State.pairReceive_lost (hc : decodeFlit cw = none) :
    s.pairReceive i j cw = s.setRx k { s.rx k with lost := (s.rx k).lost + 1 } := by
  subst hk
  simp only [State.pairReceive, hc]

section

variable {f : List Byte} {n vcs back : Nat} {h : FlitHdr} (hback : back = 16 * j.val + i.val)
  (hc : decodeFlit cw = some (f, n)) (hh : h = hdrOf (leNat (f.take 8)))
include hback hc hh

omit hk in
/-- A NULL flit brings credits only (R264). -/
theorem State.pairReceive_null (ht : h.type = 0) : s.pairReceive i j cw = s.takeCredits back h := by
  subst hback
  simp only [State.pairReceive, hc, ← hh]
  exact if_pos ht

variable (hvcs : vcs = h.stream % 8 * 4 + h.vc) (ht : h.type ≠ 0)
include hvcs ht

/-- The expected number is delivered, and what is held behind it follows. -/
theorem State.pairReceive_delivers (hd : seqDist (tget (fun _ => 0) (s.rx k).next vcs) h.seq = 0) : s.pairReceive i j cw =
    State.deliverRun k back vcs (s.rx k).held.length ((s.takeCredits back h).deliver k back vcs h.seq f) := by
  subst hk hback
  simp only [State.pairReceive, hc, ← hh, ← hvcs]
  exact (if_neg ht).trans (if_pos hd)

/-- A later number is held until what is missing has come. -/
theorem State.pairReceive_holds (hpos : 0 < seqDist (tget (fun _ => 0) (s.rx k).next vcs) h.seq)
    (hlt : seqDist (tget (fun _ => 0) (s.rx k).next vcs) h.seq < 32768) : s.pairReceive i j cw =
    (s.takeCredits back h).setRx k { s.rx k with held := (s.rx k).held ++ [⟨vcs, h.seq, f⟩] } := by
  subst hk hback
  simp only [State.pairReceive, hc, ← hh, ← hvcs]
  exact (if_neg ht).trans ((if_neg hpos.ne').trans (if_pos hlt))

end

end

/-- A codeword that the code corrects and whose check then fails ends the run of words beyond correction (R267, R284). -/
theorem State.linkReceive_lost {s : State} {x : Nat} {cw : List Byte} (hx : x % 32 ≠ 0) (hst : s.linkState x = 6)
    (hc : decodeFlit cw = none) (hrs : rsDecode (scramble (cw.map (·.toNat))) ≠ []) : s.linkReceive x cw =
    (s.setRx (linkKey x) { s.rx (linkKey x) with bad := 0 }).bump F.PRT_LINK_LOST x 1 := by
  simp only [State.linkReceive, hst, hc, if_neg hrs]
  exact (if_neg (by simp [hx])).trans (if_neg (by simp))

/-! ## Lost numbers, owed credits and reserved slots -/

section

variable {s : State} {i j : Fin 16}

/-- What is missing before the lowest held number of a channel and stream is lost: its credits return and the rest is delivered. -/
theorem execFlitLossTimeout_skips {vc : Fin 4} {st : Fin 8} {k back vcs nx m : Nat} {h : HeldFlit} {l : List HeldFlit}
    (hk : k = 16 * i.val + j.val) (hback : back = 16 * j.val + i.val) (hvcs : vcs = st.val * 4 + vc.val)
    (hheld : (s.rx k).held.filter (fun e => e.vc == vcs) = h :: l) (hnx : nx = tget (fun _ => 0) (s.rx k).next vcs)
    (hm : m = (l.map (fun e => seqDist nx e.seq)).foldl min (seqDist nx h.seq)) :
    execFlitLossTimeout (.pair i j) vc st s = .next (State.deliverRun k back vcs (s.rx k).held.length
      ((s.setRx k { s.rx k with next := tput (fun _ => 0) (s.rx k).next vcs ((nx + m) % 65536),
                                part := tput (fun _ => []) (s.rx k).part vcs [],
                                lost := (s.rx k).lost + m }).oweCredits back vc m)) := by
  subst hk hback hvcs hnx hm
  simp only [execFlitLossTimeout, hheld, List.map_cons]

theorem execCreditIdleReturn_sends {k l : Nat} {ls : List Nat} (hk : k = 16 * i.val + j.val) (hl : s.lanesUp k = l :: ls)
    (howe : (s.tx k).oweOf (s.tx k).oweVc ≠ 0) (hgr : (s.tx k).grants 3 = true) : execCreditIdleReturn i j s =
    .next ((s.setTx k { s.tx k with lane := (s.tx k).lane + 1 }).emit (.pair i j)
      ((l :: ls).getD ((s.tx k).lane % (l :: ls).length) 0) i j 3 ⟨8, 0, 240, 0, []⟩) := by
  subst hk
  simp only [execCreditIdleReturn, hl]
  exact if_pos ⟨howe, hgr⟩

theorem execMcastWaitReserve_reserves {g : Fin 7} {vc : Fin 4} (hq : s.mcastQueue i g vc ≠ [])
    (hup : ∀ m ∈ groupMembers g i, s.lanesUp (16 * i.val + m) ≠ []) : execMcastWaitReserve i g vc s =
    .next ((groupMembers g i).foldl (fun (a : State) m => a.setTx (16 * i.val + m)
      { a.tx (16 * i.val + m) with reserved := (a.tx (16 * i.val + m)).reserved.add (g * 4 + vc) }) s) := by
  have hnone : (groupMembers g i).any (fun m => (s.lanesUp (16 * i.val + m)).isEmpty) = false :=
    List.any_eq_false.2 fun m hm hempty => hup m hm (List.isEmpty_iff.1 hempty)
  exact if_neg (not_or.2 ⟨hq, Bool.eq_false_iff.1 hnone⟩)

end

/-- Settles O32, from the slots of a pair and of a link, the fates of a codeword received, and what a loss, a credit return and a
reservation do. -/
theorem flitsMove : Obligations.FlitsMove := by
  intro s i j
  refine ⟨fun a l ls y ha hl hy lane hlane => ⟨fun ht => ?_, fun ht u due hu hdue => ⟨fun g hg => ?_, fun hd hn => ?_,
      fun hd => ⟨fun v hv => ?_, fun hctl hn => ?_, fun hctl v w hw => ?_⟩⟩⟩,
    fun x hx => ?_, fun lv hc => ?_, fun lv f n h vcs hc hh hvcs => ⟨fun ht => ?_, fun ht hd => ?_, fun ht hpos hlt => ?_⟩,
    fun x lv hx hst hc hrs => ?_, fun vc st h l m hheld nx hnx hm => ?_, fun l ls hl howe hgr => ?_, fun g vc hq hup => ?_⟩
  · exact congrArg Host.Outcome.next (State.pairSlot_taken ha hl hy hlane ht)
  · have hd : due ≠ [] := by rintro rfl; cases hg
    exact congrArg Host.Outcome.next ((State.pairSlot_reserved ha hl hy hlane ht hu hdue hd).trans (by rw [hg]; rfl))
  · exact congrArg Host.Outcome.next ((State.pairSlot_reserved ha hl hy hlane ht hu hdue hd).trans (by rw [hn]; rfl))
  · exact congrArg Host.Outcome.next ((State.pairSlot_open ha hl hy hlane ht hu hdue hd).trans (by rw [hv]; rfl))
  · exact congrArg Host.Outcome.next ((State.pairSlot_open ha hl hy hlane ht hu hdue hd).trans (by rw [hctl, hn]; rfl))
  · exact congrArg Host.Outcome.next ((State.pairSlot_open ha hl hy hlane ht hu hdue hd).trans (by rw [hctl, hw]; rfl))
  · exact congrArg Host.Outcome.next (State.linkSlot_silent hx)
  · exact congrArg Host.Outcome.next (State.pairReceive_lost rfl hc)
  · exact congrArg Host.Outcome.next (State.pairReceive_null rfl hc hh ht)
  · exact congrArg Host.Outcome.next (State.pairReceive_delivers rfl rfl hc hh hvcs ht hd)
  · exact congrArg Host.Outcome.next (State.pairReceive_holds rfl rfl hc hh hvcs ht hpos hlt)
  · exact congrArg Host.Outcome.next (State.linkReceive_lost hx hst hc hrs)
  · exact show execFlitLossTimeout (.pair i j) vc st s = _ from execFlitLossTimeout_skips rfl rfl rfl hheld hnx hm
  · exact show execCreditIdleReturn i j s = _ from execCreditIdleReturn_sends rfl hl howe hgr
  · exact show execMcastWaitReserve i g vc s = _ from execMcastWaitReserve_reserves hq hup

end Sys2Proof.Machine
end

section
/-!
The levels of a laser module: what a tap sample, an update of L, the end of an ADVISORY, a dark line and a poll do (R183, R188, R189,
R191, R196).
-/
namespace Sys2Proof.Machine

/-! ## Tap samples -/

section

variable {s u : State} {m : Fin 12} {b : Bool} {x : Int} {n : Lamp}
  (hn : n = { (s.laser m).lamp (b2n b) with samples := (x :: ((s.laser m).lamp (b2n b)).samples).take 100000 })
  (hu : u = s.setLaser m ((s.laser m).setLamp (b2n b) n))
include hn hu

/-- A sample of the other source acts only where it loses light in an EMERGENCY (R196). -/
theorem execLaserTapSample_other (hb : b2n b ≠ u.activeLamp m) : execLaserTapSample m b x s =
    .next (if u.modState m = 2 ∧ n.lost then u.darkModule m 0x0409 else u) := by
  subst hn hu
  exact (if_neg hb).trans (apply_ite Host.Outcome.next _ _ _).symm

variable (hb : b2n b = u.activeLamp m)
include hb

theorem execLaserTapSample_calm (he : u.emergency n = none) : execLaserTapSample m b x s = .next u := by
  subst hn hu
  exact (if_pos hb).trans (by rw [he])

/-- An emergency condition of the active source acts by the state of the module (R189, R195, R196). -/
theorem execLaserTapSample_emergency {c : Nat} (he : u.emergency n = some c) : execLaserTapSample m b x s =
    if u.modState m = 0 ∨ u.modState m = 1 then
      .next (if u.lampReady m (1 - b2n b) then u.startEmergency m c else u.settleLaser m)
    else if u.modState m = 3 then .next (u.darkModule m 0x0409) else .next u := by
  subst hn hu
  exact (if_pos hb).trans (by simp only [he, apply_ite Host.Outcome.next])

end

/-! ## Advisories and dark lines -/

/-- L at or above the clear level ends the ADVISORY (R189). -/
theorem execLaserAdvisoryClearTimer_clears {s : State} {m : Fin 12} {b : Bool} {x : Lamp} {p : Int}
    (hx : x = (s.laser m).lamp (b2n b)) (hp : x.p0 = some p) (ha : x.advisory = true) (hl : 0 < x.level.2)
    (hclear : (p - s.adv + 50) * x.level.2 ≤ x.level.1) : execLaserAdvisoryClearTimer m b s =
      .next (((s.setLaser m ((s.laser m).setLamp (b2n b) { x with advisory := false })).raise 0x0402 (laserDie m) [(1, m)]).settleLaser
        m) := by
  subst hx
  simp only [execLaserAdvisoryClearTimer, hp]
  exact if_pos ⟨ha, hl, hclear⟩

/-- A channel without light, not recorded yet, is a dark line while S is above the switch level (R191). -/
theorem execLineDarkDetect_records {s : State} {m : Fin 12} {c : Fin 32} {x : Lamp} {p : Int}
    (hx : x = (s.laser m).lamp (s.activeLamp m)) (hp : x.p0 = some p) (hshort : x.short ≠ [])
    (habove : avgLe x.short (p - s.sw) = false) (hdark : s.lineDark m c = true) (hnew : x.dark.contains c.val = false)
    (hm : s.modState m ≠ 4) : execLineDarkDetect m c s =
      .next (((s.setLaser m ((s.laser m).setLamp (s.activeLamp m) { x with dark := x.dark.add c })).raise 0x0408 (laserDie m)
        [(1, m), (1, c)]).settleLaser m) := by
  subst hx
  simp only [execLineDarkDetect, hp]
  exact if_pos (by simpa [hshort, habove, hdark, hm] using hnew)

/-! ## Polls -/

section

variable {s : State} {m : Fin 12} {r : CmisRead}

theorem execCmisPoll_unwatched (hroom : s.activeRoom = none) : execCmisPoll m r s = .next s :=
  if_pos (Option.isNone_iff_eq_none.2 hroom)

/-- A poll of a ready module leaves readiness `ok` and raises SUPPLY_MODULE_FAULT where that is lost (R183); a module that was ready
is not commissioned. -/
theorem execCmisPoll_ready {ok : Bool} {v : State} (hready : (s.laser m).ready = true) (hroom : s.activeRoom ≠ none)
    (hok : ok = if r.answered then r.moduleReady && !r.fault else decide (s.now + 1 < (s.laser m).heard + nsSec))
    (hv : v = (s.wr F.LSR_MOD_PRESENT m (b2n r.answered)).setLaser m { s.laser m with
      ready := ok, heard := if r.answered then s.now + 1 else (s.laser m).heard, log := (s.laser m).log ++ [(s.now, r)] }) :
    execCmisPoll m r s = .next (if ok then v.settleLaser m else (v.raise 0x040C (laserDie m) [(1, m)]).settleLaser m) := by
  have hok' : (if r.answered then r.moduleReady && !r.fault
      else (s.laser m).ready && !(!r.answered && decide ((s.laser m).heard + nsSec ≤ s.now + 1))) = ok := by
    cases hans : r.answered <;> simp [hok, hans, hready, ← decide_not]
  have hroom' : s.activeRoom.isNone = false := Option.isNone_eq_false_iff.2 (Option.isSome_iff_ne_none.2 hroom)
  subst hv
  simp only [execCmisPoll, hroom', hok']
  cases ok <;> simp [hready]

end

/-- Settles O33, from what a tap sample, an update of L, the end of an ADVISORY, a dark line and a poll do. -/
theorem laserLevels : Obligations.LaserLevels := by
  intro s m l
  refine ⟨fun b x n u hn hu => ⟨fun hb he => ?_, fun hb => ?_, fun c hb he => ?_⟩, fun v hv => ?_,
    fun b p hp ha hl hclear => ?_, fun c p hp hshort habove hdark hnew hm => ?_,
    fun r => ⟨fun hroom => ?_, fun hready hroom => ⟨fun hans v hv => ?_, fun hans v hv => ?_⟩⟩⟩
  · exact show execLaserTapSample m b x s = _ from execLaserTapSample_calm hn hu hb he
  · exact show execLaserTapSample m b x s = _ from execLaserTapSample_other hn hu hb
  · have hsample : exec (.laserTapSample m b x) s = _ := execLaserTapSample_emergency hn hu hb he
    refine ⟨fun hst => hsample.trans (if_pos hst), fun hst => ?_, fun hst => ?_⟩
    · exact hsample.trans ((if_neg (by omega)).trans (if_pos hst))
    · exact hsample.trans ((if_neg (by omega)).trans (if_neg (by omega)))
  · subst hv
    rfl
  · exact show execLaserAdvisoryClearTimer m b s = _ from execLaserAdvisoryClearTimer_clears rfl hp ha hl hclear
  · exact show execLineDarkDetect m c s = _ from execLineDarkDetect_records rfl hp hshort habove hdark hnew hm
  · exact show execCmisPoll m r s = _ from execCmisPoll_unwatched hroom
  · exact show execCmisPoll m r s = _ from execCmisPoll_ready hready hroom (by rw [if_pos hans]) (by simp [hv, hans, b2n, l])
  · have hpoll : exec (.cmisPoll m r) s = _ := execCmisPoll_ready hready hroom
      (ok := decide (s.now + 1 < l.heard + nsSec)) (by simp [hans, l]) (v := v) (by simp [hv, hans, b2n, l])
    simpa only [decide_eq_true_eq] using hpoll

end Sys2Proof.Machine
end

section
/-!
The switch of a laser module from one source to the other: hitless, in an emergency and for a removal (R192 to R196), and commissioning
(R197).
-/
namespace Sys2Proof.Machine

/-! ## Groups of a switch-over -/

section

variable {s u v : State} {m : Fin 12} {g : Nat} {r : List Nat}

theorem execSwitchOverStart_waiting (hp : (s.laser m).phase = 1) : execSwitchOverStart m s = .next (s.nextGroup m) := if_pos hp

section

variable (htodo : (s.laser m).todo = g :: r)
include htodo

section

variable (hp : (s.laser m).phase = 2)
include hp

/-- A drained group of a switch-over passes the other source and is then under test (R192). -/
theorem execSwitchGroupDrained_switches (hm : s.modState m ≠ 5) (hu : u = s.switchGroup m g (s.laser m).dest) :
    execSwitchGroupDrained m s = .next (u.setLaser m { u.laser m with phase := 3 }) := by
  subst hu
  simp only [execSwitchGroupDrained, htodo]
  exact (if_neg (not_not.2 hp)).trans (if_neg hm)

/-- A drained group of a removal keeps its source and the next one drains (R196). -/
theorem execSwitchGroupDrained_removes (hm : s.modState m = 5)
    (hu : u = s.switchGroup m g (b2n ((s.laser m).sel.contains g))) (hv : v = u.setLaser m { u.laser m with todo := r, phase := 0 }) :
    execSwitchGroupDrained m s = .next (if r = [] then v.wr F.LSR_MOD_REMOVE_OK m 1 else v.nextGroup m) := by
  subst hu hv
  simp only [execSwitchGroupDrained, htodo]
  exact (if_neg (not_not.2 hp)).trans (if_pos hm)

end

section

variable (hp : (s.laser m).phase = 3) (hm : s.modState m = 1) {failed : List LaneId}
include hp hm

theorem execSwitchGroupVerified_fails : execSwitchGroupVerified m failed false s = .next (s.failSwitch m) := by
  simp only [execSwitchGroupVerified, htodo]
  exact (if_neg (not_not.2 hp)).trans (if_pos ⟨hm, rfl⟩)

/-- A verified group is restored; after the last one the sources change places (R192, R196). -/
theorem execSwitchGroupVerified_passes (hu : u = s.verifyGroup m g failed)
    (hv : v = u.setLaser m { u.laser m with todo := r, phase := 0 }) : execSwitchGroupVerified m failed true s =
      .next (if r = [] then ((v.switched m).setModState m 0).settleLaser m else v.nextGroup m) := by
  subst hu hv
  simp only [execSwitchGroupVerified, htodo]
  refine (if_neg (not_not.2 hp)).trans ((if_neg fun h => Bool.false_ne_true h.2).trans ?_)
  by_cases hr : r = []
  · exact (if_neg (not_not.2 hr)).trans ((if_pos hm).trans (congrArg _ (if_pos hr).symm))
  · exact (if_pos hr).trans (congrArg _ (if_neg hr).symm)

end

end

/-! ## An emergency restored -/

section

variable (hm : s.modState m = 2) {failed : List LaneId}
include hm

theorem execEmergencyRestoreDone_single : execEmergencyRestoreDone m failed true s =
    .next ((((((laserGroups m).foldl (fun (t : State) g => t.restoreGroup m g) s).failLanes failed).switched m).setModState m 3).raise
      0x0407 (laserDie m) [(1, m)]) := (if_neg (not_not.2 hm)).trans (if_pos rfl)

theorem execEmergencyRestoreDone_dark : execEmergencyRestoreDone m failed false s = .next (s.darkModule m 0x0409) :=
  (if_neg (not_not.2 hm)).trans (if_neg Bool.false_ne_true)

end

/-! ## Insertion and commissioning -/

section

variable (hm : s.modState m = 4) (hroom : s.activeRoom ≠ none)
include hm hroom

theorem execLaserModuleInserted_commissions : execLaserModuleInserted m s =
    .next ((s.wr F.LSR_MOD_PRESENT m 1).setLaser m { s.laser m with commissioning := true }) :=
  if_pos ⟨hm, Option.isSome_iff_ne_none.2 hroom⟩

/-- The first test is of the source that PREFER names: `a` are the readings with source A, `b` those with source B (R197). -/
theorem execCommissioningDone_tests (hc : (s.laser m).commissioning = true) {a b : Option (List (LaneId × TestRead))}
    (hu : u = s.commission m a.isSome b.isSome) :
    execCommissioningDone m (if s.rd F.LSR_MOD_PREFER m = 0 then a else b) (if s.rd F.LSR_MOD_PREFER m = 0 then b else a) s =
      .next (if u.modState m = 4 then u
        else ((if u.activeLamp m = 0 then a else b).getD []).foldl (fun (t : State) e => t.judgeTest e.1 e.2 true) (u.passLanes m)) := by
  subst hu
  have hgo : ¬ (s.modState m ≠ 4 ∨ !(s.laser m).commissioning ∨ s.activeRoom.isNone) := by
    simpa [hm, hc, ← Option.ne_none_iff_isSome] using hroom
  refine (if_neg hgo).trans ?_
  by_cases hpre : s.rd F.LSR_MOD_PREFER m = 0 <;> simp only [hpre, if_true, if_false, apply_ite Host.Outcome.next]

end

end

/-- Settles O34, from the steps of a switch-over by what its first group is doing, and what the end of an emergency, an insertion and
commissioning do; a removal is its own equation. -/
theorem laserSwitching : Obligations.LaserSwitching := by
  intro s m l
  refine ⟨fun hp => ?_, fun g r htodo => ⟨fun hp hm u hu => ?_, fun hp hm u v hu hv => ?_,
      fun hp hm failed => ⟨?_, fun u v hu hv => ?_⟩⟩, fun hm failed => ⟨?_, ?_⟩, fun u hu => ?_, rfl,
    fun hm hroom => ⟨?_, fun hc a b u hu => ?_⟩⟩
  · exact show execSwitchOverStart m s = _ from execSwitchOverStart_waiting hp
  · exact show execSwitchGroupDrained m s = _ from execSwitchGroupDrained_switches htodo hp hm hu
  · exact show execSwitchGroupDrained m s = _ from execSwitchGroupDrained_removes htodo hp hm hu hv
  · exact show execSwitchGroupVerified m failed false s = _ from execSwitchGroupVerified_fails htodo hp hm
  · exact show execSwitchGroupVerified m failed true s = _ from execSwitchGroupVerified_passes htodo hp hm hu hv
  · exact show execEmergencyRestoreDone m failed true s = _ from execEmergencyRestoreDone_single hm
  · exact show execEmergencyRestoreDone m failed false s = _ from execEmergencyRestoreDone_dark hm
  · subst hu
    rfl
  · exact show execLaserModuleInserted m s = _ from execLaserModuleInserted_commissions hm hroom
  · exact show execCommissioningDone m _ _ s = _ from execCommissioningDone_tests hm hroom hc hu

end Sys2Proof.Machine
end

section
/-!
Memory homes: an access at its home (R210, R211, R217, R218), the patrol scrubs (R208, R214, R216), the refresh bands (R217) and the
retirement of pages (R218).
-/
namespace Sys2Proof.Machine

/-! ## An access at its home -/

section

variable {s : State} {a n : Nat}

/-- While an area's homes take nothing, reads wait as writes do (R217, R218). -/
theorem State.homeWaits_of_busy (w : Bool) (h : s.areaBusy a n = true) : s.homeWaits a n w = true := by
  rw [State.homeWaits, h, Bool.true_or]

theorem State.hbmRead_clean {st u : Nat} (h : ∀ k < n, s.bad (hbmUnitAt st (u + k)) = false) : s.hbmRead st u n [] = s := by
  have hnone : ((List.range n).map (u + ·)).filter (fun k => !(errOf [] k).isEmpty || s.bad (hbmUnitAt st k)) = [] := by
    simpa [errOf] using h
  simp only [State.hbmRead, hnone, List.map_nil, State.hbmUnits]

/-- An access without errors inside one clean unit of HBs leaves the stack as it is. -/
theorem State.homeErrs_cleanUnit {st off : Nat} (hl : s.locate a = .hbm st off) (hb : s.bad (hbmUnitAt st (off / 32)) = false)
    (hn : off % 32 + n ≤ 32) : s.homeErrs a n [] = s := by
  simp only [State.homeErrs, hl]
  refine State.hbmRead_clean fun k hk => ?_
  obtain rfl : k = 0 := by omega
  exact hb

/-- Without errors, an access elsewhere than in HBs meets none: only HBs shows a unit's poison as a syndrome (R214, R215). -/
theorem State.homeErrs_outside (hl : ∀ st off, s.locate a ≠ .hbm st off) : s.homeErrs a n [] = s := by
  cases h : s.locate a with
  | hbm st off => exact absurd h (hl st off)
  | sram | ioSram => simp only [State.homeErrs, h, State.sramRead, List.foldl_nil]
  | scratch | berth | moor | mirror | none => simp only [State.homeErrs, h]

end

section

variable {s : State} {a : BitVec 42} {op : HomeOp} {errs : List UnitErr} (hm : s.mapOk a.toNat (max (homeLen op) 1) (isWrite op) = true)
  (hl : s.liveOk a.toNat (max (homeLen op) 1) = true)
include hm hl

theorem execHomeAccess_waits (hw : s.homeWaits a.toNat (homeLen op) (isWrite op) = true) : execHomeAccess a op errs s =
    .next { s with mem := { s.mem with waiting := s.mem.waiting ++
      [⟨a.toNat, op, errs, if isWrite op then s.queuedOn a.toNat (homeLen op) else []⟩] } } :=
  (if_neg (by simp [hm, hl])).trans (if_pos hw)

theorem execHomeAccess_applies (hw : s.homeWaits a.toNat (homeLen op) (isWrite op) = false) :
    execHomeAccess a op errs s = .next ((s.homeErrs a.toNat (homeLen op) errs).homeApply a.toNat op) :=
  (if_neg (by simp [hm, hl])).trans (if_neg (ne_true_of_eq_false hw))

end

/-! ## Patrol scrubs -/

section

variable {s : State} {st unit : Nat} {err : List (Fin 34 × Byte)} {s0 s1 : Byte}

theorem rsSymbol_none_of_zero : rsSymbol 0 0 = none := if_pos (.inl rfl)

section

variable {scrub first : Bool} (h0 : s0 = (rsSyndrome err).1 ^^^ (if s.bad (hbmUnitAt st unit) then 0xA5 else 0)) (h1 : s1 = (rsSyndrome err).2)
include h0 h1

theorem State.hbmUnit_clean (hz0 : s0 = 0) (hz1 : s1 = 0) : s.hbmUnit st unit err scrub first = s := by
  subst h0 h1
  exact if_pos ⟨hz0, hz1⟩

theorem State.hbmUnit_corrected {j : Nat} (hj : rsSymbol s0 s1 = some j) : s.hbmUnit st unit err scrub first =
    ((s.unmark (hbmUnitAt st unit)).xorUnit st unit (err ++ [(Fin.ofNat 34 j, s0)])).hbmCorrected st unit j s0 s1 scrub first := by
  have hne : ¬(s0 = 0 ∧ s1 = 0) := by
    rintro ⟨rfl, rfl⟩
    exact nomatch hj
  subst h0 h1
  refine (if_neg hne).trans ?_
  simp only [hj]

theorem State.hbmUnit_uncorrectable (hne : s0 ≠ 0 ∨ s1 ≠ 0) (hj : rsSymbol s0 s1 = none) :
    s.hbmUnit st unit err scrub first = s.hbmUncorrectable st unit s0 s1 := by
  subst h0 h1
  refine (if_neg (by tauto)).trans ?_
  simp only [hj]

end

/-- A stack in service outside H3 is scrubbed (R216, R217). -/
theorem execHbmPatrolScrub_reads {st : Fin 12} {unit : BitVec 32} {err : List (Fin 34 × BitVec 8)}
    (hp : s.bit F.MEM_HBM_PRESENT st = true) (hr : s.bit F.MEM_HBM_RETIRED st = false) (hb : s.rd F.MEM_HBM_BAND st ≠ 3) :
    execHbmPatrolScrub st unit err s = .next (s.hbmUnit st unit.toNat err true true) :=
  if_pos ⟨hp, by simp [hr], hb⟩

end

section

variable {s u : State} {d off : Nat} {old : Rate} (hold : old = tget (fun _ => {}) s.mem.sramRate d)
include hold

/-- A single error of a cache die's SRAM is counted; up to 1,000 in a clock hour raise nothing (R216, R221, log entry 28). -/
theorem State.sramUnit_single (hu : u = { s with mem := { s.mem with sramRate := tput (fun _ => {}) s.mem.sramRate d (old.add nsHour s.now 1) } })
    (hn : (old.add nsHour s.now 1).n ≤ 1000) : s.sramUnit d off false true = u := by
  subst hold hu
  have hfew : ((tget (fun _ => ({} : Rate)) s.mem.sramRate d).add nsHour s.now 1).n ≠ 1001 := by omega
  simp [State.sramUnit, hfew]

/-- A double error in the direct part poisons its unit and draws the event's syndrome (R208, R216). -/
theorem State.sramUnit_double (hd : d < 12) (hu : u = { s with mem := { s.mem with sramRate := tput (fun _ => {}) s.mem.sramRate d old } })
    (ho : off < s.directBytes d) : s.sramUnit d off true false =
      (((u.mark (0x38000000000 + d * 0x20000000 + off)).drawn).raise 0x0602 (dieSD d) [(5, off), (2, u.freeVal.toNat % 65536), (1, 1)]) := by
  subst hold hu
  simp [State.sramUnit, ho, hd, sramDie]

end

/-- The SRAM of a cache die in service is scrubbed (R216). -/
theorem execSramPatrolScrub_reads {s : State} {d : Fin 12} {unit : BitVec 32} {double single : Bool}
    (hs : s.inService (dieSD d) = true) (ho : unit.toNat * 32 < 0x18000000) :
    execSramPatrolScrub (d.castLE (by decide)) unit double single s = .next (s.sramUnit d (unit.toNat * 32) double single) := by
  have hd := d.isLt
  refine if_neg ?_
  simp [sramDie, hs, ho]

/-! ## Refresh bands -/

section

variable {s u : State} {st : Fin 12} {t : BitVec 8} {old new : Nat} (hp : s.bit F.MEM_HBM_PRESENT st = true)
  (hr : s.bit F.MEM_HBM_RETIRED st = false) (hold : old = s.rd F.MEM_HBM_BAND st) (hnew : new = max (bandFor t.toNat) (bandDown old t.toNat))
  (hu : u = (s.wr F.MEM_HBM_TEMP st t.toNat).wr F.MEM_HBM_BAND st new)
include hp hr hold hnew hu

/-- What a temperature reading of a stack in service does, by the band before and after it (R217). -/
theorem execHbmTempRead_bands : execHbmTempRead st t s = if new = old then .next u else
    if new = 3 then .next ((u.raise 0x0605 (dieSD st) [(1, old), (1, new)]).raise 0x0606 (dieSD st) [])
    else if old = 3 then .next ((u.raise 0x0605 (dieSD st) [(1, old), (1, new)]).raise 0x0607 (dieSD st) []).resumeWaiting
    else .next (u.raise 0x0605 (dieSD st) [(1, old), (1, new)]) := by
  subst hold hu hnew
  exact if_neg (by simp [hp, hr])

end

/-! ## Page retirement -/

section

variable {s : State} {st : Fin 12} {k : Nat}

section

variable (hk : s.mem.queue.find? (fun k => k / 2 ^ 25 == st.val) = some k) (hf : tget (fun _ => 0) s.mem.retiring st = 0)
include hk hf

theorem execPageRetireStart_begins (hn : s.rd F.MEM_HBM_RETIRED_PAGES st < 4096) : execPageRetireStart st s = .next { s with mem := { s.mem with
    queue := s.mem.queue.erase k, retiring := tput (fun _ => 0) s.mem.retiring st (k % 2 ^ 25 + 1) } } := by
  simp only [execPageRetireStart, hk]
  exact (if_neg (not_not.2 hf)).trans (if_neg (by omega))

/-- Without a spare page the candidate stays in place and the stack says so once (R218, R225). -/
theorem execPageRetireStart_full (hn : 4096 ≤ s.rd F.MEM_HBM_RETIRED_PAGES st) (hfull : s.mem.full.contains st.val = false) :
    execPageRetireStart st s = .next ((({ s with mem := { s.mem with queue := s.mem.queue.erase k, full := s.mem.full.add st } } : State).raise
      0x0604 (dieSD st) []).setCond 4 true) := by
  simp only [execPageRetireStart, hk]
  exact (if_neg (not_not.2 hf)).trans ((if_pos hn).trans (if_neg (ne_true_of_eq_false hfull)))

end

theorem execPageRetireDone_remaps {p : Nat} {errs : List UnitErr} {u : State} (hp : tget (fun _ => 0) s.mem.retiring st = p + 1)
    (hu : u = s.hbmRead st (p * 128) 128 errs) : execPageRetireDone st errs s =
      .next ((({ u with mem := { u.mem with remap := u.mem.remap.add (pageKey st p), retiring := tput (fun _ => 0) u.mem.retiring st 0
                                            flashRows := u.mem.flashRows.add (pageKey st p) } } : State).bump F.MEM_HBM_RETIRED_PAGES st 1).raise
        0x0603 (dieSD st) [(5, p * 4096)]).resumeWaiting := by
  subst hu
  simp only [execPageRetireDone, hp]

end

/-- Settles O35, from what an access, a scrub, a temperature reading and a page's retirement do at a home. -/
theorem memoryHomes : Obligations.MemoryHomes := by
  intro s
  refine ⟨fun a op errs hm hl => ⟨execHomeAccess_waits hm hl, execHomeAccess_applies hm hl⟩,
    fun a n h => ⟨State.homeWaits_of_busy _ h, State.homeWaits_of_busy _ h⟩, fun a n h => ?_, fun a d => rfl,
    fun st unit hp hr hb err s0 s1 h0 h1 => ?_, fun d unit hs ho old hold u hu hn => ⟨?_, fun v hv hdir => ?_⟩,
    fun st t hp hr old new hold hnew u hu => ?_, fun st k hk hf => ⟨execPageRetireStart_begins hk hf, execPageRetireStart_full hk hf⟩,
    fun st p errs hp u hu => execPageRetireDone_remaps hp hu⟩
  · obtain ⟨st, off, hl, hb, hn⟩ | hl := h
    · exact State.homeErrs_cleanUnit hl hb hn
    · exact State.homeErrs_outside hl
  · have hscrub : exec (.hbmPatrolScrub st unit err) s = _ := execHbmPatrolScrub_reads hp hr hb
    exact ⟨fun hz0 hz1 => hscrub.trans (congrArg _ (State.hbmUnit_clean h0 h1 hz0 hz1)),
      fun j hj => hscrub.trans (congrArg _ (State.hbmUnit_corrected h0 h1 hj)),
      fun hne hj => hscrub.trans (congrArg _ (State.hbmUnit_uncorrectable h0 h1 hne hj))⟩
  · exact (execSramPatrolScrub_reads hs ho).trans (congrArg _ (State.sramUnit_single hold hu hn))
  · exact (execSramPatrolScrub_reads hs ho).trans (congrArg _ (State.sramUnit_double hold d.isLt hv hdir))
  · have hread : exec (.hbmTempRead st t) s = _ := execHbmTempRead_bands hp hr hold hnew hu
    exact ⟨fun h => hread.trans (if_pos h), fun h3 h => hread.trans ((if_neg h).trans (if_pos h3)),
      fun h3 h => hread.trans ((if_neg h).trans ((if_neg (h3 ▸ h)).trans (if_pos h3)))⟩

end Sys2Proof.Machine
end

section
/-!
Resets of the lower dies (R251 to R255), and the beats and replays of their vertical bundles (R231 to R234, R238, R240).
-/
namespace Sys2Proof.Machine

/-! ## A lower die through a reset -/

section

variable {s : State} {n : Fin 16}

theorem execDieSilentTimeout_forces (h : s.dieState n = 0) : execDieSilentTimeout n s = .next (s.forcedReset n) := if_pos h

theorem execDieClosingDrained_enters (h : s.dieState n = 1) (hd : s.dieDrained n = true) :
    execDieClosingDrained n s = .next (s.enterReset n) := if_pos ⟨h, hd⟩

theorem execDieClosingTimeout_enters (h : s.dieState n = 1) : execDieClosingTimeout n s = .next (s.enterReset n) := if_pos h

theorem execDieResetSequenceDone_returns (h : s.dieState n = 2) :
    execDieResetSequenceDone n s = .next (s.wr F.STK_DIE_STATE n 3) := if_pos h

/-- A forced reset of an OPEN die begins at once unless a cache die of its quadrant is in a reset (R251, R255). -/
theorem State.forcedReset_open (h : s.dieState n = 0) (hq : s.quadBusy n = false) :
    s.forcedReset n = (s.resetStart n true).enterReset n :=
  (if_neg (by omega)).trans ((if_neg (ne_true_of_eq_false hq)).trans (if_pos h))

/-- No check fails for the crossings of the die where none of a cache die's own misses calibration, or there is no cache die. -/
theorem returnCheck_of_crossingsPass {cal : List Crossing} (hc : 12 ≤ n.val ∨ cal.any (fun c => !crossingOk c && crossFixed c) = false)
    (f : Option (Fin 5)) : (if n.val < 12 ∧ cal.any (fun c => !crossingOk c && crossFixed c) = true then some 1 else f) = f :=
  if_neg fun ⟨hn, hbad⟩ => hc.elim (fun hge => absurd hn (by omega)) (fun hok => ne_true_of_eq_false hok hbad)

section

variable {tests : List (Fin 1536 × List (Fin 72))} {found : List StartTest} {cal : List Crossing} (h : s.dieState n = 3)
include h

/-- A crossing of the cache die itself that misses calibration is a failed check 1, whatever the others say (R252, R371). -/
theorem execDieReturnChecksDone_crossed (hn : n.val < 12) (hc : cal.any (fun c => !crossingOk c && crossFixed c) = true)
    (f : Option (Fin 5)) : execDieReturnChecksDone n f tests found cal s = .next (s.dieFailed n 1) := by
  refine (if_neg (not_not.2 h)).trans ?_
  simp only [hn, hc, and_self, if_true]
  rfl

section

variable (hc : 12 ≤ n.val ∨ cal.any (fun c => !crossingOk c && crossFixed c) = false)
include hc

theorem execDieReturnChecksDone_opens : execDieReturnChecksDone n none tests found cal s =
    .next (s.dieOpen n (tests.map (fun t => (t.1.val, t.2.map (·.val)))) found cal) := by
  refine (if_neg (not_not.2 h)).trans ?_
  rw [returnCheck_of_crossingsPass hc]

theorem execDieReturnChecksDone_fails (c : Fin 5) :
    execDieReturnChecksDone n (some c) tests found cal s = .next (s.dieFailed n c) := by
  refine (if_neg (not_not.2 h)).trans ?_
  rw [returnCheck_of_crossingsPass hc]

end

end

end

/-! ## Beats and replays of a bundle -/

section

variable {s u : State} {x : Fin 1536} {data : List Byte} {ctl crc : BitVec 16} (hx : s.bundleState x ≠ 2)
include hx

theorem execBundleBeatReceive_sideLost : execBundleBeatReceive x data ctl crc false s =
    .next ((s.setBundle x { s.bundle x with side := (s.bundle x).side.add 0 }).plan x) := (if_neg hx).trans (if_pos rfl)

/-- The first beat that fails is kept for its replay; each one that fails NAKs the number expected (R233, R234, log entry 92). -/
theorem execBundleBeatReceive_naks (hcrc : crc16 (data ++ leBytes 2 ctl.toNat) ≠ crc.toNat) : execBundleBeatReceive x data ctl crc true s =
    .next ((s.setBundle x (if (s.bundle x).nak.isSome then s.bundle x
      else { s.bundle x with nak := some (s.bundle x).next, failed := some (data, ctl.toNat) })).sendNak (bundlePartner x) (s.bundle x).next) :=
  (if_neg hx).trans ((if_neg Bool.noConfusion).trans (if_pos hcrc))

/-- The kept beats go out again, and the replay is counted in its clock second (R233, R240, log entry 28). -/
theorem execBundleNakReceive_replays (q : BitVec 6) : ∃ prev, ∀ u, u = ((s.setBundle x { s.bundle x with
      replay := (s.bundle x).replay.add nsSec s.now 1, replayPrev := prev }).resendFrom x q.toNat).disturbDie (bundleStack x) →
    execBundleNakReceive x q s =
      .next (if ((s.bundle x).replay.add nsSec s.now 1).n = 1001 then u.raise 0x0705 (dieSD (bundleStack x)) [] else u) :=
  ⟨_, fun _ hu => (if_neg hx).trans (hu ▸ rfl)⟩

section

variable (hcrc : crc16 (data ++ leBytes 2 ctl.toNat) = crc.toNat) (hu : u = s.takeWord x ctl.toNat)
include hcrc hu

/-- A good beat that brings no data in its turn says only what its control word says (R232). -/
theorem execBundleBeatReceive_noData
    (hc : ctl.toNat / 16384 = 0 ∨ ctl.toNat / 16384 = 3 ∨ ctl.toNat / 128 % 128 ≠ (u.bundle x).next) :
    execBundleBeatReceive x data ctl crc true s = .next (u.turnBundle (bundlePartner x)) := by
  subst hu
  exact (if_neg hx).trans ((if_neg Bool.noConfusion).trans ((if_neg (not_not.2 hcrc)).trans (if_pos (by omega))))

section

variable (hk : ctl.toNat / 16384 = 1 ∨ ctl.toNat / 16384 = 2) (hseq : ctl.toNat / 128 % 128 = (u.bundle x).next)
include hk hseq

theorem execBundleBeatReceive_delivers (hnak : (u.bundle x).nak = none) : execBundleBeatReceive x data ctl crc true s =
    .next ((u.takeBeat x data (ctl.toNat / 16384 == 2)).turnBundle (bundlePartner x)) := by
  subst hu
  refine (if_neg hx).trans ((if_neg Bool.noConfusion).trans ((if_neg (not_not.2 hcrc)).trans ((if_neg (by omega)).trans ?_)))
  simp only [hnak]

/-- The replay of a failed beat is compared with the copy that failed, and then delivered (R234). -/
theorem execBundleBeatReceive_compares {k : Nat} {f : List Byte × Nat} (hnak : (u.bundle x).nak = some k)
    (hf : (u.bundle x).failed = some f) : execBundleBeatReceive x data ctl crc true s =
      .next ((((u.setBundle x { u.bundle x with nak := none, failed := none }).compareCopy x f data ctl.toNat).takeBeat x data
        (ctl.toNat / 16384 == 2)).turnBundle (bundlePartner x)) := by
  subst hu
  refine (if_neg hx).trans ((if_neg Bool.noConfusion).trans ((if_neg (not_not.2 hcrc)).trans ((if_neg (by omega)).trans ?_)))
  simp only [hnak, hf]

end

end

end

/-- Settles O36, from the steps of a reset and what a bundle does with a beat and with a NAK. -/
theorem dieResets : Obligations.DieResets := by
  intro s n
  refine ⟨execDieSilentTimeout_forces, fun h => ⟨execDieClosingDrained_enters h, execDieClosingTimeout_enters h⟩,
    execDieResetSequenceDone_returns, fun h tests found cal => ⟨execDieReturnChecksDone_crossed h,
      fun hc => ⟨execDieReturnChecksDone_opens h hc, execDieReturnChecksDone_fails h hc⟩⟩,
    State.forcedReset_open, fun x hx => ⟨fun data ctl crc => execBundleBeatReceive_sideLost hx, fun data ctl crc hcrc u y last hu hy hlast =>
      ⟨fun hc => ?_, fun hk hseq => ⟨fun hnak => ?_, fun k f hnak hf => ?_⟩⟩, fun data ctl crc => execBundleBeatReceive_naks hx,
      fun q => ?_⟩⟩
  · subst hy
    exact execBundleBeatReceive_noData hx hcrc hu hc
  · subst hy hlast
    exact execBundleBeatReceive_delivers hx hcrc hu hk hseq hnak
  · subst hy hlast
    exact execBundleBeatReceive_compares hx hcrc hu hk hseq hnak hf
  · obtain ⟨prev, hprev⟩ := execBundleNakReceive_replays hx q
    exact ⟨prev, _, rfl, hprev _ rfl⟩

end Sys2Proof.Machine
end

section
/-!
The serial monitor: who serves a line (R519, R525), the unlock (R521 to R523), and the commands that need a scope (R524).
-/
namespace Sys2Proof.Machine

/-! ## Who serves a line -/

section

variable {s : State}

theorem State.monLine_handover (h : s.bit F.FWU_STATUS_HANDOVER = true) (c : MonCmd) :
    s.monLine c = { s with mon := { s.mon with waiting := s.mon.waiting ++ [c] } } := if_pos h

section

variable (hh : s.bit F.FWU_STATUS_HANDOVER = false)
include hh

theorem State.monLine_serves (c : MonCmd) : s.monLine c = s.monServe c := if_neg (ne_true_of_eq_false hh)

theorem State.monLine_unstaffed (hr : s.activeRoom = none) (c : MonCmd) : s.monLine c = s :=
  (State.monLine_serves hh c).trans (if_pos (Option.isNone_iff_eq_none.2 hr))

section

variable (hr : s.activeRoom.isSome = true)
include hr

theorem State.monLine_signature (bytes : List Byte) (sig : Bool) : s.monLine (.signature bytes sig) = s.monSignature bytes sig := by
  rw [State.monLine_serves hh, State.monServe, if_neg (by simpa using Option.isSome_iff_ne_none.1 hr)]

/-- With no signature awaited, a line does what its command says. -/
theorem State.monLine_does (hu : s.mon.unlock = none) (c : MonCmd) : s.monLine c = s.monDo c := by
  refine (State.monLine_serves hh c).trans ((if_neg (by simpa using Option.isSome_iff_ne_none.1 hr)).trans ?_)
  split
  · rfl
  · next h => exact nomatch hu.symm.trans h
  · rfl

end

end

/-! ## Registers read -/

theorem State.monRd_unaligned {off n : Nat} (h : off % 4 ≠ 0) : s.monRd off n = s.monErr 4 := if_pos (.inl h)

theorem State.monRd_word {off : Nat} (h : off % 4 = 0) (hlt : off < 0x4000000) :
    s.monRd off 1 = s.monOk [words [hex 8 off, hex 8 (s.regView off).toNat]] := if_neg (by omega)

/-! ## Challenge, unlock and session -/

theorem State.monChal_lockout {nc : BitVec 256} (h : s.bit F.MON_CTRL_LOCKOUT = true) : s.monChal nc = s.monErr 9 := if_pos (.inl h)

theorem State.monChal_shows {nc : BitVec 256} {u : State} (hl : s.bit F.MON_CTRL_LOCKOUT = false) (hh : s.unlockHeld = false)
    (hu : u = { s with mon := { s.mon with block := some (s.challenge nc), blockAt := s.now } }) :
    s.monChal nc = u.monOk [words (dataGroups ((s.challenge nc).take 32)), words (dataGroups ((s.challenge nc).drop 32))] := by
  subst hu
  exact if_neg (by simp [hl, hh])

section

variable {d : Bool} {m : Nat}

theorem State.monUnlock_range (h : m = 0 ∨ 240 < m) : s.monUnlock d m = s.monErr 4 := if_pos h

theorem State.monUnlock_asks (h1 : 1 ≤ m) (h240 : m ≤ 240) : s.monUnlock d m =
    ({ s with mon := { s.mon with unlock := some (if d then 2 else 1, m, []) } } : State).say ["SEND 5076"] := if_neg (by omega)

end

section

variable {scope minutes : Nat} {got data : List Byte} {u : State} (hu : s.mon.unlock = some (scope, minutes, got))
include hu

theorem State.monSignature_gathers (hd : data ≠ []) (g : Bool) : s.monSignature data g =
    { s with mon := { s.mon with unlock := some (scope, minutes, (got ++ data).take 5077) } } := by
  simp only [State.monSignature, hu, if_neg hd]

/-- An accepted signature over a whole and fresh block, no lockout being set, opens the session (R522). -/
theorem State.monSignature_opens (hgot : got.length = 5076) (hb : s.mon.block.isSome = true) (hfresh : s.now ≤ s.mon.blockAt + 60 * nsSec)
    (hl : s.bit F.MON_CTRL_LOCKOUT = false) (hv : u = { s with mon := { s.mon with block := none, unlock := none, scope := scope, fails := 0 } }) :
    s.monSignature [] true = ((u.wr F.MON_STATUS_SESSION 0 1).raise 0x0C20 s.fwSource [(1, scope), (1, minutes)]).monOk [] := by
  subst hv
  simp only [State.monSignature, hu, if_true]
  exact if_pos ⟨hgot, rfl, by simp [hb, hfresh], by simp [hl]⟩

theorem State.monSignature_rejects (hv : u =
    ({ s with mon := { s.mon with block := none, unlock := none, fails := s.mon.fails + 1, failAt := s.now + 1 } } : State).bump
      F.MON_STATUS_UNLOCK_FAIL 0 1) :
    s.monSignature [] false = (u.raise 0x0C21 s.fwSource [(2, u.rd F.MON_STATUS_UNLOCK_FAIL)]).monErr 10 := by
  subst hv
  simp only [State.monSignature, hu, if_true]
  exact if_neg (by simp)

end

theorem execMonSessionExpire_closed (h : s.mon.scope = 0) (idle : Bool) : execMonSessionExpire idle s = .next s := if_pos h

theorem execMonSessionExpire_locks (h : s.mon.scope ≠ 0) (idle : Bool) :
    execMonSessionExpire idle s = .next (s.monLock (if idle then 2 else 1)) := if_neg h

/-! ## Commands with a scope -/

theorem State.monWr_range {off : Nat} {v mask : Word} {env : FwEnv} (h : off % 4 ≠ 0) : s.monWr off v mask env = s.monErr 4 := if_pos (.inl h)

theorem State.monWr_writes {off : Nat} {v mask : Word} {env : FwEnv} {u : State} (ha : off % 4 = 0) (hlt : off < 0x4000000)
    (hu : u = (s.raise 0x0C23 s.fwSource [(1, 0), (4, off)]).portWrite (s.rd F.HST_CTRL_ACTIVE) off v mask true env) :
    s.monWr off v mask env = u.monOk [words [hex 8 off, hex 8 (u.regView off).toNat]] := by
  subst hu
  exact if_neg (by omega)

section

variable {n : Nat} {f : Bool}

theorem State.monDieReset_refused (h : s.bit F.GLB_START_DONE = false ∨ s.dieState n = 4) : s.monDieReset n f = s.monErr 5 :=
  if_pos (by simpa using h)

section

variable (hs : s.bit F.GLB_START_DONE = true)
include hs

theorem State.monDieReset_busy (h : s.dieState n = 2 ∨ s.dieState n = 3 ∨ (s.dieState n = 1 ∧ f = false)) :
    s.monDieReset n f = s.monErr 6 :=
  (if_neg (by simp [hs]; omega)).trans (if_pos (by simpa using h))

/-- An OPEN die takes either reset, a CLOSING one a forced reset (R251, R525). -/
theorem State.monDieReset_resets (h : s.dieState n = 0 ∨ (s.dieState n = 1 ∧ f = true)) : s.monDieReset n f =
    (if f then (s.raise 0x0C23 s.fwSource [(1, 3), (1, n)]).forcedReset n
      else (s.raise 0x0C23 s.fwSource [(1, 3), (1, n)]).orderlyReset n).monOk [] := by
  refine (if_neg (by simp [hs]; omega)).trans (if_neg ?_)
  obtain h | ⟨h, rfl⟩ := h <;> simp [h]

end

end

section

variable {lc : Nat}

theorem State.monCoreReset_refused (h : s.bit F.GLB_START_DONE = false ∨ (s.core lc).cstate ≠ .idle) : s.monCoreReset lc = s.monErr 5 :=
  if_pos (h.elim (fun h => .inl (by simp [h])) (fun h => .inr (.inl h)))

theorem State.monCoreReset_resets (hs : s.bit F.GLB_START_DONE = true) (hi : (s.core lc).cstate = .idle) (hb : (s.core lc).broken = false) :
    s.monCoreReset lc = ((s.raise 0x0C23 s.fwSource [(1, 4), (1, lc)]).resetCore lc).monOk [] :=
  if_neg (by simp [hs, hi, hb])

end

section

variable {p : Nat}

/-- Link 0 of a port is none that may be reset, at any time (R524). -/
theorem State.monLinkReset_range : s.monLinkReset p (some 0) = s.monErr 4 := if_pos rfl

theorem State.monLinkReset_refused {c : Option Nat} (hc : c ≠ some 0) (hs : s.bit F.GLB_START_DONE = false) :
    s.monLinkReset p c = s.monErr 5 := (if_neg hc).trans (if_pos (by simp [hs]))

theorem State.monLinkReset_one {k : Nat} (hk : k ≠ 0) (hs : s.bit F.GLB_START_DONE = true) : s.monLinkReset p (some k) =
    ((((s.raise 0x0C23 s.fwSource [(1, 5), (1, p)]).linkOff (32 * p + k) true).linkSettle (32 * p + k)).monOk []) :=
  (if_neg (by simpa using hk)).trans (if_neg (by simp [hs]))

end

section

variable {a : Nat}

theorem State.monMemrd_unaligned {n : Nat} (h : a % 8 ≠ 0) : s.monMemrd a n = s.monErr 4 := if_pos (.inl h)

theorem State.monMemwr_unaligned {data : List Byte} (h : a % 8 ≠ 0) : s.monMemwr a data = s.monErr 4 := if_pos (.inl h)

section

variable (hs : s.bit F.GLB_START_DONE = true) (ha : a % 8 = 0)
include hs ha

/-- MEMRD prints a line for each unit it touches (R215, R524). -/
theorem State.monMemrd_prints {n : Nat} (hn : n % 8 = 0) (h0 : n ≠ 0) (hmax : n ≤ 4096) (hok : s.monArea a n false = 0) :
    ∃ lines, s.monMemrd a n = (s.raise 0x0C23 s.fwSource [(1, 6), (8, a)]).monOk lines ∧ lines.length = (touchedUnits a n).length :=
  ⟨_, (if_neg (by omega)).trans ((if_neg (by simp [hs])).trans (if_neg (not_not.2 hok))), List.length_map _⟩

theorem State.monMemwr_stores {data : List Byte} (hmin : 8 ≤ data.length) (hmax : a % 64 + data.length ≤ 64)
    (hok : s.monArea a data.length true = 0) :
    s.monMemwr a data = ((s.raise 0x0C23 s.fwSource [(1, 7), (8, a)]).store a data).monOk [] :=
  (if_neg (by omega)).trans ((if_neg (by simp [hs])).trans (if_neg (not_not.2 hok)))

end

end

end

/-! ## The commands of a session -/

section

variable {s : State} (does : ∀ c, s.monLine c = s.monDo c)
include does

/-- The next state of a command is the one that the command's own function gives, once the line is served. -/
theorem exec_of_monDo {i : Instr} {t : State} (c : MonCmd) (hi : exec i s = .next (s.monLine c)) (h : s.monDo c = t) :
    exec i s = .next t := by
  rw [hi, does, h]

/-- A command whose scope the session has not is LOCKED (R523, R524). -/
theorem exec_locked {i : Instr} {k : Nat} (c : MonCmd) (f : State → State) (hi : exec i s = .next (s.monLine c))
    (hc : s.monDo c = s.monScoped k f) (h : s.mon.scope < k) : exec i s = .next (s.monErr 3) :=
  exec_of_monDo does c hi (hc.trans (if_pos h))

theorem exec_granted {i : Instr} {k : Nat} {t : State} (c : MonCmd) (f : State → State) (hi : exec i s = .next (s.monLine c))
    (hc : s.monDo c = s.monScoped k f) (h : k ≤ s.mon.scope) (e : f s = t) : exec i s = .next t :=
  exec_of_monDo does c hi (hc.trans ((if_neg (Nat.not_lt.2 h)).trans e))

/-- Each command that only reads prints its lines (R520). -/
theorem exec_readCommands (off : BitVec 32) (n : Nat) (l : Option (Fin 24)) (e : Fin 16) : ∀ c ∈ [(Instr.help, s.monHelp), (.info, s.monInfo),
    (.inv, s.monInv), (.rd off n, s.monRd off.toNat n), (.status, s.monStatus), (.events n, s.monEvents n), (.thermal, s.monThermal),
    (.power, s.monPower), (.links l, s.monLinks (l.map (·.val))), (.fabric e, s.monFabric e), (.laser, s.monLaser), (.time, s.monTime)],
    exec c.1 s = .next c.2 := by
  have ran {i : Instr} (c : MonCmd) (hi : exec i s = .next (s.monLine c)) := exec_of_monDo does c hi rfl
  simp only [List.forall_mem_cons, List.not_mem_nil, false_implies, implies_true, and_true]
  exact ⟨ran .help rfl, ran .info rfl, ran .inv rfl, ran (.rd off n) rfl, ran .status rfl, ran (.events n) rfl, ran .thermal rfl, ran .power rfl,
    ran (.links l) rfl, ran (.fabric e) rfl, ran .laser rfl, ran .time rfl⟩

section

variable {a : BitVec 64} {n : Nat} {data : List (BitVec 8)}

theorem exec_debugCommands_locked (h : s.mon.scope < 2) :
    exec (.memrd a n) s = .next (s.monErr 3) ∧ exec (.memwr a data) s = .next (s.monErr 3) :=
  ⟨exec_locked does (.memrd a n) (·.monMemrd a.toNat n) rfl rfl h, exec_locked does (.memwr a data) (·.monMemwr a.toNat data) rfl rfl h⟩

theorem exec_sessionCommands_locked (h : s.mon.scope = 0) {off v mask : BitVec 32} {env : FwEnv} {st : Fin 16} {lc : Fin 192} {pt : Fin 24}
    (cold f : Bool) (k : Option (Fin 32)) : ∀ c ∈ [Instr.wr off v mask env, .save env, .reset cold, .diereset st f, .corereset lc,
      .linkreset pt k, .memrd a n, .memwr a data], exec c s = .next (s.monErr 3) := by
  have h1 : s.mon.scope < 1 := by omega
  obtain ⟨hrd, hwr⟩ := exec_debugCommands_locked does (a := a) (n := n) (data := data) (by omega)
  simp only [List.forall_mem_cons, List.not_mem_nil, false_implies, implies_true, and_true]
  exact ⟨exec_locked does (.wr off v mask env) (·.monWr off.toNat v mask env) rfl rfl h1, exec_locked does (.save env) (·.monSave env) rfl rfl h1,
    exec_locked does (.reset cold) (·.monReset cold) rfl rfl h1, exec_locked does (.diereset st f) (·.monDieReset st f) rfl rfl h1,
    exec_locked does (.corereset lc) (·.monCoreReset lc) rfl rfl h1,
    exec_locked does (.linkreset pt k) (·.monLinkReset pt (k.map (·.val))) rfl rfl h1, hrd, hwr⟩

end

section

variable {t : State} (h : 1 ≤ s.mon.scope)
include h

theorem exec_wr {off v mask : BitVec 32} {env : FwEnv} (e : s.monWr off.toNat v mask env = t) : exec (.wr off v mask env) s = .next t :=
  exec_granted does (.wr off v mask env) (·.monWr off.toNat v mask env) rfl rfl h e

theorem exec_save {env : FwEnv} (e : s.monSave env = t) : exec (.save env) s = .next t :=
  exec_granted does (.save env) (·.monSave env) rfl rfl h e

theorem exec_reset {cold : Bool} (e : s.monReset cold = t) : exec (.reset cold) s = .next t :=
  exec_granted does (.reset cold) (·.monReset cold) rfl rfl h e

theorem exec_diereset {st : Fin 16} {f : Bool} (e : s.monDieReset st f = t) : exec (.diereset st f) s = .next t :=
  exec_granted does (.diereset st f) (·.monDieReset st f) rfl rfl h e

theorem exec_corereset {lc : Fin 192} (e : s.monCoreReset lc = t) : exec (.corereset lc) s = .next t :=
  exec_granted does (.corereset lc) (·.monCoreReset lc) rfl rfl h e

theorem exec_linkreset {pt : Fin 24} {k : Option (Fin 32)} (e : s.monLinkReset pt (k.map (·.val)) = t) : exec (.linkreset pt k) s = .next t :=
  exec_granted does (.linkreset pt k) (·.monLinkReset pt (k.map (·.val))) rfl rfl h e

end

section

variable {t : State} (h : s.mon.scope = 2)
include h

theorem exec_memrd {a : BitVec 64} {n : Nat} (e : s.monMemrd a.toNat n = t) : exec (.memrd a n) s = .next t :=
  exec_granted does (.memrd a n) (·.monMemrd a.toNat n) rfl rfl h.ge e

theorem exec_memwr {a : BitVec 64} {data : List (BitVec 8)} (e : s.monMemwr a.toNat data = t) : exec (.memwr a data) s = .next t :=
  exec_granted does (.memwr a data) (·.monMemwr a.toNat data) rfl rfl h.ge e

end

end

/-- Settles O55, from who serves a line, and what each command does in a session that has its scope. -/
theorem monitorCommands : Obligations.MonitorCommands := by
  intro s off v mask n env st lc pt a data
  refine ⟨fun k c hc hh => ?_, fun hh hr => ?_, fun hh hr hu => ?_,
    fun hh hr scope minutes got hu => ⟨fun hd g => ?_, fun hgot hb hf hl u hv => ?_, fun u hv => ?_⟩,
    fun h idle => execMonSessionExpire_closed h idle, fun h => ⟨execMonSessionExpire_locks h true, execMonSessionExpire_locks h false⟩⟩
  · revert c
    simp only [List.forall_mem_cons, List.not_mem_nil, false_implies, implies_true, and_true]
    exact ⟨congrArg _ (State.monLine_handover hh _), congrArg _ (State.monLine_handover hh _), congrArg _ (State.monLine_handover hh _)⟩
  · exact ⟨congrArg _ (State.monLine_unstaffed hh hr .help), congrArg _ (State.monLine_unstaffed hh hr (.memwr a data))⟩
  · have does := State.monLine_does hh hr hu
    refine ⟨exec_readCommands does off n, State.monRd_unaligned (by decide), State.monRd_word rfl (by decide),
      fun nc => ⟨fun hl => ?_, fun hl hf u hv => ?_⟩, exec_of_monDo does .lock rfl rfl, fun d m => ⟨fun hm => ?_, fun h1 h240 => ?_⟩,
      exec_of_monDo does (.unknown .malformed) rfl rfl, exec_of_monDo does (.unknown .unknown) rfl rfl,
      exec_of_monDo does (.unknown .overrun) rfl rfl, fun h => exec_sessionCommands_locked does h, exec_debugCommands_locked does,
      fun h => ⟨fun ha hlt u hv => exec_wr does h (State.monWr_writes ha hlt hv), fun ha => exec_wr does h (State.monWr_range ha),
        exec_save does h rfl, exec_reset does h rfl, exec_reset does h rfl, fun hs f k => ⟨?_, ?_, ?_, fun hk => ?_⟩,
        fun hs => ⟨fun hd => ⟨?_, ?_⟩, fun hd => ⟨?_, ?_⟩, fun hd f => ?_, fun hd f => ?_, fun hi hb => ?_, fun hi => ?_,
          fun k hk u hv => ?_⟩⟩,
      fun h => ⟨fun ha => ⟨exec_memrd does h (State.monMemrd_unaligned ha), exec_memwr does h (State.monMemwr_unaligned ha)⟩,
        fun hs ha => ⟨fun hn h0 hmax hok => ?_, fun hmin hmax hok => exec_memwr does h (State.monMemwr_stores hs ha hmin hmax hok)⟩⟩⟩
    · exact exec_of_monDo does (.chal nc) rfl (State.monChal_lockout hl)
    · exact exec_of_monDo does (.chal nc) rfl (State.monChal_shows hl hf hv)
    · exact exec_of_monDo does (.unlock d m) rfl (State.monUnlock_range (hm.imp_left (congrArg BitVec.toNat)))
    · exact exec_of_monDo does (.unlock d m) rfl (State.monUnlock_asks h1 h240)
    · exact exec_diereset does h (State.monDieReset_refused (.inl hs))
    · exact exec_corereset does h (State.monCoreReset_refused (.inl hs))
    · exact exec_linkreset does h (State.monLinkReset_refused (by decide) hs)
    · exact hk ▸ exec_linkreset does h State.monLinkReset_range
    · exact exec_diereset does h (State.monDieReset_resets hs (.inl hd))
    · exact exec_diereset does h (State.monDieReset_resets hs (.inl hd))
    · exact exec_diereset does h (State.monDieReset_resets hs (.inr ⟨hd, rfl⟩))
    · exact exec_diereset does h (State.monDieReset_busy hs (.inr (.inr ⟨hd, rfl⟩)))
    · exact exec_diereset does h (State.monDieReset_busy hs (hd.imp_right .inl))
    · exact exec_diereset does h (State.monDieReset_refused (.inr hd))
    · exact exec_corereset does h (State.monCoreReset_resets hs hi hb)
    · exact exec_corereset does h (State.monCoreReset_refused (.inr hi))
    · exact hv ▸ exec_linkreset does h (State.monLinkReset_one (Fin.val_ne_zero_iff.2 hk) hs)
    · obtain ⟨lines, hlines, hlen⟩ := State.monMemrd_prints hs ha hn h0 hmax hok
      exact ⟨lines, exec_memrd does h hlines, hlen⟩
  · exact congrArg _ ((State.monLine_signature hh hr _ _).trans (State.monSignature_gathers hu hd g))
  · exact congrArg _ ((State.monLine_signature hh hr _ _).trans (State.monSignature_opens hu hgot hb hf hl hv))
  · exact congrArg _ ((State.monLine_signature hh hr _ _).trans (State.monSignature_rejects hu hv))

end Sys2Proof.Machine
end

section
/-!
Repairs of a vertical bundle: a spare takes a worn lane's place (R236), a bundle narrows or its pair retires (R237, R238), and the remap
pause in which the widths of a direction change (R242, R244).
-/
namespace Sys2Proof.Machine

/-! ## A spare takes a worn lane's place -/

section

variable {s : State} {x l p : Nat}

/-- The spare chosen is the lowest-numbered one, the head of the list (R236). -/
theorem State.pauseSpare_pauses {q : List Nat} (hst : s.bundleState x ≠ 2) (hp : (s.bundle x).pause = 0) (hr : s.inRemap x = false)
    (hw : (s.bundle x).worn = some l) (hl : l < 68) (hs : s.spares x = p :: q) : s.pauseSpare x =
      ((s.setBundle x { s.bundle x with pause := 1, spare := some p, drained := false }).sendControl x 0).disturbDie (bundleStack x) := by
  have may : ¬(s.bundleState x = 2 ∨ (s.bundle x).pause ≠ 0 ∨ s.inRemap x = true) := by simp [hst, hp, hr]
  refine (if_neg may).trans ?_
  simp only [hw, if_pos hl, hs, List.head?_cons]

theorem State.resumeBundle_resumes (hp : (s.bundle x).pause = 4) : s.resumeBundle x =
    ((s.bundle x).wait.foldl (fun (t : State) l => t.needLane x l) (s.setBundle x { s.bundle x with pause := 0, wait := [] })).turnBundle x :=
  if_neg (not_not.2 hp)

end

section

variable {s : State} {x : Fin 1536}

theorem execVbSubstitutionDrained_drains (hp : (s.bundle x).pause = 1) :
    execVbSubstitutionDrained x s = .next (s.setBundle x { s.bundle x with drained := true }) := if_pos hp

variable {l p : Nat} (hw : (s.bundle x).worn = some l) (hs : (s.bundle x).spare = some p) (hp : (s.bundle x).pause = 1)
  (hd : (s.bundle x).drained = true) (hl : l < 68)
include hw hs hp hd hl

/-- The spare stands where the worn lane stood, and RESUME goes out (R236). -/
theorem execVbSpareTrainDone_spares : execVbSpareTrainDone x true s =
    .next ((((s.setBundle x { s.bundle x with
      bind := (s.bundle x).bound.map (fun y => if y = l then p else y), pause := 4, drained := false, worn := none, spare := none
      }).showBundle x).sendControl x 3).raise 0x0701 (dieSD (bundleStack x)) [(1, bundlePair x), (1, bundleDir x), (1, l), (1, p)]) := by
  simp [execVbSpareTrainDone, hw, hs, hp, hd, hl]

/-- A spare that fails is worn too; where it was the last, the bundle gets a plan (R236, R237). -/
theorem execVbSpareTrainDone_fails (hlane : p < 68) {u v : State}
    (hu : u = ({ s with stack := { s.stack with wornFlash := s.stack.wornFlash.add (x * 128 + p) } } : State).setBundle x
      { s.bundle x with bad := (s.bundle x).bad.add p, pause := 4, drained := false, spare := none })
    (hv : v = (u.showBundle x).sendControl x 3) :
    execVbSpareTrainDone x false s = .next (if u.spares x = [] then v.plan x else v) := by
  subst hu hv
  simp [execVbSpareTrainDone, hw, hs, hp, hd, hl, hlane, apply_ite Host.Outcome.next]

end

/-! ## A planned narrowing or retirement pauses -/

section

variable {s : State} {x : Nat} (hp : (s.bundle x).pause = 0)
include hp

theorem State.pauseHalf_pauses (hplan : (s.bundle x).plan = 1 ∨ (s.bundle x).plan = 2) : s.pauseHalf x =
    ((s.setBundle x { s.bundle x with pause := 2 }).sendControl x 1).disturbDie (bundleStack x) := if_pos ⟨hplan, hp⟩

/-- Both bundles of the pair pause, each with its control word (R238). -/
theorem State.pauseRetire_pauses (hplan : (s.bundle x).plan = 3) {u : State} (hu : u = s.setBundle x { s.bundle x with pause := 3 }) :
    s.pauseRetire x = (((u.setBundle (bundlePartner x) { u.bundle (bundlePartner x) with pause := 3 }).sendControl x 2).sendControl
      (bundlePartner x) 2).disturbDie (bundleStack x) := by
  subst hu
  exact if_pos ⟨hplan, hp⟩

end

/-! ## The remap pause of a direction -/

section

variable {s : State} {n : Fin 12} {up : Bool}

theorem execVbRemapPauseStart_begins (hk : s.stack.remap.contains (2 * n.val + b2n up) = false)
    (hsub : (dirBundles n (b2n up)).any (fun y => (s.bundle y).pause == 1) = false)
    (hplan : (dirBundles n (b2n up)).any (fun y => (s.bundle y).plan != 0) = true) : execVbRemapPauseStart n up s =
      .next (({ s with stack := { s.stack with remap := s.stack.remap.add (2 * n.val + b2n up) } } : State).disturbDie n) :=
  if_neg (by rw [hk, hsub, hplan]; decide)

variable (hk : s.stack.remap.contains (2 * n.val + b2n up) = true)
include hk

theorem execVbRemapDrained_ends (hpair : s.pairLeaves n = false) : execVbRemapDrained n up s = .next (s.endRemap n [b2n up]) :=
  (if_neg (by rw [hk]; decide)).trans (if_pos (by rw [hpair]; decide))

/-- Where a pair leaves, the direction `o` that drains second ends the pauses of both (R238, R242). -/
theorem execVbRemapDrained_waits (hpair : s.pairLeaves n = true) {o : Nat} (ho : o = 2 * n.val + (1 - b2n up)) :
    execVbRemapDrained n up s =
      .next (if s.stack.remap.contains o = true ∧ s.stack.remap.contains (24 + o) = true then s.endRemap n [0, 1]
        else { s with stack := { s.stack with remap := s.stack.remap.add (24 + (2 * n.val + b2n up)) } }) := by
  subst ho
  exact (if_neg (by rw [hk]; decide)).trans ((if_neg (by rw [hpair]; decide)).trans (apply_ite Host.Outcome.next _ _ _).symm)

end

/-- Settles O37, from the steps of a substitution, the two planned pauses, and the beginning and end of a remap pause. -/
theorem bundleRepair : Obligations.BundleRepair := by
  intro s x
  refine ⟨fun l p q hst hp hr hw hl hs => congrArg _ (State.pauseSpare_pauses hst hp hr hw hl hs), execVbSubstitutionDrained_drains,
    fun l p hw hs hp hd hl => ⟨execVbSpareTrainDone_spares hw hs hp hd hl,
      fun hlane u hu v hv => execVbSpareTrainDone_fails hw hs hp hd hl hlane hu hv⟩,
    fun hp => congrArg _ (State.resumeBundle_resumes hp), fun hp hplan => congrArg _ (State.pauseHalf_pauses hp hplan),
    fun hp hplan u hu => congrArg _ (State.pauseRetire_pauses hp hplan hu),
    fun n up => ⟨execVbRemapPauseStart_begins,
      fun hk => ⟨execVbRemapDrained_ends hk, fun hpair o ho => execVbRemapDrained_waits hk hpair ho⟩⟩,
    fun n ds xs u v hxs hu hv => ?_⟩
  subst hxs hu hv
  rfl

end Sys2Proof.Machine
end

section
/-!
Training of a port link from ALIGN to ACTIVE, its pauses and its returns to DARK (R284, R286, R287, R289): what each event does in the
state of the link that it belongs to.
-/
namespace Sys2Proof.Machine

/-! ## ALIGN and IDENT -/

section

variable {s : State} {x : Nat}

theorem State.linkAlign_align (h : s.linkState x = 2) : s.linkAlign x =
    ((s.setLinkState x 3).setLink x { s.link x with ident := false, acked := false }).sendCtl x (s.identData 1 x) := if_pos h

/-- A TRAIN_IDENT that passes the check of R286 is acknowledged with its own fields. -/
theorem State.identIn_passes {f : TrainFields} (h : s.linkState x = 3) (hok : s.identOk x f = true) : s.identIn x f =
    ((s.setLink x { s.link x with ident := true, newBoot := f.bootId.toNat }).sendCtl x (trainBytes 2 f)).toTest x :=
  (if_pos h).trans (if_pos hok)

/-- WIRING_FAULT carries what the far end said of itself (R289). -/
theorem State.identIn_fails {f : TrainFields} (h : s.linkState x = 3) (hok : s.identOk x f = false) : s.identIn x f =
    (s.setLinkState x 8).raise 0x0503 (dieIO (x / 192)) (linkData x ++
      [(2, f.device.toNat), (1, f.port.toNat), (1, b2n f.spine + 2 * b2n f.multi), (1, f.version.toNat)]) :=
  (if_pos h).trans (if_neg (ne_true_of_eq_false hok))

end

section

variable {s : State} {x : Fin 768} (h : s.linkState x = 3)
include h

theorem execTrainIdentResend_ident : execTrainIdentResend x s = .next (s.sendCtl x (s.identData 1 x)) := if_pos h

theorem execIdentTimeout_ident : execIdentTimeout x s =
    .next ((s.setLinkState x 2).setLink x { s.link x with ident := false, acked := false }) := if_pos h

theorem execTrainAck_ident (f : TrainFields) : execTrainAck x f s =
    .next ((s.setLink x { s.link x with acked := true }).toTest x) := if_pos h

end

/-! ## TEST and CREDIT -/

section

variable {s : State} {x : Fin 768}

section

variable (h : s.linkState x = 4)
include h

theorem execLinkTestDone_passes : execLinkTestDone x true true s =
    .next ((s.setLink x { s.link x with fails := 0, steps := 0 }).toCredit x) :=
  (if_neg (not_not.2 h)).trans (if_pos ⟨rfl, rfl⟩)

section

variable {here far : Bool} (hf : (here && far) = false)
include hf

/-- The first failure in a row makes the link train again (R287). -/
theorem execLinkTestDone_failsFirst (hn : (s.link x).fails = 0) : execLinkTestDone x here far s =
    .next (((s.setLink x { s.link x with fails := 1 }).linkDark x).linkSettle x) := by
  refine (if_neg (not_not.2 h)).trans ((if_neg (by simpa using hf)).trans ?_)
  simp only [hn]
  exact if_pos (by decide)

/-- After the substitutions at both ends no repair is left (R287). -/
theorem execLinkTestDone_failsLast (hn : 3 ≤ (s.link x).fails) : execLinkTestDone x here far s =
    .next ((s.setLink x { s.link x with fails := (s.link x).fails + 1 }).linkFault x) := by
  refine (if_neg (not_not.2 h)).trans ((if_neg (by simpa using hf)).trans ?_)
  exact (if_neg (by omega)).trans ((if_neg (by omega)).trans (if_neg (by omega)))

end

end

section

variable (req rsp bulk ctl : BitVec 8)

theorem execCreditInit_credit (h : s.linkState x = 5) : execCreditInit x req rsp bulk ctl s =
    .next (s.linkActive x [req.toNat, rsp.toNat, bulk.toNat, ctl.toNat]) := if_pos h

theorem execCreditInit_test (h : s.linkState x = 4) : execCreditInit x req rsp bulk ctl s =
    .next (s.setLink x { s.link x with initIn := some [req.toNat, rsp.toNat, bulk.toNat, ctl.toNat] }) :=
  (if_neg (by omega)).trans (if_pos h)

end

/-! ## ACTIVE and PAUSED -/

theorem execLanePause_active (r : BitVec 8) (h : s.linkState x = 6) : execLanePause x r s =
    .next ((s.setLinkState x 7).setLink x { s.link x with pausedHere := false }) := if_pos h

section

variable (h : s.linkState x = 7)
include h

theorem execLaneResume_passes : execLaneResume x true s =
    .next (((s.setLinkState x 6).setLink x { s.link x with pausedHere := false }).linkShut x) := (if_pos h).trans (if_pos rfl)

theorem execLaneResume_fails : execLaneResume x false s = .next ((s.linkDark x).linkSettle x) :=
  (if_pos h).trans (if_neg Bool.false_ne_true)

theorem execPausedTimeout_paused : execPausedTimeout x s = .next ((s.linkDark x).linkSettle x) := if_pos h

end

end

/-- Settles O38, from what each event does in the state of the link that it belongs to. -/
theorem linksTrain : Obligations.LinksTrain := by
  intro s x
  exact ⟨fun h => congrArg _ (State.linkAlign_align h),
    fun h => ⟨execTrainIdentResend_ident h, execIdentTimeout_ident h, fun f => ⟨fun hok => congrArg _ (State.identIn_passes h hok),
      fun hok => congrArg _ (State.identIn_fails h hok), execTrainAck_ident h f⟩⟩,
    fun h => ⟨execLinkTestDone_passes h, fun _ _ hf => ⟨execLinkTestDone_failsFirst h hf, execLinkTestDone_failsLast h hf⟩⟩,
    fun rq rs b c => ⟨execCreditInit_credit rq rs b c, execCreditInit_test rq rs b c⟩,
    execLanePause_active,
    fun h => ⟨execLaneResume_passes h, execLaneResume_fails h, execPausedTimeout_paused h⟩⟩

end Sys2Proof.Machine
end

section
/-!
Beacon time: probes and echoes on a link (R288), frames of the timing waveguide (R379), the generator (R380), the loss of the parent and
HOLDOVER (R384), and 1PPS (R386).
-/
namespace Sys2Proof.Machine

/-! ## Probes and echoes -/

section

variable {s : State} {x : Fin 768} (h : s.linkState x = 6)
include h

theorem execBtProbeSend_active : execBtProbeSend x s = .next (s.sendCtl x (leBytes 4 6)) := if_pos h

theorem execBtProbe_active (t1 : Int) : execBtProbe x t1 s =
    .next (s.drawn.sendCtl x (leBytes 4 7 ++ [0, 0, 0, 0] ++ stampBytes t1 ++ List.replicate 7 0 ++ s.stamp)) := if_pos h

section

variable {t1 t2 t3 t4 : Int} {u : State}
  (hu : u = s.setLink x { s.link x with offset := (t2 - t1) - (t4 - t3), delay := (t4 - t1) - (t3 - t2) })
include hu

/-- Outside ACQUIRE and TRACK an echo measures its link only. -/
theorem execBtEcho_measures (h2 : s.btState ≠ 2) (h3 : s.btState ≠ 3) : execBtEcho x t1 t2 t3 t4 s = .next u := by
  subst hu
  exact (if_pos h).trans (if_neg fun hsteers => hsteers.1.elim h2 h3)

/-- In ACQUIRE and TRACK an echo of the parent is an exchange as well (R383). -/
theorem execBtEcho_steers (hst : s.btState = 2 ∨ s.btState = 3) (hp : s.linkPeer x = s.rd F.CLK_BT_STATUS_PARENT) :
    execBtEcho x t1 t2 t3 t4 s = .next (u.exchange ((t2 - t1) - (t4 - t3))) := by
  subst hu
  exact (if_pos h).trans (if_pos ⟨hst, hp⟩)

end

end

/-! ## Frames and the generator -/

section

variable {s : State}

/-- A frame whose CRC-8 is that of its count is loaded where the count of the die disagrees (R379). -/
theorem execBtFrame_loads {d : Fin 33} {n : BitVec 64} (h : s.btOf d ≠ n.toNat) :
    execBtFrame d n (Config.crc8 (leBytes 8 n.toNat)) s = .next ((({ s with clk := { s.clk with
      die := tput (fun _ => 0) s.clk.die d ((n.toNat : Int) - s.bt) } } : State)).raise 0x0149 d [(1, d)]) :=
  if_neg (not_or_intro (not_not.2 rfl) h)

theorem execBtGeneratorFailover_moves {g : Fin 3} {a : Bool} {u : State} (hgen : s.bit F.CLK_BT_STATUS_GEN = false)
    (hlost : s.genLost g = true) (hnew : s.inService (dieIO 1) = true) (hu : u = { s with bt := (s.bt + b2n a) % 2 ^ 64 }) :
    execBtGeneratorFailover g a s = .next ((u.wr F.CLK_BT_STATUS_GEN 0 1).raise 0x0148 srcPkg [(1, g)]) := by
  subst hu
  exact if_neg (by simp [hgen, hlost, hnew])

/-! ## The loss of the parent -/

section

variable (hst : s.btState = 2 ∨ s.btState = 3)
include hst

/-- A root has no parent to look for, and another device without one holds its last trim (R384). -/
theorem execBtParentTimeout_holds (h : s.isRoot = true ∨ s.parentTo s.rootInUse = none) :
    execBtParentTimeout s = .next s.holdover := by
  refine (if_pos hst).trans ?_
  rcases h with hroot | hnone
  · exact if_pos hroot
  · simp only [hnone, ite_self]

theorem execBtParentTimeout_changes {p : Nat} (hroot : s.isRoot = false) (hp : s.parentTo s.rootInUse = some p)
    (hnew : p ≠ s.rd F.CLK_BT_STATUS_PARENT) : execBtParentTimeout s = .next (s.takeParent p) := by
  refine (if_pos hst).trans ((if_neg (ne_true_of_eq_false hroot)).trans ?_)
  simp only [hp, if_neg hnew]

end

theorem execBtHoldoverTimeout_holdover (h : s.btState = 4) :
    execBtHoldoverTimeout s = .next (s.raise 0x0146 srcPkg [(3, offsetBytes s.clk.last)]) := if_pos h

/-! ## 1PPS -/

/-- A trim set afresh, a free value (log entry 4), is within ±100 ppm; it counts in 1/512 ppm (R383). -/
theorem State.newTrim_bounded : ∃ v : Int, -51200 ≤ v ∧ v ≤ 51200 ∧
    s.newTrim = { s.drawn with clk := { s.clk with trim := v } } :=
  ⟨s.freeVal.toNat % 102401 - 51200, by omega, by omega, rfl⟩

section

variable (h : s.btState = 1) (hpps : s.bit F.CLK_BT_CTRL_PPS_EN = true)
include h hpps

theorem execPpsTimeout_root : execPpsTimeout s = .next (s.raise 0x014A srcPkg []) := if_pos ⟨h, hpps⟩

theorem execPpsEdge_root : execPpsEdge s = .next s.newTrim := if_pos ⟨h, hpps⟩

end

end

/-- Settles O40, from what each event of beacon time does where its condition holds. -/
theorem beaconTime : Obligations.BeaconTime := by
  intro s x
  refine ⟨fun h => ⟨execBtProbeSend_active h, execBtProbe_active h,
      fun t1 t2 t3 t4 u hu => ⟨execBtEcho_measures h hu, execBtEcho_steers h hu⟩⟩,
    fun d n => execBtFrame_loads, fun g a hgen hlost hnew u => execBtGeneratorFailover_moves hgen hlost hnew,
    execBtParentTimeout_holds, fun p hst => execBtParentTimeout_changes hst, execBtHoldoverTimeout_holdover, fun h hpps => ?_⟩
  obtain ⟨v, hlow, hhigh, htrim⟩ := s.newTrim_bounded
  exact ⟨execPpsTimeout_root h hpps, v, hlow, hhigh, (execPpsEdge_root h hpps).trans (congrArg _ htrim)⟩

end Sys2Proof.Machine
end

section
/-!
Requests at the landing die: the fence and the life of the source (R309, R310 steps 1 and 2), and what the source entry makes of the SEQ
(R310 steps 3 to 7).
-/
namespace Sys2Proof.Machine
open Spec

/-- A packet of its code that stands first in a commit FIFO, for this device, leaves it and goes through R310. -/
theorem State.takeRequest_arrived {s : State} {p : Fin 24} {vc : Fin 3} {op : Nat} {k : Pkt} (h : arrived s p vc op k) :
    s.takeRequest op p vc = (s.popPkt p vc).landRequest (p / 6) k := by
  obtain ⟨x, b, hhead, rfl, hop, htarget⟩ := h
  simp only [State.takeRequest, hhead]
  exact if_pos ⟨hop, htarget⟩

/-- Each request packet is taken under its own operation code (R304). -/
theorem exec_requests (s : State) (p : Fin 24) (vc : Fin 3) : ∀ c ∈ [(Instr.load p vc, 1), (.store p vc, 2), (.atomic p vc, 3),
    (.bulkWrite p vc, 4), (.bulkRead p vc, 5), (.parcel p vc, 6)], exec c.1 s = .next (s.takeRequest c.2 p vc) := by
  simp only [List.forall_mem_cons, List.not_mem_nil, false_implies, implies_true, and_true]
  and_intros <;> rfl

/-! ## The fence and the life of the source -/

section

variable {s : State} {q n : Nat} {k : Pkt} {e : SrcEnt}

theorem State.landRequest_fenced (h : s.rd F.LVS_STATUS_STATE = 7) :
    s.landRequest q k = s.respond q k { op := 0x8F, status := 0x13 } := if_pos h

variable (hn : n = k.source * 64 + k.e) (he : e = s.srcEnt n) (hdev : s.rd F.LVS_STATUS_STATE ≠ 7)
  (hepoch : s.superseded k.source k.epoch = false) (hfenced : e.fenced = false)
include hn he hdev hepoch hfenced

/-- Where no fence stands against a request the life of the source decides (R310 step 2, R451). -/
theorem State.landFence_passes (t : State) : s.landFence q k t = t := by
  subst hn he
  exact (if_neg hdev).trans (if_neg (by simp [hepoch, hfenced]))

theorem State.landRequest_sameLife (hvalid : e.valid = true) (hboot : e.bootId = k.bootId) : s.landRequest q k = s.allow q k n := by
  refine (State.landFence_passes hn he hdev hepoch hfenced _).trans ?_
  subst hn he
  exact if_pos ⟨hvalid, hboot⟩

section

variable (hlife : e.valid = false ∨ e.bootId ≠ k.bootId)
include hlife

theorem State.landRequest_otherLife_discarded (hseq : 64 ≤ k.seq) : s.landRequest q k = s := by
  refine (State.landFence_passes hn he hdev hepoch hfenced _).trans ?_
  subst hn he
  exact (if_neg fun h => hlife.elim (ne_false_of_eq_true h.1) (· h.2)).trans (if_neg (not_lt.2 hseq))

theorem State.landRequest_otherLife_resets (hseq : k.seq < 64) : s.landRequest q k =
    ((s.setSrc n { bootId := k.bootId, valid := true }).raise 0x0524 (dieIO q) [(2, k.source), (2, k.bootId)]).allow q k n := by
  refine (State.landFence_passes hn he hdev hepoch hfenced _).trans ?_
  subst hn he
  exact (if_neg fun h => hlife.elim (ne_false_of_eq_true h.1) (· h.2)).trans (if_pos hseq)

end

end

/-! ## The window of SEQs -/

/-- Steps 6 and 7 of R310 on a packet that is new and whose order does not hold it: its check, and where it goes. -/
def State.allowNew (s : State) (q : Nat) (p : Pkt) (k : Nat) (e : SrcEnt) (d : Nat) : State :=
  let st := if 7 ≤ p.op then 0 else s.reqCheck p
  if st ≠ 0 then
    let e1 := if p.atomic then e.remember ⟨p.seq, st, 0⟩ else e
    ((s.windowFault q p.source p.window st).setSrc k { e1 with done := setBit64 e1.done d true }.advance).respond q p
      { op := 0x8F, status := st }
  else if 7 ≤ p.op then
    let s1 := s.setSrc k { e with inflight := setBit64 e.inflight d true }
    if (s.coll p.tag).isSome then s1.contribute q p else { s1 with rack := { s1.rack with held := s1.rack.held ++ [(p.tag, q, p)] } }
  else if p.isMail then (s.setSrc k { e with done := setBit64 e.done d true }.advance).respond q p { op := 0x81 }
  else (s.setSrc k { e with inflight := setBit64 e.inflight d true }).forward q p

section

variable {s : State} {q n d : Nat} {k : Pkt} {e : SrcEnt}

section

variable (he : e = s.srcEnt n) (hd : d = (k.seq + 2 ^ 33 - e.lca - 1) % 2 ^ 32)
include he hd

theorem State.allow_past (h : 2 ^ 31 ≤ d) : s.allow q k n = s.duplicate q k e := by
  subst he hd
  exact if_pos h

theorem State.allow_beyond (h : 64 ≤ d) (hpast : d < 2 ^ 31) : s.allow q k n = s := by
  subst he hd
  exact (if_neg (not_le.2 hpast)).trans (if_pos h)

variable (hwin : d < 64)
include hwin

theorem State.allow_done (hdone : e.done.getLsbD d = true) : s.allow q k n = s.duplicate q k e := by
  subst he hd
  exact (if_neg (by omega)).trans ((if_neg (not_le.2 hwin)).trans (if_pos hdone))

variable (hdone : e.done.getLsbD d = false)
include hdone

theorem State.allow_inflight (hfly : e.inflight.getLsbD d = true) : s.allow q k n = s.bump F.PRT_RM_CNT_A_DUPLICATE q 1 := by
  subst he hd
  exact (if_neg (by omega)).trans ((if_neg (not_le.2 hwin)).trans ((if_neg (ne_true_of_eq_false hdone)).trans (if_pos hfly)))

variable (hfly : e.inflight.getLsbD d = false)
include hfly

theorem State.allow_orderHold (hpred : k.pred ≠ 0) (hin : k.pred ≤ d) (hwait : e.done.getLsbD (d - k.pred) = false) :
    s.allow q k n = s.bump F.PRT_RM_CNT_B_ORDER_HOLD q 1 := by
  subst he hd
  exact (if_neg (by omega)).trans ((if_neg (not_le.2 hwin)).trans ((if_neg (ne_true_of_eq_false hdone)).trans
    ((if_neg (ne_true_of_eq_false hfly)).trans (if_pos ⟨hpred, decide_eq_true hin, congrArg not hwait⟩))))

theorem State.allow_new (hpred : k.pred = 0) : s.allow q k n = s.allowNew q k n e d := by
  subst he hd
  exact (if_neg (by omega)).trans ((if_neg (not_le.2 hwin)).trans ((if_neg (ne_true_of_eq_false hdone)).trans
    ((if_neg (ne_true_of_eq_false hfly)).trans (if_neg fun h => h.1 hpred))))

end

/-! ## New packets -/

section

variable (hop : k.op < 7)
include hop

theorem State.allowNew_fails {st : Nat} (hst : st = s.reqCheck k) (hbad : st ≠ 0) {e1 : SrcEnt}
    (he1 : e1 = if k.atomic = true then e.remember ⟨k.seq, st, 0⟩ else e) : s.allowNew q k n e d =
    ((s.windowFault q k.source k.window st).setSrc n (SrcEnt.advance { e1 with done := setBit64 e1.done d true })).respond q k
      { op := 0x8F, status := st } := by
  subst he1 hst
  simp only [State.allowNew, if_neg (not_le.2 hop)]
  exact if_pos hbad

variable (hok : s.reqCheck k = 0)
include hok

theorem State.allowNew_mail (hmail : k.isMail = true) : s.allowNew q k n e d =
    (s.setSrc n (SrcEnt.advance { e with done := setBit64 e.done d true })).respond q k { op := 0x81 } := by
  simp only [State.allowNew, if_neg (not_le.2 hop)]
  exact (if_neg (not_not.2 hok)).trans (if_pos hmail)

theorem State.allowNew_forwards (hmail : k.isMail = false) :
    s.allowNew q k n e d = (s.setSrc n { e with inflight := setBit64 e.inflight d true }).forward q k := by
  simp only [State.allowNew, if_neg (not_le.2 hop)]
  exact (if_neg (not_not.2 hok)).trans (if_neg (ne_true_of_eq_false hmail))

end

section

variable (hop : 7 ≤ k.op) {u : State} (hu : u = s.setSrc n { e with inflight := setBit64 e.inflight d true })
include hop hu

/-- A contribution to no running collective is INFLIGHT and held (R325). -/
theorem State.allowNew_held (hc : s.coll k.tag = none) :
    s.allowNew q k n e d = { u with rack := { u.rack with held := u.rack.held ++ [(k.tag, q, k)] } } := by
  subst hu
  simp only [State.allowNew, if_pos hop]
  exact (if_neg (by simp)).trans (if_neg (by simp [hc]))

theorem State.allowNew_contributes (hc : (s.coll k.tag).isSome = true) : s.allowNew q k n e d = u.contribute q k := by
  subst hu
  simp only [State.allowNew, if_pos hop]
  exact (if_neg (by simp)).trans (if_pos hc)

end

end

/-- Settles O45, from the steps of R310 that a request meets in turn. -/
theorem requestsLand : Obligations.RequestsLand := by
  intro s p vc k
  refine ⟨fun c hc h => (exec_requests s p vc c hc).trans (congrArg _ (State.takeRequest_arrived h)),
    fun q => ⟨State.landRequest_fenced, fun n e d hn he hd hdev hepoch hfenced => ⟨fun hlife => ?_, fun hvalid hboot => ?_⟩⟩⟩
  · exact ⟨State.landRequest_otherLife_discarded hn he hdev hepoch hfenced hlife,
      State.landRequest_otherLife_resets hn he hdev hepoch hfenced hlife⟩
  · rw [State.landRequest_sameLife hn he hdev hepoch hfenced hvalid hboot]
    refine ⟨State.allow_past he hd, State.allow_beyond he hd, fun hwin => ⟨State.allow_done he hd hwin, fun hdone =>
      ⟨State.allow_inflight he hd hwin hdone, State.allow_orderHold he hd hwin hdone, fun hop hfly hpred st hst => ?_⟩⟩⟩
    rw [State.allow_new he hd hwin hdone hfly hpred]
    exact ⟨fun hbad e1 => State.allowNew_fails hop hst hbad, fun h0 => State.allowNew_mail hop (hst.symm.trans h0),
      fun h0 => State.allowNew_forwards hop (hst.symm.trans h0)⟩

end Sys2Proof.Machine
end

section
/-!
Homes: a forward reaches its home, the lines apply their operations in order, and the confirmation answers the source (R310 to R313).
-/
namespace Sys2Proof.Machine

/-! ## The forward and its confirmation -/

section

variable {s : State} {q : Fin 4} {tag : Nat} {f : Fwd} (h : s.fwdAt (q.val, tag) = some f)
include h

theorem execForwardResendTimer_resends :
    execForwardResendTimer q tag s = .next ((s.setFwd q { f with sends := f.sends + 1 }).postFwd q f.pkt) := by
  simp only [execForwardResendTimer, h]

section

variable (hphase : f.phase = 0) (hopen : ∀ x ∈ s.fwdPlaces f.pkt, s.pathOpen (12 + q) x = true) {home : Nat} (hhome : home = s.fwdHome f.pkt)
include hphase hopen hhome

/-- A tag that the home has applied is answered from its record (R311). -/
theorem execHomeForwardReceive_repeated {e : Nat × Applied}
    (hlog : (tget (fun _ => []) s.rack.homeLog (home * 4 + q)).find? (fun (e : Nat × Applied) => e.1 == tag) = some e) :
    execHomeForwardReceive q tag s = .next (s.setFwd q { f with phase := 2, result := e.2 }) := by
  subst hhome
  simp only [execHomeForwardReceive, h, hlog]
  exact if_neg (by simpa [hphase] using hopen)

theorem execHomeForwardReceive_first
    (hlog : (tget (fun _ => []) s.rack.homeLog (home * 4 + q)).find? (fun (e : Nat × Applied) => e.1 == tag) = none) :
    execHomeForwardReceive q tag s = .next (if s.fwdLines f.pkt = [] then s.applyFwd q f else s.enqueueLine q f) := by
  subst hhome
  simp only [execHomeForwardReceive, h, hlog]
  exact if_neg (by simpa [hphase] using hopen)

end

section

variable (hphase : f.phase = 2) (hopen : ∀ x ∈ s.fwdPlaces f.pkt, s.pathOpen x (12 + q) = true) {fs : List Fwd}
  (hfs : fs = (s.fwdList q).filter (fun x => x.tag != tag)) {u : State}
  (hu : u = { s with rack := { s.rack with fwds := tput (fun _ => []) s.rack.fwds q fs } })
  {n d : Nat} {e : SrcEnt} (hn : n = f.pkt.source * 64 + f.pkt.e) (he : e = s.srcEnt n)
  (hd : d = (f.pkt.seq + 2 ^ 33 - e.lca - 1) % 2 ^ 32)
include hphase hopen hfs hu hn he hd

/-- The confirmation of a forward whose source lives on no more, or whose SEQ has left the window, only takes it away. -/
theorem execHomeConfirm_late (hlate : e.bootId ≠ f.pkt.bootId ∨ 64 ≤ d) : execHomeConfirm q tag s = .next u := by
  subst hd he hn hu hfs
  simp only [execHomeConfirm, h]
  exact (if_neg (by simpa [hphase] using hopen)).trans (if_neg fun hc => hlate.elim (· hc.1) (not_le.2 hc.2))

/-- The confirmation of an operation other than a parcel packet answers its source (R310 step 8). -/
theorem execHomeConfirm_replies (hop : f.pkt.op ≠ 6) (hboot : e.bootId = f.pkt.bootId) (hwin : d < 64) {r x : SrcEnt}
    (hr : r = if f.pkt.atomic = true then
      e.remember ⟨f.pkt.seq, f.result.status, if f.result.status = 0 then f.result.value else f.result.failRec⟩ else e)
    (hx : x = { r with inflight := setBit64 r.inflight d false, done := setBit64 r.done d true }) :
    execHomeConfirm q tag s = .next ((u.setSrc n x.advance).answer q f.pkt f.result) := by
  subst hx hr hd he hn hu hfs
  simp only [execHomeConfirm, h]
  refine (if_neg (by simpa [hphase] using hopen)).trans ((if_pos ⟨hboot, hwin⟩).trans ?_)
  rw [if_neg fun hc => hop hc.1]
  rfl

end

end

/-! ## Lines -/

section

variable {s : State} {x : BitVec 36} {o : Nat × Nat} (ho : (s.line x.toNat).ops.head? = some o)
include ho

/-- What a home takes at once is one operation or up to 64 (R312). -/
theorem State.batch_length : 1 ≤ (s.batch x.toNat).length ∧ (s.batch x.toNat).length ≤ 64 := by
  obtain ⟨r, hr⟩ := List.head?_eq_some_iff.1 ho
  simp only [State.batch]
  split
  · simp [hr]
  · next hne => exact ⟨List.length_pos_iff.2 hne, List.length_take_le _ _⟩

variable {g : Fwd} (hg : s.fwdAt o = some g)
include hg

theorem execHomeLineApply_waits (hmay : s.fwdMay o g.pkt = false) : execHomeLineApply x s = .next s := by
  simp only [execHomeLineApply, ho, Option.bind_some, hg, Option.map_some]
  exact if_neg (ne_true_of_eq_false hmay)

theorem execHomeLineApply_applies (hmay : s.fwdMay o g.pkt = true) :
    execHomeLineApply x s = .next ((s.batch x.toNat).foldl State.applyQueued s).resumeWaiting := by
  simp only [execHomeLineApply, ho, Option.bind_some, hg, Option.map_some]
  exact if_pos hmay

end

theorem State.applyQueued_none {s : State} {o : Nat × Nat} (h : s.fwdAt o = none) : s.applyQueued o = s := by
  simp only [State.applyQueued, h]

theorem State.applyQueued_some {s : State} {o : Nat × Nat} {g : Fwd} (h : s.fwdAt o = some g) :
    s.applyQueued o = (s.leaveLines o (s.fwdLines g.pkt)).applyFwd o.1 g := by
  simp only [State.applyQueued, h]

/-- Settles O46, from what a forward, a line and a confirmation do at a home. -/
theorem homesApply : Obligations.HomesApply := by
  intro s q tag f h
  refine ⟨fun hphase hopen home hhome => ⟨fun e => execHomeForwardReceive_repeated h hphase hopen hhome, fun hlog => ?_⟩,
    fun t => rfl, execForwardResendTimer_resends h, fun hphase hopen hop fs u n e d hfs hu hn he hd => ?_, fun x o g ho hg => ?_⟩
  · have hx : exec (.homeForwardReceive q tag) s = _ := execHomeForwardReceive_first h hphase hopen hhome hlog
    exact ⟨fun hl => hx.trans (by rw [if_neg hl]; rfl), fun hl => hx.trans (by rw [if_pos hl])⟩
  · exact ⟨execHomeConfirm_late h hphase hopen hfs hu hn he hd, fun hboot hwin r hr y hy =>
      execHomeConfirm_replies h hphase hopen hfs hu hn he hd hop hboot hwin hr hy⟩
  · refine ⟨execHomeLineApply_waits ho hg, fun hmay b hb => ?_⟩
    subst hb
    obtain ⟨hmin, hmax⟩ := State.batch_length ho
    have hx : exec (.homeLineApply x) s = _ := execHomeLineApply_applies ho hg hmay
    refine ⟨hmin, hmax, hx.trans (congrArg (fun step => (.next ((s.batch x.toNat).foldl step s).resumeWaiting : Out))
      (funext₂ fun t o => ?_))⟩
    cases ht : t.fwdAt o with
    | none => exact State.applyQueued_none ht
    | some g => exact State.applyQueued_some ht

end Sys2Proof.Machine
end

section
/-!
Collectives: their start (R321, R354), their packets (R322 to R325), the reduction units (R445) and the two timers (R325, R327).
-/
namespace Sys2Proof.Machine
open Spec

/-! ## The start -/

/-- Each collective operation starts the descriptors of its code (R354). -/
theorem exec_collectives : ∀ e ∈ ([(Instr.collectiveReduceScatter, 0), (.collectiveAllGather, 1), (.collectiveAllReduce, 2)] :
    List ((BitVec 32 → Instr) × Nat)), ∀ seq s, exec (e.1 seq) s = .next (s.startColl seq e.2) := by
  simp only [List.forall_mem_cons, List.not_mem_nil, false_implies, implies_true, and_true]
  and_intros <;> exact fun _ _ => rfl

section

variable {s : State} {seq : BitVec 32} {d : Desc} (h : starts s seq d) (ht : descType d.bytes = 3) {op : Nat} (hop : d.f 0x10 1 = op)
  {t : State} (hb : t = begun s d)
include h ht hop hb

theorem State.startColl_refused (hv : t.collRefuse d (t.collOf d) ≠ 0) :
    s.startColl seq op = t.finishDesc d.seq (t.collRefuse d (t.collOf d)) 0 0 := by
  subst hb
  exact (startDesc_starts h _ (by simp [ht, hop])).trans (if_pos hv)

variable (hv : t.collRefuse d (t.collOf d) = 0)
include hv

theorem State.startColl_begins (hfew : t.rack.colls.length < 16) : s.startColl seq op = t.collBegin (t.collOf d) := by
  subst hb
  exact (startDesc_starts h _ (by simp [ht, hop])).trans ((if_neg (not_not.2 hv)).trans (if_pos hfew))

/-- While sixteen run a collective waits its turn (R325). -/
theorem State.startColl_waits (hfull : 16 ≤ t.rack.colls.length) :
    s.startColl seq op = { t with rack := { t.rack with collWait := t.rack.collWait ++ [t.collOf d] } } := by
  subst hb
  exact (startDesc_starts h _ (by simp [ht, hop])).trans ((if_neg (not_not.2 hv)).trans (if_neg (not_lt.2 hfull)))

end

/-! ## Packets -/

section

variable {s : State} {p : Fin 24} {vc : Fin 3} {k : Pkt}

theorem execCollData_takes {mismatch : Fin 3} (h : mismatch ≠ 2) :
    execCollData p vc mismatch s = .next (s.takeRequest 9 p vc).collEnd := if_neg h

/-- The packets of a collective are taken under their codes and what has ended ends; one residue mismatch changes nothing (R445). -/
theorem exec_collPackets : ∀ c ∈ [(Instr.collExp p vc, 7), (.collB p vc, 8), (.collData p vc 0, 9),
    (.collData p vc 1, 9)], exec c.1 s = .next (s.takeRequest c.2 p vc).collEnd := by
  simp only [List.forall_mem_cons, List.not_mem_nil, false_implies, implies_true, and_true]
  exact ⟨rfl, rfl, show execCollData p vc 0 s = _ from execCollData_takes (by decide),
    show execCollData p vc 1 s = _ from execCollData_takes (by decide)⟩

/-- With two residue mismatches the unit that serves the packet's first block is out of service from then on (R445). -/
theorem execCollData_losesUnit (h : arrived s p vc 9 k) {u : State} (hu : u = ((s.popPkt p vc).landRequest (p / 6) k).collEnd) :
    execCollData p vc 2 s = .next { u with rack := { u.rack with deadUnits := u.rack.deadUnits.add (s.unitOf k.addr) } } := by
  rw [hu, ← State.takeRequest_arrived h]
  obtain ⟨x, b, hhead, rfl, -⟩ := h
  simp only [execCollData, hhead, if_true, Option.map_some, Option.getD_some]

end

/-! ## Timers -/

/-- A collective that lacks contributions ends with TARGET_UNREACHABLE, the event naming the die of its first block that is not written
(R325, R327). -/
theorem execCollTimerExpire_lacks {s : State} {id : BitVec 32} {c : Coll} {m b : Nat} {r : List Nat}
    (hc : s.coll id.toNat = some c) (hm : c.missing = m :: r)
    (hb : b = ((c.slice c.me).find? (fun y => !c.written.contains y)).getD 0) : execCollTimerExpire id s =
    .next ((s.setColl { c with status := worse c.status 0x12 }).raise 0x0528 (dieIO (b % 4)) [(4, c.id), (2, r.length + 1), (2, m)]).collEnd := by
  subst hb
  simp only [execCollTimerExpire, hc, hm]

/-- Settles O23, from the start of a collective, R310 on its packets, and its timers. -/
theorem collectives : Obligations.Collectives := by
  refine ⟨fun s seq d h ht e he hop => ?_, fun s p vc k => ⟨fun c hc h => ?_, fun h u => execCollData_losesUnit h,
    fun q n d e he hd hwin hdone hfly hpred hop u hu => ?_, fun id => ⟨fun c m r hc hm => ?_, fun l hl => ?_⟩⟩⟩
  · rw [exec_collectives e he]
    exact ⟨fun hv hfew => congrArg _ (State.startColl_begins h ht hop rfl hv hfew),
      fun hv hfull => congrArg _ (State.startColl_waits h ht hop rfl hv hfull),
      fun hv => congrArg _ (State.startColl_refused h ht hop rfl hv)⟩
  · exact (exec_collPackets c hc).trans (congrArg (fun t : State => (.next t.collEnd : Out)) (State.takeRequest_arrived h))
  · rw [State.allow_new he hd hwin hdone hfly hpred]
    exact ⟨State.allowNew_held hop hu, State.allowNew_contributes hop hu⟩
  · exact ⟨_, fun x hx => by rw [hx, Option.getD_some], execCollTimerExpire_lacks hc hm rfl⟩
  · subst hl
    rfl

end Sys2Proof.Machine
end

section
/-!
The form of every state of a run (R360, R361, R379, R489, R503).
-/
namespace Sys2Proof.Machine

/-- Beacon time wraps within its width (R379), and time that passes touches nothing else of the form. -/
theorem State.Sound.idle {s : State} (h : s.Sound) : s.idle.Sound :=
  ⟨h.regs, h.dmem, h.hmem, h.evts, h.log, h.seq, Nat.mod_lt _ (Nat.two_pow_pos 64)⟩

/-- The form does not speak of the commands that wait. -/
theorem State.Sound.withPending {s : State} (h : s.Sound) (l : List Instr) : ({ s with pending := l } : State).Sound :=
  ⟨h.regs, h.dmem, h.hmem, h.evts, h.log, h.seq, h.bt⟩

theorem State.Sound.exec {s t : State} {c : Instr} (h : s.Sound) (he : exec c s = .next t) : t.Sound := by
  obtain ⟨u, hu, hkeeps⟩ := exec_answers c s
  obtain rfl : u = t := Host.Outcome.next.inj (hu.symm.trans he)
  exact hkeeps.sound h

/-- Settles O60, from what idling keeps where no command waits, and what each of the 404 meanings keeps where one does. -/
theorem soundStays : Obligations.SoundStays := by
  intro s t h hstep
  cases hq : s.pending with
  | nil =>
    simp only [step, hq, Host.Outcome.next.injEq] at hstep
    exact hstep ▸ h.idle
  | cons c r =>
    simp only [step, hq] at hstep
    exact (h.withPending r).exec hstep

end Sys2Proof.Machine
end

section
/-!
The end of a descriptor, and what raising an event does (R357, R358, R360, R361, R448, R489, R543).
-/
namespace Sys2Proof.Machine

/-! ## Descriptors -/

section

variable {s : State} {q st de va : Nat} {d : Desc}

/-- Writing a descriptor leaves those of other numbers as they were. -/
theorem State.desc_setDesc_ne {r : Nat} (h : r ≠ d.seq) : (s.setDesc d).desc r = s.desc r := by
  show (List.map _ s.cmd.descs).find? _ = s.cmd.descs.find? _
  induction s.cmd.descs with
  | nil => rfl
  | cons e l ih =>
    rw [List.map_cons, List.find?_cons, List.find?_cons, ih]
    by_cases he : e.seq = d.seq
    · have hd : (d.seq == r) = false := beq_false_of_ne h.symm
      simp [he, hd]
    · simp [he]

theorem State.finishDesc_none (h : s.desc q = none) : s.finishDesc q st de va = s := by
  simp only [State.finishDesc, h]

theorem State.finishDesc_ended (h : s.desc q = some d) (hp : d.phase = 2) : s.finishDesc q st de va = s := by
  simp only [State.finishDesc, h, if_pos hp]

/-- A descriptor as it stands once it has ended: its record's values, DONE as DONE_DEGRADED where a degraded level held while it
ran or holds now (R358, R448). -/
def State.endedDesc (s : State) (d : Desc) (st de va : Nat) : Desc :=
  { d with phase := 2, status := if st = 0 ∧ (d.degraded ∨ s.degradedNow) then 1 else st, detail := de, value := va }

theorem State.finishDesc_ends (h : s.desc q = some d) (hp : d.phase ≠ 2) :
    s.finishDesc q st de va = s.setDesc (s.endedDesc d st de va) := by
  simp only [State.finishDesc, h, if_neg hp]
  rfl

/-- A descriptor that ended is found under its number. -/
theorem State.desc_setDesc_ended (h : s.desc q = some d) : (s.setDesc (s.endedDesc d st de va)).desc q = some (s.endedDesc d st de va) :=
  State.desc_setDesc h (show d.seq = q from State.desc_seq h)

/-- What ending a descriptor can do: write the one of that number, or nothing, whatever the record. -/
theorem State.finishDesc_cases (s : State) (q st de va : Nat) :
    (∃ d, s.desc q = some d ∧ s.finishDesc q st de va = s.setDesc (s.endedDesc d st de va)) ∨
    (∀ st' de' va', s.finishDesc q st' de' va' = s) := by
  cases h : s.desc q with
  | none => exact .inr fun _ _ _ => State.finishDesc_none h
  | some d =>
    by_cases hp : d.phase = 2
    · exact .inr fun _ _ _ => State.finishDesc_ended h hp
    · exact .inl ⟨d, rfl, State.finishDesc_ends h hp⟩

end

/-- Settles O20, from the two things that ending a descriptor can do. -/
theorem descriptorFinishesOnce : Obligations.DescriptorFinishesOnce := by
  intro s q st de va st2 de2 va2 t
  refine ⟨fun d hd hp => ?_, ?_⟩
  · show (s.finishDesc q st de va).desc q = some (s.endedDesc d st de va)
    rw [State.finishDesc_ends hd hp, State.desc_setDesc_ended hd]
  obtain ⟨d, hd, ht⟩ | hsame := s.finishDesc_cases q st de va
  · have ht : t = s.setDesc (s.endedDesc d st de va) := ht
    have hq : d.seq = q := State.desc_seq hd
    rw [ht]
    exact ⟨fun r hr => State.desc_setDesc_ne (hq ▸ hr), rfl, State.finishDesc_ended (State.desc_setDesc_ended hd) rfl,
      fun hnone => absurd (hnone.symm.trans hd) nofun⟩
  · have ht : t = s := hsame st de va
    rw [ht]
    exact ⟨fun _ _ => rfl, rfl, hsame st2 de2 va2, fun _ => rfl⟩

/-! ## Events -/

/-- DATA always fills its twelve bytes (R543). -/
theorem evData_length (data : List (Nat × Nat)) : (evData data).length = 12 := by
  simp [evData]

/-- Values that fit are followed by zeros (R543). -/
theorem evData_fits {data : List (Nat × Nat)} {v : List Byte} (hv : data.flatMap (fun (x : Nat × Nat) => leBytes x.1 x.2) = v)
    (hl : v.length ≤ 12) : evData data = v ++ List.replicate (12 - v.length) 0 := by
  unfold evData
  rw [hv, List.take_append, List.take_of_length_le hl, List.take_replicate, min_eq_left (Nat.sub_le _ _)]

/-- Settles O57, from the two fates of an event (`State.raise_cases`) and the layout of DATA. -/
theorem eventsRaised : Obligations.EventsRaised := by
  intro s code source data
  refine ⟨?_, fun hroom r hr => ?_, fun hfull => ?_, evData_length data, fun v hv hl => evData_fits hv hl⟩
  · obtain ⟨-, h⟩ | ⟨-, h⟩ := s.raise_cases code source data <;> rw [h] <;> rfl
  · obtain ⟨-, h⟩ | ⟨hfull, -⟩ := s.raise_cases code source data
    · rw [h, hr]
      rfl
    · omega
  · obtain ⟨hroom, -⟩ | ⟨-, h⟩ := s.raise_cases code source data
    · omega
    · exact h

end Sys2Proof.Machine
end

section
/-!
The command path: links of the command ports, the lines of the rings, what goes to the host, and CXL.mem (R336 to R341, R346, R361,
R367).
-/
namespace Sys2Proof.Machine

section

variable {s : State}

/-! ## Ports and rings -/

theorem execCommandPortLinkUp_eq (p : Fin 2) : execCommandPortLinkUp p s =
    .next (if s.inService (dieIO p) then (s.wr F.HST_PORT_LINK_UP p 1).showReady.rewrite else s) :=
  (apply_ite Host.Outcome.next _ _ _).symm

/-- The active port whose link stays down is left (R341). -/
theorem execPortRetrainTimeout_leaves (hdown : s.bit F.HST_PORT_LINK_UP (s.rd F.HST_CTRL_ACTIVE) = false)
    (hport : s.cmd.noPort = false) : execPortRetrainTimeout s = .next (s.switchPort 0) :=
  if_neg (by simp [hdown, hport])

section

variable {r : Fin 32} {n : BitVec 32} {u : State} (hu : u = s.setCmd { s.cmd with watch := tput (fun _ => 0) s.cmd.watch r n.toNat })
include hu

theorem execWatchLineWrite_good (h : u.ringBad r = false) : execWatchLineWrite r n s = .next u := by
  subst hu
  exact if_neg fun hc => Bool.false_ne_true (h.symm.trans hc.2.2)

/-- A ring that meets an error of R347 is disabled. -/
theorem execWatchLineWrite_bad (he : u.bit F.RNG_CMD_CFG_ENABLE r = true) (ho : u.hostOpen = true) (h : u.ringBad r = true) :
    execWatchLineWrite r n s = .next (u.ringError r) := by
  subst hu
  exact if_pos ⟨he, ho, h⟩

end

/-- Unsignalled records are signalled when the timer ends (R367). -/
theorem execMsixCoalesceTimer_sends {c : Fin 32} (h : 0 < tget (fun _ => 0) s.cmd.unsig c ∧ s.rd F.RNG_CQ_CFG_COAL_US c ≠ 0 ∧
      s.bit F.RNG_CQ_CFG_MSIX_EN c = true ∧ s.feature 1 = true) : execMsixCoalesceTimer c s =
    .next ((s.setCmd { s.cmd with unsig := tput (fun _ => 0) s.cmd.unsig c 0 }).sendMsix (s.rd F.RNG_CQ_CFG_VECTOR c)) :=
  if_pos h

/-! ## Events -/

/-- The oldest record goes to the next slot of the event ring where it is enabled and has room (R361, R367). -/
theorem execEventDeliver_delivers {e : EvRec} {l : List EvRec} {n : Nat} {u : State} (he : s.evts = e :: l)
    (hn : n = tget (fun _ => 0) s.cmd.written 32) (hopen : s.hostOpen = true) (hon : s.bit F.EVT_CFG_ENABLE = true)
    (hroom : s.unread 32 < s.evtSize) (hhead : s.ddrOk s.evtHead 64 = true) (hslot : s.ddrOk (s.evtBase + 32 * (n % s.evtSize)) 32 = true)
    (hu : u = ((({ s with evts := l } : State).setCmd { s.cmd with written := tput (fun _ => 0) s.cmd.written 32 ((n + 1) % 2 ^ 32) }).hostStore
      (s.evtBase + 32 * (n % s.evtSize)) (eventBytes e (phaseOf n s.evtSize))).slotFreed) : execEventDeliver s =
    .next (if s.bit F.EVT_CFG_MSIX_EN = true ∧ s.feature 1 = true then u.sendMsix (s.rd F.EVT_CFG_VECTOR) else u) := by
  subst hu hn
  simp only [execEventDeliver, he]
  rw [if_neg (by simp [hopen, hon, hroom]), if_neg (by simp [hhead, hslot])]
  exact (apply_ite Host.Outcome.next _ _ _).symm

/-! ## CXL.mem (R340) -/

section

variable {p : Fin 2} {a : BitVec 48}

/-- Refused, or not kept at its home and poisoned: zeros with the mark; kept: no answer yet; else the bytes. -/
theorem execCxlMemRead_decoded {b : Nat} (hb : b = a.toNat / 64 * 64) (h : s.hdmOk p b = true) : execCxlMemRead p a s =
    .next (if (s.liveOk b 64 = false ∨ s.areaReset b 64 = true) ∨ (s.cxlWaits p b 64 false = false ∧ s.anyBad b 64 = true) then
        s.setCmd { s.cmd with cxl := s.cmd.cxl ++ [(List.replicate 64 0, true)] }
      else if s.cxlWaits p b 64 false then s
      else s.setCmd { s.cmd with cxl := s.cmd.cxl ++ [(s.bytes b 64, false)] }) := by
  have hrefused : s.cxlRefused b 64 = true ↔ s.liveOk b 64 = false ∨ s.areaReset b 64 = true := by simp [State.cxlRefused]
  simp only [execCxlMemRead, ← hb, h, ← hrefused]
  by_cases hr : s.cxlRefused b 64 = true
  · simp [hr]
  · by_cases hw : s.cxlWaits p b 64 false = true
    · simp [hr, hw]
    · simp [hr, hw, apply_ite Host.Outcome.next]

theorem execCxlMemWrite_decoded {data : List Byte} (h : s.hdmOk p a.toNat = true) (hne : data ≠ [])
    (hfit : a.toNat % 64 + data.length ≤ 64) : execCxlMemWrite p a data s = .next (
      if s.liveOk a.toNat data.length = false ∨ s.areaReset a.toNat data.length = true then s.bump F.HST_PORT_DROPPED p 1
      else if s.cxlWaits p a.toNat data.length true then s else s.store a.toNat data) := by
  have hrefused : s.cxlRefused a.toNat data.length = true ↔
      s.liveOk a.toNat data.length = false ∨ s.areaReset a.toNat data.length = true := by simp [State.cxlRefused]
  simp only [execCxlMemWrite, ← hrefused, apply_ite Host.Outcome.next]
  exact if_neg (by simp [h, hne, hfit])

end

end

/-- Settles O29, from what each event of the command path does where its condition holds. -/
theorem hostPathCommands : Obligations.HostPathCommands := by
  intro s p
  refine ⟨fun u v hu hv => ?_, fun hup => ?_, execCommandPortLinkUp_eq p, execPortRetrainTimeout_leaves, fun lane => rfl,
    fun r n u hu => ⟨execWatchLineWrite_good hu, execWatchLineWrite_bad hu⟩, fun c n => rfl,
    fun c h0 ht he hf => execMsixCoalesceTimer_sends ⟨h0, ht, he, hf⟩,
    fun e l he hopen hon hroom hhead n hn hslot u hu => execEventDeliver_delivers he hn hopen hon hroom hhead hslot hu,
    fun a => ⟨fun b hb h => execCxlMemRead_decoded hb h, fun data h hne hfit => execCxlMemWrite_decoded h hne hfit⟩⟩
  · subst hu hv
    rfl
  · exact congrArg Host.Outcome.next (if_pos hup)

end Sys2Proof.Machine
end

section
/-!
Starts, and what asks for a reset (R336, R401, R409, R427, R429, R431, R433, R439, R531, R533).
-/
namespace Sys2Proof.Machine

section

variable {s : State} {i : StartIn}

/-! ## Starts -/

/-- After a step that failed no other runs (R427). -/
theorem Started.andThen_failed (f : State → Started) : Started.andThen (s, false) f = (s, false) := rfl

theorem Started.inTime_failed (cold : Bool) (k : Nat) : Started.inTime (s, false) i cold k = (s, false) := rfl

theorem Started.rest_failed (cold : Bool) : Started.rest (s, false) i cold = s := by
  simp only [Started.rest, Started.andThen_failed, Started.inTime_failed]

/-- Feeds that do not rise fail the start in their step (R429). -/
theorem State.startFeeds_fail {k p : Fin 2} (h : i.feed = some (k, p)) : s.startFeeds i = s.startFail (k.val + 1) p := by
  simp only [State.startFeeds, h]

/-- A start runs where no lost reference holds the dies (R531); after anything but a cold reset it begins with one (R427). -/
theorem execColdStart_runs {u : State} (hheld : s.fw.refHeld = false) (hu : u = (if s.fw.due = 1 then s else s.coldReset 0).tellCause) :
    execColdStart i s = .next ((u.startFeeds i).rest i true) := by
  subst hu
  exact if_neg (Bool.eq_false_iff.1 hheld)

/-! ## The reference clock (R531) -/

section

variable (hlost : s.fw.refLost = true) {u : State} (hu : u = s.setFw { s.fw with refLost := false, refHeld := false })
include hlost hu

theorem execRefclkReturn_goesOn (hheld : s.fw.refHeld = false) : execRefclkReturn i s = .next u.missedExchanges := by
  subst hu
  exact (if_neg (by simp [hlost])).trans (if_neg (Bool.eq_false_iff.1 hheld))

theorem execRefclkReturn_starts (hheld : s.fw.refHeld = true) : execRefclkReturn i s = .next ((u.tellCause.startFeeds i).rest i true) := by
  subst hu
  exact (if_neg (by simp [hlost])).trans (if_pos hheld)

end

end

/-- Settles O44, from the conditions of each command, and that a step that failed ends the start. -/
theorem startsAndBoardResets : Obligations.StartsAndBoardResets := by
  intro s i
  refine ⟨rfl, rfl, fun r hr => if_pos hr, rfl, fun q hq => if_pos hq, rfl, fun hlost hheld => if_pos ⟨hlost, by simp [hheld]⟩,
    fun hlost u hu => ⟨execRefclkReturn_goesOn hlost hu, execRefclkReturn_starts hlost hu⟩, fun hheld => if_pos hheld,
    fun hheld u hu => ?_, fun hdue hheld => if_pos ⟨hdue, by simp [hheld]⟩, fun _ _ _ => rfl, fun _ _ => rfl⟩
  have hruns : execColdStart i s = .next ((u.startFeeds i).rest i true) := execColdStart_runs hheld hu
  refine ⟨hruns, fun k p hfeed => ⟨_, _, rfl, rfl, hruns.trans ?_⟩⟩
  rw [State.startFeeds_fail hfeed, State.startFail, Started.rest_failed]
  rfl

end Sys2Proof.Machine
end

section
/-!
Writes of set-up registers, and reads that latch (R341, R356, R367, R393, R473, R498, R504, R506).
-/
namespace Sys2Proof.Machine
open Spec

section

variable {s : State}

/-! ## One write (R473, R498) -/

theorem State.barAccess_applied {w : HeldWrite} (hfree : s.bit F.FWU_STATUS_HANDOVER = false) : s.barAccess w = s.accessWrite w :=
  if_neg (Bool.eq_false_iff.1 hfree)

/-- During a handover a write waits behind the others while the log has room. -/
theorem State.barAccess_held {w : HeldWrite} (hbusy : s.bit F.FWU_STATUS_HANDOVER = true) (hroom : s.fw.held.length < 256) :
    s.barAccess w = s.setFw { s.fw with held := s.fw.held ++ [w] } :=
  (if_pos hbusy).trans (if_pos hroom)

theorem State.barAccess_dropped {w : HeldWrite} (hbusy : s.bit F.FWU_STATUS_HANDOVER = true) (hfull : s.fw.held.length = 256) :
    s.barAccess w = s.raise 0x0B06 s.fwSource [(4, w.off)] :=
  (if_pos hbusy).trans (if_neg hfull.not_lt)

/-- The halves of an 8-byte write go one after the other, but for a counter. -/
theorem State.accessWrite_halves {p off : Nat} {v hi : Word} {env : FwEnv} (h : off < 0x302000 ∨ 0x302800 ≤ off) :
    s.accessWrite ⟨p, off, v, some hi, env⟩ =
      (s.portWrite p off v 0xFFFFFFFF false env).portWrite p (off + 4) hi 0xFFFFFFFF false env :=
  if_neg (show ¬ (0x302000 ≤ off ∧ off < 0x302800) by omega)

/-- What the three fates of a 4-byte write say of commands that are each one of them. -/
theorem exec_barWrites {l : List (Instr × Nat × Word × FwEnv)}
    (h : ∀ c ∈ l, exec c.1 s = .next (s.barWrite c.2.1 c.2.2.1 c.2.2.2)) : ∀ c ∈ l,
    (s.bit F.FWU_STATUS_HANDOVER = false → exec c.1 s = .next (s.portWrite 0 c.2.1 c.2.2.1 0xFFFFFFFF false c.2.2.2)) ∧
    (s.bit F.FWU_STATUS_HANDOVER = true → s.fw.held.length < 256 →
      exec c.1 s = .next (s.setFw { s.fw with held := s.fw.held ++ [⟨0, c.2.1, c.2.2.1, none, c.2.2.2⟩] })) ∧
    (s.bit F.FWU_STATUS_HANDOVER = true → s.fw.held.length = 256 → exec c.1 s = .next (s.raise 0x0B06 s.fwSource [(4, c.2.1)])) :=
  fun c hc => ⟨fun hfree => (h c hc).trans (congrArg _ (State.barAccess_applied hfree)),
    fun hbusy hroom => (h c hc).trans (congrArg _ (State.barAccess_held hbusy hroom)),
    fun hbusy hfull => (h c hc).trans (congrArg _ (State.barAccess_dropped hbusy hfull))⟩

section

variable {p : Fin 2} {off : BitVec 26} {v : BitVec 32} {hi : Option (BitVec 32)} {env : FwEnv}

/-- A write that is not aligned has no effect (R498). -/
theorem execRegisterWrite_unaligned (h : off.toNat % 4 ≠ 0 ∨ (hi.isSome ∧ off.toNat % 8 ≠ 0)) :
    execRegisterWrite p off v hi env s = .next s :=
  if_pos h

theorem execRegisterWrite_aligned (hfree : s.bit F.FWU_STATUS_HANDOVER = false) (h4 : off.toNat % 4 = 0)
    (h8 : hi.isSome → off.toNat % 8 = 0) : execRegisterWrite p off v hi env s = .next (s.accessWrite ⟨p, off.toNat, v, hi, env⟩) :=
  (if_neg (not_or.2 ⟨not_not.2 h4, fun h => h.2 (h8 h.1)⟩)).trans (congrArg _ (State.barAccess_applied hfree))

end

/-! ## Counters (R367) -/

/-- The register of the upper half of a counter stands in the map. -/
theorem regRow_ctrHi (k : Fin 256) : ∃ r, regRow (F.RNG_CTR_HI_VALUE.off k) = some r := by
  have hblock : F.RNG_CTR_HI_VALUE.off k / 0x100000 = 3 := by simp only [Fld.off]; omega
  rw [← Option.isSome_iff_exists, regRow, hblock]
  refine List.find?_isSome.2 ⟨⟨0x302004, 0x8, 256, 0, [⟨31, 0, .rw, none⟩]⟩, by simp [blockRows, rowsRng], ?_⟩
  simp [RegRow.covers, Fld.off]

/-- A write of every bit leaves none of the old ones. -/
theorem maskAll_write (old v : Word) : (old &&& ~~~0xFFFFFFFF) ||| (v &&& 0xFFFFFFFF) = v := by
  rw [show (0xFFFFFFFF : Word) = BitVec.allOnes 32 from rfl, BitVec.not_allOnes, BitVec.and_zero, BitVec.zero_or, BitVec.and_allOnes]

/-- A write in the counters' block takes their rule. -/
theorem State.applyWrite_ctr {o : Nat} {v mask : Word} {mon : Bool} {env : FwEnv} {r : RegRow} (hr : regRow o = some r) (hm : mask ≠ 0)
    (ho : 0x302000 ≤ o ∧ o < 0x302800) : s.applyWrite o v mask mon env = s.writeCtr o v mask := by
  simp only [State.applyWrite, hr]
  rw [if_neg hm, if_neg (show o ≠ 0xC by omega), if_pos ho]

/-- The upper half is kept until the lower half is written. -/
theorem State.writeCtr_hi (k : Fin 256) (v : Word) : s.writeCtr (F.RNG_CTR_HI_VALUE.off k) v 0xFFFFFFFF =
    s.setCmd { s.cmd with ctrHi := tput (fun _ => 0) s.cmd.ctrHi k (v.toNat + 1) } := by
  have hk : (F.RNG_CTR_HI_VALUE.off k - 0x302000) / 8 = k := by simp only [Fld.off]; omega
  have hhi : F.RNG_CTR_HI_VALUE.off k % 8 = 4 := by simp only [Fld.off]; omega
  simp only [State.writeCtr, hk, hhi, maskAll_write, if_true]

theorem State.barWrite_ctrHi (hfree : s.bit F.FWU_STATUS_HANDOVER = false) (k : Fin 256) (v : Word) :
    s.barWrite (F.RNG_CTR_HI_VALUE.off k) v = s.setCmd { s.cmd with ctrHi := tput (fun _ => 0) s.cmd.ctrHi k (v.toNat + 1) } := by
  obtain ⟨r, hr⟩ := regRow_ctrHi k
  calc s.barWrite (F.RNG_CTR_HI_VALUE.off k) v
    _ = s.portWrite 0 (F.RNG_CTR_HI_VALUE.off k) v 0xFFFFFFFF false quietEnv := State.barAccess_applied hfree
    _ = s.applyWrite (F.RNG_CTR_HI_VALUE.off k) v 0xFFFFFFFF false quietEnv := if_neg (by simp only [Fld.off]; omega)
    _ = s.writeCtr (F.RNG_CTR_HI_VALUE.off k) v 0xFFFFFFFF := State.applyWrite_ctr hr (by decide) (by simp only [Fld.off]; omega)
    _ = _ := State.writeCtr_hi k v

/-! ## CONFIG (R356, R506) -/

/-- The entries are applied in order, each one masked write. -/
theorem execConfig_applies {seq : BitVec 32} {d : Desc} {env : FwEnv} (hfree : s.bit F.FWU_STATUS_HANDOVER = false) (h : starts s seq d)
    (ht : descType d.bytes = 0x10) : execConfig seq env s =
    .next (((List.range (d.f 0x10 1)).foldl (fun (u : State) i =>
      u.portWrite (u.rd F.HST_CTRL_ACTIVE) (d.f (0x18 + 12 * i) 4) (BitVec.ofNat 32 (d.f (0x18 + 12 * i + 4) 4))
        (BitVec.ofNat 32 (d.f (0x18 + 12 * i + 8) 4)) false env) (begun s d)).finishDesc d.seq 0 0 0) :=
  (if_neg (Bool.eq_false_iff.1 hfree)).trans (congrArg _ (startDesc_starts h _ (beq_iff_eq.2 ht)))

end

/-- Settles O50, from the three fates of a write, and what the other commands do where their condition holds. -/
theorem setUpWrites : Obligations.SetUpWrites := by
  intro s v env p
  refine ⟨fun m n r pt x y => exec_barWrites ?_, fun off hi => ⟨fun h4 => execRegisterWrite_unaligned (.inl h4),
      fun h8 => execRegisterWrite_unaligned (.inr ⟨rfl, h8⟩), fun hfree => ⟨fun h4 => execRegisterWrite_aligned hfree h4 nofun,
      fun h8 hpair => (execRegisterWrite_aligned hfree (by omega) fun _ => h8).trans (congrArg _ (State.accessWrite_halves hpair))⟩⟩,
    fun k hi lo h hfree hh => ?_, fun seq hbusy => if_pos hbusy, fun seq d hfree h ht => execConfig_applies hfree h ht, rfl, fun b => rfl⟩
  · simp only [List.forall_mem_cons, List.not_mem_nil, false_implies, implies_true, and_true]
    and_intros <;> rfl
  · rw [hh, ← State.barWrite_ctrHi hfree k hi]
    rfl

end Sys2Proof.Machine
end

section
/-!
Time that passes while no command waits (R379, R383).
-/
namespace Sys2Proof.Machine

/-- Beacon time advances by one while the generator's trim carries less than a nanosecond (R379, R383). -/
theorem State.idle_bt {s : State} (hlow : -512000000 < s.clk.acc + s.clk.trim) (hhigh : s.clk.acc + s.clk.trim < 512000000) :
    s.idle.bt = (s.bt + 1) % 2 ^ 64 := by
  have hnotAhead : ¬ (512 * 1000000 : Int) ≤ s.clk.acc + s.clk.trim := by omega
  have hnotBehind : ¬ s.clk.acc + s.clk.trim ≤ -(512 * 1000000 : Int) := by omega
  simp only [State.idle, if_neg hnotAhead, if_neg hnotBehind]

/-- Settles O2: a step without a waiting command is `State.idle`, which counts the two times. -/
theorem emptyQueueLetsTimePass : Obligations.EmptyQueueLetsTimePass := by
  intro s hempty
  have hstep : step s = .next s.idle := by simp only [step, hempty]
  exact ⟨hstep, rfl, State.idle_bt, rfl⟩

end Sys2Proof.Machine
end

section
/-!
Clock islands and calibration windows (R371, R373 to R376, R436 to R438).
-/
namespace Sys2Proof.Machine

/-! ## Steps of an island -/

section

variable {s : State} {x : Fin 432}

theorem State.beginStep_begins (hnone : (s.isl x).goal = none) (hdue : s.lowestStep x ≠ s.rd F.CLK_ISL_STEP x) :
    s.beginStep x = s.setIsl x { s.isl x with goal := some (s.lowestStep x) } :=
  if_pos ⟨hnone, hdue⟩

/-- A done change sets STEP and goes on, or fails the core where a crossing did not calibrate (R371, R373). -/
theorem execIslandStepChangeDone_goal {cal : List Crossing} {g : Nat} (hgoal : (s.isl x).goal = some g) {u : State}
    (hu : u = ((s.wr F.CLK_ISL_STEP x g).setIsl x { s.isl x with goal := none }).calibrate cal) :
    execIslandStepChangeDone x cal s =
      .next (if cal.all crossingOk then (u.disturbIsl x).beginStep x else u.failPhysical (x / 36) (x % 36 / 2) true) := by
  subst hu
  simp only [execIslandStepChangeDone, hgoal]

/-- A droop of an island is counted in its own STRETCH register (R375). -/
theorem execDroopDetect_island {r : Rate} (hr : r = (tget (fun _ => ({} : Rate)) s.clk.rate x).add nsSec s.now 1) (hfew : r.n ≠ 10001) :
    execDroopDetect (.island x) s =
      .next (({ s with clk := { s.clk with rate := tput (fun _ => {}) s.clk.rate x r } } : State).bump F.CLK_STRETCH_COUNT x 1
        |>.disturbIsl x) := by
  subst hr
  simp only [execDroopDetect, domKey, x.isLt, hfew, if_true, if_false]

end

/-! ## The margin cap (R376) -/

section

variable {s : State} {x m : Nat}

/-- The first margin below CRIT sets the cap a step below the running one. -/
theorem State.marginCap_first (hlow : m < s.rd F.CLK_CTRL_CRIT) (hfirst : (s.isl x).crit = false) {v : State}
    (hv : v = (s.setIsl x { s.isl x with crit := true }).lowerCap x (s.rd F.CLK_ISL_STEP x - 1)) :
    s.marginCap x m = v.raise 0x0141 (islDie x) [(2, x), (1, v.rd F.CLK_ISL_MCAP x)] := by
  subst hv
  exact (if_pos hlow).trans (if_pos (by rw [hfirst]; rfl))

/-- A margin that is not below CRIT, and has not held above WARN, only ends the time at the floor. -/
theorem State.marginCap_notClear (hhigh : s.rd F.CLK_CTRL_CRIT ≤ m) (habove : (s.isl x).above = 0) :
    s.marginCap x m = s.setIsl x { s.isl x with floor := 0 } := by
  have hclear : decide ((s.isl x).above ≠ 0 ∧ (s.isl x).above + nsSec ≤ s.now + 1) = false := decide_eq_false fun h => h.1 habove
  simp only [State.marginCap, if_neg (not_lt.2 hhigh), hclear, Bool.false_and, Bool.false_eq_true, false_and, if_false]

end

/-! ## Calibration windows (R436 to R438) -/

section

variable {s : State} {g : Fin 280}

theorem execCalWindowStart_free (hfree : s.windowFree g = true) : execCalWindowStart g s =
    .next (if s.windowCuts g then (s.deferWindow g).useSlot g else (s.useSlot g).openWindow g) := by
  simp only [execCalWindowStart, hfree]
  exact (apply_ite _ _ _ _).symm

variable (hopen : s.light.open_.contains g.val = true)
include hopen

theorem State.cutWindow_open {u : State} (hu : u = s.closeWindow g (fun _ => true)) : s.cutWindow g =
    { u with light := { u.light with again := tput (fun _ => 0) u.light.again g (u.now + nsSec + 1) } } := by
  subst hu
  exact if_pos hopen

/-- A window each of whose lanes has two runs that agree, and relocks, adopts the second run of each (R437). -/
theorem execCalWindowDone_agreed {runs : List CalLane} (hagree : ∀ c ∈ runs, runsAgree c.run1 c.run2 = true)
    (hlocked : ∀ c ∈ runs, c.locked = true) : execCalWindowDone g runs s =
    .next (State.closeWindow (runs.foldl (fun (t : State) c => t.adopt c.lane c.run2) s) g (fun _ => true)) := by
  have hresult : ∀ c ∈ runs, laneResult c = some c.run2 := fun c hc => if_pos (hagree c hc)
  have hodd : runs.filter (fun c => !runsAgree c.run1 c.run2) = [] := List.filter_eq_nil_iff.2 (by simpa using hagree)
  have hslow : runs.filter (fun c => !c.locked) = [] := List.filter_eq_nil_iff.2 (by simpa using hlocked)
  have hlost : runs.filter (fun c => (laneResult c).isNone) = [] := List.filter_eq_nil_iff.2 fun c hc => by simp [hresult c hc]
  have hadopt : runs.foldl (fun (t : State) c => match laneResult c with | some r => t.adopt c.lane r | none => t) s =
      runs.foldl (fun (t : State) c => t.adopt c.lane c.run2) s :=
    List.foldl_ext _ _ _ fun t c hc => by rw [hresult c hc]
  simp only [execCalWindowDone, hopen, hodd, hslow, hlost]
  exact congrArg (fun t : State => (.next (t.closeWindow g fun _ => true) : Out)) hadopt

end

/-- Settles O41, from what each event of an island and of a calibration window does where its condition holds. -/
theorem islandsAndCalibration : Obligations.IslandsAndCalibration := by
  intro s
  refine ⟨fun x => ⟨fun hnone hdue => congrArg _ (State.beginStep_begins hnone hdue), fun g cal hgoal u hu =>
      execIslandStepChangeDone_goal hgoal hu, fun r hr hfew => execDroopDetect_island hr hfew, fun m u hu =>
      ⟨fun hstart => ?_, fun hstart => ⟨fun hlow hfirst v hv => ?_, fun hhigh habove => ?_⟩⟩⟩,
    fun g => ⟨execCalWindowStart_free, fun hopen => ⟨fun u hu => congrArg _ (State.cutWindow_open hopen hu),
      fun runs hagree hlocked => ⟨_, execCalWindowDone_agreed hopen hagree hlocked, rfl⟩⟩⟩⟩
  all_goals
    subst hu
    show execReplicaMeasure x m s = _
  · exact congrArg _ (if_neg (ne_true_of_eq_false hstart))
  · exact congrArg _ ((if_pos hstart).trans (State.marginCap_first hlow hfirst hv))
  · exact congrArg _ ((if_pos hstart).trans (State.marginCap_notClear hhigh habove))

end Sys2Proof.Machine
end

section
/-!
Feeds, supply dips, brown-outs, HBM rails and regulator phases (R395 to R398, R401, R404, R415).
-/
namespace Sys2Proof.Machine

section

variable {s : State}

/-! ## Feeds and supplies (R395, R396, R401) -/

section

variable {f : Fin 6}

theorem execFeedFail_present (hok : s.bit (feedFld f) = true) :
    execFeedFail f s = .next ((s.wr (feedFld f) 0 0).raise 0x0101 srcPkg [(1, f)]).showFeeds := if_pos hok

theorem execFeedReturn_absent (hout : s.bit (feedFld f) = false) :
    execFeedReturn f s = .next ((s.wr (feedFld f) 0 1).raise 0x0102 srcPkg [(1, f)]).showFeeds := if_neg (ne_true_of_eq_false hout)

end

/-- A voltage below its warning level steps the package limit down 4 steps (R401, R404). -/
theorem execSupplyWarning_low {vph : Bool} {mv : BitVec 16} (hlow : mv.toNat < (if vph then 1700 else 2800)) {u : State}
    (hu : u = (s.putSource dipKey (stepDown 4 s.pkgStep (containing pkgWatts (s.rd F.PWR_PKG_POWER)) 31)).wr F.PWR_FEED_DIP 0 1) :
    execSupplyWarning vph mv s =
      .next ((u.setPwr { u.pwr with rising := u.pwr.rising.del dipKey, low := u.pwr.low.add (b2n vph) }).showPkg.raise
        0x0103 srcPkg [(1, b2n vph), (2, mv.toNat)]) := by
  subst hu
  exact if_pos hlow

theorem execSupplyDipRelease_dipped (hdip : s.bit F.PWR_FEED_DIP = true) {u : State}
    (hu : u = (s.wr F.PWR_FEED_DIP 0 0).release dipKey) : execSupplyDipRelease s = .next (u.setPwr { u.pwr with low := [] }) := by
  subst hu
  exact if_pos hdip

theorem execBrownoutTimer_starts (hlow : s.pwr.low ≠ []) (hfree : s.bit F.PWR_FEED_BROWNOUT = false) :
    execBrownoutTimer s = .next ((s.wr F.PWR_FEED_BROWNOUT 0 1).raise 0x0104 srcPkg []) := if_pos ⟨hlow, congrArg not hfree⟩

theorem execBrownoutRecoveryTimer_ends (hheld : s.bit F.PWR_FEED_BROWNOUT = true) :
    execBrownoutRecoveryTimer s = .next ((s.wr F.PWR_FEED_BROWNOUT 0 0).raise 0x0105 srcPkg []) := if_pos hheld

/-! ## Regulator phases (R398) -/

section

variable {d : Fin 12} {p : Fin 25} {u : State}

/-- A failed cache-rail phase retires the stack where fewer than three are left. -/
theorem execPhaseFail_cache (hp : p.val < 5) (hgood : s.pwr.phases.contains (64 * d.val + 32 + p.val) = false)
    (hu : u = (s.setPwr { s.pwr with phases := s.pwr.phases.add (64 * d.val + 32 + p.val) }).raise 0x0106 (dieSD d)
      [(1, dieSD d), (1, 1), (1, p)]) :
    execPhaseFail d true p s = .next (if u.goodPhases d true < 3 then u.retireStack d 5 else u) := by
  subst hu
  exact if_neg fun h => h.elim (fun hc => not_le.2 hp hc.2) (ne_true_of_eq_false hgood)

/-- A failed compute-rail phase is retired, and the phases left are shown; below 23 they hold the die's current limit. -/
theorem execPhaseFail_compute (hgood : s.pwr.phases.contains (64 * d.val + p.val) = false)
    (hu : u = (s.setPwr { s.pwr with phases := s.pwr.phases.add (64 * d.val + p.val) }).raise 0x0106 (dieCD d)
      [(1, dieCD d), (1, 0), (1, p)]) {n : Nat} (hn : n = u.goodPhases d false) {v : State} (hv : v = u.wr F.PWR_DIE_PHASES d n)
    {w : State} (hw : w = ((v.setSource d 10 (min 20 ((448 - 20 * n + 15) / 16))).raise 0x0107 (dieCD d) [(1, dieCD d), (1, n)]).showLimits) :
    execPhaseFail d false p s = if n < 23 then .next (if n < 7 then w.retireCd d 5 else w) else .next v := by
  subst hw hv hn hu
  exact if_neg fun h => h.elim (fun hc => nomatch hc.1) (ne_true_of_eq_false hgood)

end

end

/-- Settles O42, from what each event of a supply, a rail and a phase does where its condition holds. -/
theorem feedsAndRails : Obligations.FeedsAndRails := by
  intro s
  refine ⟨fun f => ⟨execFeedFail_present, execFeedReturn_absent⟩, fun vph mv hlow u hu => execSupplyWarning_low hlow hu,
    fun hdip u hu => execSupplyDipRelease_dipped hdip hu, execBrownoutTimer_starts, execBrownoutRecoveryTimer_ends,
    fun q r => ⟨rfl, rfl⟩, fun d p => ⟨fun hp hgood u hu => execPhaseFail_cache hp hgood hu, fun hgood u hu n v hn hv => ?_⟩⟩
  have hfails : exec (.phaseFail d false p) s = _ := execPhaseFail_compute hgood hu hn hv rfl
  exact ⟨fun hmany => hfails.trans (if_neg (not_lt.2 hmany)),
    fun hserves hfew => hfails.trans ((if_pos hfew).trans (congrArg _ (if_neg (not_lt.2 hserves))))⟩

end Sys2Proof.Machine
end

section
/-!
The lightvessel: pairing, beats, silence and takeover (R450, R452, R454, R455, R458).
-/
namespace Sys2Proof.Machine
open Spec

/-- A lightvessel packet against which no fence stands leaves its FIFO and acts (R310 step 1, R452). -/
theorem State.takeLv_vessel {s : State} {op : Nat} {p : Fin 24} {vc : Fin 3} {k : Pkt} (h : vessel s p vc op k) (act : State → Pkt → State) :
    s.takeLv op p vc act = act (s.popPkt p vc) k := by
  obtain ⟨⟨x, b, hhead, rfl, hop, htarget⟩, hdev, hepoch, hfenced⟩ := h
  simp only [State.takeLv, hhead]
  exact (if_pos ⟨hop, htarget⟩).trans (State.landFence_passes (s := s.popPkt p vc) rfl rfl hdev hepoch hfenced _)

/-! ## Descriptors (R450, R455) -/

section

variable {s t : State} {seq : BitVec 32} {d : Desc} (h : starts s seq d) (ht : descType d.bytes = 0x0F) (hb : t = begun s d)
include h ht hb

section

variable (hop : d.f 0x10 1 = 0) {pd : Nat} (hpd : pd = d.f 0x12 2 % 1024)
include hop hpd

theorem execLightvesselPair_pairs (hfrom : t.lvState = 0 ∨ (t.lvState = 4 ∧ d.f 0x11 1 = 0)) (hwitness : t.witnessOk pd = true)
    (hother : pd ≠ t.device) (hnear : t.sameRack pd = true ∨ pd % 32 = t.rd F.PRT_IDENT_SLOT) {l : LvSt}
    (hl : l = { t.lv with side := d.f 0x11 1, pairId := d.f 0x14 4, witness := t.rd F.LVS_CTRL_WITNESS, pairSeq := some d.seq,
                          fromExposed := t.lvState == 4, was := (t.partner, t.lv.pairId, t.lv.side, t.lv.witness) }) :
    execLightvesselPair seq s = .next (((({ t with lv := l } : State).wr F.LVS_STATUS_PARTNER 0 pd).lvTo 1).sendBeat 0) := by
  have hplace : (pd != t.device && (t.sameRack pd || pd % 32 == t.rd F.PRT_IDENT_SLOT)) = true := by simpa [hother] using hnear
  have hstate : (t.lvState == 0 || (t.lvState == 4 && d.f 0x11 1 == 0)) = true := by simpa using hfrom
  subst hl hpd hb
  refine congrArg _ ((startDesc_starts h _ (by simp [ht, hop])).trans (if_neg ?_))
  simp only [hplace, hstate, hwitness]
  decide

theorem execLightvesselPair_refused (hbad : t.witnessOk pd = false ∨ pd = t.device ∨ t.lvState = 2) :
    execLightvesselPair seq s = .next (t.finishDesc d.seq 0x20 0 0) := by
  subst hpd hb
  refine congrArg _ ((startDesc_starts h _ (by simp [ht, hop])).trans (if_pos ?_))
  rcases hbad with hwitness | hself | hactive
  · simp [hwitness]
  · simp [hself]
  · simp [hactive]

end

section

variable (hop : d.f 0x10 1 = 1)
include hop

theorem execLightvesselUnpair_solo (hsolo : t.lvState = 0) : execLightvesselUnpair seq s = .next (t.finishDesc d.seq 0x42 0 0) := by
  subst hb
  exact congrArg _ ((startDesc_starts h _ (by simp [ht, hop])).trans (if_pos (by simp [hsolo])))

/-- UNPAIR of a pair ends in SOLO; a standby closes its mirrors (R455). -/
theorem execLightvesselUnpair_paired (hst : t.lvState = 2 ∨ t.lvState = 4 ∨ t.lvState = 5) {u v : State}
    (hu : u = (t.sendBeat 8).lvEvent 0x0A08 []) (hv : v = ((if t.lvState = 5 then u.closeMirrors else u).lvTo 0).dropCheckpoints) :
    execLightvesselUnpair seq s = .next (({ v with lv := { v.lv with lease := 0 } } : State).finishDesc d.seq 0 0 0) := by
  subst hv hu hb
  exact congrArg _ ((startDesc_starts h _ (by simp [ht, hop])).trans (if_neg (by omega)))

end

section

variable (hop : d.f 0x10 1 = 2)
include hop

theorem execLightvesselTakeover_mismatch (hst : t.lvState ≠ 5) :
    execLightvesselTakeover seq s = .next (t.finishDesc d.seq 0x42 0 0) := by
  subst hb
  exact congrArg _ ((startDesc_starts h _ (by simp [ht, hop])).trans (if_pos hst))

theorem execLightvesselTakeover_asks (hst : t.lvState = 5) {l : LvSt} (hl : l = { t.lv with takeSeq := some d.seq }) :
    execLightvesselTakeover seq s = .next ((({ t with lv := l } : State).lvTo 6).lvAsk) := by
  subst hl hb
  exact congrArg _ ((startDesc_starts h _ (by simp [ht, hop])).trans (if_neg (not_not.2 hst)))

end

end

/-! ## A beat of the partner, in each state (R450, R455) -/

section

variable {u : State} {data : List Byte} {same : Bool} {berths : List (Fin 6144 × BitVec 24)}

section

variable (hst : u.lvState = 1)
include hst

theorem State.beat_pairs (hpair : at_ data 0 4 = u.lv.pairId) (hside : at_ data 4 1 = 1 - u.lv.side) (hsame : same = true) :
    u.beat data same berths = u.paired (at_ data 6 2) berths := by
  simp only [State.beat, hst]
  exact if_pos ⟨hpair, hside, hsame⟩

theorem State.beat_mismatch (hsame : same = false) : u.beat data same berths = u.pairFails 0x42 := by
  simp only [State.beat, hst]
  exact if_neg fun h => ne_true_of_eq_false hsame h.2.2

end

/-- ACTIVE, HOLD and EXPOSED are FENCED by a beat with TAKEN, and by one with an epoch above their own. -/
theorem State.beat_fences (hlow : 2 ≤ u.lvState) (hhigh : u.lvState ≤ 4) :
    (bitAt (at_ data 5 1) 0 = true → u.beat data same berths = u.lvFence 3) ∧
    (bitAt (at_ data 5 1) 0 = false → epochBelow u.epoch (at_ data 6 2) = true → u.beat data same berths = u.lvFence 4) := by
  have hst : u.lvState = 2 ∨ u.lvState = 3 ∨ u.lvState = 4 := by omega
  rcases hst with hst | hst | hst <;> simp only [State.beat, hst]
  all_goals exact ⟨fun htaken => if_pos htaken, fun htaken hepoch => (if_neg (ne_true_of_eq_false htaken)).trans (if_pos hepoch)⟩

section

variable (htaken : bitAt (at_ data 5 1) 0 = false) (hepoch : epochBelow u.epoch (at_ data 6 2) = false)
include htaken hepoch

theorem State.beat_unpairs_active (hst : u.lvState = 2) (hunpair : bitAt (at_ data 5 1) 3 = true) : u.beat data same berths =
    (({ u with lv := { u.lv with lease := 0 } } : State).lvTo 4).dropCheckpoints := by
  simp only [State.beat, hst]
  exact (if_neg (ne_true_of_eq_false htaken)).trans ((if_neg (ne_true_of_eq_false hepoch)).trans (if_pos hunpair))

theorem State.beat_ends_hold (hst : u.lvState = 3) : u.beat data same berths = (u.lvTo 2).lvRelease := by
  simp only [State.beat, hst]
  exact (if_neg (ne_true_of_eq_false htaken)).trans (if_neg (ne_true_of_eq_false hepoch))

end

section

variable (hst : u.lvState = 5)
include hst

theorem State.beat_partnerFenced (hfenced : bitAt (at_ data 5 1) 1 = true) : u.beat data same berths = (u.lvTo 6).lvAsk := by
  simp only [State.beat, hst]
  exact if_pos hfenced

theorem State.beat_unpairs_standby (hfenced : bitAt (at_ data 5 1) 1 = false) (hunpair : bitAt (at_ data 5 1) 3 = true) :
    u.beat data same berths = u.closeMirrors.lvTo 0 := by
  simp only [State.beat, hst]
  exact (if_neg (ne_true_of_eq_false hfenced)).trans (if_pos hunpair)

end

end

/-- A beat counts where it comes from the partner, in every state but SOLO. -/
theorem execLvBeat_partner {s u : State} {p : Fin 24} {vc : Fin 3} {k : Pkt} {same : Bool} {berths : List (Fin 6144 × BitVec 24)}
    (h : vessel s p vc 0x0A k) (hu : u = s.popPkt p vc) (hfrom : k.source = u.partner) (hst : u.lvState ≠ 0) :
    execLvBeat p vc same berths s = .next (u.beat k.data same berths) := by
  subst hu
  exact congrArg _ ((State.takeLv_vessel h _).trans (if_pos ⟨hfrom, hst⟩))

/-! ## Silence and timers (R454, R455) -/

theorem execLvTakeoverTimeout_takingOver {s l u : State} (hst : s.lvState = 6) (hl : l = { s with lv := { s.lv with takeSeq := none } })
    (hu : u = (l.lvTo 5).lvEvent 0x0A07 []) :
    execLvTakeoverTimeout s = .next (match s.lv.takeSeq with | some q => u.finishDesc q 0x12 0 0 | none => u) := by
  subst hu hl
  exact (if_neg (not_not.2 hst)).trans rfl

/-- Settles O48, from what each descriptor, beat and timer of the pair does in its state. -/
theorem vesselPairs : Obligations.VesselPairs := by
  intro s
  refine ⟨fun seq d h ht t hb => ⟨fun hop pd hpd => ⟨fun hfrom hwitness hother hnear l hl =>
        execLightvesselPair_pairs h ht hb hop hpd hfrom hwitness hother hnear hl, execLightvesselPair_refused h ht hb hop hpd⟩,
      fun hop => ⟨execLightvesselUnpair_solo h ht hb hop, fun hst u hu => ?_, fun hst u hu => ?_⟩,
      fun hop => ⟨execLightvesselTakeover_mismatch h ht hb hop, fun hst l hl => execLightvesselTakeover_asks h ht hb hop hst hl⟩⟩,
    fun hsolo => congrArg _ (if_pos hsolo), fun hpair => congrArg _ (if_neg hpair), fun p vc k same berths u h hu hfrom fl e hfl he => ?_,
    fun hst => congrArg _ (if_pos hst), fun hst => congrArg _ (if_pos hst), fun hst => congrArg _ (if_pos hst),
    fun hst => congrArg _ (if_pos hst), fun hst => congrArg _ (if_pos hst), fun hst l u hl hu => execLvTakeoverTimeout_takingOver hst hl hu,
    fun hst hlease => ⟨congrArg _ (if_pos ⟨hst, hlease⟩), congrArg _ (if_pos ⟨hst, hlease⟩)⟩,
    fun _ hlease => ⟨congrArg _ (if_neg fun h => h.2 hlease), congrArg _ (if_neg fun h => h.2 hlease)⟩⟩
  · refine execLightvesselUnpair_paired h ht hb hop (by omega) rfl (hu.trans ?_)
    rw [if_neg (by omega)]
  · exact execLightvesselUnpair_paired h ht hb hop (by omega) rfl (hu.trans (by rw [if_pos hst]))
  · subst hfl he
    have hbeat : u.lvState ≠ 0 → exec (.lvBeat p vc same berths) s = .next (u.beat k.data same berths) := execLvBeat_partner h hu hfrom
    refine ⟨fun hst hpair hside hsame => (hbeat (by omega)).trans (congrArg _ (State.beat_pairs hst hpair hside hsame)),
      fun hst hsame => (hbeat (by omega)).trans (congrArg _ (State.beat_mismatch hst hsame)),
      fun hlow hhigh htaken => (hbeat (by omega)).trans (congrArg _ ((State.beat_fences hlow hhigh).1 htaken)),
      fun hlow hhigh htaken hepoch => (hbeat (by omega)).trans (congrArg _ ((State.beat_fences hlow hhigh).2 htaken hepoch)),
      fun htaken hepoch => ⟨fun hst hunpair => (hbeat (by omega)).trans (congrArg _ (State.beat_unpairs_active htaken hepoch hst hunpair)),
        fun hst => (hbeat (by omega)).trans (congrArg _ (State.beat_ends_hold htaken hepoch hst))⟩,
      fun hst hfenced => (hbeat (by omega)).trans (congrArg _ (State.beat_partnerFenced hst hfenced)),
      fun hst hfenced hunpair => (hbeat (by omega)).trans (congrArg _ (State.beat_unpairs_standby hst hfenced hunpair))⟩

end Sys2Proof.Machine
end

section
/-!
The witness of a lightvessel pair: asks, answers, notices and checkpoints (R451, R453 to R455, R457, R460, R462).
-/
namespace Sys2Proof.Machine
open Spec

section

variable {s u : State} {p : Fin 24} {vc : Fin 3} {k : Pkt} (hu : u = s.popPkt p vc)
include hu

/-! ## Asks at the witness (R453, R454) -/

section

variable (h : vessel s p vc 0x0C k) (hask : bitAt (at_ k.data 5 1) 5 = false)
include h hask

/-- A witness in quarantine leaves TAKEOVER and CONTINUE without an answer. -/
theorem execLvAsk_quarantined (hq : u.lv.quarantine = true) : execLvAsk p vc s = .next u := by
  subst hu
  exact congrArg _ ((State.takeLv_vessel h _).trans (if_pos ⟨hq, by rw [hask]; rfl⟩))

variable (hq : u.lv.quarantine = false) {fl e : Nat} (hfl : fl = at_ k.data 5 1) (he : e = at_ k.data 6 2) {g : Bool} {d : List Byte}
  (hd : d = k.data.take 5 ++ leBytes 1 (fl % 64 - fl / 16 % 2 * 16 + 16 * b2n g) ++ (k.data.drop 6).take 26)
include hq hfl he hd

theorem execLvAsk_takeover (htake : at_ k.data 4 1 = 1) {subj c old : Nat} (hsubj : subj = at_ k.data 8 2)
    (hc : c = tget (fun _ => 0) u.rack.cont subj) (hold : old = (e + 65535) % 65536)
    (hg : g = (c == 0 || !(c == old || epochBelow old c))) {v : State}
    (hv : v = (if g then (u.raiseFence subj e).raiseFence k.source e else u)) :
    execLvAsk p vc s = .next (v.lvIssue (v.lvPkt 0x8C k.source d)) := by
  subst hv hd hc hsubj hfl hu
  refine congrArg _ ((State.takeLv_vessel h _).trans ((if_neg fun hbusy => ne_true_of_eq_false hq hbusy.1).trans ?_))
  simp only [hask, htake, beq_self_eq_true, Bool.not_false, Bool.and_self, if_true, ← he, ← hold, ← hg]
  cases g <;> rfl

theorem execLvAsk_continue (hcont : at_ k.data 4 1 = 0) (hg : g = (u.fenceOf k.source == 0 || !epochBelow e (u.fenceOf k.source)))
    {v : State} (hv : v = (if g then { u with rack := { u.rack with cont := tput (fun _ => 0) u.rack.cont k.source e } } else u)) :
    execLvAsk p vc s = .next (v.lvIssue (v.lvPkt 0x8C k.source d)) := by
  subst hv hd he hfl hu
  refine congrArg _ ((State.takeLv_vessel h _).trans ((if_neg fun hbusy => ne_true_of_eq_false hq hbusy.1).trans ?_))
  simp only [hask, hcont, hq, show (0 == 1) = false from rfl, Bool.false_and, Bool.false_or, Bool.false_eq_true, if_false, ← hg]
  cases g <;> rfl

end

/-! ## Answers of the witness (R454, R455) -/

section

variable (h : vessel s p vc 0x8C k) (hfrom : k.source = u.lv.witness) (hpair : at_ k.data 0 4 = u.lv.pairId)
include h hfrom hpair

section

variable (hask : bitAt (at_ k.data 5 1) 5 = false)
include hask

/-- The answer to a CONTINUE takes HOLD to EXPOSED under a lease, or fences it. -/
theorem execLvAnswer_continue (hst : u.lvState = 3) (he : at_ k.data 6 2 = u.epoch) : execLvAnswer p vc s =
    .next (if bitAt (at_ k.data 5 1) 4 then
        ((({ u with lv := { u.lv with lease := 1 } } : State).lvTo 4).lvEvent 0x0A05 []).lvRelease
      else u.lvFence 1) := by
  have hnotTaking : u.lvState ≠ 6 := by omega
  subst hu
  exact congrArg _ ((State.takeLv_vessel h _).trans ((if_neg (not_or.2 ⟨not_not.2 hfrom, not_not.2 hpair⟩)).trans
    ((if_neg fun ha => hnotTaking ha.1).trans (if_pos ⟨hst, congrArg not hask, he⟩))))

/-- The answer to a TAKEOVER grants it, or ends the pair in SOLO with its mirrors closed. -/
theorem execLvAnswer_takeover (hst : u.lvState = 6) (he : at_ k.data 6 2 = (u.epoch + 1) % 65536) {v : State}
    (hv : v = ((({ u.closeMirrors with lv := { u.closeMirrors.lv with takeSeq := none } } : State).lvEvent 0x0A06 []).lvTo 0)) :
    execLvAnswer p vc s = .next (if bitAt (at_ k.data 5 1) 4 then u.takeGranted
      else match u.lv.takeSeq with | some q => v.finishDesc q 0x13 0 0 | none => v) := by
  subst hv hu
  exact congrArg _ ((State.takeLv_vessel h _).trans ((if_neg (not_or.2 ⟨not_not.2 hfrom, not_not.2 hpair⟩)).trans
    (if_pos ⟨hst, congrArg not hask, he⟩)))

end

/-- A renewal that the witness refuses fences the holder of the lease. -/
theorem execLvAnswer_renewalRefused (hst : u.lvState = 4) (hlease : u.lv.lease ≠ 0) (hrenew : bitAt (at_ k.data 5 1) 5 = true)
    (he : at_ k.data 6 2 = u.epoch) (hrefused : bitAt (at_ k.data 5 1) 4 = false) : execLvAnswer p vc s = .next (u.lvFence 2) := by
  have hnotTaking : u.lvState ≠ 6 := by omega
  have hnotHold : u.lvState ≠ 3 := by omega
  subst hu
  exact congrArg _ ((State.takeLv_vessel h _).trans ((if_neg (not_or.2 ⟨not_not.2 hfrom, not_not.2 hpair⟩)).trans
    ((if_neg fun ha => hnotTaking ha.1).trans ((if_neg fun ha => hnotHold ha.1).trans
      (if_pos ⟨hst, hlease, hrenew, he, congrArg not hrefused⟩)))))

end

/-- A notice over a RACK link at a device outside a pair raises the two fences and is acknowledged (R457). -/
theorem execLvNotice_rack (h : vessel s p vc 0x0B k) {n : Nat} {v : State} (hn : n = at_ k.data 10 2)
    (hv : v = ((u.raiseFence (at_ k.data 8 2 % 1024) n).raiseFence k.source n).respond (p / 6) k { op := 0x81 })
    (hunpaired : u.lvState ≤ 1) (hrack : u.spinePort p = false) : execLvNotice p vc s = .next v := by
  have hnotServing : ¬ 2 ≤ u.lvState := by omega
  subst hv hn hu
  refine congrArg _ ((State.takeLv_vessel h _).trans ((if_neg fun hs => hnotServing hs.1).trans ?_))
  exact if_neg (ne_true_of_eq_false hrack)

end

/-! ## Checkpoints (R455, R460, R462) -/

section

variable {s : State} {b : Fin 6144} {f : Nat} (hf : f = tget (fun _ => 0) s.lv.flight b)
include hf

/-- Without a checkpoint in flight neither its acknowledgement nor its time says anything. -/
theorem exec_checkpoint_none (h0 : f = 0) : execLvCheckpointAck b s = .next s ∧ execLvCheckpointTimeout b s = .next s := by
  subst hf
  exact ⟨if_pos h0, if_pos h0⟩

variable (h0 : f ≠ 0)
include h0

theorem execLvCheckpointAck_flight (hopen : (s.berth b).state ≠ 0) {u1 l u2 : State}
    (hu1 : u1 = s.setBerth b { s.berth b with lvCursor := f - 1 })
    (hl : l = { u1 with lv := { u1.lv with
      flight := tput (fun _ => 0) u1.lv.flight b 0, overdue := u1.lv.overdue.del b, first := u1.lv.first.del b
      holds := u1.lv.holds.filter (fun (h : Nat × Nat × Nat) => !(h.2.1 == b.val && decide (h.2.2 ≤ f - 1))) } })
    (hu2 : u2 = (if l.lv.due.contains b.val ∧ l.lvState = 2 then l.checkpoint b else l.takePending b)) :
    execLvCheckpointAck b s = .next u2.pairDone.lvCond := by
  subst hu2 hl hu1 hf
  refine (if_neg h0).trans ?_
  simp only [if_neg hopen]

theorem execLvCheckpointTimeout_flight (hfirst : s.lv.overdue.contains b.val = false) {l : State}
    (hl : l = { s with lv := { s.lv with
      overdue := s.lv.overdue.add b
      holds := s.lv.holds.filter (fun (h : Nat × Nat × Nat) => !(h.2.1 == b.val && decide (h.2.2 ≤ f - 1))) } }) :
    execLvCheckpointTimeout b s = .next (l.lvEvent 0x0A09 [(2, b)]).lvCond := by
  subst hl hf
  refine (if_neg h0).trans ?_
  simp only [hfirst, Bool.false_or]

end

/-- Settles O49, from what the witness makes of an ask, and what an answer, a notice and a checkpoint do. -/
theorem vesselWitness : Obligations.VesselWitness := by
  intro s p vc k u hu
  refine ⟨fun h fl e subj hfl he hsubj hask => ?_, fun h hfrom hpair fl e hfl he => ?_,
    fun h n v hn hv hunpaired hrack _ => execLvNotice_rack hu h hn hv hunpaired hrack, rfl, rfl,
    fun b f hf => ⟨exec_checkpoint_none hf, fun h0 hopen u1 l u2 => execLvCheckpointAck_flight hf h0 hopen,
      fun h0 hfirst hs hhs l hl => execLvCheckpointTimeout_flight hf h0 hfirst (hhs ▸ hl)⟩⟩
  · have hask' : bitAt (at_ k.data 5 1) 5 = false := hfl ▸ hask
    exact ⟨execLvAsk_quarantined hu h hask', fun hq g d hd => ⟨fun htake c old hc hold hg v hv =>
        execLvAsk_takeover hu h hask' hq hfl he hd htake hsubj hc hold hg hv,
      fun hcont hg v hv => execLvAsk_continue hu h hask' hq hfl he hd hcont hg hv⟩⟩
  · subst hfl he
    refine ⟨fun hst hask hepoch => ?_, fun hst hask hepoch => ?_, fun hst hlease hrenew hepoch hrefused =>
      execLvAnswer_renewalRefused hu h hfrom hpair hst hlease hrenew hepoch hrefused⟩
    · have hx : exec (.lvAnswer p vc) s = _ := execLvAnswer_continue hu h hfrom hpair hask hst hepoch
      exact ⟨fun hgrant => hx.trans (by rw [if_pos hgrant]), fun hgrant => hx.trans (by rw [if_neg (ne_true_of_eq_false hgrant)])⟩
    · have hx : exec (.lvAnswer p vc) s = _ := execLvAnswer_takeover hu h hfrom hpair hask hst hepoch rfl
      exact ⟨fun hgrant => hx.trans (by rw [if_pos hgrant]),
        fun hgrant htake => hx.trans (by rw [if_neg (ne_true_of_eq_false hgrant), htake])⟩

end Sys2Proof.Machine
end

section
/-!
Watch rooms: loading, failure and recovery, shadow and handover records, the watchdog and deadlines (R469 to R473).
-/
namespace Sys2Proof.Machine

/-! ## Loading (R469) -/

section

variable {s : State} {q : Fin 4}

/-- A failed load raises WR_FAILED; an activation that was staged is missed with it (R469, R478). -/
theorem State.loadFailed_eq {v : State} (hv : v = (s.failRoom q).raise 0x0B03 (dieIO q) []) :
    s.loadFailed q = if s.tender = 4 then v.actMissed else v.fwSettle := by
  subst hv
  rfl

section

variable (hrole : (s.room q).role = 1)
include hrole

theorem execWrLoadDone_verified {sh : Bool} (hgood : s.headerGood (s.room q).hdr = true) {u : State}
    (hu : u = s.setRoom q { s.room q with verified := true }) :
    execWrLoadDone q sh s = .next (if sh then u.toStandby q else u) := by
  subst hu
  exact (if_neg (not_not.2 hrole)).trans (if_neg (by simp [hgood]))

theorem execWrLoadDone_refused {sh : Bool} (hbad : s.headerGood (s.room q).hdr = false) :
    execWrLoadDone q sh s = .next (s.loadFailed q) :=
  (if_neg (not_not.2 hrole)).trans (if_pos (by simp [hbad]))

theorem execWrLoadTimeout_loading : execWrLoadTimeout q s = .next (s.loadFailed q) := congrArg _ (if_pos hrole)

end

theorem execWrFailedRecover_first (hrole : (s.room q).role = 4) (hfirst : (s.room q).failPrev = 0) :
    execWrFailedRecover q true s = .next (s.setRoom q { s.room q with role := 0 }).fwSettle :=
  if_pos ⟨hrole, rfl, by simp [hfirst]⟩

theorem execWrFailedRecover_failedTest : execWrFailedRecover q false s = .next s := if_neg (by simp)

end

/-! ## Shadow and handover records (R470, R472, R473) -/

section

variable {s : State} {bytes : List (BitVec 8)}

section

variable {a b : Nat} (ha : s.activeRoom = some a) (hb : s.standbyRoom = some b)
include ha hb

theorem execShadowRecord_standby (hgood : recordGood (s.room b).hdr bytes = true) (hrole : (s.room b).role ≠ 1) :
    execShadowRecord bytes s = .next (s.setFw { s.fw with shadow := bytes }) := by
  simp only [execShadowRecord, ha, hb, hgood, if_true, if_neg hrole]

theorem execShadowRecord_bad (hbad : recordGood (s.room b).hdr bytes = false) : execShadowRecord bytes s = .next s := by
  simp only [execShadowRecord, ha, hb, hbad, Bool.false_eq_true, if_false]

variable (env : FwEnv)

theorem execHandoverRecord_none (hfree : s.bit F.FWU_STATUS_HANDOVER = false) : execHandoverRecord bytes env s = .next s := by
  simp only [execHandoverRecord, ha, hb, hfree, Bool.not_false, if_true]

variable (hbusy : s.bit F.FWU_STATUS_HANDOVER = true)
include hbusy

/-- A record that the standby refuses ends the handover; the sender stays ACTIVE (R472, R473). -/
theorem execHandoverRecord_refused (hbad : recordGood (s.room b).hdr bytes = false) :
    execHandoverRecord bytes env s = .next (s.endHandover.raise 0x0B0C (dieIO b) []) := by
  simp only [execHandoverRecord, ha, hb, hbusy, hbad, Bool.not_true, Bool.false_and, Bool.false_eq_true, if_false]

/-- A good record outside an activation exchanges the roles of the two rooms (R473). -/
theorem execHandoverRecord_taken (hgood : recordGood (s.room b).hdr bytes = true)
    (hsections : sectionsGood (at_ bytes 6 2) (bytes.drop 0x40) = true) (htender : s.tender ≠ 4) {u : State}
    (hu : u = (s.setRoom a { s.room a with role := 2 }).setRoom b { s.room b with role := 3 }) :
    execHandoverRecord bytes env s = .next (((u.monLock 4).newBatch.fwShow.endHandover).raise 0x0B01 (dieIO b) [(1, a), (1, b)]) := by
  subst hu
  simp only [execHandoverRecord, ha, hb, hbusy, hgood, hsections, Bool.not_true, Bool.and_self, Bool.false_eq_true, if_false, if_true,
    if_neg htender]

end

/-- A good record makes a verified room STANDBY where there is none (R469). -/
theorem execShadowRecord_loading {q : Nat} (hstandby : s.standbyRoom = none) (hloading : s.roomIn 1 = some q)
    (hverified : (s.room q).verified = true) (hactive : s.activeRoom.isSome = true) (hgood : recordGood (s.room q).hdr bytes = true)
    (hrole : (s.room q).role = 1) : execShadowRecord bytes s = .next ((s.setFw { s.fw with shadow := bytes }).toStandby q) := by
  obtain ⟨a, ha⟩ := Option.isSome_iff_exists.1 hactive
  simp only [execShadowRecord, ha, hstandby, hloading, Option.filter_some, hverified, hgood, hrole, if_true]

end

/-! ## The watchdog (R469, R470) -/

section

variable {s : State} {q : Fin 4} (hq : s.activeRoom = some q.val)
include hq

theorem execWatchdogExpire_alone (hstandby : s.standbyRoom = none) : execWatchdogExpire q s = .next (s.askReset false 7) := by
  refine (if_neg (not_not.2 hq)).trans ?_
  rw [hstandby]

theorem execWatchdogExpire_failover {b : Nat} (hstandby : s.standbyRoom = some b) (hfree : s.bit F.FWU_STATUS_HANDOVER = false)
    (htender : s.tender ≠ 5) : execWatchdogExpire q s =
    .next ((((((s.failRoom q).setRoom b { s.room b with role := 3 }).monLock 4).newBatch.fwShow).raise 0x0B02 (dieIO b) []).fwSettle) := by
  refine (if_neg (not_not.2 hq)).trans ?_
  simp only [hstandby, hfree, Bool.false_eq_true, if_false, if_neg fun h : s.tender = 5 ∧ _ => htender h.1]

end

/-! ## Deadlines (R471) -/

/-- Each task of R471 is counted under its position. -/
theorem exec_tasks (s : State) (missed : Bool) : ∀ c ∈ ([(Instr.thermalPowerTask, 0), (.laserSupervisionTask, 1), (.laneSupervisionTask, 2),
    (.ringSupervisionTask, 3), (.eventLoggingTask, 4)] : List ((Bool → Instr) × Nat)), exec (c.1 missed) s = .next (s.task c.2 missed) := by
  simp only [List.forall_mem_cons, List.not_mem_nil, false_implies, implies_true, and_true]
  and_intros <;> rfl

section

variable {s : State} {t : Nat} (hactive : s.activeRoom.isSome = true)
include hactive

theorem State.task_met : s.task t false = s.setFw { s.fw with missed := tput (fun _ => 0) s.fw.missed t 0 } :=
  (if_neg (by simp [Option.isNone_eq_false_iff.2 hactive])).trans (if_pos rfl)

/-- A miss is counted; the third in a row raises TASK_OVERRUN. -/
theorem State.task_missed {n : Nat} (hn : n = tget (fun _ => 0) s.fw.missed t + 1) {u : State}
    (hu : u = s.setFw { s.fw with missed := tput (fun _ => 0) s.fw.missed t (n % 3) }) :
    s.task t true = if n = 3 then u.raise 0x0B04 s.fwSource [(1, t)] else u := by
  subst hu hn
  exact (if_neg (by simp [Option.isNone_eq_false_iff.2 hactive])).trans (if_neg (by simp))

end

/-- Settles O52, from what each event of a watch room, record, watchdog and task does where its condition holds. -/
theorem watchRooms : Obligations.WatchRooms := by
  intro s q sh env
  refine ⟨fun hrole => ⟨fun hgood u hu => execWrLoadDone_verified hrole hgood hu, fun v hv w hw => ?_⟩,
    fun hrole => ⟨if_pos hrole, congrArg _ (if_neg hrole)⟩, execWrFailedRecover_first, execWrFailedRecover_failedTest,
    fun a b bytes ha hb => ⟨execShadowRecord_standby ha hb, execShadowRecord_bad ha hb, execHandoverRecord_none ha hb env, fun hbusy =>
      ⟨execHandoverRecord_refused ha hb env hbusy, fun hgood hsections htender u hu =>
        execHandoverRecord_taken ha hb env hbusy hgood hsections htender hu⟩⟩,
    fun bytes hstandby hloading hverified hactive hgood hrole =>
      execShadowRecord_loading hstandby hloading hverified hactive hgood hrole,
    fun hq => if_pos hq, execWatchdogExpire_alone, fun b hq hstandby hfree htender => execWatchdogExpire_failover hq hstandby hfree htender,
    fun c hc hactive n hn => ⟨(exec_tasks s false c hc).trans (congrArg _ (State.task_met hactive)), fun hfew => ?_, fun hthird => ?_⟩⟩
  · have hfailed : s.loadFailed q = w := (State.loadFailed_eq hv).trans hw.symm
    exact ⟨(execWrLoadTimeout_loading hrole).trans (congrArg _ hfailed),
      fun hbad => (execWrLoadDone_refused hrole hbad).trans (congrArg _ hfailed)⟩
  · refine (exec_tasks s true c hc).trans (congrArg _ ((State.task_missed hactive rfl rfl).trans ?_))
    rw [← hn, if_neg (by omega), Nat.mod_eq_of_lt (by omega)]
  · refine (exec_tasks s true c hc).trans (congrArg _ ((State.task_missed hactive rfl rfl).trans ?_))
    rw [← hn, hthird]
    rfl

end Sys2Proof.Machine
end

section
/-!
The management endpoint: its answers, the signed report and the notice of events (R478, R485 to R490).
-/
namespace Sys2Proof.Machine

/-- A field written with other bits than its reset value reads them back, in any register file. -/
theorem State.rd_wr_of_ne_reset (s : State) (f : Fld) (i v : Nat) (h : f.lo ≤ f.hi) (hh : f.hi < 32)
    (hv : v % 2 ^ (f.hi - f.lo + 1) ≠ bitsGet (regReset (f.off i)) f.hi f.lo) : (s.wr f i v).rd f i = v % 2 ^ (f.hi - f.lo + 1) := by
  have hread := bitsGet_bitsSet_same (s.reg (f.off i)) f.hi f.lo v h hh
  have hkept : bitsSet (s.reg (f.off i)) f.hi f.lo v ≠ regReset (f.off i) := fun he => hv (by rw [← hread, he])
  have hreg : (s.wr f i v).reg (f.off i) = bitsSet (s.reg (f.off i)) f.hi f.lo v := by
    show tget regReset (tput regReset s.regs _ _) _ = _
    rw [tput, if_neg hkept, tget_tins_same]
  rw [State.rd, hreg, hread]

/-! ## Who answers (R488) -/

section

variable {s : State}

theorem State.activeRoom_present (h : s.activeRoom.isSome = true) : ¬ s.activeRoom.isNone = true := by
  simp [Option.isNone_eq_false_iff.2 h]

theorem State.mctpAnswer_silent (h : s.activeRoom = none) (cmd : Nat) (i : BitVec 5) (code : Nat) (data : List Byte) :
    s.mctpAnswer cmd i code data = s := if_pos (by simp [h])

theorem State.mctpAnswer_active (h : s.activeRoom.isSome = true) (cmd : Nat) (i : BitVec 5) (code : Nat) (data : List Byte) :
    s.mctpAnswer cmd i code data = s.send (mctp cmd i.toNat code data) :=
  if_neg (State.activeRoom_present h)

/-- Without an ACTIVE watch room no request is answered and nothing is sent. -/
theorem exec_management_silent (h : s.activeRoom = none) (i : BitVec 5) (env : FwEnv) (off : BitVec 32) (len : BitVec 16)
    (ch hdr m : List (BitVec 8)) (c : BitVec 8) (t : BitVec 64) : ∀ x ∈ [Instr.getInfo i, .getCert i off len, .attest i ch, .getRepair i off len,
      .fwOffer i hdr m env, .fwStatus i, .fwCmd i c t env, .eventNotify], exec x s = .next s := by
  have hnone : s.activeRoom.isNone = true := by simp [h]
  simp only [List.forall_mem_cons, List.not_mem_nil, false_implies, implies_true, and_true]
  refine ⟨congrArg _ (State.mctpAnswer_silent h ..), ?_, if_pos hnone, ?_, if_pos hnone, congrArg _ (State.mctpAnswer_silent h ..),
    if_pos hnone, if_pos (.inl hnone)⟩
  · show execGetCert i off len s = _
    simp only [execGetCert, State.mctpAnswer_silent h, ite_self]
  · show execGetRepair i off len s = _
    simp only [execGetRepair, State.mctpAnswer_silent h, ite_self]

end

section

variable {s : State} {i : BitVec 5} (hactive : s.activeRoom.isSome = true)
include hactive

/-! ## Areas and records (R489) -/

theorem execGetEvents_invalid {n : BitVec 32} {c : BitVec 8} (hc : c = 0 ∨ 128 < c.toNat) :
    execGetEvents i n c s = .next (s.send (mctp 0x02 i.toNat 1 [])) :=
  (if_pos hc).trans (congrArg _ (State.mctpAnswer_active hactive ..))

/-- The unread records from the number asked, and how many numbers before them are gone. -/
theorem execGetEvents_records {n : BitVec 32} {c : BitVec 8} (hlow : 1 ≤ c.toNat) (hhigh : c.toNat ≤ 128) {l : List EvRec} {hd lost nx : Nat}
    (hl : l = (s.bmcLog.filter (fun e => seqFrom n.toNat e.seq)).take c.toNat) (hhd : hd = (l.head?.map (·.seq)).getD s.evSeq)
    (hlost : lost = (hd + 2 ^ 32 - n.toNat) % 2 ^ 32) (hnx : nx = (l.getLast?.map (fun e => (e.seq + 1) % 2 ^ 32)).getD s.fw.bmcRead)
    (hfew : lost < 2 ^ 24) : execGetEvents i n c s = .next ((s.setFw { s.fw with bmcRead := nx }).send (mctp 0x02 i.toNat 0
      (leBytes 4 hd ++ leBytes 1 l.length ++ leBytes 3 lost ++ l.flatMap (fun e => eventBytes e 0)))) := by
  have hcount : ¬ (c = 0 ∨ 128 < c.toNat) := by
    rintro (rfl | hbig)
    · exact absurd hlow (by decide)
    · omega
  have hshown : (if lost < 2 ^ 31 then min lost (2 ^ 24 - 1) else 0) = lost := by
    rw [if_pos (by omega), min_eq_left (by omega)]
  have hactive' : (s.setFw { s.fw with bmcRead := nx }).activeRoom.isSome = true := hactive
  rw [← State.mctpAnswer_active hactive']
  simp only [execGetEvents, if_neg hcount, ← hl, ← hhd, ← hlost, ← hnx, hshown, Option.isNone_eq_false_iff.2 hactive,
    Bool.false_eq_true, if_false]

section

variable {off : BitVec 32} {len : BitVec 16}

theorem execGetCert_invalid (h : 4096 < len.toNat ∨ 0x100000 < off.toNat + len.toNat) :
    execGetCert i off len s = .next (s.send (mctp 0x03 i.toNat 1 [])) :=
  (if_pos h).trans (congrArg _ (State.mctpAnswer_active hactive ..))

theorem execGetCert_within (hlen : len.toNat ≤ 4096) (hend : off.toNat + len.toNat ≤ 0x100000) : execGetCert i off len s =
    .next (s.send (mctp 0x03 i.toNat 0 ((List.range len.toNat).map (fun k => Config.certByte (off.toNat + k))))) :=
  (if_neg (not_or.2 ⟨not_lt.2 hlen, not_lt.2 hend⟩)).trans (congrArg _ (State.mctpAnswer_active hactive ..))

theorem execGetRepair_invalid (h : 4096 < len.toNat ∨ s.fw.repair.length < off.toNat + len.toNat) :
    execGetRepair i off len s = .next (s.send (mctp 0x05 i.toNat 1 [])) :=
  (if_pos h).trans (congrArg _ (State.mctpAnswer_active hactive ..))

theorem execGetRepair_within (hlen : len.toNat ≤ 4096) (hend : off.toNat + len.toNat ≤ s.fw.repair.length) : execGetRepair i off len s =
    .next (s.send (mctp 0x05 i.toNat 0 ((s.fw.repair.drop off.toNat).take len.toNat))) :=
  (if_neg (not_or.2 ⟨not_lt.2 hlen, not_lt.2 hend⟩)).trans (congrArg _ (State.mctpAnswer_active hactive ..))

end

theorem execEventNotify_unread (hunread : s.bmcLog.any (fun e => seqFrom s.fw.bmcRead e.seq) = true) (hdue : s.fw.notifyAt ≤ s.now) :
    execEventNotify s = .next ((s.setFw { s.fw with notifyAt := s.now + 10000000 }).send (mctp 0x10 0x80 0 (leBytes 4 s.evSeq))) :=
  if_neg (by simp [Option.isNone_eq_false_iff.2 hactive, hunread, hdue])

/-! ## The signed report (R485 to R487) -/

section

variable {ch : List (BitVec 8)}

theorem execAttest_invalid (hch : ch.length ≠ 32) : execAttest i ch s = .next (s.send (mctp 0x04 i.toNat 1 [])) :=
  (if_neg (State.activeRoom_present hactive)).trans
    ((if_pos hch).trans (congrArg _ (State.mctpAnswer_active hactive ..)))

variable (hch : ch.length = 32)
include hch

section

variable (hempty : s.bucketFill < tokenNs)
include hempty

/-- While the bucket holds no token the wait is told, without another event within the hour. -/
theorem execAttest_busyTold (htold : s.fw.busyAt ≠ 0) (hhour : s.now < s.fw.busyAt - 1 + nsHour) : execAttest i ch s =
    .next (s.send (mctp 0x04 i.toNat 2 (leBytes 2 (min 0xFFFF ((tokenNs - s.bucketFill + 999999) / 1000000))))) := by
  rw [← State.mctpAnswer_active hactive]
  refine (if_neg (State.activeRoom_present hactive)).trans ((if_neg (not_not.2 hch)).trans ((if_pos hempty).trans ?_))
  simp only [if_pos (And.intro htold hhour)]

theorem execAttest_busyFirst (hnew : s.fw.busyAt = 0) {v : State} (hv : v = s.raise 0x0C04 s.fwSource []) : execAttest i ch s =
    .next ((v.setFw { v.fw with busyAt := s.now + 1 }).mctpAnswer 0x04 i 2
      (leBytes 2 (min 0xFFFF ((tokenNs - s.bucketFill + 999999) / 1000000)))) := by
  subst hv
  refine (if_neg (State.activeRoom_present hactive)).trans ((if_neg (not_not.2 hch)).trans ((if_pos hempty).trans ?_))
  simp only [if_neg fun h : s.fw.busyAt ≠ 0 ∧ _ => h.1 hnew]

end

section

variable (htoken : tokenNs ≤ s.bucketFill)
include htoken

theorem execAttest_exhausted (hleaf : s.takeLeaf = none) :
    execAttest i ch s = .next ((s.raise 0x0C06 s.fwSource []).mctpAnswer 0x04 i 5 []) := by
  refine (if_neg (State.activeRoom_present hactive)).trans ((if_neg (not_not.2 hch)).trans
    ((if_neg (not_lt.2 htoken)).trans ?_))
  rw [hleaf]

/-- A report takes a leaf and a token, and says when leaves run low. -/
theorem execAttest_signed {leaf : Nat} {t u : State} {head : List Byte} (hleaf : s.takeLeaf = some (leaf, t))
    (hhead : head = s.reportHead ch s.repairRecord)
    (hu : u = t.setFw { t.fw with bucket := s.bucketFill - tokenNs, bucketAt := s.now, repair := s.repairRecord }) : execAttest i ch s =
    .next (u.checkLeaves.fwShow.mctpAnswer 0x04 i 0 (head ++ (List.range 5076).map (Config.hssSign leaf head))) := by
  subst hu hhead
  refine (if_neg (State.activeRoom_present hactive)).trans ((if_neg (not_not.2 hch)).trans
    ((if_neg (not_lt.2 htoken)).trans ?_))
  rw [hleaf]

end

end

end

/-- LEAVES_LOW is not raised while enough leaves remain, nor twice (R485). -/
theorem State.checkLeaves_quiet {u : State} (h : 65536 ≤ u.leavesLeft ∨ u.fw.leavesLow = true) : u.checkLeaves = u :=
  if_neg fun hlow => h.elim (not_le.2 hlow.1) fun htold => by simp [htold] at hlow

theorem State.checkLeaves_low {u v : State} (hlow : u.leavesLeft < 65536) (hfirst : u.fw.leavesLow = false)
    (hv : v = u.raise 0x0C05 u.fwSource []) : u.checkLeaves = v.setFw { v.fw with leavesLow := true } := by
  subst hv
  exact if_pos ⟨hlow, congrArg not hfirst⟩

/-! ## Images and commands of the tender (R478, R489, R490) -/

theorem State.offer_refused {s : State} {env : FwEnv} {src addr r : Nat} {h m : List Byte} (hr : r = s.offerRefusal h m env.sig) (hne : r ≠ 0) :
    s.offer env src addr h m = ((s.wr F.FWU_STATUS_REASON 0 r).raise 0x0B07 s.fwSource [(1, r)], r) := by
  subst hr
  exact if_pos hne

theorem State.offer_taken {s : State} {env : FwEnv} {src addr : Nat} {h m : List Byte} (hr : s.offerRefusal h m env.sig = 0) :
    (s.offer env src addr h m).2 = 0 := by
  rw [State.offer, if_neg (not_not.2 hr)]
  split <;> rfl

section

variable {s : State} {i : BitVec 5} {env : FwEnv} (hactive : s.activeRoom.isSome = true)
include hactive

section

variable {h m : List (BitVec 8)}

theorem execFwOffer_invalid (hlen : h.length ≠ 5332) : execFwOffer i h m env s = .next (s.send (mctp 0x06 i.toNat 1 [])) :=
  (if_neg (State.activeRoom_present hactive)).trans
    ((if_pos hlen).trans (congrArg _ (State.mctpAnswer_active hactive ..)))

variable (hlen : h.length = 5332)
include hlen

theorem execFwOffer_refused {r : Nat} (hr : r = s.offerRefusal h m env.sig) (hne : r ≠ 0) : execFwOffer i h m env s =
    .next (((s.wr F.FWU_STATUS_REASON 0 r).raise 0x0B07 s.fwSource [(1, r)]).mctpAnswer 0x06 i 4 (leBytes 1 r)) := by
  refine (if_neg (State.activeRoom_present hactive)).trans ((if_neg (not_not.2 hlen)).trans ?_)
  simp only [State.offer_refused hr hne, if_neg hne]

theorem execFwOffer_taken (hr : s.offerRefusal h m env.sig = 0) :
    execFwOffer i h m env s = .next ((s.offer env 1 0 h m).1.mctpAnswer 0x06 i 0 []) :=
  (if_neg (State.activeRoom_present hactive)).trans ((if_neg (not_not.2 hlen)).trans
    (congrArg _ (if_pos (State.offer_taken hr))))

end

section

variable {c : BitVec 8} {t : BitVec 64}

theorem execFwCmd_invalid (hc : c = 0 ∨ 7 ≤ c.toNat) : execFwCmd i c t env s = .next (s.send (mctp 0x09 i.toNat 1 [])) := by
  have hcode : c.toNat = 0 ∨ 7 ≤ c.toNat := hc.imp_left (congrArg BitVec.toNat)
  exact (if_neg (State.activeRoom_present hactive)).trans
    ((if_pos hcode).trans (congrArg _ (State.mctpAnswer_active hactive ..)))

theorem execFwCmd_offer {q : State × Nat} (hq : q = s.offerMem env) : execFwCmd i 1 t env s =
    .next (if q.2 = 0 then q.1.mctpAnswer 0x09 i 0 [] else q.1.mctpAnswer 0x09 i 4 (leBytes 1 q.2)) := by
  subst hq
  exact (if_neg (State.activeRoom_present hactive)).trans ((if_neg (by decide)).trans (if_pos rfl))

theorem execFwCmd_commit {q : State × Bool} (hq : q = s.commitSvn env) :
    execFwCmd i 5 t env s = .next (q.1.mctpAnswer 0x09 i (if q.2 then 0 else 1) []) := by
  subst hq
  exact (if_neg (State.activeRoom_present hactive)).trans
    ((if_neg (by decide)).trans ((if_neg (by decide)).trans (if_pos rfl)))

/-- CANCEL, ARM and DISARM say by the tender's state whether they were taken (log entry 43). -/
theorem execFwCmd_moves {u : State} (hc : c ∈ [2#8, 3#8, 4#8])
    (hu : (if c.toNat = 3 then (s.wr F.FWU_ACT_LO_T_LO 0 (t.toNat % 2 ^ 32)).wr F.FWU_ACT_HI_T_HI 0 (t.toNat / 2 ^ 32)
      else s).fwuCmd c.toNat env = u) :
    execFwCmd i c t env s = .next (u.mctpAnswer 0x09 i (if u.tender ≠ s.tender then 0 else 1) []) := by
  subst hu
  have hcodes : ¬ (c.toNat = 0 ∨ 7 ≤ c.toNat) ∧ c.toNat ≠ 1 ∧ c.toNat ≠ 5 ∧ c.toNat ≠ 6 := by
    revert c
    decide
  obtain ⟨hvalid, hnotOffer, hnotCommit, hnotSave⟩ := hcodes
  refine (if_neg (State.activeRoom_present hactive)).trans
    ((if_neg hvalid).trans ((if_neg hnotOffer).trans ((if_neg hnotCommit).trans ?_)))
  simp only [hnotSave, false_or]

theorem execFwCmd_saves : execFwCmd i 6 t env s = .next ((s.saveSettings env).mctpAnswer 0x09 i 0 []) :=
  (if_neg (State.activeRoom_present hactive)).trans ((if_neg (by decide)).trans ((if_neg (by decide)).trans
    ((if_neg (by decide)).trans (congrArg (fun code => (.next ((s.saveSettings env).mctpAnswer 0x09 i code []) : Out))
      (if_pos (.inl rfl))))))

end

end

/-- DISARM leaves a tender that is READY again. -/
theorem State.disarm_armed {s : State} (h : s.tender = 3) : s.disarm = s.setTender 2 ∧ (s.setTender 2).tender ≠ s.tender := by
  have hready : (s.setTender 2).tender = 2 := s.rd_wr_of_ne_reset F.FWU_STATUS_TENDER 0 2 (by decide) (by decide) (by decide)
  exact ⟨if_pos h, by omega⟩

/-- Settles O54, from what each request answers under each of its conditions. -/
theorem managementAnswers : Obligations.ManagementAnswers := by
  intro s i env
  refine ⟨fun h off len ch hdr m c t => exec_management_silent h i env off len ch hdr m c t, fun h =>
    ⟨fun b hb => ?_, congrArg _ (State.mctpAnswer_active h ..), fun n c => ⟨execGetEvents_invalid h, fun hlow hhigh l hd lost nx hl hhd
        hlost hnx hfew => execGetEvents_records h hlow hhigh hl hhd hlost hnx hfew⟩,
      fun off len => ⟨execGetCert_invalid h, execGetCert_within h, execGetRepair_invalid h, execGetRepair_within h⟩,
      fun ch => execAttest_invalid h, fun ch hch => ⟨execAttest_busyTold h hch, fun hempty hnew v => execAttest_busyFirst h hch hempty hnew,
        execAttest_exhausted h hch, fun htoken lf t hd u hleaf hhd hu => ?_⟩,
      fun hdr m => ⟨execFwOffer_invalid h, fun hlen r hr => ⟨execFwOffer_refused h hlen hr, fun h0 =>
        execFwOffer_taken h hlen (hr.symm.trans h0)⟩⟩,
      fun c t => ⟨execFwCmd_invalid h, fun hc q hq => hc ▸ execFwCmd_offer h hq, ?_, ?_, ?_, ?_, fun hc q hq => hc ▸ execFwCmd_commit h hq,
        fun hc => hc ▸ execFwCmd_saves h⟩,
      execEventNotify_unread h, fun hearly => if_pos (.inr (.inl hearly)), fun hread => if_pos (.inr (.inr (by rw [hread]; rfl)))⟩⟩
  · subst hb
    exact congrArg _ (State.mctpAnswer_active h ..)
  · have hsigned : exec (.attest i ch) s = _ := execAttest_signed h hch htoken hleaf hhd hu
    exact ⟨fun hquiet => hsigned.trans (by rw [State.checkLeaves_quiet hquiet]),
      fun hlow hfirst v hv => hsigned.trans (by rw [State.checkLeaves_low hlow hfirst hv])⟩
  · rintro rfl u rfl
    exact execFwCmd_moves h (by decide) rfl
  · rintro rfl u rfl
    exact execFwCmd_moves h (by decide) rfl
  · rintro rfl harmed
    obtain ⟨hdisarm, hmoved⟩ := State.disarm_armed harmed
    exact (execFwCmd_moves (c := 4) (t := t) (env := env) h (by decide) hdisarm).trans (by rw [if_pos hmoved])
  · rintro rfl hother
    have hdisarm : s.disarm = s := if_neg hother
    exact (execFwCmd_moves (c := 4) (t := t) (env := env) h (by decide) hdisarm).trans (by rw [if_neg (not_not.2 rfl)])

end Sys2Proof.Machine
end
